-- ==== Sys2Proof/Word.lean ====
section
/-! DEFINITION. The word and byte types of the PV-7216 (R9) and the index types of its repeated parts. -/

namespace Sys2Proof

/-- Registers are 32 bits wide (R9). -/
abbrev Word := BitVec 32
/-- A byte of memory, of a packet or of a check-value feed. -/
abbrev Byte := BitVec 8
/-- A compositor die: 0 is CD0, 1 is CD1 (Table 0-3). -/
abbrev Die := Fin 2
/-- A power die: 0 is HV0, 1 is HV1 (Table 0-3). -/
abbrev Hv := Fin 2
/-- A head, H0 to H3. -/
abbrev Head := Fin 4
/-- A local lane of a compositor die (R151). -/
abbrev LaneIx := Fin 10
/-- A local tile lane of a compositor die: tile Tn on CD0, T(8 + n) on CD1. -/
abbrev TileIx := Fin 8
/-- A string channel (R227). -/
abbrev Chan := Fin 128

end Sys2Proof
end

