-- ==== Sys2Proof/Syntax.lean ====
section
/-! DEFINITION. The commands of the PV-7216: one constructor for each row of spec/opcode_table.json, with the operands the
row's rule names, and the packets and frames that some of them carry. -/

namespace Sys2Proof

/-- What a data channel frame is for. The spec gives the 8-bit type no codes (R18), so the kind stands beside it. -/
inductive DcKind where
  | idle
  | ack (seq : Byte)      -- acknowledges the frame of that sequence number
  | data                  -- set points, PWM values, matrix data, register traffic, fault events
  | stateEnd              -- the last frame of a resend of the complete current state (R20)
deriving DecidableEq, Repr

/-- A data channel frame (R18): 128 bits. -/
structure DcFrame where
  kind : DcKind
  typ : Byte
  seq : Byte
  payload : BitVec 96
  crc : BitVec 16
deriving DecidableEq, Repr

/-- Why a data channel goes down (R19). -/
inductive DcDownCause where
  | noFrame | retries
deriving DecidableEq, Repr

/-- A status channel frame (Table 1-1, R22, R273): fault statuses by register address, and the hottest reading in 1/16 degree. -/
structure StatusFrame where
  valid : Bool
  hot : Int
  flt : List (Nat × Word)
deriving DecidableEq, Repr

/-- A bridge flit: its bytes and its CRC-32C check (R24). -/
structure Flit where
  body : List Byte
  crc : Word
deriving DecidableEq, Repr

/-- Which word of a ceiling entry is written (Table 5-6). -/
inductive CeilField where
  | x | y | ctl
deriving DecidableEq, Repr

/-- Code groups as a lane's receiver takes them (R153): the running disparity before the first, positive or not; the bit position at
which the last comma stood (R162); and the groups, bit a leftmost. -/
structure RxSyms where
  rd : Bool
  pos : Fin 10
  groups : List (BitVec 10)
deriving DecidableEq, Repr

/-- Loss-of-lock causes in the order of R168; `n` symbol errors of an ERRORS loss have not been counted yet. -/
inductive LossCause where
  | errors (n : Nat) | noCom | elastic | cdr | partner | refclk
deriving DecidableEq, Repr

/-- Causes by which a lane loses lock in one clock: the one that the command is for, and those that stand beside it (R168). -/
structure Losses where
  first : LossCause
  also : List LossCause
deriving DecidableEq, Repr

/-- What comes with a received filler set: by how much the elastic buffer's fill has drifted since the set before, the data symbols
between the two, and whether the offset sampler's decisions differed on one of them (R157, R159, R163). -/
structure FillerRx where
  drift : Int
  rx : RxSyms
  mism : Bool
deriving DecidableEq, Repr

/-- The bits of a scan point so far, by what the data sampler and the offset sampler decided (R174). -/
structure EyeTally where
  one1 : Nat      -- both decided 1
  one0 : Nat      -- the data sampler decided 1, the offset sampler 0
  zero1 : Nat
  zero0 : Nat
deriving DecidableEq, Repr

/-- A tile STATUS packet (Table 8-3); the four temperatures are in 1/16 degree with 0x8000 for no sensor. -/
structure StatusPkt where
  state : BitVec 3
  cause : BitVec 3
  lock : Bool
  urgent : Bool
  seq : BitVec 16
  ackSeq : BitVec 16
  ackRes : Byte
  slice : Fin 8
  pat : Bool
  temp0 : BitVec 16
  temp1 : BitVec 16
  temp2 : BitVec 16
  temp3 : BitVec 16
  sup0 : BitVec 16
  sup1 : BitVec 16
  sup2 : BitVec 16
  sup3 : BitVec 16
  rxErr : Word
  lastFrame : Word
  openMap : List Byte
  shortMap : List Byte
  vendor : BitVec 16
  model : BitVec 16
  proto : Byte
  caps : Byte
  fwVer : BitVec 16
deriving DecidableEq, Repr

/-- A PHOTO packet (R184): DARK and LIT of the 256 blocks of the band. -/
structure PhotoPkt where
  band : Fin 16
  cseq : BitVec 16
  phase : Fin 64
  valid : Bool
  dark : List (BitVec 16)
  lit : List (BitVec 16)
deriving DecidableEq, Repr

/-- A VID packet (R197); `fits` says whether the 32 KiB receive buffer holds it (R196, R198). -/
structure VidPkt where
  first : Bool
  last : Bool
  line : BitVec 16
  x0 : BitVec 16
  frame : BitVec 16
  texels : List Byte
  fits : Bool
deriving DecidableEq, Repr

/-- An OBJ packet (R200); `fits` says whether the receive buffer holds it (R196). -/
structure ObjPkt where
  head : Head
  slot : Bool
  first : Bool
  commit : Bool
  batch : BitVec 16
  offset : BitVec 16
  data : List Byte
  fits : Bool
deriving DecidableEq, Repr

/-- A DRAM request at a port (R209, R211). -/
structure DramReq where
  port : Fin 7
  write : Bool
  addr : Nat
  data : List Byte
  staging : Bool          -- a staging write from BAR2 or an input lane (R207)
  tile : Option TileIx    -- the tile and line that a P1 or P3 read serves (R210)
  line : Nat
  input : Option (Fin 2)  -- the input lane that a P2 write comes from (R209)
  orig : Fin 7            -- for P6: the port of the request on the requesting die (R223)
  urgency : Fin 4         -- for P6: the urgency carried with it (R212)
deriving DecidableEq, Repr

/-- How the ECC of returned read data stands (R208). -/
inductive EccResult where
  | ok | corrected | uncorrectable
deriving DecidableEq, Repr

/-- The end of DRAM training on one channel: whether a step's third attempt failed, the step of the last failure (Table 9-9; 0
none), and the attempts made. -/
structure TrainEnd where
  failed : Bool
  step : Fin 7
  attempts : Fin 4
deriving DecidableEq, Repr

/-- A headroom sample (R233): pin voltage and boost output in mV, the measured current in DAC units. -/
structure Sample where
  vpin : Nat
  vout : Nat
  imeas : Nat
deriving DecidableEq, Repr

/-- What ends a PCI Express function's state (R323). -/
inductive PcieReset where
  | flr | d3hot | linkLoss | hotReset
deriving DecidableEq, Repr

/-- BAR0 accesses that are not plain register accesses (R324): a partial write with its byte enables and data, a read of more
or less than one DWORD, and an access that failed under Table 1-5. -/
inductive BarError where
  | partialWrite (be : BitVec 4) (v : Word)
  | oddRead
  | failedRead
  | failedWrite
deriving DecidableEq, Repr

/-- A unit with two views (Table 14-5). -/
inductive DispUnit where
  | tile (d : Die) (t : TileIx)
  | channel (c : Chan)
  | diag (p : Fin 2) (cluster : Fin 64)
deriving DecidableEq, Repr

/-- A rail monitor of Table 16-6. -/
inductive RailUnit where
  | cd (d : Die) | dram (d : Die)
deriving DecidableEq, Repr

/-- Wake sources of R350. -/
inductive WakeSrc where
  | wakePin | ign | timer | keep
deriving DecidableEq, Repr

/-- Tamper detectors in the order of Table 16-7. -/
inductive Detector where
  | mesh | vglitch | cglitch | temp | debug
deriving DecidableEq, Repr

/-- The commands: one for each row of the table, in its order. -/
inductive Instr where
  | registerWrite (addr : Nat) (v : Word)
  | dcFrameRx (h : Hv) (c : Fin 2) (up : Bool) (f : DcFrame)
  | dcIdleFrame (h : Hv) (c : Fin 2) (up : Bool)
  | dcRetransmit (h : Hv) (c : Fin 2) (up : Bool) (seq : Byte)
  | dcChannelDown (h : Hv) (c : Fin 2) (why : DcDownCause)
  | dcRetry (h : Hv) (c : Fin 2)
  | bothDown (h : Hv)
  | statusFrameSend (h : Hv)
  | statusFrameRx (h : Hv) (f : StatusFrame)
  | mirrorStale (h : Hv)
  | supLinkLost (d : Die)
  | bridgeFlitRx (d : Die) (link : Fin 4) (vc : Fin 4) (f : Flit)
  | bridgeLinkRemove (link : Fin 4)
  | bridgeLinkRetrain (link : Fin 4) (pass : Bool)
  | coreRefLoss (d : Die) (second : Bool)
  | imageLoadDone
  | verify
  | program
  | select
  | confirm
  | imgVerifyDone
  | imgProgramDone (good : Bool)
  | rebuildLoad (d : Die) (head : Head) (running : Bool)
  | rebuildBuilt (d : Die)
  | rebuildArm (d : Die)
  | rebuildRevert (d : Die)
  | rebuildCancel (d : Die)
  | columnFail (d : Die) (k : Fin 64)
  | stagingWrite (off : Nat) (data : List Byte)
  | headGenCommit (d : Die) (n : Head) (slot : Bool)
  | commitNotice (n : Head)
  | binningDone (n : Head)
  | spanDone (d : Die) (pipe : Fin 4) (binErr : Bool)   -- binErr: an uncorrectable bin-memory error was found (R84)
  | pipeFail (d : Die) (pipe : Fin 4)
  | lineStart (d : Die) (n : Head)
  | urHoldEnd (d : Die)
  | holdSyncSend (d : Die) (n : Head)
  | modeHoldEnd (d : Die) (n : Head)
  | timingMark (n : Head) (skew : Int)
  | markLost (n : Head)
  | tgFail (d : Die) (n : Head)
  | meshCopyDone (d : Die) (n : Head)
  | headCorrHost (d : Die) (n : Head) (v : Word)
  | imuRun (rx : List Byte)
  | imuOverrun
  | imuOpWrite (k : Fin 32) (v : Word)
  | corrStale (n : Head)
  | budgetUpdate
  | halfSumReport (d : Die) (n : Head)
  | sumLost (d : Die) (n : Head)
  | ceilWrite (d : Die) (k : Fin 64) (f : CeilField) (v : Word)
  | trainingSetRx (d : Die) (n : LaneIx) (rx : RxSyms)
  | trainPhaseDone (d : Die) (n : LaneIx) (cdr : Bool)
  | trainPhaseTimeout (d : Die) (n : LaneIx)
  | slip (d : Die) (n : LaneIx) (bits : Fin 16)
  | alignContinue (d : Die) (n : LaneIx)
  | retrain (d : Die) (n : LaneIx)
  | retrainFull (d : Die) (n : LaneIx)
  | laneEnable (d : Die) (n : LaneIx)
  | laneDisable (d : Die) (n : LaneIx)
  | laneRetry (d : Die) (n : LaneIx)
  | lossOfLock (d : Die) (n : LaneIx) (c : Losses)
  | quadPllLoss (d : Die) (q : Fin 3) (refPresent : Bool)
  | quadPllRelock (d : Die) (q : Fin 3)
  | fillerSetRx (d : Die) (n : LaneIx) (skp : Fin 9) (f : FillerRx)
  | fillerSend (d : Die) (n : LaneIx)
  | loopbackModeWrite (d : Die) (n : LaneIx) (v : Word)
  | feLoopbackActive (d : Die) (n : LaneIx)
  | feLoopbackTimeout (d : Die) (n : LaneIx)
  | escanGo (d : Die) (n : LaneIx)
  | escanDone (d : Die) (n : LaneIx) (tally : EyeTally)
  | packetSend (d : Die) (t : TileIx)
  | badPacketRx (d : Die) (n : LaneIx) (rx : RxSyms)
  | statusRx (d : Die) (t : TileIx) (p : StatusPkt)
  | photoRx (d : Die) (t : TileIx) (p : PhotoPkt)
  | cmdRetransmit (d : Die) (t : TileIx)
  | bringupTimeout (d : Die) (t : TileIx)
  | tileSilent (d : Die) (t : TileIx)
  | vidRx (d : Die) (inp : Fin 2) (p : VidPkt)
  | objRx (d : Die) (inp : Fin 2) (p : ObjPkt)
  | inStale (d : Die) (inp : Fin 2)
  | srcstatPeriodic (d : Die) (inp : Fin 2)
  | dramRequestAccept (d : Die) (r : DramReq)
  | urgencyEscalate (d : Die) (id : Nat)
  | dramGrant (d : Die) (c : Fin 2)
  | dramReadReturn (d : Die) (id : Nat) (ecc : EccResult)
  | refreshDue (d : Die) (c : Fin 2)
  | refreshIdleIssue (d : Die) (c : Fin 2)
  | mr4Read (d : Die) (c : Fin 2) (operand : Option Byte)
  | rhWindowEnd (d : Die) (c : Fin 2)
  | dramTrainDone (d : Die) (c0 : TrainEnd) (c1 : TrainEnd)
  | dramFail (d : Die) (c : Fin 2)
  | resume (d : Die)
  | pwmPeriodStart (c : Chan)
  | bstHoldWrite (h : Hv) (v : Word)
  | headroomSample (c : Chan) (x : Sample)
  | boostTick (h : Hv) (vout : Nat) (vbat : Nat)
  | stringStarved (c : Chan)
  | stringRetry (c : Chan) (x : Sample)
  | boostOvp (h : Hv)
  | boostOcp (h : Hv) (active : Bool)
  | boostUvlo (h : Hv)
  | boostUvloRecover (h : Hv) (vbat : Nat)
  | boostPhase (h : Hv) (active : Bool)
  | mxRowSlot (h : Hv) (g : Fin 8)
  | mxSwap (h : Hv) (v : Word)
  | mxsyncEdge (onTime : Bool)
  | mxsyncLost (h : Hv) (g : Fin 8)
  | trimLoad
  | coefLoad (d : Die)
  | calStart (d : Die) (tiles : BitVec 8)
  | calMeasure (d : Die) (tiles : BitVec 8)
  | calAbort (d : Die) (tiles : BitVec 8)
  | calRestore (d : Die) (tiles : BitVec 8) (row : BitVec 9)
  | refProg (d : Die) (tiles : BitVec 8)
  | refErase (d : Die) (tiles : BitVec 8)
  | calSlotMissed (d : Die) (t : TileIx)
  | calEvalDone (d : Die) (t : TileIx)
  | calHoldoffEnd (d : Die) (t : TileIx)
  | calStoreStart (d : Die) (t : TileIx)
  | calStoreDone (d : Die) (t : TileIx) (good : Bool)
  | slowRound (readings : List (Nat × Int)) (supplies : List Nat)
  | fastRound (readings : List (Nat × Int))
  | sensorStale (t : Fin 16)
  | graceExpire
  | throttleRelease
  | tileShutEnd (t : Fin 16)
  | shutdownEnd
  | crcInit (d : Die) (u : Fin 8)
  | crcCheck (d : Die) (u : Fin 8)
  | crcArm (d : Die) (u : Fin 8)
  | crcStop (d : Die) (u : Fin 8)
  | crcEnd (d : Die) (u : Fin 8)
  | crcData8 (d : Die) (u : Fin 8) (v : Word)
  | crcData16 (d : Die) (u : Fin 8) (v : Word)
  | crcData32 (d : Die) (u : Fin 8) (v : Word)
  | crcValueWrite (d : Die) (u : Fin 8) (v : Word)
  | crcCtrlWrite (d : Die) (u : Fin 8) (v : Word)
  | snoopWindowStart (d : Die) (u : Fin 8)
  | snoopCompare (d : Die) (u : Fin 8) (complete : Bool)
  | fltStatClear (addr : Nat) (v : Word)
  | fltEnWrite (addr : Nat) (v : Word)
  | evtPulseEnd
  | vspEvtHoldWrite (v : Word)
  | maskEnd (watcher : BitVec 16)
  | disputeTimeout (u : DispUnit)
  | disputeEnd (u : DispUnit)
  | bistSliceStart (d : Die) (block : BitVec 16) (len : BitVec 16)
  | bistSliceEnd (d : Die) (count : BitVec 16) (done : Bool) (sigOk : Bool)
  | bistSliceAbandon (d : Die)
  | retest (d : Die) (block : BitVec 16)
  | cycleLate (d : Die)
  | startupSelftestDone (failed : List (BitVec 16))
  | pcieFunctionReset (k : PcieReset)
  | bar0AccessError (addr : Nat) (e : BarError)
  | imageStagingWrite (off : Nat) (data : List Byte)
  | dmaTailWrite (r : Fin 8) (v : Word)
  | dmaCtrlWrite (r : Fin 8) (v : Word)
  | dmaDescDone (r : Fin 8) (hostData : Option (List Byte))
  | spiNop (seq : Byte) (waddr : BitVec 24) (data : Word)
  | spiRead (seq : Byte) (waddr : BitVec 24) (data : Word)
  | spiWrite (seq : Byte) (waddr : BitVec 24) (data : Word)
  | safeReq (seq : Byte) (waddr : BitVec 24) (data : Word)
  | spiBadFrame (edges : Nat) (bytes : List Byte)
  | spiWdogExpire
  | addressClaimRx (p : Fin 2) (sa : Byte) (name : BitVec 64)
  | addressClaimStands (p : Fin 2)
  | busoff (p : Fin 2)
  | busoffRecover (p : Fin 2)
  | lightingCommandRx (p : Fin 2) (sa : Byte) (functions : List (Nat × Fin 4))
  | tecuLost
  | lightingDataSend (p : Fin 2)
  | dm1Send (p : Fin 2)
  | dm3Rx (p : Fin 2)
  | dm11Rx (p : Fin 2)
  | pgnRequestRx (p : Fin 2) (sa : Byte) (pgn : BitVec 18) (specific : Bool)
  | pzpOpen (p : Fin 2) (sa : Byte) (cls : Byte) (timeout : Byte) (tag : BitVec 16)
  | pzpClose (p : Fin 2) (sa : Byte) (session : BitVec 11)
  | pzpSet (p : Fin 2) (sa : Byte) (session : BitVec 11) (zone : BitVec 11) (level : Byte) (withdraw : Bool)
  | pzpSetrange (p : Fin 2) (sa : Byte) (session : BitVec 11) (zone : BitVec 11) (count : Byte) (level : Byte) (withdraw : Bool)
  | pzpKeepalive (p : Fin 2) (sa : Byte) (session : BitVec 11)
  | pzpQuery (p : Fin 2) (sa : Byte) (session : BitVec 11) (zone : BitVec 11)
  | sessionTimeout (session : Fin 1024)
  | nameLost (session : Fin 1024)
  | zoneLatch
  | tokenRefill (port : Option (Fin 2)) (session : Fin 1026)
  | pzpHostSet (v : Word)
  | pwrLit
  | pwrReady
  | pwrSafe
  | pwrExit
  | pwrWarm
  | warmReset
  | wake (w : WakeSrc)
  | sleepEntry
  | sleepRailsOff
  | railGroupEnable
  | railRetry
  | readyEntry
  | safeN
  | vbatLow
  | vbatLost
  | railFault (u : RailUnit)
  | crystalFail
  | wakeTimer
  | advance
  | provision
  | unlock
  | progslot (slot : Fin 8)
  | revoke (slot : Fin 8)
  | tamperDetect (det : Detector)
  | debugUnlockAttempt (good : Bool)
  | corePllLock
  | vbatReturn (lost : Bool)
  | safeNRelease
  | resetRelease
  | wakeSourceChange (w : WakeSrc) (asserted : Bool)
  | linePacketSent (d : Die) (t : TileIx)
deriving DecidableEq, Repr

end Sys2Proof
end

