-- ==== Sys2Proof/Decode.lean ====
section
/-! DEFINITION. The commands that words spell. The table of operations and events gives its rows no bits: a command
reaches the device as a register write, a packet, a frame or a pin event, so no word spells one. -/

namespace Sys2Proof

/-- The command that an instruction word of `nbits` bits spells by the table's bits: no row of the table gives bits. -/
def decodeTableWord (_nbits _w : Nat) : Option Instr := none

end Sys2Proof
end

