-- ==== Sys2Proof/Config.lean ====
section
/-! DEFINITION. What an implementation fixes and what the spec leaves free: constants without a body, of which nothing can
be proved, so that every statement holds whatever they are. -/

namespace Sys2Proof.Config

/-- A value that the spec leaves open: applied to the model's counter `fresh`, it is a new free value each time (log entry 4). -/
opaque freeValue : Nat → Nat

/-- Credits of a bridge virtual channel: its receive buffer holds as many flits (R23). -/
opaque vcCredits : Nat → Nat

/-- Return slots of a compositor die's fetch (R33, Table 1-7). -/
opaque returnSlots : Nat → Nat

/-- The neighbour test's quotient where the old GAIN is 0, for which R259 states none: a function of the candidate. -/
opaque ratioOverZero : Nat → Nat

/-! The cryptographic algorithms that the spec names without defining them (R41, R42, R361, R363). -/

/-- SHA-256 of some bytes (R41, R44). -/
opaque sha256 : List Byte → List Byte

/-- ECDSA P-256: public key, digest, signature (R41). -/
opaque ecdsaVerify : List Byte → List Byte → List Byte → Bool

/-- AES-256-GCM decryption: key, initialisation vector, additional data, ciphertext, tag (R42). -/
opaque gcmOpen : List Byte → List Byte → List Byte → List Byte → List Byte → Option (List Byte)

/-- The device-unique key under which key blobs are wrapped (R363). -/
opaque deviceKey : List Byte

/-- The hash of the vendor key that every part ships with in slot 0 (R361). -/
opaque vendorHash : List Byte

/-! Signed blobs (R363, R365), whose bytes the spec does not lay out. -/

/-- The signer's public key in a signed blob. -/
opaque blobKey : List Byte → List Byte

/-- The bytes of a signed blob that its signature covers. -/
opaque blobBody : List Byte → List Byte

/-- The signature of a signed blob. -/
opaque blobSig : List Byte → List Byte

/-- The entry index that a PROVISION blob names. -/
opaque provisionEntry : List Byte → Nat

/-- The wrapped key of a PROVISION blob: initialisation vector, ciphertext and tag. -/
opaque provisionWrap : List Byte → List Byte × List Byte × List Byte

/-- The low 32 bits of SEC_NONCE that an UNLOCK blob holds, where it holds the word UNLK. -/
opaque unlockNonce : List Byte → Option Nat

/-- Which of the speeds and widths of Table 15-1 the PCI Express link trains to at start-up. -/
opaque pcieLink : Nat

/-- Slices that cover the whole test of a block (R317). -/
opaque sliceCount : Nat → Nat

/-- TC of a die's trim group, from the group's words; of no words, its mid-scale value (R248, R290). -/
opaque trimTc : List Byte → Int

/-- T_TRIM of a die's trim group in °C, from the group's words (R290). -/
opaque trimTemp : List Byte → Int

/-! What the sections of an image say, where Table 2-1 names their content and the spec gives no byte layout. A section is
given by its TYPE, its INSTANCE and its plaintext. -/

/-- The value that an image loads into the register at an address (R38, R50). -/
opaque imageReg : List (Nat × Nat × List Byte) → Nat → Nat

/-- The tiles that TOPOLOGY places: global tile, head, row and column (R88). -/
opaque imageTiles : List (Nat × Nat × List Byte) → List (Nat × Nat × Nat × Nat)

/-- The active data channel that STRINGS names for a power die (R20). -/
opaque imageActive : List (Nat × Nat × List Byte) → Nat → Nat

/-- SHORT_DV of STRINGS in mV (R236). -/
opaque imageShortDv : List (Nat × Nat × List Byte) → Nat

/-- The image uses the block with a block ID (step 9 of Table 2-4). -/
opaque imageUses : List (Nat × Nat × List Byte) → Nat → Bool

/-- NAME and preferred address of a CAN port, from ZONES (R338). -/
opaque imagePort : List (Nat × Nat × List Byte) → Nat → Nat × Nat

/-- NAME of the TECU, from ZONES (R335, R338). -/
opaque imageTecu : List (Nat × Nat × List Byte) → Nat

/-- Client entries of ZONES: NAME value, NAME mask and highest class (R338). -/
opaque imageClients : List (Nat × Nat × List Byte) → List (Nat × Nat × Nat)

/-- HOST_CLASS and REFHEAD of ZONES (R338). -/
opaque imageZoneHead : List (Nat × Nat × List Byte) → Nat × Nat

/-- The 16 bytes of zone entry `z` of ZONES (Table 15-7). -/
opaque imageZone : List (Nat × Nat × List Byte) → Nat → List Byte

/-- Lighting functions that ZONES maps to zones: function and zone (R335). -/
opaque imageLighting : List (Nat × Nat × List Byte) → List (Nat × Nat)

end Sys2Proof.Config
end

