-- ==== Sys2Proof/Machine/Fields.lean ====
section
/-! DEFINITION. The fields and the fault bits of the registers, by name, as the register tables give them (R9, R10). -/

namespace Sys2Proof.Machine

/-- A register field: its lowest bit and its width. -/
structure Fld where
  lo : Nat
  len : Nat
deriving DecidableEq, Repr

namespace F

abbrev VSP_IMG_STAT_RECOVERY : Fld := ⟨3, 1⟩
abbrev VSP_IMG_STAT_FALLBACK : Fld := ⟨2, 1⟩
abbrev VSP_IMG_STAT_LOADED : Fld := ⟨1, 1⟩
abbrev VSP_IMG_STAT_ACTIVE : Fld := ⟨0, 1⟩
abbrev VSP_IMG_BOOTSEL_SEQ : Fld := ⟨16, 16⟩
abbrev VSP_IMG_BOOTSEL_TRIED : Fld := ⟨2, 1⟩
abbrev VSP_IMG_BOOTSEL_TRIAL : Fld := ⟨1, 1⟩
abbrev VSP_IMG_BOOTSEL_PREF : Fld := ⟨0, 1⟩
abbrev VSP_IMG_UPD_CTRL_CMD : Fld := ⟨0, 3⟩
abbrev VSP_IMG_UPD_STAT_REFUSED : Fld := ⟨17, 1⟩
abbrev VSP_IMG_UPD_STAT_BUSY : Fld := ⟨16, 1⟩
abbrev VSP_IMG_UPD_STAT_PROGRESS : Fld := ⟨8, 8⟩
abbrev VSP_IMG_UPD_STAT_FAIL_STEP : Fld := ⟨4, 4⟩
abbrev VSP_IMG_UPD_STAT_STATE : Fld := ⟨0, 3⟩
abbrev VSP_IMG_FAIL_A_FAIL_STEP : Fld := ⟨0, 4⟩
abbrev VSP_IMG_FAIL_R_FAIL_STEP : Fld := ⟨0, 4⟩
abbrev FAB_STAT_ACTIVE : Fld := ⟨0, 7⟩
abbrev FAB_STAT_SHADOW : Fld := ⟨8, 7⟩
abbrev FAB_STAT_FAILED : Fld := ⟨16, 3⟩
abbrev FAB_RB_CTRL_REVERT : Fld := ⟨11, 1⟩
abbrev FAB_RB_CTRL_CANCEL : Fld := ⟨10, 1⟩
abbrev FAB_RB_CTRL_ARM : Fld := ⟨9, 1⟩
abbrev FAB_RB_CTRL_LOAD : Fld := ⟨8, 1⟩
abbrev FAB_RB_CTRL_SRC : Fld := ⟨4, 1⟩
abbrev FAB_RB_CTRL_HEAD : Fld := ⟨0, 2⟩
abbrev FAB_RB_STAT_LAST_HEAD : Fld := ⟨12, 2⟩
abbrev FAB_RB_STAT_TIMING_OVR : Fld := ⟨8, 1⟩
abbrev FAB_RB_STAT_ERR : Fld := ⟨4, 4⟩
abbrev FAB_RB_STAT_REVERTIBLE : Fld := ⟨3, 1⟩
abbrev FAB_RB_STAT_STATE : Fld := ⟨0, 3⟩
abbrev HEAD_GEN_COMMIT_SLOT : Fld := ⟨0, 1⟩
abbrev HEAD_GEN_STAT_BUSY : Fld := ⟨31, 1⟩
abbrev HEAD_GEN_STAT_RESULT : Fld := ⟨28, 3⟩
abbrev HEAD_GEN_STAT_SKIPPED : Fld := ⟨16, 8⟩
abbrev HEAD_GEN_STAT_LOCK : Fld := ⟨0, 2⟩
abbrev HEAD_BIN_OVER_NEED : Fld := ⟨26, 6⟩
abbrev HEAD_BIN_OVER_LAYER : Fld := ⟨20, 3⟩
abbrev HEAD_BIN_OVER_SPAN : Fld := ⟨8, 8⟩
abbrev HEAD_BIN_OVER_BAND : Fld := ⟨0, 8⟩
abbrev HEAD_CMP_CFG_SPAN_PASSES : Fld := ⟨0, 4⟩
abbrev HEAD_LAYER_TYPE_TYPE : Fld := ⟨0, 2⟩
abbrev HEAD_LAYER_TYPE_SPACE : Fld := ⟨2, 1⟩
abbrev HEAD_RAS_CFG_FMT : Fld := ⟨0, 2⟩
abbrev HEAD_RAS_CFG_STRIDE : Fld := ⟨8, 24⟩
abbrev FAB_PIPE_STAT_INSERV : Fld := ⟨0, 4⟩
abbrev FAB_LOAD_LOAD : Fld := ⟨0, 16⟩
abbrev HEAD_WARP_CFG_CHECK : Fld := ⟨5, 1⟩
abbrev HEAD_WARP_CFG_EDGE1 : Fld := ⟨4, 1⟩
abbrev HEAD_WARP_CFG_FILTER1 : Fld := ⟨3, 1⟩
abbrev HEAD_WARP_CFG_EDGE0 : Fld := ⟨1, 1⟩
abbrev HEAD_WARP_CFG_FILTER0 : Fld := ⟨0, 1⟩
abbrev HEAD_CORR_HOST_PITCH : Fld := ⟨0, 16⟩
abbrev HEAD_CORR_HOST_ROLL : Fld := ⟨16, 16⟩
abbrev HEAD_CORR_CFG_SRC : Fld := ⟨0, 2⟩
abbrev HEAD_CORR_CFG_REFMODE : Fld := ⟨2, 1⟩
abbrev HEAD_CORR_CFG_PREDICT : Fld := ⟨3, 1⟩
abbrev HEAD_CORR_CFG_STALE_ACT : Fld := ⟨4, 1⟩
abbrev HEAD_CORR_CFG_REF_K : Fld := ⟨16, 16⟩
abbrev HEAD_CORR_REF_PITCH : Fld := ⟨0, 16⟩
abbrev HEAD_CORR_REF_ROLL : Fld := ⟨16, 16⟩
abbrev HEAD_CORR_LIMITS_STALE_T : Fld := ⟨0, 8⟩
abbrev HEAD_CORR_LIMITS_JUMP : Fld := ⟨16, 16⟩
abbrev HEAD_CORR_KP_KP : Fld := ⟨0, 20⟩
abbrev HEAD_CORR_LIM_LIM : Fld := ⟨0, 16⟩
abbrev HEAD_CORR_LIM_MARGIN : Fld := ⟨16, 16⟩
abbrev HEAD_CORR_REFNOW_PITCH : Fld := ⟨0, 16⟩
abbrev HEAD_CORR_REFNOW_ROLL : Fld := ⟨16, 16⟩
abbrev HEAD_CORR_CNT_CLAMPS : Fld := ⟨0, 16⟩
abbrev HEAD_CORR_CNT_JUMPS : Fld := ⟨16, 16⟩
abbrev HEAD_WARP_RASDIM_RW : Fld := ⟨0, 16⟩
abbrev HEAD_WARP_RASDIM_RH : Fld := ⟨16, 16⟩
abbrev HEAD_IMU_CTRL_EN : Fld := ⟨0, 1⟩
abbrev HEAD_IMU_CTRL_SCLK : Fld := ⟨2, 2⟩
abbrev HEAD_IMU_CTRL_MODE : Fld := ⟨4, 2⟩
abbrev HEAD_IMU_CTRL_PERIOD : Fld := ⟨16, 16⟩
abbrev HEAD_IMU_STAT_BADRUN : Fld := ⟨4, 4⟩
abbrev HEAD_IMU_LAT_LAT : Fld := ⟨0, 16⟩
abbrev HEAD_IMU_LAST_PITCH : Fld := ⟨0, 16⟩
abbrev HEAD_IMU_LAST_ROLL : Fld := ⟨16, 16⟩
abbrev HEAD_IMU_CNT_SAMPLES : Fld := ⟨0, 16⟩
abbrev HEAD_IMU_CNT_BAD : Fld := ⟨16, 16⟩
abbrev PHO_TILE_CFG_DITHER : Fld := ⟨0, 1⟩
abbrev PHO_TILE_CFG_FLAT : Fld := ⟨1, 1⟩
abbrev PHO_TILE_TEMP_TEMP : Fld := ⟨0, 8⟩
abbrev PHO_TILE_TEMP_VALID : Fld := ⟨8, 1⟩
abbrev PHO_TILE_CNT_ROWRETRY : Fld := ⟨0, 16⟩
abbrev PHO_TILE_CNT_ROWFAIL : Fld := ⟨16, 16⟩
abbrev PHO_DRT_KNEE : Fld := ⟨0, 8⟩
abbrev PHO_DRT_SLOPE : Fld := ⟨8, 8⟩
abbrev PHO_DRT_FLOOR : Fld := ⟨16, 12⟩
abbrev PHO_CEIL_X_X0 : Fld := ⟨0, 13⟩
abbrev PHO_CEIL_X_X1 : Fld := ⟨16, 13⟩
abbrev PHO_CEIL_Y_Y0 : Fld := ⟨0, 13⟩
abbrev PHO_CEIL_Y_Y1 : Fld := ⟨16, 13⟩
abbrev PHO_CEIL_CTL_LEVEL : Fld := ⟨0, 16⟩
abbrev PHO_CEIL_CTL_HEAD : Fld := ⟨16, 2⟩
abbrev PHO_CEIL_CTL_CLASS : Fld := ⟨20, 1⟩
abbrev PHO_CEIL_CTL_EN : Fld := ⟨24, 1⟩
abbrev PHO_BUDGET_LIMIT : Fld := ⟨0, 16⟩
abbrev PHO_BUDGET_STAT_K : Fld := ⟨0, 13⟩
abbrev PHO_BUDGET_STAT_LEVEL : Fld := ⟨16, 3⟩
abbrev PHO_BUDGET_STAT_ACTIVE : Fld := ⟨20, 1⟩
abbrev PHO_DEMAND_DEMAND : Fld := ⟨0, 16⟩
abbrev PHO_DEMAND_ALLOW : Fld := ⟨16, 16⟩
abbrev HEAD_TLINE_LINE_PER : Fld := ⟨0, 24⟩
abbrev HEAD_TTOTAL_TOTAL : Fld := ⟨0, 14⟩
abbrev HEAD_TACT_ACT : Fld := ⟨0, 14⟩
abbrev HEAD_TACT_MASTER : Fld := ⟨16, 1⟩
abbrev HEAD_TACT_SPAN : Fld := ⟨17, 1⟩
abbrev HEAD_TACT_USED : Fld := ⟨18, 1⟩
abbrev HEAD_TCTRL_HOLD : Fld := ⟨0, 1⟩
abbrev HEAD_TSTAT_HELD : Fld := ⟨22, 1⟩
abbrev HEAD_TSTAT_MODE_PEND : Fld := ⟨21, 1⟩
abbrev HEAD_TSTAT_PENDING : Fld := ⟨20, 1⟩
abbrev HEAD_TSTAT_PHASE : Fld := ⟨16, 3⟩
abbrev HEAD_TSTAT_LINE : Fld := ⟨0, 14⟩
abbrev HEAD_TPOINTS_NOON : Fld := ⟨0, 14⟩
abbrev HEAD_TPOINTS_TWS : Fld := ⟨16, 14⟩
abbrev HEAD_BG_CODE : Fld := ⟨0, 12⟩
abbrev HEAD_URWHERE_TILE : Fld := ⟨0, 3⟩
abbrev HEAD_URWHERE_SPAN : Fld := ⟨4, 4⟩
abbrev HEAD_URWHERE_LINE : Fld := ⟨16, 13⟩
abbrev HEAD_SKEW_SKEW : Fld := ⟨0, 16⟩
abbrev HEAD_SKEW_RESYNC : Fld := ⟨16, 16⟩
abbrev HEAD_RELOCK_TIME : Fld := ⟨0, 24⟩
abbrev HEAD_LB_CFG_WM : Fld := ⟨0, 4⟩
abbrev HEAD_LB_STAT_LEAD : Fld := ⟨0, 5⟩
abbrev HEAD_LB_STAT_FILL : Fld := ⟨8, 5⟩
abbrev HEAD_LB_STAT_URG : Fld := ⟨16, 2⟩
abbrev LANE_CFG_USE : Fld := ⟨0, 2⟩
abbrev LANE_CFG_RATE : Fld := ⟨2, 1⟩
abbrev LANE_CFG_FB_EN : Fld := ⟨3, 1⟩
abbrev LANE_CFG_TXPRE0 : Fld := ⟨4, 3⟩
abbrev LANE_CFG_CTLE0 : Fld := ⟨8, 4⟩
abbrev LANE_CFG_PPRE0 : Fld := ⟨12, 3⟩
abbrev LANE_CMD_CMD : Fld := ⟨0, 3⟩
abbrev LANE_STAT_FALLBACK : Fld := ⟨9, 1⟩
abbrev LANE_STAT_RATE_NOW : Fld := ⟨8, 1⟩
abbrev LANE_STAT_FAST : Fld := ⟨7, 1⟩
abbrev LANE_STAT_PHASE : Fld := ⟨4, 3⟩
abbrev LANE_STAT_STATE : Fld := ⟨0, 3⟩
abbrev LANE_CAUSE_LOSS : Fld := ⟨0, 4⟩
abbrev LANE_CAUSE_FAIL : Fld := ⟨4, 4⟩
abbrev LANE_EQ_TXPRE : Fld := ⟨0, 3⟩
abbrev LANE_EQ_CTLE : Fld := ⟨4, 4⟩
abbrev LANE_EQ_DFE1 : Fld := ⟨8, 8⟩
abbrev LANE_EQ_PPRE : Fld := ⟨16, 3⟩
abbrev LANE_EQ_FOM : Fld := ⟨24, 8⟩
abbrev LANE_LOSSCNT_LOSSES : Fld := ⟨0, 16⟩
abbrev LANE_RMCNT_INSERTED : Fld := ⟨0, 16⟩
abbrev LANE_RMCNT_DELETED : Fld := ⟨16, 16⟩
abbrev LANE_RETRY_COUNT : Fld := ⟨0, 4⟩
abbrev LANE_RETRY_WAIT : Fld := ⟨16, 16⟩
abbrev LANE_ALIGN_CTRL_SLIP_MODE : Fld := ⟨0, 1⟩
abbrev LANE_SLIP_SLIP : Fld := ⟨0, 4⟩
abbrev LANE_SLIP_CONTINUE : Fld := ⟨8, 1⟩
abbrev LANE_ALIGN_STAT_ALIGNED : Fld := ⟨0, 1⟩
abbrev LANE_ALIGN_STAT_COMMA_POS : Fld := ⟨4, 4⟩
abbrev LANE_ALIGN_STAT_COMMA_HITS : Fld := ⟨8, 8⟩
abbrev LANE_RAW_RAW : Fld := ⟨0, 20⟩
abbrev LANE_LB_CTRL_MODE : Fld := ⟨0, 2⟩
abbrev LANE_LB_CTRL_PAT : Fld := ⟨4, 2⟩
abbrev LANE_LB_STAT_ACTIVE : Fld := ⟨0, 1⟩
abbrev LANE_LB_STAT_SYNC : Fld := ⟨1, 1⟩
abbrev LANE_LB_STAT_TIMEOUT : Fld := ⟨2, 1⟩
abbrev LANE_LB_STAT_LOST : Fld := ⟨3, 1⟩
abbrev LANE_ESCAN_CTRL_X : Fld := ⟨0, 6⟩
abbrev LANE_ESCAN_CTRL_Y : Fld := ⟨8, 7⟩
abbrev LANE_ESCAN_CTRL_DWELL : Fld := ⟨16, 4⟩
abbrev LANE_ESCAN_GO_GO : Fld := ⟨0, 1⟩
abbrev LANE_ESCAN_STAT_BUSY : Fld := ⟨0, 1⟩
abbrev LANE_ESCAN_STAT_DONE : Fld := ⟨1, 1⟩
abbrev LANE_ESCAN_STAT_ABORTED : Fld := ⟨2, 1⟩
abbrev LANE_ESCAN_BITS_BITS : Fld := ⟨0, 23⟩
abbrev LANE_Q_STAT_PLL_LOCK : Fld := ⟨0, 1⟩
abbrev LANE_Q_STAT_REF_PRESENT : Fld := ⟨1, 1⟩
abbrev LANE_Q_STAT_CORE_REF : Fld := ⟨2, 1⟩
abbrev LANE_TILE_STAT_DSTATE : Fld := ⟨0, 3⟩
abbrev LANE_TILE_STAT_TSTATE : Fld := ⟨4, 3⟩
abbrev LANE_TILE_STAT_TCAUSE : Fld := ⟨8, 3⟩
abbrev LANE_TILE_STAT_LOCK : Fld := ⟨11, 1⟩
abbrev LANE_TILE_STAT_DISPUTED : Fld := ⟨12, 1⟩
abbrev LANE_TILE_STAT_PROTO : Fld := ⟨16, 8⟩
abbrev LANE_TILE_STAT_CAPS : Fld := ⟨24, 8⟩
abbrev LANE_TILE_ID_VENDOR : Fld := ⟨0, 16⟩
abbrev LANE_TILE_ID_MODEL : Fld := ⟨16, 16⟩
abbrev LANE_TILE_TEMPA_TEMP0 : Fld := ⟨0, 16⟩
abbrev LANE_TILE_TEMPA_TEMP1 : Fld := ⟨16, 16⟩
abbrev LANE_TILE_TEMPB_TEMP2 : Fld := ⟨0, 16⟩
abbrev LANE_TILE_TEMPB_TEMP3 : Fld := ⟨16, 16⟩
abbrev LANE_TILE_SUPA_SUP0 : Fld := ⟨0, 16⟩
abbrev LANE_TILE_SUPA_SUP1 : Fld := ⟨16, 16⟩
abbrev LANE_TILE_SUPB_SUP2 : Fld := ⟨0, 16⟩
abbrev LANE_TILE_SUPB_SUP3 : Fld := ⟨16, 16⟩
abbrev LANE_TILE_CMDCNT_REPEATS : Fld := ⟨0, 16⟩
abbrev LANE_TILE_CMDCNT_CMDS : Fld := ⟨16, 16⟩
abbrev LANE_TILE_AGE_AGE : Fld := ⟨0, 8⟩
abbrev LANE_TILE_AGE_FWVER : Fld := ⟨16, 16⟩
abbrev LANE_IN_GEOM_W : Fld := ⟨0, 13⟩
abbrev LANE_IN_GEOM_H : Fld := ⟨16, 13⟩
abbrev LANE_IN_CFG_EN : Fld := ⟨0, 1⟩
abbrev LANE_IN_CFG_STALE_T : Fld := ⟨8, 8⟩
abbrev LANE_IN_CFG_STRIDE : Fld := ⟨16, 16⟩
abbrev LANE_IN_MAP_SLOTS : Fld := ⟨0, 8⟩
abbrev LANE_IN_MAP_OBJHEADS : Fld := ⟨8, 4⟩
abbrev LANE_IN_STAT_NEWEST : Fld := ⟨0, 2⟩
abbrev LANE_IN_STAT_WRITING : Fld := ⟨4, 2⟩
abbrev LANE_IN_STAT_INFRAME : Fld := ⟨8, 1⟩
abbrev LANE_IN_STAT_INBATCH : Fld := ⟨9, 1⟩
abbrev LANE_IN_STAT_WHY : Fld := ⟨12, 3⟩
abbrev LANE_IN_STAT_FRAME : Fld := ⟨16, 16⟩
abbrev LANE_IN_FRMCNT_ACCEPTED : Fld := ⟨0, 16⟩
abbrev LANE_IN_FRMCNT_DROPPED : Fld := ⟨16, 16⟩
abbrev LANE_IN_SUPER_SUPERSEDED : Fld := ⟨0, 16⟩
abbrev LANE_IN_SUPER_BATCH_FAIL : Fld := ⟨16, 16⟩
abbrev DRC_STAT_CH1_OK : Fld := ⟨5, 1⟩
abbrev DRC_STAT_CH0_OK : Fld := ⟨4, 1⟩
abbrev DRC_STAT_FIRSTWIN : Fld := ⟨3, 1⟩
abbrev DRC_STAT_HALTED : Fld := ⟨2, 1⟩
abbrev DRC_STAT_ROLE : Fld := ⟨0, 2⟩
abbrev DRC_HM_CTRL_RESUME : Fld := ⟨0, 1⟩
abbrev DRC_HM_WIN_BASE : Fld := ⟨0, 12⟩
abbrev DRC_HM_WIN_SIZE : Fld := ⟨16, 12⟩
abbrev DRC_DEMAND_CONF : Fld := ⟨0, 16⟩
abbrev DRC_DEMAND_HM : Fld := ⟨16, 16⟩
abbrev DRC_SCHED_BYPASS : Fld := ⟨0, 7⟩
abbrev DRC_SCHED_WR_HI : Fld := ⟨8, 8⟩
abbrev DRC_SCHED_WR_LO : Fld := ⟨16, 8⟩
abbrev DRC_REF_CFG_POSTPONE : Fld := ⟨0, 4⟩
abbrev DRC_REF_CFG_DEFER_URG : Fld := ⟨8, 2⟩
abbrev DRC_RH_CFG_THRESH : Fld := ⟨0, 16⟩
abbrev DRC_RH_CFG_DIST : Fld := ⟨16, 1⟩
abbrev DRC_QOS_TGT_TGT : Fld := ⟨0, 16⟩
abbrev DRC_QOS_TGT_MINRES : Fld := ⟨16, 8⟩
abbrev DRC_PORT_STAT_URG : Fld := ⟨0, 2⟩
abbrev DRC_PORT_STAT_INFLIGHT : Fld := ⟨8, 8⟩
abbrev DRC_PORT_STAT_MAXLAT : Fld := ⟨16, 16⟩
abbrev DRC_CH_STAT_MR4 : Fld := ⟨16, 8⟩
abbrev DRC_CH_STAT_ALLOW : Fld := ⟨12, 4⟩
abbrev DRC_CH_STAT_DEBT : Fld := ⟨8, 4⟩
abbrev DRC_CH_STAT_MULT : Fld := ⟨4, 2⟩
abbrev DRC_CH_STAT_STATE : Fld := ⟨0, 3⟩
abbrev DRC_REF_CNT_ISSUED : Fld := ⟨0, 16⟩
abbrev DRC_REF_CNT_FORCED : Fld := ⟨16, 8⟩
abbrev DRC_REF_CNT_BURSTS : Fld := ⟨24, 8⟩
abbrev DRC_ECC_CNT_CORR : Fld := ⟨0, 16⟩
abbrev DRC_ECC_CNT_UNCORR : Fld := ⟨16, 12⟩
abbrev DRC_ECC_CNT_RAS_POISON : Fld := ⟨28, 4⟩
abbrev DRC_TRAIN_STAT_STEP : Fld := ⟨0, 3⟩
abbrev DRC_TRAIN_STAT_ATTEMPTS : Fld := ⟨4, 2⟩
abbrev BST_CTRL_HOLD : Fld := ⟨0, 1⟩
abbrev BST_CFG_VMIN : Fld := ⟨0, 8⟩
abbrev BST_CFG_VMAX : Fld := ⟨8, 8⟩
abbrev BST_CFG_HR_TGT : Fld := ⟨16, 8⟩
abbrev BST_STAT_VREF : Fld := ⟨0, 11⟩
abbrev BST_STAT_STATE : Fld := ⟨12, 2⟩
abbrev BST_STAT_VOUT : Fld := ⟨16, 11⟩
abbrev BST_NEEDY_CHAN : Fld := ⟨0, 6⟩
abbrev BST_NEEDY_HMIN : Fld := ⟨16, 16⟩
abbrev BST_PCAP_PCAP : Fld := ⟨0, 12⟩
abbrev BST_SCALE_SCALE : Fld := ⟨0, 13⟩
abbrev BST_SCALE_LEVEL : Fld := ⟨16, 3⟩
abbrev BST_VIN_VBAT : Fld := ⟨0, 11⟩
abbrev BST_PWM_PER_PER : Fld := ⟨0, 20⟩
abbrev CH_CFG_USE : Fld := ⟨0, 2⟩
abbrev CH_CFG_GSIZE : Fld := ⟨4, 3⟩
abbrev CH_CFG_LEADER : Fld := ⟨7, 1⟩
abbrev CH_CFG_THR : Fld := ⟨8, 1⟩
abbrev CH_CFG_PROBE : Fld := ⟨9, 1⟩
abbrev CH_CFG_PHASE : Fld := ⟨12, 4⟩
abbrev CH_CFG_VF_NOM : Fld := ⟨16, 16⟩
abbrev CH_ISET_ISET : Fld := ⟨0, 12⟩
abbrev CH_DUTY_DUTY : Fld := ⟨0, 16⟩
abbrev CH_SAFE_SISET : Fld := ⟨0, 12⟩
abbrev CH_SAFE_SDUTY : Fld := ⟨16, 16⟩
abbrev CH_STAT_STATE : Fld := ⟨0, 3⟩
abbrev CH_STAT_PROBING : Fld := ⟨3, 1⟩
abbrev CH_STAT_HEAD : Fld := ⟨8, 8⟩
abbrev CH_STAT_VF_LEARN : Fld := ⟨16, 16⟩
abbrev CH_MEAS_IMEAS : Fld := ⟨0, 12⟩
abbrev CH_MEAS_TON : Fld := ⟨16, 16⟩
abbrev CH_MXFLT_OPENROWS : Fld := ⟨0, 8⟩
abbrev CH_MXFLT_SHORTROWS : Fld := ⟨8, 8⟩
abbrev CH_CNT_PROBES : Fld := ⟨0, 16⟩
abbrev CH_CNT_RETRIES : Fld := ⟨16, 16⟩
abbrev BST_MX_CFG_COL0 : Fld := ⟨0, 6⟩
abbrev BST_MX_CFG_NCOL : Fld := ⟨8, 7⟩
abbrev BST_MX_CFG_ROW0 : Fld := ⟨16, 3⟩
abbrev BST_MX_CFG_NROW : Fld := ⟨20, 4⟩
abbrev BST_MX_TIME_SLOT : Fld := ⟨0, 20⟩
abbrev BST_MX_TIME_DEAD : Fld := ⟨20, 8⟩
abbrev BST_MX_SYNC_MODE : Fld := ⟨0, 2⟩
abbrev BST_MX_STAT_FRONT : Fld := ⟨0, 1⟩
abbrev BST_MX_STAT_ARMED : Fld := ⟨1, 1⟩
abbrev BST_MX_STAT_LOCKED : Fld := ⟨2, 1⟩
abbrev BST_MX_STAT_ROW : Fld := ⟨8, 3⟩
abbrev BST_LINK_STAT_ACTIVE : Fld := ⟨0, 1⟩
abbrev BST_LINK_STAT_DC0_UP : Fld := ⟨1, 1⟩
abbrev BST_LINK_STAT_DC1_UP : Fld := ⟨2, 1⟩
abbrev BST_LINK_STAT_SAFE_HOLD : Fld := ⟨3, 1⟩
abbrev BST_LINK_CNT0_RETX : Fld := ⟨0, 16⟩
abbrev BST_LINK_CNT0_DOWNS : Fld := ⟨16, 16⟩
abbrev CAL_CFG_CAL_DT : Fld := ⟨0, 5⟩
abbrev CAL_CFG_AUTO : Fld := ⟨8, 1⟩
abbrev CAL_CFG_BLANK : Fld := ⟨9, 1⟩
abbrev CAL_SLOT_T_DARK : Fld := ⟨0, 8⟩
abbrev CAL_SLOT_T_LIT : Fld := ⟨8, 8⟩
abbrev CAL_SLOT_CODE : Fld := ⟨16, 12⟩
abbrev CAL_LIMITS_DEAD_TH : Fld := ⟨0, 16⟩
abbrev CAL_LIMITS_NBTOL : Fld := ⟨16, 12⟩
abbrev CAL_CMD_CMD : Fld := ⟨0, 3⟩
abbrev CAL_CMD_TILES : Fld := ⟨8, 8⟩
abbrev CAL_CMD_ROW : Fld := ⟨16, 9⟩
abbrev CAL_CMD_STAT_RESULT : Fld := ⟨0, 3⟩
abbrev CAL_TSTAT_WHY : Fld := ⟨28, 4⟩
abbrev CAL_TSTAT_STOPPED : Fld := ⟨27, 1⟩
abbrev CAL_TSTAT_LAST : Fld := ⟨24, 3⟩
abbrev CAL_TSTAT_SLOT : Fld := ⟨12, 10⟩
abbrev CAL_TSTAT_NOCAP : Fld := ⟨10, 1⟩
abbrev CAL_TSTAT_REF_OK : Fld := ⟨9, 1⟩
abbrev CAL_TSTAT_SET : Fld := ⟨6, 2⟩
abbrev CAL_TSTAT_STATE : Fld := ⟨0, 3⟩
abbrev CAL_TQ_QRES : Fld := ⟨0, 16⟩
abbrev CAL_TQ_QIMPL : Fld := ⟨16, 16⟩
abbrev CAL_TTEMP_TEMP : Fld := ⟨0, 8⟩
abbrev CAL_TTEMP_SPREAD : Fld := ⟨8, 8⟩
abbrev CAL_TTEMP_SEQ : Fld := ⟨16, 16⟩
abbrev CAL_TCNT_ACCEPTED : Fld := ⟨0, 16⟩
abbrev CAL_TCNT_REJECTED : Fld := ⟨16, 16⟩
abbrev CAL_IMPL_IDX_TILE : Fld := ⟨0, 3⟩
abbrev CAL_IMPL_IDX_ENTRY : Fld := ⟨16, 11⟩
abbrev CAL_IMPL_DATA_X : Fld := ⟨0, 9⟩
abbrev CAL_IMPL_DATA_Y : Fld := ⟨16, 9⟩
abbrev CAL_IMPL_DATA_WHY : Fld := ⟨28, 4⟩
abbrev THM_CFG_GRACE : Fld := ⟨0, 8⟩
abbrev THM_CFG_AUTOFAST : Fld := ⟨8, 1⟩
abbrev THM_CFG_FORCEFAST : Fld := ⟨9, 1⟩
abbrev THM_CFG_REL : Fld := ⟨16, 8⟩
abbrev THM_STAT_FIRST : Fld := ⟨19, 1⟩
abbrev THM_STAT_ENF_NOW : Fld := ⟨18, 1⟩
abbrev THM_STAT_REQ : Fld := ⟨17, 1⟩
abbrev THM_STAT_HELD : Fld := ⟨16, 1⟩
abbrev THM_STAT_FASTN : Fld := ⟨8, 8⟩
abbrev THM_STAT_LR : Fld := ⟨4, 3⟩
abbrev THM_STAT_LEVEL : Fld := ⟨0, 3⟩
abbrev THM_REQ_LREQ : Fld := ⟨0, 3⟩
abbrev THM_REQ_STANDING : Fld := ⟨3, 1⟩
abbrev THM_REQ_MET : Fld := ⟨4, 1⟩
abbrev THM_REQ_GRACE_LEFT : Fld := ⟨16, 16⟩
abbrev THM_HOT_READING : Fld := ⟨0, 16⟩
abbrev THM_HOT_ID : Fld := ⟨16, 7⟩
abbrev THM_HOT_SUB : Fld := ⟨23, 1⟩
abbrev THM_LIMITS_WARN : Fld := ⟨0, 8⟩
abbrev THM_LIMITS_ENF : Fld := ⟨8, 8⟩
abbrev THM_LIMITS_SHUT : Fld := ⟨16, 8⟩
abbrev THM_TLIMITS_TWARN : Fld := ⟨0, 8⟩
abbrev THM_TLIMITS_TENF : Fld := ⟨8, 8⟩
abbrev THM_TLIMITS_TSHUT : Fld := ⟨16, 8⟩
abbrev THM_SENS_READING : Fld := ⟨0, 16⟩
abbrev THM_SENS_STATE : Fld := ⟨16, 3⟩
abbrev THM_SENS_SUB : Fld := ⟨19, 1⟩
abbrev THM_SENS_FAST : Fld := ⟨20, 1⟩
abbrev THM_SENS_COUNT : Fld := ⟨24, 5⟩
abbrev THM_TILE_TEMP : Fld := ⟨0, 16⟩
abbrev THM_TILE_VALID : Fld := ⟨16, 1⟩
abbrev THM_TILE_STALE : Fld := ⟨17, 1⟩
abbrev THM_TILE_SHUT : Fld := ⟨18, 1⟩
abbrev THM_COMP_BG : Fld := ⟨0, 8⟩
abbrev THM_COMP_OSC : Fld := ⟨8, 8⟩
abbrev THM_COMP_SRC : Fld := ⟨16, 7⟩
abbrev VSP_HK_VALUE : Fld := ⟨0, 16⟩
abbrev CRC_CTRL_POLY : Fld := ⟨0, 2⟩
abbrev CRC_CTRL_BYTEORD : Fld := ⟨2, 1⟩
abbrev CRC_CTRL_SRC : Fld := ⟨4, 3⟩
abbrev CRC_CTRL_SEL : Fld := ⟨8, 4⟩
abbrev CRC_CTRL_KIND : Fld := ⟨12, 1⟩
abbrev CRC_CTRL_AUTO : Fld := ⟨13, 1⟩
abbrev CRC_CTRL_SAMPLE : Fld := ⟨14, 1⟩
abbrev CRC_CTRL_NPH : Fld := ⟨16, 4⟩
abbrev CRC_CMD_CMD : Fld := ⟨0, 3⟩
abbrev CRC_DATA8_DATA : Fld := ⟨0, 8⟩
abbrev CRC_DATA16_DATA : Fld := ⟨0, 16⟩
abbrev CRC_DATA32_DATA : Fld := ⟨0, 32⟩
abbrev CRC_WINX_X0 : Fld := ⟨0, 9⟩
abbrev CRC_WINX_X1 : Fld := ⟨16, 9⟩
abbrev CRC_WINY_Y0 : Fld := ⟨0, 9⟩
abbrev CRC_WINY_Y1 : Fld := ⟨16, 9⟩
abbrev CRC_STAT_ARMED : Fld := ⟨0, 1⟩
abbrev CRC_STAT_BUSY : Fld := ⟨1, 1⟩
abbrev CRC_STAT_MATCH : Fld := ⟨2, 1⟩
abbrev CRC_STAT_DONE : Fld := ⟨3, 1⟩
abbrev CRC_STAT_IGNORED : Fld := ⟨8, 8⟩
abbrev CRC_STAT_SKIPPED : Fld := ⟨16, 16⟩
abbrev CRC_CMPCNT_MATCHES : Fld := ⟨0, 16⟩
abbrev CRC_CMPCNT_MISMATCHES : Fld := ⟨16, 16⟩
abbrev BIST_CTRL_EN : Fld := ⟨0, 1⟩
abbrev BIST_CTRL_BUDGET : Fld := ⟨8, 8⟩
abbrev BIST_CTRL_CYCLE : Fld := ⟨16, 16⟩
abbrev BIST_STAT_RUNNING : Fld := ⟨0, 1⟩
abbrev BIST_STAT_PRIORITY : Fld := ⟨1, 1⟩
abbrev BIST_STAT_BLOCK : Fld := ⟨16, 16⟩
abbrev BIST_CMD_CMD : Fld := ⟨0, 2⟩
abbrev BIST_CMD_BLOCK : Fld := ⟨16, 16⟩
abbrev BIST_RES_RESULT : Fld := ⟨0, 2⟩
abbrev BIST_RES_DONE : Fld := ⟨2, 1⟩
abbrev BIST_RES_SIGOK : Fld := ⟨3, 1⟩
abbrev BIST_RES_REASON : Fld := ⟨4, 3⟩
abbrev BIST_RES_BLOCK : Fld := ⟨16, 16⟩
abbrev BIST_RESCNT_COUNT : Fld := ⟨0, 16⟩
abbrev BIST_RESCNT_LEN : Fld := ⟨16, 16⟩
abbrev BIST_CYC_STAT_LAST : Fld := ⟨0, 16⟩
abbrev BIST_CYC_STAT_UNCOV : Fld := ⟨16, 8⟩
abbrev BIST_CQ_PTR_NEXT : Fld := ⟨0, 4⟩
abbrev BIST_HELD_BLOCK : Fld := ⟨0, 16⟩
abbrev BIST_HELD_VALID : Fld := ⟨16, 1⟩
abbrev BIST_HELD_STARTUP : Fld := ⟨17, 1⟩
abbrev BIST_CQ_LOG_CAUSE : Fld := ⟨0, 16⟩
abbrev BIST_CQ_LOG_WATCHER : Fld := ⟨16, 16⟩
abbrev VSP_EVT_HOLD_HOLD : Fld := ⟨0, 1⟩
abbrev VSP_EVT_HOLD_ARMHOLD : Fld := ⟨1, 1⟩
abbrev VSP_PIN_STAT_EVT : Fld := ⟨0, 1⟩
abbrev VSP_PIN_STAT_FLT : Fld := ⟨1, 1⟩
abbrev VSP_PIN_STAT_PULSE : Fld := ⟨2, 1⟩
abbrev VSP_PIN_STAT_DISP : Fld := ⟨3, 1⟩
abbrev PZP_PCIE_STAT_UP : Fld := ⟨0, 1⟩
abbrev PZP_PCIE_STAT_SPEED : Fld := ⟨1, 2⟩
abbrev PZP_PCIE_STAT_WIDTH : Fld := ⟨3, 2⟩
abbrev PZP_PCIE_STAT_L1 : Fld := ⟨5, 1⟩
abbrev PZP_PCIE_ERR_DROPPED : Fld := ⟨0, 16⟩
abbrev PZP_PCIE_ERR_ERRCPL : Fld := ⟨16, 16⟩
abbrev PZP_DMA_CTRL_EN : Fld := ⟨0, 1⟩
abbrev PZP_DMA_TAIL_TAIL : Fld := ⟨0, 8⟩
abbrev PZP_DMA_HEAD_HEAD : Fld := ⟨0, 8⟩
abbrev PZP_DMA_CNT_DONE : Fld := ⟨0, 16⟩
abbrev PZP_DMA_CNT_ERRORS : Fld := ⟨16, 16⟩
abbrev PZP_CAN_STAT_ADDR : Fld := ⟨0, 8⟩
abbrev PZP_CAN_STAT_CLAIM : Fld := ⟨8, 2⟩
abbrev PZP_CAN_STAT_BUSOFF : Fld := ⟨10, 1⟩
abbrev PZP_CAN_STAT_TEC : Fld := ⟨16, 8⟩
abbrev PZP_CAN_STAT_REC : Fld := ⟨24, 8⟩
abbrev PZP_CAN_CNT_RX : Fld := ⟨0, 16⟩
abbrev PZP_CAN_CNT_TX : Fld := ⟨16, 16⟩
abbrev PZP_SESS_STAT_OPEN : Fld := ⟨0, 11⟩
abbrev PZP_SESS_STAT_REQS : Fld := ⟨16, 14⟩
abbrev PZP_HOST_SET_ZONE : Fld := ⟨0, 11⟩
abbrev PZP_HOST_SET_LEVEL : Fld := ⟨16, 8⟩
abbrev PZP_HOST_SET_CLASS : Fld := ⟨24, 2⟩
abbrev PZP_HOST_SET_WITHDRAW : Fld := ⟨26, 1⟩
abbrev PZP_HOST_RES_REASON : Fld := ⟨0, 4⟩
abbrev PZP_ZONE_LEVEL : Fld := ⟨0, 8⟩
abbrev PZP_ZONE_CLASS : Fld := ⟨8, 3⟩
abbrev PZP_ZONE_LOSS : Fld := ⟨11, 1⟩
abbrev PZP_ZONE_ERROR : Fld := ⟨12, 1⟩
abbrev PZP_ZONE_SESSION : Fld := ⟨16, 11⟩
abbrev VSP_SPI_CFG_SPI_RO : Fld := ⟨0, 1⟩
abbrev VSP_SPI_CFG_WDOG : Fld := ⟨1, 1⟩
abbrev VSP_SPI_CFG_WDOG_T : Fld := ⟨8, 8⟩
abbrev VSP_SPI_STAT_SAFE_REQ : Fld := ⟨0, 1⟩
abbrev VSP_SPI_STAT_WDOG_REQ : Fld := ⟨1, 1⟩
abbrev VSP_SPI_STAT_LASTSEQ : Fld := ⟨8, 8⟩
abbrev VSP_SPI_CNT_FRAMES : Fld := ⟨0, 16⟩
abbrev VSP_SPI_CNT_CRCERR : Fld := ⟨16, 16⟩
abbrev VSP_PWR_STAT_RESULT : Fld := ⟨24, 2⟩
abbrev VSP_PWR_STAT_SAFE_SRC : Fld := ⟨16, 8⟩
abbrev VSP_PWR_STAT_STEP : Fld := ⟨8, 4⟩
abbrev VSP_PWR_STAT_STATE : Fld := ⟨0, 3⟩
abbrev VSP_PWR_CMD_CMD : Fld := ⟨0, 3⟩
abbrev VSP_PWR_CFG_SLEEP_DLY : Fld := ⟨0, 8⟩
abbrev VSP_PWR_CFG_WAKE_EN : Fld := ⟨8, 1⟩
abbrev VSP_PWR_CFG_IGN_EN : Fld := ⟨9, 1⟩
abbrev VSP_PWR_CFG_TMR_EN : Fld := ⟨10, 1⟩
abbrev VSP_PWR_CFG_SAFE_PAT : Fld := ⟨11, 1⟩
abbrev VSP_KEEP_KEEP : Fld := ⟨0, 1⟩
abbrev VSP_WAKE_CAUSE_COLD : Fld := ⟨0, 1⟩
abbrev VSP_WAKE_CAUSE_WAKE : Fld := ⟨1, 1⟩
abbrev VSP_WAKE_CAUSE_IGN : Fld := ⟨2, 1⟩
abbrev VSP_WAKE_CAUSE_TIMER : Fld := ⟨3, 1⟩
abbrev VSP_WAKE_CAUSE_POWERUP : Fld := ⟨4, 1⟩
abbrev VSP_WAKE_CAUSE_VRESET : Fld := ⟨5, 1⟩
abbrev VSP_START_TIME_READY_MS : Fld := ⟨0, 16⟩
abbrev SEC_STAT_LOCKED : Fld := ⟨0, 1⟩
abbrev SEC_STAT_ZEROISED : Fld := ⟨1, 1⟩
abbrev SEC_STAT_DEBUG_LOCK : Fld := ⟨2, 1⟩
abbrev SEC_STAT_FLOOR : Fld := ⟨8, 7⟩
abbrev SEC_CMD_CMD : Fld := ⟨0, 3⟩
abbrev SEC_CMD_SLOT : Fld := ⟨8, 3⟩
abbrev SEC_CMD_STAT_RESULT : Fld := ⟨0, 3⟩
abbrev SEC_TAMP_LAST_DET : Fld := ⟨0, 3⟩
abbrev SEC_TAMP_LAST_ACT : Fld := ⟨4, 2⟩
abbrev SEC_TAMP_LAST_COUNT : Fld := ⟨16, 16⟩
abbrev FAB_DIE_ID_DIE : Fld := ⟨0, 1⟩
abbrev FAB_DIE_ID_STEPPING : Fld := ⟨8, 8⟩
abbrev FAB_DIE_ID_DEVICE : Fld := ⟨16, 16⟩
abbrev FAB_DIE_STAT_CORE_REF : Fld := ⟨0, 1⟩
abbrev FAB_DIE_STAT_SUP_UP : Fld := ⟨1, 1⟩
abbrev FAB_DIE_STAT_PEER_UP : Fld := ⟨2, 1⟩
abbrev FAB_BRG_STAT_INSERV : Fld := ⟨0, 4⟩
abbrev FAB_BRG_CNT_REPLAYS : Fld := ⟨0, 16⟩
abbrev FAB_BRG_CNT_REMOVALS : Fld := ⟨16, 16⟩

end F

namespace B

abbrev VSP_IMG_COPY_A_BAD : Nat := 0
abbrev VSP_IMG_COPY_B_BAD : Nat := 1
abbrev VSP_IMG_FALLBACK : Nat := 2
abbrev VSP_IMG_TRIAL_REVERTED : Nat := 3
abbrev VSP_IMG_UPD_FAIL : Nat := 4
abbrev VSP_IMG_FLASH_WRITE : Nat := 5
abbrev FAB_COLUMN : Nat := 0
abbrev FAB_BUILD : Nat := 1
abbrev FAB_PEER : Nat := 2
abbrev HEAD_CMP_STAGE_LOCKED : Nat := 0
abbrev HEAD_CMP_REFUSED : Nat := 1
abbrev HEAD_CMP_BIN_ECC : Nat := 2
abbrev FAB_PIPE_SECOND : Nat := 4
abbrev HEAD_WARP_STALE : Nat := 0
abbrev HEAD_WARP_CLAMP : Nat := 1
abbrev HEAD_WARP_JUMP : Nat := 2
abbrev HEAD_WARP_MESH_CHECK : Nat := 3
abbrev HEAD_WARP_MESH_RANGE : Nat := 4
abbrev HEAD_WARP_MESH_MISMATCH : Nat := 5
abbrev HEAD_WARP_MESH_LATE : Nat := 6
abbrev HEAD_IMU_CMP : Nat := 0
abbrev HEAD_IMU_OVERRUN : Nat := 1
abbrev HEAD_IMU_SILENT : Nat := 2
abbrev HEAD_IMU_SCRIPT : Nat := 3
abbrev PHO_ROW_CHECK : Nat := 0
abbrev PHO_ROW_TAG : Nat := 1
abbrev PHO_ROW_LATE : Nat := 2
abbrev PHO_ROAD_WRITE : Nat := 3
abbrev PHO_SUM_LOST : Nat := 4
abbrev PHO_NO_TEMP : Nat := 5
abbrev HEAD_TINT_DAWN : Nat := 0
abbrev HEAD_TINT_NOON : Nat := 1
abbrev HEAD_TINT_DUSK : Nat := 2
abbrev HEAD_TINT_TWILIGHT : Nat := 3
abbrev HEAD_TINT_MIDNIGHT : Nat := 4
abbrev HEAD_TINT_MODE_DONE : Nat := 5
abbrev HEAD_TINT_LATCHED : Nat := 6
abbrev HEAD_TG_UNDERRUN : Nat := 0
abbrev HEAD_TG_RELOCK : Nat := 1
abbrev HEAD_TG_MODE_REFUSED : Nat := 2
abbrev HEAD_TG_MARK_LOST : Nat := 3
abbrev HEAD_TG_TG_FAIL : Nat := 4
abbrev LANE_LOCK_LOST : Nat := 0
abbrev LANE_TRAIN_FAIL : Nat := 1
abbrev LANE_FALLBACK : Nat := 2
abbrev LANE_ELASTIC : Nat := 3
abbrev LANE_PARKED : Nat := 4
abbrev LANE_Q_REF_LOST : Nat := 0
abbrev LANE_Q_PLL_UNLOCK : Nat := 1
abbrev LANE_TILE_OPEN : Nat := 0
abbrev LANE_TILE_SHORT : Nat := 1
abbrev LANE_TILE_WDOG : Nat := 2
abbrev LANE_TILE_SILENT : Nat := 3
abbrev LANE_TILE_NORESP : Nat := 4
abbrev LANE_TILE_PROTO : Nat := 5
abbrev LANE_TILE_SF_CRC : Nat := 6
abbrev LANE_IN_FRAME_DROP : Nat := 0
abbrev LANE_IN_OBJ_FAIL : Nat := 1
abbrev LANE_IN_BAD_PKT : Nat := 2
abbrev LANE_IN_IN_STALE : Nat := 3
abbrev DRC_TRAIN_FAIL : Nat := 0
abbrev DRC_DRAM_FAIL : Nat := 1
abbrev DRC_UNCORR : Nat := 2
abbrev DRC_HM_ENTER : Nat := 3
abbrev DRC_ADDR_HM : Nat := 4
abbrev DRC_HM_OVERLAP : Nat := 5
abbrev DRC_RSV_WRITE : Nat := 6
abbrev DRC_DRAM_HOT : Nat := 7
abbrev DRC_REF_FORCED : Nat := 8
abbrev DRC_RESUME_NOLINK : Nat := 9
abbrev DRC_ADDR_RANGE : Nat := 10
abbrev BST_OVP : Nat := 0
abbrev BST_OCP : Nat := 1
abbrev BST_UVLO : Nat := 2
abbrev BST_HEADROOM : Nat := 3
abbrev BST_PHASE : Nat := 4
abbrev BST_BOOST_OFF : Nat := 5
abbrev CH_OPEN : Nat := 0
abbrev CH_SHORT : Nat := 1
abbrev CH_SHORT_FULL : Nat := 2
abbrev CH_SINK : Nat := 3
abbrev CH_STARVED : Nat := 4
abbrev CH_GANG : Nat := 5
abbrev BST_LINK_DC0_DOWN : Nat := 0
abbrev BST_LINK_DC1_DOWN : Nat := 1
abbrev BST_LINK_BOTH_DOWN : Nat := 2
abbrev CAL_REJECTED : Nat := 0
abbrev CAL_NO_PHOTO : Nat := 1
abbrev CAL_STORE_FAIL : Nat := 2
abbrev CAL_SET_BAD : Nat := 3
abbrev CAL_REF_BAD : Nat := 4
abbrev CAL_STOPPED : Nat := 5
abbrev CAL_DEAD_NEW : Nat := 6
abbrev THM_WARN : Nat := 0
abbrev THM_ENFORCE : Nat := 1
abbrev THM_SHUTDOWN : Nat := 2
abbrev THM_BROKEN : Nat := 3
abbrev THM_TILE_SHUT : Nat := 4
abbrev THM_DRAM_HOT : Nat := 5
abbrev THM_STALE : Nat := 6
abbrev THM_VSP_SPLIT : Nat := 7
abbrev THM_SUB_HOLD : Nat := 8
abbrev CRC_MISMATCH : Nat := 0
abbrev CRC_REFUSED : Nat := 1
abbrev BIST_SLICE_FAIL : Nat := 0
abbrev BIST_STARTUP_FAIL : Nat := 1
abbrev BIST_STARVED : Nat := 2
abbrev BIST_CYCLE_LATE : Nat := 3
abbrev BIST_CQ_OVF : Nat := 4
abbrev PZP_PCIE_LINK : Nat := 0
abbrev PZP_BAR_ERR : Nat := 1
abbrev PZP_DMA_ERR : Nat := 2
abbrev PZP_STAGE_BUSY : Nat := 3
abbrev PZP_BUSOFF0 : Nat := 4
abbrev PZP_BUSOFF1 : Nat := 5
abbrev PZP_CLAIM_FAIL : Nat := 6
abbrev PZP_PZP_FULL : Nat := 7
abbrev PZP_TECU_LOST : Nat := 8
abbrev VSP_PWR_VBAT_LOW : Nat := 0
abbrev VSP_PWR_RAIL : Nat := 1
abbrev VSP_PWR_CLOCK : Nat := 2
abbrev VSP_PWR_START_LATE : Nat := 3
abbrev VSP_PWR_SELFTEST : Nat := 4
abbrev VSP_PWR_IMAGE : Nat := 5
abbrev SEC_MESH : Nat := 0
abbrev SEC_VGLITCH : Nat := 1
abbrev SEC_CGLITCH : Nat := 2
abbrev SEC_TEMP : Nat := 3
abbrev SEC_DEBUG : Nat := 4
abbrev SEC_LOCKED : Nat := 5
abbrev SEC_ERASED : Nat := 6
abbrev SEC_CMD_FAIL : Nat := 7
abbrev FAB_DIE_REF_SWITCH : Nat := 0
abbrev FAB_DIE_SUP_LINK : Nat := 1
abbrev FAB_DIE_PEER_LOST : Nat := 2
abbrev FAB_BRG_ALL : Nat := 4

end B

end Sys2Proof.Machine
end

