-- ==== Sys2Proof/Machine/Operands.lean ====
section
/-! DEFINITION. The operand forms: bit fields of registers (R9), saturating and wrapping counters, signed and fixed-point
readings (R7), rounding, and little-endian bytes. -/

namespace Sys2Proof.Machine

/-- The bits of a field. -/
def Fld.mask (f : Fld) : Word := BitVec.ofNat 32 ((2 ^ f.len - 1) * 2 ^ f.lo)

/-- A field of a register, read as an unsigned number (R9). -/
def fget (w : Word) (f : Fld) : Nat := w.toNat / 2 ^ f.lo % 2 ^ f.len

/-- A register with a field replaced by the low bits of `v`. -/
def fset (w : Word) (f : Fld) (v : Nat) : Word :=
  (w &&& ~~~ f.mask) ||| BitVec.ofNat 32 (v % 2 ^ f.len * 2 ^ f.lo)

/-- Bit `k` of a word. -/
def bitOf (w : Word) (k : Nat) : Bool := w.getLsbD k

/-- A word with bit `k` set. -/
def bitSet (w : Word) (k : Nat) : Word := w ||| BitVec.ofNat 32 (2 ^ k)

/-- A word with bit `k` clear. -/
def bitClr (w : Word) (k : Nat) : Word := w &&& ~~~ BitVec.ofNat 32 (2 ^ k)

/-- A word with bit `k` as `b` says. -/
def bitPut (w : Word) (k : Nat) (b : Bool) : Word := if b then bitSet w k else bitClr w k

/-- 1 for true, 0 for false. -/
def b2n (b : Bool) : Nat := if b then 1 else 0

/-- Sum that saturates at the largest value of `bits` bits. -/
def satAdd (bits a b : Nat) : Nat := min (a + b) (2 ^ bits - 1)

/-- The two's-complement reading of the low `bits` bits of `v` (R7). -/
def sgn (bits v : Nat) : Int :=
  let m := v % 2 ^ bits
  if m < 2 ^ (bits - 1) then (m : Int) else (m : Int) - (2 ^ bits : Nat)

/-- The low `bits` bits of the two's-complement form of `x`. -/
def unsgn (bits : Nat) (x : Int) : Nat := (x % ((2 ^ bits : Nat) : Int)).toNat

/-- `x` held between `lo` and `hi`. -/
def clampI (lo hi x : Int) : Int := if x < lo then lo else if hi < x then hi else x

/-- `x` held between `lo` and `hi`. -/
def clampN (lo hi x : Nat) : Nat := if x < lo then lo else if hi < x then hi else x

/-- Distance of two numbers. -/
def natDist (a b : Nat) : Nat := (a - b) + (b - a)

/-- Bytes read as a little-endian number. -/
def leNat : List Byte → Nat
  | [] => 0
  | b :: bs => b.toNat + 256 * leNat bs

/-- The low `n` bytes of a number, little-endian. -/
def toLE : Nat → Nat → List Byte
  | 0, _ => []
  | n + 1, v => BitVec.ofNat 8 v :: toLE n (v / 256)

/-- Bytes read as a big-endian number. -/
def beNat (bs : List Byte) : Nat := leNat bs.reverse

/-- The low `n` bytes of a number, big-endian. -/
def toBE (n v : Nat) : List Byte := (toLE n v).reverse

/-- Bytes `from .. from + n - 1` of a list. -/
def slice (bs : List Byte) (start n : Nat) : List Byte := (bs.drop start).take n

/-- The little-endian number of `n` bytes at `start`. -/
def leAt (bs : List Byte) (start n : Nat) : Nat := leNat (slice bs start n)

/-- Element `k` of a list of numbers, 0 past its end. -/
def nthD {α : Type} (d : α) (l : List α) (k : Nat) : α := l.getD k d

end Sys2Proof.Machine
end

