-- ==== Sys2Proof/Machine/RegMap.lean ====
section
/-! DEFINITION. The register map of the PV-7216: the address of every register of the register tables (R383, R384),
and the unit tables with access code, implemented bits and Reset value of each (R11, R12, R13). -/

namespace Sys2Proof.Machine

/-- Base of the window of compositor die `d` (Table 17-10). -/
abbrev Reg.cd (d : Nat) : Nat := 0x1000000 + 0x1000000 * d

/-- Base of the window of power die `h` (R226). -/
abbrev Reg.hv (h : Nat) : Nat := 0x3000000 + 0x400000 * h

namespace Reg

/-! Table 2-9. -/
abbrev VSP_IMG_STAT : Nat := 0x4000
abbrev VSP_IMG_SECVER : Nat := 0x4004
abbrev VSP_IMG_BUILD : Nat := 0x4008
abbrev VSP_IMG_BOOTSEL : Nat := 0x400C
abbrev VSP_IMG_UPD_CTRL : Nat := 0x4010
abbrev VSP_IMG_UPD_STAT : Nat := 0x4014
abbrev VSP_IMG_UPD_LEN : Nat := 0x4018
abbrev VSP_IMG_FAIL_A : Nat := 0x401C
abbrev VSP_IMG_FAIL_B : Nat := 0x4020
abbrev VSP_IMG_OEM_LEN : Nat := 0x4024
abbrev VSP_IMG_FAIL_R : Nat := 0x4028
abbrev VSP_IMG_FLT_STAT : Nat := 0x4030
abbrev VSP_IMG_FLT_EN : Nat := 0x4034
abbrev VSP_IMG_FLT_CAUSE : Nat := 0x4038
/-! Table 2-13. -/
abbrev FAB_STAT (d : Nat) : Nat := cd d + 0x40000 + 0xE000
abbrev FAB_RB_CTRL (d : Nat) : Nat := cd d + 0x40000 + 0xE004
abbrev FAB_RB_STAT (d : Nat) : Nat := cd d + 0x40000 + 0xE008
abbrev FAB_RB_SWAPFRM (d : Nat) : Nat := cd d + 0x40000 + 0xE00C
abbrev FAB_COLFAIL0 (d : Nat) : Nat := cd d + 0x40000 + 0xE010
abbrev FAB_COLFAIL1 (d : Nat) : Nat := cd d + 0x40000 + 0xE014
abbrev FAB_HMAP (d i : Nat) : Nat := cd d + 0x40000 + 0xE020 + 0x4 * i
abbrev FAB_FLT_STAT (d : Nat) : Nat := cd d + 0x40000 + 0xE040
abbrev FAB_FLT_EN (d : Nat) : Nat := cd d + 0x40000 + 0xE044
abbrev FAB_FLT_CAUSE (d : Nat) : Nat := cd d + 0x40000 + 0xE048
/-! Table 3-9. -/
abbrev HEAD_GEN_COMMIT (d n : Nat) : Nat := cd d + 0x48000 + 0x100 * n + 0x0
abbrev HEAD_GEN_STAT (d n : Nat) : Nat := cd d + 0x48000 + 0x100 * n + 0x4
abbrev HEAD_GEN_NEWEST (d n : Nat) : Nat := cd d + 0x48000 + 0x100 * n + 0x8
abbrev HEAD_GEN_TAG (d n : Nat) : Nat := cd d + 0x48000 + 0x100 * n + 0xC
abbrev HEAD_GEN_INUSE (d n : Nat) : Nat := cd d + 0x48000 + 0x100 * n + 0x10
abbrev HEAD_GEN_FIRST (d n : Nat) : Nat := cd d + 0x48000 + 0x100 * n + 0x14
abbrev HEAD_GEN_LAST (d n : Nat) : Nat := cd d + 0x48000 + 0x100 * n + 0x18
abbrev HEAD_GEN_SUPER (d n : Nat) : Nat := cd d + 0x48000 + 0x100 * n + 0x1C
abbrev HEAD_BIN_OVER (d n : Nat) : Nat := cd d + 0x48000 + 0x100 * n + 0x20
abbrev HEAD_CMP_CFG (d n : Nat) : Nat := cd d + 0x48000 + 0x100 * n + 0x24
abbrev HEAD_LAYER_TYPE (d n : Nat) : Nat := cd d + 0x48000 + 0x100 * n + 0x28
abbrev HEAD_LAYER_OP (d n : Nat) : Nat := cd d + 0x48000 + 0x100 * n + 0x2C
abbrev HEAD_CMP_FLT_STAT (d n : Nat) : Nat := cd d + 0x48000 + 0x100 * n + 0x40
abbrev HEAD_CMP_FLT_EN (d n : Nat) : Nat := cd d + 0x48000 + 0x100 * n + 0x44
abbrev HEAD_CMP_FLT_CAUSE (d n : Nat) : Nat := cd d + 0x48000 + 0x100 * n + 0x48
/-! Table 3-12. -/
abbrev HEAD_RAS_BASE (d i : Nat) : Nat := cd d + 0x40000 + 0x8400 + 0x4 * i
abbrev HEAD_RAS_CFG (d i : Nat) : Nat := cd d + 0x40000 + 0x8420 + 0x4 * i
/-! Table 3-13. -/
abbrev FAB_PIPE_STAT (d : Nat) : Nat := cd d + 0x40000 + 0x9000
abbrev FAB_LOAD (d : Nat) : Nat := cd d + 0x40000 + 0x9004
abbrev FAB_LATE (d : Nat) : Nat := cd d + 0x40000 + 0x9008
abbrev FAB_PIPE_FLT_STAT (d : Nat) : Nat := cd d + 0x40000 + 0x9010
abbrev FAB_PIPE_FLT_EN (d : Nat) : Nat := cd d + 0x40000 + 0x9014
abbrev FAB_PIPE_FLT_CAUSE (d : Nat) : Nat := cd d + 0x40000 + 0x9018
/-! Table 4-5. -/
abbrev HEAD_WARP_BASE (d n : Nat) : Nat := cd d + 0x4A000 + 0x100 * n + 0x0
abbrev HEAD_WARP_CFG (d n : Nat) : Nat := cd d + 0x4A000 + 0x100 * n + 0x4
abbrev HEAD_WARP_STAT (d n : Nat) : Nat := cd d + 0x4A000 + 0x100 * n + 0x8
abbrev HEAD_WARP_CRC (d n : Nat) : Nat := cd d + 0x4A000 + 0x100 * n + 0xC
abbrev HEAD_CORR_HOST (d n : Nat) : Nat := cd d + 0x4A000 + 0x100 * n + 0x20
abbrev HEAD_CORR_CFG (d n : Nat) : Nat := cd d + 0x4A000 + 0x100 * n + 0x24
abbrev HEAD_CORR_REF (d n : Nat) : Nat := cd d + 0x4A000 + 0x100 * n + 0x28
abbrev HEAD_CORR_LIMITS (d n : Nat) : Nat := cd d + 0x4A000 + 0x100 * n + 0x2C
abbrev HEAD_CORR_KP (d n : Nat) : Nat := cd d + 0x4A000 + 0x100 * n + 0x30
abbrev HEAD_CORR_CX (d n : Nat) : Nat := cd d + 0x4A000 + 0x100 * n + 0x34
abbrev HEAD_CORR_CY (d n : Nat) : Nat := cd d + 0x4A000 + 0x100 * n + 0x38
abbrev HEAD_CORR_LIM (d n : Nat) : Nat := cd d + 0x4A000 + 0x100 * n + 0x3C
abbrev HEAD_CORR_NOW (d n : Nat) : Nat := cd d + 0x4A000 + 0x100 * n + 0x40
abbrev HEAD_CORR_REFNOW (d n : Nat) : Nat := cd d + 0x4A000 + 0x100 * n + 0x44
abbrev HEAD_CORR_CNT (d n : Nat) : Nat := cd d + 0x4A000 + 0x100 * n + 0x48
abbrev HEAD_WARP_FLT_STAT (d n : Nat) : Nat := cd d + 0x4A000 + 0x100 * n + 0x50
abbrev HEAD_WARP_FLT_EN (d n : Nat) : Nat := cd d + 0x4A000 + 0x100 * n + 0x54
abbrev HEAD_WARP_FLT_CAUSE (d n : Nat) : Nat := cd d + 0x4A000 + 0x100 * n + 0x58
/-! Table 4-7. -/
abbrev HEAD_WARP_RASDIM (d i : Nat) : Nat := cd d + 0x40000 + 0xA400 + 0x4 * i
/-! Table 4-8. -/
abbrev HEAD_IMU_CTRL : Nat := cd 0 + 0x40000 + 0xC000
abbrev HEAD_IMU_STAT : Nat := cd 0 + 0x40000 + 0xC004
abbrev HEAD_IMU_SCALEP : Nat := cd 0 + 0x40000 + 0xC008
abbrev HEAD_IMU_SCALER : Nat := cd 0 + 0x40000 + 0xC00C
abbrev HEAD_IMU_LAT : Nat := cd 0 + 0x40000 + 0xC010
abbrev HEAD_IMU_LAST : Nat := cd 0 + 0x40000 + 0xC014
abbrev HEAD_IMU_TIME : Nat := cd 0 + 0x40000 + 0xC018
abbrev HEAD_IMU_CNT : Nat := cd 0 + 0x40000 + 0xC01C
abbrev HEAD_IMU_FLT_STAT : Nat := cd 0 + 0x40000 + 0xC020
abbrev HEAD_IMU_FLT_EN : Nat := cd 0 + 0x40000 + 0xC024
abbrev HEAD_IMU_FLT_CAUSE : Nat := cd 0 + 0x40000 + 0xC028
abbrev HEAD_IMU_OP (i : Nat) : Nat := cd 0 + 0x40000 + 0xC040 + 0x4 * i
abbrev HEAD_IMU_CAP (i : Nat) : Nat := cd 0 + 0x40000 + 0xC100 + 0x4 * i
/-! Table 5-6. -/
abbrev PHO_COEF_BASE (d i : Nat) : Nat := cd d + 0x60000 + 0x0 + 0x20 * i
abbrev PHO_TILE_CFG (d i : Nat) : Nat := cd d + 0x60000 + 0x4 + 0x20 * i
abbrev PHO_TILE_TEMP (d i : Nat) : Nat := cd d + 0x60000 + 0x8 + 0x20 * i
abbrev PHO_TILE_CNT (d i : Nat) : Nat := cd d + 0x60000 + 0xC + 0x20 * i
abbrev PHO_DRT (d i : Nat) : Nat := cd d + 0x60000 + 0x200 + 0x4 * i
abbrev PHO_CEIL_X (d i : Nat) : Nat := cd d + 0x60000 + 0x400 + 0x10 * i
abbrev PHO_CEIL_Y (d i : Nat) : Nat := cd d + 0x60000 + 0x404 + 0x10 * i
abbrev PHO_CEIL_CTL (d i : Nat) : Nat := cd d + 0x60000 + 0x408 + 0x10 * i
abbrev PHO_BUDGET (d : Nat) : Nat := cd d + 0x60000 + 0x800
abbrev PHO_BUDGET_STAT (d : Nat) : Nat := cd d + 0x60000 + 0x804
abbrev PHO_DEMAND (d : Nat) : Nat := cd d + 0x60000 + 0x808
abbrev PHO_HSUM (d i : Nat) : Nat := cd d + 0x60000 + 0x810 + 0x4 * i
abbrev PHO_FLT_STAT (d : Nat) : Nat := cd d + 0x60000 + 0x840
abbrev PHO_FLT_EN (d : Nat) : Nat := cd d + 0x60000 + 0x844
abbrev PHO_FLT_CAUSE (d : Nat) : Nat := cd d + 0x60000 + 0x848
abbrev PHO_FLT_WHERE (d : Nat) : Nat := cd d + 0x60000 + 0x84C
/-! Table 6-7. -/
abbrev HEAD_TLINE (d n : Nat) : Nat := cd d + 0x40000 + 0x100 * n + 0x0
abbrev HEAD_TTOTAL (d n : Nat) : Nat := cd d + 0x40000 + 0x100 * n + 0x4
abbrev HEAD_TACT (d n : Nat) : Nat := cd d + 0x40000 + 0x100 * n + 0x8
abbrev HEAD_TCTRL (d n : Nat) : Nat := cd d + 0x40000 + 0x100 * n + 0xC
abbrev HEAD_TSTAT (d n : Nat) : Nat := cd d + 0x40000 + 0x100 * n + 0x10
abbrev HEAD_FRAME (d n : Nat) : Nat := cd d + 0x40000 + 0x100 * n + 0x14
abbrev HEAD_TPOINTS (d n : Nat) : Nat := cd d + 0x40000 + 0x100 * n + 0x18
abbrev HEAD_BG (d n : Nat) : Nat := cd d + 0x40000 + 0x100 * n + 0x1C
abbrev HEAD_TINT_STAT (d n : Nat) : Nat := cd d + 0x40000 + 0x100 * n + 0x20
abbrev HEAD_TINT_EN (d n : Nat) : Nat := cd d + 0x40000 + 0x100 * n + 0x24
abbrev HEAD_URCNT (d n : Nat) : Nat := cd d + 0x40000 + 0x100 * n + 0x28
abbrev HEAD_URWHERE (d n : Nat) : Nat := cd d + 0x40000 + 0x100 * n + 0x2C
abbrev HEAD_SKEW (d n : Nat) : Nat := cd d + 0x40000 + 0x100 * n + 0x30
abbrev HEAD_RELOCK (d n : Nat) : Nat := cd d + 0x40000 + 0x100 * n + 0x34
abbrev HEAD_TG_FLT_STAT (d n : Nat) : Nat := cd d + 0x40000 + 0x100 * n + 0x40
abbrev HEAD_TG_FLT_EN (d n : Nat) : Nat := cd d + 0x40000 + 0x100 * n + 0x44
abbrev HEAD_TG_FLT_CAUSE (d n : Nat) : Nat := cd d + 0x40000 + 0x100 * n + 0x48
/-! Table 6-9. -/
abbrev HEAD_LB_CFG (d : Nat) : Nat := cd d + 0x40000 + 0x800
abbrev HEAD_LB_STAT (d i : Nat) : Nat := cd d + 0x40000 + 0x810 + 0x4 * i
/-! Table 7-10. -/
abbrev LANE_CFG (d n : Nat) : Nat := cd d + 0x10000 + 0x1000 * n + 0x0
abbrev LANE_CMD (d n : Nat) : Nat := cd d + 0x10000 + 0x1000 * n + 0x4
abbrev LANE_STAT (d n : Nat) : Nat := cd d + 0x10000 + 0x1000 * n + 0x8
abbrev LANE_CAUSE (d n : Nat) : Nat := cd d + 0x10000 + 0x1000 * n + 0xC
abbrev LANE_EQ (d n : Nat) : Nat := cd d + 0x10000 + 0x1000 * n + 0x10
abbrev LANE_SYMERR (d n : Nat) : Nat := cd d + 0x10000 + 0x1000 * n + 0x14
abbrev LANE_LOSSCNT (d n : Nat) : Nat := cd d + 0x10000 + 0x1000 * n + 0x18
abbrev LANE_DROPCNT (d n : Nat) : Nat := cd d + 0x10000 + 0x1000 * n + 0x1C
abbrev LANE_RMCNT (d n : Nat) : Nat := cd d + 0x10000 + 0x1000 * n + 0x20
abbrev LANE_RETRY (d n : Nat) : Nat := cd d + 0x10000 + 0x1000 * n + 0x24
abbrev LANE_ALIGN_CTRL (d n : Nat) : Nat := cd d + 0x10000 + 0x1000 * n + 0x30
abbrev LANE_SLIP (d n : Nat) : Nat := cd d + 0x10000 + 0x1000 * n + 0x34
abbrev LANE_ALIGN_STAT (d n : Nat) : Nat := cd d + 0x10000 + 0x1000 * n + 0x38
abbrev LANE_RAW (d n : Nat) : Nat := cd d + 0x10000 + 0x1000 * n + 0x3C
abbrev LANE_LB_CTRL (d n : Nat) : Nat := cd d + 0x10000 + 0x1000 * n + 0x40
abbrev LANE_LB_USER (d n : Nat) : Nat := cd d + 0x10000 + 0x1000 * n + 0x44
abbrev LANE_LB_STAT (d n : Nat) : Nat := cd d + 0x10000 + 0x1000 * n + 0x48
abbrev LANE_LB_ERR (d n : Nat) : Nat := cd d + 0x10000 + 0x1000 * n + 0x4C
abbrev LANE_ESCAN_CTRL (d n : Nat) : Nat := cd d + 0x10000 + 0x1000 * n + 0x60
abbrev LANE_ESCAN_GO (d n : Nat) : Nat := cd d + 0x10000 + 0x1000 * n + 0x64
abbrev LANE_ESCAN_STAT (d n : Nat) : Nat := cd d + 0x10000 + 0x1000 * n + 0x68
abbrev LANE_ESCAN_ERR (d n : Nat) : Nat := cd d + 0x10000 + 0x1000 * n + 0x6C
abbrev LANE_ESCAN_BITS (d n : Nat) : Nat := cd d + 0x10000 + 0x1000 * n + 0x70
abbrev LANE_FLT_STAT (d n : Nat) : Nat := cd d + 0x10000 + 0x1000 * n + 0x80
abbrev LANE_FLT_EN (d n : Nat) : Nat := cd d + 0x10000 + 0x1000 * n + 0x84
abbrev LANE_FLT_CAUSE (d n : Nat) : Nat := cd d + 0x10000 + 0x1000 * n + 0x88
/-! Table 7-12. -/
abbrev LANE_Q_STAT (d q : Nat) : Nat := cd d + 0x1C000 + 0x100 * q + 0x0
abbrev LANE_Q_UNLOCK (d q : Nat) : Nat := cd d + 0x1C000 + 0x100 * q + 0x4
abbrev LANE_Q_FLT_STAT (d q : Nat) : Nat := cd d + 0x1C000 + 0x100 * q + 0x10
abbrev LANE_Q_FLT_EN (d q : Nat) : Nat := cd d + 0x1C000 + 0x100 * q + 0x14
abbrev LANE_Q_FLT_CAUSE (d q : Nat) : Nat := cd d + 0x1C000 + 0x100 * q + 0x18
/-! Table 8-8. -/
abbrev LANE_TILE_STAT (d n : Nat) : Nat := cd d + 0x10000 + 0x1000 * n + 0x100
abbrev LANE_TILE_ID (d n : Nat) : Nat := cd d + 0x10000 + 0x1000 * n + 0x104
abbrev LANE_TILE_TEMPA (d n : Nat) : Nat := cd d + 0x10000 + 0x1000 * n + 0x108
abbrev LANE_TILE_TEMPB (d n : Nat) : Nat := cd d + 0x10000 + 0x1000 * n + 0x10C
abbrev LANE_TILE_SUPA (d n : Nat) : Nat := cd d + 0x10000 + 0x1000 * n + 0x110
abbrev LANE_TILE_SUPB (d n : Nat) : Nat := cd d + 0x10000 + 0x1000 * n + 0x114
abbrev LANE_TILE_RXERR (d n : Nat) : Nat := cd d + 0x10000 + 0x1000 * n + 0x118
abbrev LANE_TILE_UPERR (d n : Nat) : Nat := cd d + 0x10000 + 0x1000 * n + 0x11C
abbrev LANE_TILE_CMDCNT (d n : Nat) : Nat := cd d + 0x10000 + 0x1000 * n + 0x120
abbrev LANE_TILE_AGE (d n : Nat) : Nat := cd d + 0x10000 + 0x1000 * n + 0x124
abbrev LANE_TILE_FLT_STAT (d n : Nat) : Nat := cd d + 0x10000 + 0x1000 * n + 0x130
abbrev LANE_TILE_FLT_EN (d n : Nat) : Nat := cd d + 0x10000 + 0x1000 * n + 0x134
abbrev LANE_TILE_FLT_CAUSE (d n : Nat) : Nat := cd d + 0x10000 + 0x1000 * n + 0x138
abbrev LANE_OPENMAP (d n i : Nat) : Nat := cd d + 0x10000 + 0x1000 * n + 0x400 + 0x4 * i
abbrev LANE_SHORTMAP (d n i : Nat) : Nat := cd d + 0x10000 + 0x1000 * n + 0x600 + 0x4 * i
/-! Table 8-9. -/
abbrev LANE_IN_BUFA (d n : Nat) : Nat := cd d + 0x10000 + 0x1000 * n + 0x200
abbrev LANE_IN_BUFB (d n : Nat) : Nat := cd d + 0x10000 + 0x1000 * n + 0x204
abbrev LANE_IN_BUFC (d n : Nat) : Nat := cd d + 0x10000 + 0x1000 * n + 0x208
abbrev LANE_IN_GEOM (d n : Nat) : Nat := cd d + 0x10000 + 0x1000 * n + 0x20C
abbrev LANE_IN_CFG (d n : Nat) : Nat := cd d + 0x10000 + 0x1000 * n + 0x210
abbrev LANE_IN_MAP (d n : Nat) : Nat := cd d + 0x10000 + 0x1000 * n + 0x214
abbrev LANE_IN_STAT (d n : Nat) : Nat := cd d + 0x10000 + 0x1000 * n + 0x218
abbrev LANE_IN_FRMCNT (d n : Nat) : Nat := cd d + 0x10000 + 0x1000 * n + 0x21C
abbrev LANE_IN_SUPER (d n : Nat) : Nat := cd d + 0x10000 + 0x1000 * n + 0x220
abbrev LANE_IN_FLT_STAT (d n : Nat) : Nat := cd d + 0x10000 + 0x1000 * n + 0x230
abbrev LANE_IN_FLT_EN (d n : Nat) : Nat := cd d + 0x10000 + 0x1000 * n + 0x234
abbrev LANE_IN_FLT_CAUSE (d n : Nat) : Nat := cd d + 0x10000 + 0x1000 * n + 0x238
/-! Table 9-9. -/
abbrev DRC_STAT (d : Nat) : Nat := cd d + 0x80000 + 0x0
abbrev DRC_HM_CTRL (d : Nat) : Nat := cd d + 0x80000 + 0x4
abbrev DRC_HM_WIN (d : Nat) : Nat := cd d + 0x80000 + 0x8
abbrev DRC_DEMAND (d : Nat) : Nat := cd d + 0x80000 + 0xC
abbrev DRC_SCHED (d : Nat) : Nat := cd d + 0x80000 + 0x10
abbrev DRC_REF_CFG (d : Nat) : Nat := cd d + 0x80000 + 0x14
abbrev DRC_RH_CFG (d : Nat) : Nat := cd d + 0x80000 + 0x18
abbrev DRC_QOS_TGT (d i : Nat) : Nat := cd d + 0x80000 + 0x20 + 0x4 * i
abbrev DRC_PORT_STAT (d i : Nat) : Nat := cd d + 0x80000 + 0x40 + 0x4 * i
abbrev DRC_PORT_ESC (d i : Nat) : Nat := cd d + 0x80000 + 0x60 + 0x4 * i
abbrev DRC_CH_STAT (d i : Nat) : Nat := cd d + 0x80000 + 0x80 + 0x20 * i
abbrev DRC_REF_CNT (d i : Nat) : Nat := cd d + 0x80000 + 0x84 + 0x20 * i
abbrev DRC_RH_CNT (d i : Nat) : Nat := cd d + 0x80000 + 0x88 + 0x20 * i
abbrev DRC_ECC_CNT (d i : Nat) : Nat := cd d + 0x80000 + 0x8C + 0x20 * i
abbrev DRC_TRAIN_STAT (d i : Nat) : Nat := cd d + 0x80000 + 0x90 + 0x20 * i
abbrev DRC_FLT_STAT (d : Nat) : Nat := cd d + 0x80000 + 0xC0
abbrev DRC_FLT_EN (d : Nat) : Nat := cd d + 0x80000 + 0xC4
abbrev DRC_FLT_CAUSE (d : Nat) : Nat := cd d + 0x80000 + 0xC8
/-! Table 10-9. -/
abbrev BST_CTRL (h : Nat) : Nat := hv h + 0x0
abbrev BST_CFG (h : Nat) : Nat := hv h + 0x4
abbrev BST_STAT (h : Nat) : Nat := hv h + 0x8
abbrev BST_NEEDY (h : Nat) : Nat := hv h + 0xC
abbrev BST_PCAP (h : Nat) : Nat := hv h + 0x10
abbrev BST_SCALE (h : Nat) : Nat := hv h + 0x14
abbrev BST_VIN (h : Nat) : Nat := hv h + 0x18
abbrev BST_FLT_STAT (h : Nat) : Nat := hv h + 0x20
abbrev BST_FLT_EN (h : Nat) : Nat := hv h + 0x24
abbrev BST_FLT_CAUSE (h : Nat) : Nat := hv h + 0x28
abbrev BST_PWM_PER (h i : Nat) : Nat := hv h + 0x40 + 0x4 * i
/-! Table 10-10. -/
abbrev CH_CFG (c : Nat) : Nat := hv (c / 64) + 0x10000 + 0x40 * (c % 64) + 0x0
abbrev CH_ISET (c : Nat) : Nat := hv (c / 64) + 0x10000 + 0x40 * (c % 64) + 0x4
abbrev CH_DUTY (c : Nat) : Nat := hv (c / 64) + 0x10000 + 0x40 * (c % 64) + 0x8
abbrev CH_SAFE (c : Nat) : Nat := hv (c / 64) + 0x10000 + 0x40 * (c % 64) + 0xC
abbrev CH_STAT (c : Nat) : Nat := hv (c / 64) + 0x10000 + 0x40 * (c % 64) + 0x10
abbrev CH_MEAS (c : Nat) : Nat := hv (c / 64) + 0x10000 + 0x40 * (c % 64) + 0x14
abbrev CH_MXFLT (c : Nat) : Nat := hv (c / 64) + 0x10000 + 0x40 * (c % 64) + 0x18
abbrev CH_CNT (c : Nat) : Nat := hv (c / 64) + 0x10000 + 0x40 * (c % 64) + 0x1C
abbrev CH_FLT_STAT (c : Nat) : Nat := hv (c / 64) + 0x10000 + 0x40 * (c % 64) + 0x20
abbrev CH_FLT_EN (c : Nat) : Nat := hv (c / 64) + 0x10000 + 0x40 * (c % 64) + 0x24
abbrev CH_FLT_CAUSE (c : Nat) : Nat := hv (c / 64) + 0x10000 + 0x40 * (c % 64) + 0x28
/-! Table 10-11. -/
abbrev BST_MX_CFG (h i : Nat) : Nat := hv h + 0x20000 + 0x0 + 0x10 * i
abbrev BST_MX_TIME (h i : Nat) : Nat := hv h + 0x20000 + 0x4 + 0x10 * i
abbrev BST_MX_SYNC (h i : Nat) : Nat := hv h + 0x20000 + 0x8 + 0x10 * i
abbrev BST_MX_STAT (h i : Nat) : Nat := hv h + 0x20000 + 0xC + 0x10 * i
abbrev BST_MX_SWAP (h : Nat) : Nat := hv h + 0x20000 + 0x100
abbrev BST_MX_FLT_STAT (h : Nat) : Nat := hv h + 0x20000 + 0x110
abbrev BST_MX_FLT_EN (h : Nat) : Nat := hv h + 0x20000 + 0x114
abbrev BST_MX_FLT_CAUSE (h : Nat) : Nat := hv h + 0x20000 + 0x118
abbrev BST_MX_BACK (h i : Nat) : Nat := hv h + 0x20000 + 0x1000 + 0x4 * i
/-! Table 10-12. -/
abbrev BST_LINK_STAT (h : Nat) : Nat := hv h + 0x30000 + 0x0
abbrev BST_LINK_CNT0 (h : Nat) : Nat := hv h + 0x30000 + 0x4
abbrev BST_LINK_CNT1 (h : Nat) : Nat := hv h + 0x30000 + 0x8
abbrev BST_LINK_SWITCH (h : Nat) : Nat := hv h + 0x30000 + 0xC
abbrev BST_LINK_FLT_STAT (h : Nat) : Nat := hv h + 0x30000 + 0x10
abbrev BST_LINK_FLT_EN (h : Nat) : Nat := hv h + 0x30000 + 0x14
abbrev BST_LINK_FLT_CAUSE (h : Nat) : Nat := hv h + 0x30000 + 0x18
/-! Table 11-9. -/
abbrev CAL_CFG (d : Nat) : Nat := cd d + 0x60000 + 0x1000
abbrev CAL_SLOT (d : Nat) : Nat := cd d + 0x60000 + 0x1004
abbrev CAL_LIMITS (d : Nat) : Nat := cd d + 0x60000 + 0x1008
abbrev CAL_CMD (d : Nat) : Nat := cd d + 0x60000 + 0x100C
abbrev CAL_CMD_STAT (d : Nat) : Nat := cd d + 0x60000 + 0x1010
abbrev CAL_REFSRC (d : Nat) : Nat := cd d + 0x60000 + 0x1014
abbrev CAL_TSTAT (d i : Nat) : Nat := cd d + 0x60000 + 0x1020 + 0x20 * i
abbrev CAL_TQ (d i : Nat) : Nat := cd d + 0x60000 + 0x1024 + 0x20 * i
abbrev CAL_TTEMP (d i : Nat) : Nat := cd d + 0x60000 + 0x1028 + 0x20 * i
abbrev CAL_TCNT (d i : Nat) : Nat := cd d + 0x60000 + 0x102C + 0x20 * i
abbrev CAL_ALTBASE (d i : Nat) : Nat := cd d + 0x60000 + 0x1030 + 0x20 * i
abbrev CAL_IMPL_IDX (d : Nat) : Nat := cd d + 0x60000 + 0x1200
abbrev CAL_IMPL_DATA (d : Nat) : Nat := cd d + 0x60000 + 0x1204
abbrev CAL_FLT_STAT (d : Nat) : Nat := cd d + 0x60000 + 0x1240
abbrev CAL_FLT_EN (d : Nat) : Nat := cd d + 0x60000 + 0x1244
abbrev CAL_FLT_CAUSE (d : Nat) : Nat := cd d + 0x60000 + 0x1248
/-! Table 11-11. -/
abbrev VSP_TRIM_STAT : Nat := 0x5000
abbrev VSP_TRIM_FLT_STAT : Nat := 0x5010
abbrev VSP_TRIM_FLT_EN : Nat := 0x5014
abbrev VSP_TRIM_FLT_CAUSE : Nat := 0x5018
/-! Table 12-5. -/
abbrev THM_CFG (d : Nat) : Nat := cd d + 0xC0000 + 0x0
abbrev THM_STAT (d : Nat) : Nat := cd d + 0xC0000 + 0x4
abbrev THM_REQ (d : Nat) : Nat := cd d + 0xC0000 + 0x8
abbrev THM_HOT (d : Nat) : Nat := cd d + 0xC0000 + 0xC
abbrev THM_LIMITS (d : Nat) : Nat := cd d + 0xC0000 + 0x10
abbrev THM_TLIMITS (d : Nat) : Nat := cd d + 0xC0000 + 0x14
abbrev THM_FASTSEL (d i : Nat) : Nat := cd d + 0xC0000 + 0x20 + 0x4 * i
abbrev THM_FLT_STAT (d : Nat) : Nat := cd d + 0xC0000 + 0x40
abbrev THM_FLT_EN (d : Nat) : Nat := cd d + 0xC0000 + 0x44
abbrev THM_FLT_CAUSE (d : Nat) : Nat := cd d + 0xC0000 + 0x48
abbrev THM_SENS (d i : Nat) : Nat := cd d + 0xC0000 + 0x100 + 0x4 * i
abbrev THM_TILE (d i : Nat) : Nat := cd d + 0xC0000 + 0x400 + 0x4 * i
abbrev THM_COMP (d i : Nat) : Nat := cd d + 0xC0000 + 0x480 + 0x4 * i
/-! Table 12-7. -/
abbrev VSP_HK (i : Nat) : Nat := 0x6000 + 0x4 * i
abbrev VSP_HK_ROUNDS : Nat := 0x6060
/-! Table 13-3. -/
abbrev CRC_CTRL (d u : Nat) : Nat := cd d + 0xA0000 + 0x100 * u + 0x0
abbrev CRC_CMD (d u : Nat) : Nat := cd d + 0xA0000 + 0x100 * u + 0x4
abbrev CRC_DATA8 (d u : Nat) : Nat := cd d + 0xA0000 + 0x100 * u + 0x8
abbrev CRC_DATA16 (d u : Nat) : Nat := cd d + 0xA0000 + 0x100 * u + 0xC
abbrev CRC_DATA32 (d u : Nat) : Nat := cd d + 0xA0000 + 0x100 * u + 0x10
abbrev CRC_VALUE (d u : Nat) : Nat := cd d + 0xA0000 + 0x100 * u + 0x14
abbrev CRC_RESULT (d u : Nat) : Nat := cd d + 0xA0000 + 0x100 * u + 0x18
abbrev CRC_EXP (d u : Nat) : Nat := cd d + 0xA0000 + 0x100 * u + 0x1C
abbrev CRC_CNT (d u : Nat) : Nat := cd d + 0xA0000 + 0x100 * u + 0x20
abbrev CRC_WINX (d u : Nat) : Nat := cd d + 0xA0000 + 0x100 * u + 0x24
abbrev CRC_WINY (d u : Nat) : Nat := cd d + 0xA0000 + 0x100 * u + 0x28
abbrev CRC_ADDRLO (d u : Nat) : Nat := cd d + 0xA0000 + 0x100 * u + 0x2C
abbrev CRC_ADDRHI (d u : Nat) : Nat := cd d + 0xA0000 + 0x100 * u + 0x30
abbrev CRC_STAT (d u : Nat) : Nat := cd d + 0xA0000 + 0x100 * u + 0x34
abbrev CRC_CMPCNT (d u : Nat) : Nat := cd d + 0xA0000 + 0x100 * u + 0x38
abbrev CRC_FLT_STAT (d u : Nat) : Nat := cd d + 0xA0000 + 0x100 * u + 0x40
abbrev CRC_FLT_EN (d u : Nat) : Nat := cd d + 0xA0000 + 0x100 * u + 0x44
abbrev CRC_FLT_CAUSE (d u : Nat) : Nat := cd d + 0xA0000 + 0x100 * u + 0x48
/-! Table 14-8. -/
abbrev BIST_CTRL (d : Nat) : Nat := cd d + 0xB0000 + 0x0
abbrev BIST_STAT (d : Nat) : Nat := cd d + 0xB0000 + 0x4
abbrev BIST_CMD (d : Nat) : Nat := cd d + 0xB0000 + 0x8
abbrev BIST_RES (d : Nat) : Nat := cd d + 0xB0000 + 0xC
abbrev BIST_RESCNT (d : Nat) : Nat := cd d + 0xB0000 + 0x10
abbrev BIST_CYC_STAT (d : Nat) : Nat := cd d + 0xB0000 + 0x14
abbrev BIST_CQ_CNT (d : Nat) : Nat := cd d + 0xB0000 + 0x18
abbrev BIST_CQ_PTR (d : Nat) : Nat := cd d + 0xB0000 + 0x1C
abbrev BIST_FLT_STAT (d : Nat) : Nat := cd d + 0xB0000 + 0x40
abbrev BIST_FLT_EN (d : Nat) : Nat := cd d + 0xB0000 + 0x44
abbrev BIST_FLT_CAUSE (d : Nat) : Nat := cd d + 0xB0000 + 0x48
abbrev BIST_HELD (d i : Nat) : Nat := cd d + 0xB0000 + 0x100 + 0x4 * i
abbrev BIST_CQ_LOG (d i : Nat) : Nat := cd d + 0xB0000 + 0x140 + 0x4 * i
/-! Table 14-9. -/
abbrev VSP_FLT_SUM0 : Nat := 0x7000
abbrev VSP_FLT_SUM1 : Nat := 0x7004
abbrev VSP_EVT_MASK0 : Nat := 0x7008
abbrev VSP_EVT_MASK1 : Nat := 0x700C
abbrev VSP_EVT_HOLD : Nat := 0x7010
abbrev VSP_PIN_STAT : Nat := 0x7014
abbrev VSP_DISP_CH (i : Nat) : Nat := 0x7020 + 0x4 * i
/-! Table 15-12. -/
abbrev PZP_PCIE_STAT : Nat := cd 0 + 0xE0000 + 0x0
abbrev PZP_PCIE_ERR : Nat := cd 0 + 0xE0000 + 0x4
abbrev PZP_DMA_CTRL (i : Nat) : Nat := cd 0 + 0xE0000 + 0x100 + 0x10 * i
abbrev PZP_DMA_TAIL (i : Nat) : Nat := cd 0 + 0xE0000 + 0x104 + 0x10 * i
abbrev PZP_DMA_HEAD (i : Nat) : Nat := cd 0 + 0xE0000 + 0x108 + 0x10 * i
abbrev PZP_DMA_CNT (i : Nat) : Nat := cd 0 + 0xE0000 + 0x10C + 0x10 * i
abbrev PZP_CAN_STAT (i : Nat) : Nat := cd 0 + 0xE0000 + 0x200 + 0x10 * i
abbrev PZP_CAN_CNT (i : Nat) : Nat := cd 0 + 0xE0000 + 0x204 + 0x10 * i
abbrev PZP_SESS_STAT : Nat := cd 0 + 0xE0000 + 0x300
abbrev PZP_NACK_SUP : Nat := cd 0 + 0xE0000 + 0x304
abbrev PZP_HOST_SET : Nat := cd 0 + 0xE0000 + 0x308
abbrev PZP_HOST_RES : Nat := cd 0 + 0xE0000 + 0x30C
abbrev PZP_FLT_STAT : Nat := cd 0 + 0xE0000 + 0x340
abbrev PZP_FLT_EN : Nat := cd 0 + 0xE0000 + 0x344
abbrev PZP_FLT_CAUSE : Nat := cd 0 + 0xE0000 + 0x348
abbrev PZP_ZONE (i : Nat) : Nat := cd 0 + 0xE0000 + 0x2000 + 0x4 * i
/-! Table 15-13. -/
abbrev VSP_SPI_CFG : Nat := 0x8000
abbrev VSP_SPI_STAT : Nat := 0x8004
abbrev VSP_SPI_CNT : Nat := 0x8008
/-! Table 16-9. -/
abbrev VSP_PWR_STAT : Nat := 0x0
abbrev VSP_PWR_CMD : Nat := 0x4
abbrev VSP_PWR_CFG : Nat := 0x8
abbrev VSP_WAKE_TMR : Nat := 0xC
abbrev VSP_KEEP : Nat := 0x10
abbrev VSP_WAKE_CAUSE : Nat := 0x14
abbrev VSP_START_TIME : Nat := 0x18
abbrev VSP_PWR_FLT_STAT : Nat := 0x40
abbrev VSP_PWR_FLT_EN : Nat := 0x44
abbrev VSP_PWR_FLT_CAUSE : Nat := 0x48
/-! Table 16-11. -/
abbrev SEC_STAT : Nat := 0x3C00000
abbrev SEC_CMD : Nat := 0x3C00004
abbrev SEC_CMD_STAT : Nat := 0x3C00008
abbrev SEC_NONCE : Nat := 0x3C0000C
abbrev SEC_SLOTS : Nat := 0x3C00010
abbrev SEC_POLICY : Nat := 0x3C00014
abbrev SEC_KS_STAT : Nat := 0x3C00018
abbrev SEC_TAMP_LAST : Nat := 0x3C0001C
abbrev SEC_FLT_STAT : Nat := 0x3C00040
abbrev SEC_FLT_EN : Nat := 0x3C00044
abbrev SEC_FLT_CAUSE : Nat := 0x3C00048
/-! Table 17-11. -/
abbrev FAB_DIE_ID (d : Nat) : Nat := cd d + 0x0
abbrev FAB_DIE_STAT (d : Nat) : Nat := cd d + 0x4
abbrev FAB_DIE_FLT_STAT (d : Nat) : Nat := cd d + 0x40
abbrev FAB_DIE_FLT_EN (d : Nat) : Nat := cd d + 0x44
abbrev FAB_DIE_FLT_CAUSE (d : Nat) : Nat := cd d + 0x48
/-! Table 17-12. -/
abbrev FAB_BRG_STAT (d : Nat) : Nat := cd d + 0xD0000 + 0x0
abbrev FAB_BRG_CNT (d i : Nat) : Nat := cd d + 0xD0000 + 0x4 + 0x4 * i
abbrev FAB_BRG_FLT_STAT (d : Nat) : Nat := cd d + 0xD0000 + 0x40
abbrev FAB_BRG_FLT_EN (d : Nat) : Nat := cd d + 0xD0000 + 0x44
abbrev FAB_BRG_FLT_CAUSE (d : Nat) : Nat := cd d + 0xD0000 + 0x48

/-- The fault registers of the vesper die's supervisor and status channels (cluster 19 of Table 14-1), which the register
tables do not place: held outside the 64 MiB of BAR0, so no access reaches them. DESIGN CHOICE, log entry 14. -/
abbrev VSP_LINK_FLT_STAT : Nat := 0x4000000
abbrev VSP_LINK_FLT_EN : Nat := 0x4000004
abbrev VSP_LINK_FLT_CAUSE : Nat := 0x4000008

end Reg

/-- Access codes of Table 0-6. -/
inductive Acc where
  | rw | ro | wo | w1c | rws
deriving DecidableEq, Repr

/-- One row of a register table: `count` registers `stride` bytes apart from `off` on, with the implemented bits `mask`
(the others are reserved, R11), the Reset value `reset + step * index`, whether the image loads it (R12), and whether it is
frame-scoped (R136). -/
structure RegBlock where
  off : Nat
  stride : Nat
  count : Nat
  acc : Acc
  mask : Nat
  reset : Nat
  step : Nat
  image : Bool
  frame : Bool
deriving DecidableEq, Repr

def powerRegs : List RegBlock := [
  ⟨0x0, 4, 1, .ro, 0x3FF0F07, 0x1, 0x0, false, false⟩,  -- VSP_PWR_STAT
  ⟨0x4, 4, 1, .wo, 0x7, 0x0, 0x0, false, false⟩,  -- VSP_PWR_CMD
  ⟨0x8, 4, 1, .rws, 0xFFF, 0x714, 0x0, false, false⟩,  -- VSP_PWR_CFG
  ⟨0xC, 4, 1, .rws, 0xFFFFFFFF, 0x0, 0x0, false, false⟩,  -- VSP_WAKE_TMR
  ⟨0x10, 4, 1, .rw, 0x1, 0x0, 0x0, false, false⟩,  -- VSP_KEEP
  ⟨0x14, 4, 1, .ro, 0x3F, 0x0, 0x0, false, false⟩,  -- VSP_WAKE_CAUSE
  ⟨0x18, 4, 1, .ro, 0xFFFF, 0x0, 0x0, false, false⟩,  -- VSP_START_TIME
  ⟨0x40, 4, 1, .w1c, 0x3F, 0x0, 0x0, false, false⟩,  -- VSP_PWR_FLT_STAT
  ⟨0x44, 4, 1, .rw, 0x3F, 0x3F, 0x0, false, false⟩,  -- VSP_PWR_FLT_EN
  ⟨0x48, 4, 1, .ro, 0x3F, 0x0, 0x0, false, false⟩  -- VSP_PWR_FLT_CAUSE
]

def imgRegs : List RegBlock := [
  ⟨0x0, 4, 1, .ro, 0xF, 0x0, 0x0, false, false⟩,  -- VSP_IMG_STAT
  ⟨0x4, 4, 1, .ro, 0xFFFFFFFF, 0x0, 0x0, false, false⟩,  -- VSP_IMG_SECVER
  ⟨0x8, 4, 1, .ro, 0xFFFFFFFF, 0x0, 0x0, false, false⟩,  -- VSP_IMG_BUILD
  ⟨0xC, 4, 1, .ro, 0xFFFF0007, 0x0, 0x0, false, false⟩,  -- VSP_IMG_BOOTSEL
  ⟨0x10, 4, 1, .wo, 0x7, 0x0, 0x0, false, false⟩,  -- VSP_IMG_UPD_CTRL
  ⟨0x14, 4, 1, .ro, 0x3FFF7, 0x0, 0x0, false, false⟩,  -- VSP_IMG_UPD_STAT
  ⟨0x18, 4, 1, .rw, 0xFFFFFFFF, 0x0, 0x0, false, false⟩,  -- VSP_IMG_UPD_LEN
  ⟨0x1C, 4, 1, .ro, 0xF, 0x0, 0x0, false, false⟩,  -- VSP_IMG_FAIL_A
  ⟨0x20, 4, 1, .ro, 0xF, 0x0, 0x0, false, false⟩,  -- VSP_IMG_FAIL_B
  ⟨0x24, 4, 1, .ro, 0xFFFFFFFF, 0x0, 0x0, false, false⟩,  -- VSP_IMG_OEM_LEN
  ⟨0x28, 4, 1, .ro, 0xF, 0x0, 0x0, false, false⟩,  -- VSP_IMG_FAIL_R
  ⟨0x30, 4, 1, .w1c, 0x3F, 0x0, 0x0, false, false⟩,  -- VSP_IMG_FLT_STAT
  ⟨0x34, 4, 1, .rw, 0x3F, 0x3F, 0x0, false, false⟩,  -- VSP_IMG_FLT_EN
  ⟨0x38, 4, 1, .ro, 0x3F, 0x0, 0x0, false, false⟩  -- VSP_IMG_FLT_CAUSE
]

def trimRegs : List RegBlock := [
  ⟨0x0, 4, 1, .ro, 0x1F, 0x0, 0x0, false, false⟩,  -- VSP_TRIM_STAT
  ⟨0x10, 4, 1, .w1c, 0x1F, 0x0, 0x0, false, false⟩,  -- VSP_TRIM_FLT_STAT
  ⟨0x14, 4, 1, .rw, 0x1F, 0x1F, 0x0, false, false⟩,  -- VSP_TRIM_FLT_EN
  ⟨0x18, 4, 1, .ro, 0x1F, 0x0, 0x0, false, false⟩  -- VSP_TRIM_FLT_CAUSE
]

def hkRegs : List RegBlock := [
  ⟨0x0, 4, 24, .ro, 0xFFFF, 0x0, 0x0, false, false⟩,  -- VSP_HK
  ⟨0x60, 4, 1, .ro, 0xFFFFFFFF, 0x0, 0x0, false, false⟩  -- VSP_HK_ROUNDS
]

def pinsRegs : List RegBlock := [
  ⟨0x0, 4, 1, .ro, 0x7FFF7FFF, 0x0, 0x0, false, false⟩,  -- VSP_FLT_SUM0
  ⟨0x4, 4, 1, .ro, 0x1F7F7F, 0x0, 0x0, false, false⟩,  -- VSP_FLT_SUM1
  ⟨0x8, 4, 1, .rw, 0x7FFF7FFF, 0x7FFF7FFF, 0x0, false, false⟩,  -- VSP_EVT_MASK0
  ⟨0xC, 4, 1, .rw, 0x1F7F7F, 0x1F7F7F, 0x0, false, false⟩,  -- VSP_EVT_MASK1
  ⟨0x10, 4, 1, .rw, 0x3, 0x0, 0x0, false, false⟩,  -- VSP_EVT_HOLD
  ⟨0x14, 4, 1, .ro, 0xF, 0x0, 0x0, false, false⟩,  -- VSP_PIN_STAT
  ⟨0x20, 4, 4, .ro, 0xFFFFFFFF, 0x0, 0x0, false, false⟩  -- VSP_DISP_CH
]

def spiRegs : List RegBlock := [
  ⟨0x0, 4, 1, .ro, 0xFF03, 0x0, 0x0, true, false⟩,  -- VSP_SPI_CFG
  ⟨0x4, 4, 1, .ro, 0xFF03, 0x0, 0x0, false, false⟩,  -- VSP_SPI_STAT
  ⟨0x8, 4, 1, .ro, 0xFFFFFFFF, 0x0, 0x0, false, false⟩  -- VSP_SPI_CNT
]

def secRegs : List RegBlock := [
  ⟨0x0, 4, 1, .ro, 0x7F07, 0x0, 0x0, false, false⟩,  -- SEC_STAT
  ⟨0x4, 4, 1, .wo, 0x707, 0x0, 0x0, false, false⟩,  -- SEC_CMD
  ⟨0x8, 4, 1, .ro, 0x7, 0x0, 0x0, false, false⟩,  -- SEC_CMD_STAT
  ⟨0xC, 4, 1, .ro, 0xFFFFFFFF, 0x0, 0x0, false, false⟩,  -- SEC_NONCE
  ⟨0x10, 4, 1, .ro, 0xFFFF, 0x1, 0x0, false, false⟩,  -- SEC_SLOTS
  ⟨0x14, 4, 1, .ro, 0x3FF, 0x0, 0x0, false, false⟩,  -- SEC_POLICY
  ⟨0x18, 4, 1, .ro, 0xFFFF, 0x0, 0x0, false, false⟩,  -- SEC_KS_STAT
  ⟨0x1C, 4, 1, .ro, 0xFFFF0037, 0x0, 0x0, false, false⟩,  -- SEC_TAMP_LAST
  ⟨0x40, 4, 1, .w1c, 0xFF, 0x0, 0x0, false, false⟩,  -- SEC_FLT_STAT
  ⟨0x44, 4, 1, .rw, 0xFF, 0xFF, 0x0, false, false⟩,  -- SEC_FLT_EN
  ⟨0x48, 4, 1, .ro, 0xFF, 0x0, 0x0, false, false⟩  -- SEC_FLT_CAUSE
]

def dieRegs : List RegBlock := [
  ⟨0x0, 4, 1, .ro, 0xFFFFFF01, 0x72160100, 0x0, false, false⟩,  -- FAB_DIE_ID
  ⟨0x4, 4, 1, .ro, 0x7, 0x0, 0x0, false, false⟩,  -- FAB_DIE_STAT
  ⟨0x40, 4, 1, .w1c, 0x7, 0x0, 0x0, false, false⟩,  -- FAB_DIE_FLT_STAT
  ⟨0x44, 4, 1, .rw, 0x7, 0x7, 0x0, false, false⟩,  -- FAB_DIE_FLT_EN
  ⟨0x48, 4, 1, .ro, 0x7, 0x0, 0x0, false, false⟩  -- FAB_DIE_FLT_CAUSE
]

def quadRegs : List RegBlock := [
  ⟨0x0, 4, 1, .ro, 0x7, 0x0, 0x0, false, false⟩,  -- LANE_Q_STAT
  ⟨0x4, 4, 1, .ro, 0xFFFFFFFF, 0x0, 0x0, false, false⟩,  -- LANE_Q_UNLOCK
  ⟨0x10, 4, 1, .w1c, 0x3, 0x0, 0x0, false, false⟩,  -- LANE_Q_FLT_STAT
  ⟨0x14, 4, 1, .rw, 0x3, 0x3, 0x0, false, false⟩,  -- LANE_Q_FLT_EN
  ⟨0x18, 4, 1, .ro, 0x3, 0x0, 0x0, false, false⟩  -- LANE_Q_FLT_CAUSE
]

/-- The registers of every lane (Table 7-9 on). -/
def laneRegs : List RegBlock := [
  ⟨0x0, 4, 1, .ro, 0x7F7F, 0x0, 0x0, true, false⟩,  -- LANE_CFG
  ⟨0x4, 4, 1, .wo, 0x7, 0x0, 0x0, false, false⟩,  -- LANE_CMD
  ⟨0x8, 4, 1, .ro, 0x3F7, 0x0, 0x0, false, false⟩,  -- LANE_STAT
  ⟨0xC, 4, 1, .ro, 0xFF, 0x0, 0x0, false, false⟩,  -- LANE_CAUSE
  ⟨0x10, 4, 1, .ro, 0xFF07FFF7, 0x0, 0x0, false, false⟩,  -- LANE_EQ
  ⟨0x14, 4, 1, .ro, 0xFFFFFFFF, 0x0, 0x0, false, false⟩,  -- LANE_SYMERR
  ⟨0x18, 4, 1, .ro, 0xFFFF, 0x0, 0x0, false, false⟩,  -- LANE_LOSSCNT
  ⟨0x1C, 4, 1, .ro, 0xFFFFFFFF, 0x0, 0x0, false, false⟩,  -- LANE_DROPCNT
  ⟨0x20, 4, 1, .ro, 0xFFFFFFFF, 0x0, 0x0, false, false⟩,  -- LANE_RMCNT
  ⟨0x24, 4, 1, .ro, 0xFFFF000F, 0x0, 0x0, false, false⟩,  -- LANE_RETRY
  ⟨0x30, 4, 1, .rw, 0x1, 0x0, 0x0, false, false⟩,  -- LANE_ALIGN_CTRL
  ⟨0x34, 4, 1, .wo, 0x10F, 0x0, 0x0, false, false⟩,  -- LANE_SLIP
  ⟨0x38, 4, 1, .ro, 0xFFF1, 0xF0, 0x0, false, false⟩,  -- LANE_ALIGN_STAT
  ⟨0x3C, 4, 1, .ro, 0xFFFFF, 0x0, 0x0, false, false⟩,  -- LANE_RAW
  ⟨0x40, 4, 1, .rw, 0x33, 0x0, 0x0, false, false⟩,  -- LANE_LB_CTRL
  ⟨0x44, 4, 1, .rw, 0xFFFFFFFF, 0x0, 0x0, false, false⟩,  -- LANE_LB_USER
  ⟨0x48, 4, 1, .ro, 0xF, 0x0, 0x0, false, false⟩,  -- LANE_LB_STAT
  ⟨0x4C, 4, 1, .ro, 0xFFFFFFFF, 0x0, 0x0, false, false⟩,  -- LANE_LB_ERR
  ⟨0x60, 4, 1, .rw, 0xF7F3F, 0x0, 0x0, false, false⟩,  -- LANE_ESCAN_CTRL
  ⟨0x64, 4, 1, .wo, 0x1, 0x0, 0x0, false, false⟩,  -- LANE_ESCAN_GO
  ⟨0x68, 4, 1, .ro, 0x7, 0x0, 0x0, false, false⟩,  -- LANE_ESCAN_STAT
  ⟨0x6C, 4, 1, .ro, 0xFFFFFFFF, 0x0, 0x0, false, false⟩,  -- LANE_ESCAN_ERR
  ⟨0x70, 4, 1, .ro, 0x7FFFFF, 0x0, 0x0, false, false⟩,  -- LANE_ESCAN_BITS
  ⟨0x80, 4, 1, .w1c, 0x1F, 0x0, 0x0, false, false⟩,  -- LANE_FLT_STAT
  ⟨0x84, 4, 1, .rw, 0x1F, 0x1F, 0x0, false, false⟩,  -- LANE_FLT_EN
  ⟨0x88, 4, 1, .ro, 0x1F, 0x0, 0x0, false, false⟩  -- LANE_FLT_CAUSE
]

/-- The registers of a tile lane. -/
def tileLaneRegs : List RegBlock := [
  ⟨0x100, 4, 1, .ro, 0xFFFF1F77, 0x0, 0x0, false, false⟩,  -- LANE_TILE_STAT
  ⟨0x104, 4, 1, .ro, 0xFFFFFFFF, 0x0, 0x0, false, false⟩,  -- LANE_TILE_ID
  ⟨0x108, 4, 1, .ro, 0xFFFFFFFF, 0x80008000, 0x0, false, false⟩,  -- LANE_TILE_TEMPA
  ⟨0x10C, 4, 1, .ro, 0xFFFFFFFF, 0x80008000, 0x0, false, false⟩,  -- LANE_TILE_TEMPB
  ⟨0x110, 4, 1, .ro, 0xFFFFFFFF, 0xFFFFFFFF, 0x0, false, false⟩,  -- LANE_TILE_SUPA
  ⟨0x114, 4, 1, .ro, 0xFFFFFFFF, 0xFFFFFFFF, 0x0, false, false⟩,  -- LANE_TILE_SUPB
  ⟨0x118, 4, 1, .ro, 0xFFFFFFFF, 0x0, 0x0, false, false⟩,  -- LANE_TILE_RXERR
  ⟨0x11C, 4, 1, .ro, 0xFFFFFFFF, 0x0, 0x0, false, false⟩,  -- LANE_TILE_UPERR
  ⟨0x120, 4, 1, .ro, 0xFFFFFFFF, 0x0, 0x0, false, false⟩,  -- LANE_TILE_CMDCNT
  ⟨0x124, 4, 1, .ro, 0xFFFF00FF, 0xFF, 0x0, false, false⟩,  -- LANE_TILE_AGE
  ⟨0x130, 4, 1, .w1c, 0x7F, 0x0, 0x0, false, false⟩,  -- LANE_TILE_FLT_STAT
  ⟨0x134, 4, 1, .rw, 0x7F, 0x7F, 0x0, false, false⟩,  -- LANE_TILE_FLT_EN
  ⟨0x138, 4, 1, .ro, 0x7F, 0x0, 0x0, false, false⟩,  -- LANE_TILE_FLT_CAUSE
  ⟨0x400, 4, 128, .ro, 0xFFFFFFFF, 0x0, 0x0, false, false⟩,  -- LANE_OPENMAP
  ⟨0x600, 4, 128, .ro, 0xFFFFFFFF, 0x0, 0x0, false, false⟩  -- LANE_SHORTMAP
]

/-- The registers of an input lane. -/
def inLaneRegs : List RegBlock := [
  ⟨0x200, 4, 1, .rw, 0xFFFFFFC0, 0x0, 0x0, false, false⟩,  -- LANE_IN_BUFA
  ⟨0x204, 4, 1, .rw, 0xFFFFFFC0, 0x0, 0x0, false, false⟩,  -- LANE_IN_BUFB
  ⟨0x208, 4, 1, .rw, 0xFFFFFFC0, 0x0, 0x0, false, false⟩,  -- LANE_IN_BUFC
  ⟨0x20C, 4, 1, .rw, 0x1FFF1FFF, 0x0, 0x0, false, false⟩,  -- LANE_IN_GEOM
  ⟨0x210, 4, 1, .rw, 0xFFFFFF01, 0x0, 0x0, false, false⟩,  -- LANE_IN_CFG
  ⟨0x214, 4, 1, .ro, 0xFFF, 0x0, 0x0, true, false⟩,  -- LANE_IN_MAP
  ⟨0x218, 4, 1, .ro, 0xFFFF7FFF, 0x0, 0x0, false, false⟩,  -- LANE_IN_STAT
  ⟨0x21C, 4, 1, .ro, 0xFFFFFFFF, 0x0, 0x0, false, false⟩,  -- LANE_IN_FRMCNT
  ⟨0x220, 4, 1, .ro, 0xFFFFFFFF, 0x0, 0x0, false, false⟩,  -- LANE_IN_SUPER
  ⟨0x230, 4, 1, .w1c, 0xF, 0x0, 0x0, false, false⟩,  -- LANE_IN_FLT_STAT
  ⟨0x234, 4, 1, .rw, 0xF, 0xE, 0x0, false, false⟩,  -- LANE_IN_FLT_EN
  ⟨0x238, 4, 1, .ro, 0xF, 0x0, 0x0, false, false⟩  -- LANE_IN_FLT_CAUSE
]

def timRegs : List RegBlock := [
  ⟨0x0, 4, 1, .rw, 0xFFFFFF, 0x0, 0x0, true, true⟩,  -- HEAD_TLINE
  ⟨0x4, 4, 1, .rw, 0x3FFF, 0x0, 0x0, true, true⟩,  -- HEAD_TTOTAL
  ⟨0x8, 4, 1, .ro, 0x73FFF, 0x0, 0x0, true, false⟩,  -- HEAD_TACT
  ⟨0xC, 4, 1, .rw, 0x1, 0x0, 0x0, false, false⟩,  -- HEAD_TCTRL
  ⟨0x10, 4, 1, .ro, 0x773FFF, 0x0, 0x0, false, false⟩,  -- HEAD_TSTAT
  ⟨0x14, 4, 1, .ro, 0xFFFFFFFF, 0x0, 0x0, false, false⟩,  -- HEAD_FRAME
  ⟨0x18, 4, 1, .ro, 0x3FFF3FFF, 0x0, 0x0, true, false⟩,  -- HEAD_TPOINTS
  ⟨0x1C, 4, 1, .ro, 0xFFF, 0x0, 0x0, true, false⟩,  -- HEAD_BG
  ⟨0x20, 4, 1, .w1c, 0x7F, 0x0, 0x0, false, false⟩,  -- HEAD_TINT_STAT
  ⟨0x24, 4, 1, .rw, 0x7F, 0x0, 0x0, false, false⟩,  -- HEAD_TINT_EN
  ⟨0x28, 4, 1, .ro, 0xFFFFFFFF, 0x0, 0x0, false, false⟩,  -- HEAD_URCNT
  ⟨0x2C, 4, 1, .ro, 0x1FFF00F7, 0x0, 0x0, false, false⟩,  -- HEAD_URWHERE
  ⟨0x30, 4, 1, .ro, 0xFFFFFFFF, 0x0, 0x0, false, false⟩,  -- HEAD_SKEW
  ⟨0x34, 4, 1, .ro, 0xFFFFFF, 0x0, 0x0, false, false⟩,  -- HEAD_RELOCK
  ⟨0x40, 4, 1, .w1c, 0x1F, 0x0, 0x0, false, false⟩,  -- HEAD_TG_FLT_STAT
  ⟨0x44, 4, 1, .rw, 0x1F, 0x1F, 0x0, false, false⟩,  -- HEAD_TG_FLT_EN
  ⟨0x48, 4, 1, .ro, 0x1F, 0x0, 0x0, false, false⟩  -- HEAD_TG_FLT_CAUSE
]

def lbRegs : List RegBlock := [
  ⟨0x800, 4, 1, .rw, 0xF, 0x4, 0x0, false, false⟩,  -- HEAD_LB_CFG
  ⟨0x810, 4, 8, .ro, 0x31F1F, 0x10, 0x0, false, false⟩  -- HEAD_LB_STAT
]

def compRegs : List RegBlock := [
  ⟨0x0, 4, 1, .wo, 0x1, 0x0, 0x0, false, false⟩,  -- HEAD_GEN_COMMIT
  ⟨0x4, 4, 1, .ro, 0xF0FF0003, 0x0, 0x0, false, false⟩,  -- HEAD_GEN_STAT
  ⟨0x8, 4, 1, .ro, 0xFFFFFFFF, 0x0, 0x0, false, false⟩,  -- HEAD_GEN_NEWEST
  ⟨0xC, 4, 1, .ro, 0xFFFFFFFF, 0x0, 0x0, false, false⟩,  -- HEAD_GEN_TAG
  ⟨0x10, 4, 1, .ro, 0xFFFFFFFF, 0x0, 0x0, false, false⟩,  -- HEAD_GEN_INUSE
  ⟨0x14, 4, 1, .ro, 0xFFFFFFFF, 0x0, 0x0, false, false⟩,  -- HEAD_GEN_FIRST
  ⟨0x18, 4, 1, .ro, 0xFFFFFFFF, 0x0, 0x0, false, false⟩,  -- HEAD_GEN_LAST
  ⟨0x1C, 4, 1, .ro, 0xFFFFFFFF, 0x0, 0x0, false, false⟩,  -- HEAD_GEN_SUPER
  ⟨0x20, 4, 1, .ro, 0xFC70FFFF, 0x0, 0x0, false, false⟩,  -- HEAD_BIN_OVER
  ⟨0x24, 4, 1, .ro, 0xF, 0x0, 0x0, true, false⟩,  -- HEAD_CMP_CFG
  ⟨0x28, 4, 1, .ro, 0x77777777, 0x0, 0x0, true, false⟩,  -- HEAD_LAYER_TYPE
  ⟨0x2C, 4, 1, .ro, 0x77777777, 0x0, 0x0, true, false⟩,  -- HEAD_LAYER_OP
  ⟨0x40, 4, 1, .w1c, 0x7, 0x0, 0x0, false, false⟩,  -- HEAD_CMP_FLT_STAT
  ⟨0x44, 4, 1, .rw, 0x7, 0x7, 0x0, false, false⟩,  -- HEAD_CMP_FLT_EN
  ⟨0x48, 4, 1, .ro, 0x7, 0x0, 0x0, false, false⟩  -- HEAD_CMP_FLT_CAUSE
]

def rasRegs : List RegBlock := [
  ⟨0x8400, 4, 8, .rw, 0xFFFFFFC0, 0x0, 0x0, false, true⟩,  -- HEAD_RAS_BASE
  ⟨0x8420, 4, 8, .rw, 0xFFFFFF03, 0x0, 0x0, false, true⟩  -- HEAD_RAS_CFG
]

def pipesRegs : List RegBlock := [
  ⟨0x9000, 4, 1, .ro, 0xF, 0xF, 0x0, false, false⟩,  -- FAB_PIPE_STAT
  ⟨0x9004, 4, 1, .ro, 0xFFFF, 0x0, 0x0, true, false⟩,  -- FAB_LOAD
  ⟨0x9008, 4, 1, .ro, 0xFFFFFFFF, 0x0, 0x0, false, false⟩,  -- FAB_LATE
  ⟨0x9010, 4, 1, .w1c, 0x1F, 0x0, 0x0, false, false⟩,  -- FAB_PIPE_FLT_STAT
  ⟨0x9014, 4, 1, .rw, 0x1F, 0x1F, 0x0, false, false⟩,  -- FAB_PIPE_FLT_EN
  ⟨0x9018, 4, 1, .ro, 0x1F, 0x0, 0x0, false, false⟩  -- FAB_PIPE_FLT_CAUSE
]

def warpRegs : List RegBlock := [
  ⟨0x0, 4, 1, .rw, 0xFFFFFFC0, 0x0, 0x0, false, true⟩,  -- HEAD_WARP_BASE
  ⟨0x4, 4, 1, .rw, 0x3B, 0x0, 0x0, false, true⟩,  -- HEAD_WARP_CFG
  ⟨0x8, 4, 1, .ro, 0x33, 0x0, 0x0, false, false⟩,  -- HEAD_WARP_STAT
  ⟨0xC, 4, 1, .ro, 0xFFFFFFFF, 0x0, 0x0, false, false⟩,  -- HEAD_WARP_CRC
  ⟨0x20, 4, 1, .wo, 0xFFFFFFFF, 0x0, 0x0, false, false⟩,  -- HEAD_CORR_HOST
  ⟨0x24, 4, 1, .rw, 0xFFFF001F, 0x0, 0x0, true, true⟩,  -- HEAD_CORR_CFG
  ⟨0x28, 4, 1, .rw, 0xFFFFFFFF, 0x0, 0x0, false, true⟩,  -- HEAD_CORR_REF
  ⟨0x2C, 4, 1, .rw, 0xFFFF00FF, 0x23C0005, 0x0, false, false⟩,  -- HEAD_CORR_LIMITS
  ⟨0x30, 4, 1, .ro, 0xFFFFF, 0x0, 0x0, true, false⟩,  -- HEAD_CORR_KP
  ⟨0x34, 4, 1, .ro, 0xFFFFFFFF, 0x0, 0x0, true, false⟩,  -- HEAD_CORR_CX
  ⟨0x38, 4, 1, .ro, 0xFFFFFFFF, 0x0, 0x0, true, false⟩,  -- HEAD_CORR_CY
  ⟨0x3C, 4, 1, .ro, 0xFFFFFFFF, 0x1081657, 0x0, false, false⟩,  -- HEAD_CORR_LIM
  ⟨0x40, 4, 1, .ro, 0xFFFFFFFF, 0x0, 0x0, false, false⟩,  -- HEAD_CORR_NOW
  ⟨0x44, 4, 1, .ro, 0xFFFFFFFF, 0x0, 0x0, false, false⟩,  -- HEAD_CORR_REFNOW
  ⟨0x48, 4, 1, .ro, 0xFFFFFFFF, 0x0, 0x0, false, false⟩,  -- HEAD_CORR_CNT
  ⟨0x50, 4, 1, .w1c, 0x7F, 0x0, 0x0, false, false⟩,  -- HEAD_WARP_FLT_STAT
  ⟨0x54, 4, 1, .rw, 0x7F, 0x7F, 0x0, false, false⟩,  -- HEAD_WARP_FLT_EN
  ⟨0x58, 4, 1, .ro, 0x7F, 0x0, 0x0, false, false⟩  -- HEAD_WARP_FLT_CAUSE
]

def rasdimRegs : List RegBlock := [
  ⟨0xA400, 4, 8, .rw, 0xFFFFFFFF, 0x0, 0x0, false, true⟩  -- HEAD_WARP_RASDIM
]

def imuRegs : List RegBlock := [
  ⟨0xC000, 4, 1, .rw, 0xFFFF003D, 0x2710000, 0x0, false, false⟩,  -- HEAD_IMU_CTRL
  ⟨0xC004, 4, 1, .ro, 0xF7, 0x0, 0x0, false, false⟩,  -- HEAD_IMU_STAT
  ⟨0xC008, 4, 1, .rw, 0xFFFFFFFF, 0x0, 0x0, false, false⟩,  -- HEAD_IMU_SCALEP
  ⟨0xC00C, 4, 1, .rw, 0xFFFFFFFF, 0x0, 0x0, false, false⟩,  -- HEAD_IMU_SCALER
  ⟨0xC010, 4, 1, .rw, 0xFFFF, 0x0, 0x0, false, false⟩,  -- HEAD_IMU_LAT
  ⟨0xC014, 4, 1, .ro, 0xFFFFFFFF, 0x0, 0x0, false, false⟩,  -- HEAD_IMU_LAST
  ⟨0xC018, 4, 1, .ro, 0xFFFFFFFF, 0x0, 0x0, false, false⟩,  -- HEAD_IMU_TIME
  ⟨0xC01C, 4, 1, .ro, 0xFFFFFFFF, 0x0, 0x0, false, false⟩,  -- HEAD_IMU_CNT
  ⟨0xC020, 4, 1, .w1c, 0xF, 0x0, 0x0, false, false⟩,  -- HEAD_IMU_FLT_STAT
  ⟨0xC024, 4, 1, .rw, 0xF, 0xF, 0x0, false, false⟩,  -- HEAD_IMU_FLT_EN
  ⟨0xC028, 4, 1, .ro, 0xF, 0x0, 0x0, false, false⟩,  -- HEAD_IMU_FLT_CAUSE
  ⟨0xC040, 4, 32, .rw, 0xFFFFFFFF, 0x0, 0x0, false, false⟩,  -- HEAD_IMU_OP
  ⟨0xC100, 4, 8, .ro, 0xFFFFFFFF, 0x0, 0x0, false, false⟩  -- HEAD_IMU_CAP
]

def fabRegs : List RegBlock := [
  ⟨0xE000, 4, 1, .ro, 0x77F7F, 0x0, 0x0, false, false⟩,  -- FAB_STAT
  ⟨0xE004, 4, 1, .rw, 0xF1F, 0x0, 0x0, false, false⟩,  -- FAB_RB_CTRL
  ⟨0xE008, 4, 1, .ro, 0x31FF, 0x0, 0x0, false, false⟩,  -- FAB_RB_STAT
  ⟨0xE00C, 4, 1, .ro, 0xFFFFFFFF, 0x0, 0x0, false, false⟩,  -- FAB_RB_SWAPFRM
  ⟨0xE010, 4, 1, .ro, 0xFFFFFFFF, 0x0, 0x0, false, false⟩,  -- FAB_COLFAIL0
  ⟨0xE014, 4, 1, .ro, 0xFFFFFFFF, 0x0, 0x0, false, false⟩,  -- FAB_COLFAIL1
  ⟨0xE020, 4, 8, .ro, 0xFFFFFFFF, 0x0, 0x0, true, false⟩,  -- FAB_HMAP
  ⟨0xE040, 4, 1, .w1c, 0x7, 0x0, 0x0, false, false⟩,  -- FAB_FLT_STAT
  ⟨0xE044, 4, 1, .rw, 0x7, 0x7, 0x0, false, false⟩,  -- FAB_FLT_EN
  ⟨0xE048, 4, 1, .ro, 0x7, 0x0, 0x0, false, false⟩  -- FAB_FLT_CAUSE
]

def phoRegs : List RegBlock := [
  ⟨0x0, 32, 8, .rw, 0xFFFFFFC0, 0x78000000, 0x200000, false, true⟩,  -- PHO_COEF_BASE
  ⟨0x4, 32, 8, .rw, 0x3, 0x1, 0x0, false, true⟩,  -- PHO_TILE_CFG
  ⟨0x8, 32, 8, .ro, 0x1FF, 0x0, 0x0, false, false⟩,  -- PHO_TILE_TEMP
  ⟨0xC, 32, 8, .ro, 0xFFFFFFFF, 0x0, 0x0, false, false⟩,  -- PHO_TILE_CNT
  ⟨0x200, 4, 64, .rw, 0xFFFFFFF, 0x0, 0x0, true, false⟩,  -- PHO_DRT
  ⟨0x400, 16, 64, .rw, 0x1FFF1FFF, 0x0, 0x0, true, false⟩,  -- PHO_CEIL_X
  ⟨0x404, 16, 64, .rw, 0x1FFF1FFF, 0x0, 0x0, true, false⟩,  -- PHO_CEIL_Y
  ⟨0x408, 16, 64, .rw, 0x113FFFF, 0x0, 0x0, true, false⟩,  -- PHO_CEIL_CTL
  ⟨0x800, 4, 1, .rw, 0xFFFF, 0x0, 0x0, true, false⟩,  -- PHO_BUDGET
  ⟨0x804, 4, 1, .ro, 0x171FFF, 0x1000, 0x0, false, false⟩,  -- PHO_BUDGET_STAT
  ⟨0x808, 4, 1, .ro, 0xFFFFFFFF, 0x0, 0x0, false, false⟩,  -- PHO_DEMAND
  ⟨0x810, 4, 4, .ro, 0xFFFF, 0x0, 0x0, false, false⟩,  -- PHO_HSUM
  ⟨0x840, 4, 1, .w1c, 0x3F, 0x0, 0x0, false, false⟩,  -- PHO_FLT_STAT
  ⟨0x844, 4, 1, .rw, 0x3F, 0x3F, 0x0, false, false⟩,  -- PHO_FLT_EN
  ⟨0x848, 4, 1, .ro, 0x3F, 0x0, 0x0, false, false⟩,  -- PHO_FLT_CAUSE
  ⟨0x84C, 4, 1, .ro, 0x1FF0007, 0x0, 0x0, false, false⟩,  -- PHO_FLT_WHERE
  ⟨0x1000, 4, 1, .rw, 0x31F, 0x108, 0x0, false, false⟩,  -- CAL_CFG
  ⟨0x1004, 4, 1, .rw, 0xFFFFFFF, 0x8003C28, 0x0, false, false⟩,  -- CAL_SLOT
  ⟨0x1008, 4, 1, .rw, 0xFFFFFFF, 0x2660020, 0x0, false, false⟩,  -- CAL_LIMITS
  ⟨0x100C, 4, 1, .wo, 0x1FFFF07, 0x0, 0x0, false, false⟩,  -- CAL_CMD
  ⟨0x1010, 4, 1, .ro, 0x7, 0x0, 0x0, false, false⟩,  -- CAL_CMD_STAT
  ⟨0x1014, 4, 1, .rw, 0xFFFFFFC0, 0x0, 0x0, false, false⟩,  -- CAL_REFSRC
  ⟨0x1020, 32, 8, .ro, 0xFF3FF6C7, 0x0, 0x0, false, false⟩,  -- CAL_TSTAT
  ⟨0x1024, 32, 8, .ro, 0xFFFFFFFF, 0xFFFFFFFF, 0x0, false, false⟩,  -- CAL_TQ
  ⟨0x1028, 32, 8, .ro, 0xFFFFFFFF, 0x0, 0x0, false, false⟩,  -- CAL_TTEMP
  ⟨0x102C, 32, 8, .ro, 0xFFFFFFFF, 0x0, 0x0, false, false⟩,  -- CAL_TCNT
  ⟨0x1030, 32, 8, .rw, 0xFFFFFFC0, 0x79000000, 0x200000, false, false⟩,  -- CAL_ALTBASE
  ⟨0x1200, 4, 1, .rw, 0x7FF0007, 0x0, 0x0, false, false⟩,  -- CAL_IMPL_IDX
  ⟨0x1204, 4, 1, .ro, 0xF1FF01FF, 0x0, 0x0, false, false⟩,  -- CAL_IMPL_DATA
  ⟨0x1240, 4, 1, .w1c, 0x7F, 0x0, 0x0, false, false⟩,  -- CAL_FLT_STAT
  ⟨0x1244, 4, 1, .rw, 0x7F, 0x7F, 0x0, false, false⟩,  -- CAL_FLT_EN
  ⟨0x1248, 4, 1, .ro, 0x7F, 0x0, 0x0, false, false⟩  -- CAL_FLT_CAUSE
]

def drcRegs : List RegBlock := [
  ⟨0x0, 4, 1, .ro, 0x3F, 0x0, 0x0, false, false⟩,  -- DRC_STAT
  ⟨0x4, 4, 1, .wo, 0x1, 0x0, 0x0, false, false⟩,  -- DRC_HM_CTRL
  ⟨0x8, 4, 1, .ro, 0xFFF0FFF, 0x0, 0x0, true, false⟩,  -- DRC_HM_WIN
  ⟨0xC, 4, 1, .ro, 0xFFFFFFFF, 0x0, 0x0, true, false⟩,  -- DRC_DEMAND
  ⟨0x10, 4, 1, .rw, 0xFFFF7F, 0x102010, 0x0, false, false⟩,  -- DRC_SCHED
  ⟨0x14, 4, 1, .rw, 0x30F, 0x208, 0x0, false, false⟩,  -- DRC_REF_CFG
  ⟨0x18, 4, 1, .rw, 0x1FFFF, 0x1000, 0x0, false, false⟩,  -- DRC_RH_CFG
  ⟨0x20, 4, 7, .rw, 0xFFFFFF, 0x0, 0x0, true, false⟩,  -- DRC_QOS_TGT
  ⟨0x40, 4, 7, .ro, 0xFFFFFF03, 0x0, 0x0, false, false⟩,  -- DRC_PORT_STAT
  ⟨0x60, 4, 7, .ro, 0xFFFFFFFF, 0x0, 0x0, false, false⟩,  -- DRC_PORT_ESC
  ⟨0x80, 32, 2, .ro, 0xFFFF37, 0x0, 0x0, false, false⟩,  -- DRC_CH_STAT
  ⟨0x84, 32, 2, .ro, 0xFFFFFFFF, 0x0, 0x0, false, false⟩,  -- DRC_REF_CNT
  ⟨0x88, 32, 2, .ro, 0xFFFFFFFF, 0x0, 0x0, false, false⟩,  -- DRC_RH_CNT
  ⟨0x8C, 32, 2, .ro, 0xFFFFFFFF, 0x0, 0x0, false, false⟩,  -- DRC_ECC_CNT
  ⟨0x90, 32, 2, .ro, 0x37, 0x0, 0x0, false, false⟩,  -- DRC_TRAIN_STAT
  ⟨0xC0, 4, 1, .w1c, 0x7FF, 0x0, 0x0, false, false⟩,  -- DRC_FLT_STAT
  ⟨0xC4, 4, 1, .rw, 0x7FF, 0x6FF, 0x0, false, false⟩,  -- DRC_FLT_EN
  ⟨0xC8, 4, 1, .ro, 0x7FF, 0x0, 0x0, false, false⟩  -- DRC_FLT_CAUSE
]

def crcRegs : List RegBlock := [
  ⟨0x0, 4, 1, .rw, 0xF7F77, 0x0, 0x0, false, false⟩,  -- CRC_CTRL
  ⟨0x4, 4, 1, .wo, 0x7, 0x0, 0x0, false, false⟩,  -- CRC_CMD
  ⟨0x8, 4, 1, .wo, 0xFF, 0x0, 0x0, false, false⟩,  -- CRC_DATA8
  ⟨0xC, 4, 1, .wo, 0xFFFF, 0x0, 0x0, false, false⟩,  -- CRC_DATA16
  ⟨0x10, 4, 1, .wo, 0xFFFFFFFF, 0x0, 0x0, false, false⟩,  -- CRC_DATA32
  ⟨0x14, 4, 1, .rw, 0xFFFFFFFF, 0xFFFFFFFF, 0x0, false, false⟩,  -- CRC_VALUE
  ⟨0x18, 4, 1, .ro, 0xFFFFFFFF, 0x0, 0x0, false, false⟩,  -- CRC_RESULT
  ⟨0x1C, 4, 1, .rw, 0xFFFFFFFF, 0x0, 0x0, false, false⟩,  -- CRC_EXP
  ⟨0x20, 4, 1, .ro, 0xFFFFFFFF, 0x0, 0x0, false, false⟩,  -- CRC_CNT
  ⟨0x24, 4, 1, .rw, 0x1FF01FF, 0x0, 0x0, false, false⟩,  -- CRC_WINX
  ⟨0x28, 4, 1, .rw, 0x1FF01FF, 0x0, 0x0, false, false⟩,  -- CRC_WINY
  ⟨0x2C, 4, 1, .rw, 0xFFFFFFFF, 0x0, 0x0, false, false⟩,  -- CRC_ADDRLO
  ⟨0x30, 4, 1, .rw, 0xFFFFFFFF, 0x0, 0x0, false, false⟩,  -- CRC_ADDRHI
  ⟨0x34, 4, 1, .ro, 0xFFFFFF0F, 0x0, 0x0, false, false⟩,  -- CRC_STAT
  ⟨0x38, 4, 1, .ro, 0xFFFFFFFF, 0x0, 0x0, false, false⟩,  -- CRC_CMPCNT
  ⟨0x40, 4, 1, .w1c, 0x3, 0x0, 0x0, false, false⟩,  -- CRC_FLT_STAT
  ⟨0x44, 4, 1, .rw, 0x3, 0x3, 0x0, false, false⟩,  -- CRC_FLT_EN
  ⟨0x48, 4, 1, .ro, 0x3, 0x0, 0x0, false, false⟩  -- CRC_FLT_CAUSE
]

def bistRegs : List RegBlock := [
  ⟨0x0, 4, 1, .rw, 0xFFFFFF01, 0x643201, 0x0, false, false⟩,  -- BIST_CTRL
  ⟨0x4, 4, 1, .ro, 0xFFFF0003, 0x0, 0x0, false, false⟩,  -- BIST_STAT
  ⟨0x8, 4, 1, .wo, 0xFFFF0003, 0x0, 0x0, false, false⟩,  -- BIST_CMD
  ⟨0xC, 4, 1, .ro, 0xFFFF007F, 0x3, 0x0, false, false⟩,  -- BIST_RES
  ⟨0x10, 4, 1, .ro, 0xFFFFFFFF, 0x0, 0x0, false, false⟩,  -- BIST_RESCNT
  ⟨0x14, 4, 1, .ro, 0xFFFFFF, 0x0, 0x0, false, false⟩,  -- BIST_CYC_STAT
  ⟨0x18, 4, 1, .ro, 0xFFFFFFFF, 0x0, 0x0, false, false⟩,  -- BIST_CQ_CNT
  ⟨0x1C, 4, 1, .ro, 0xF, 0x0, 0x0, false, false⟩,  -- BIST_CQ_PTR
  ⟨0x40, 4, 1, .w1c, 0x1F, 0x0, 0x0, false, false⟩,  -- BIST_FLT_STAT
  ⟨0x44, 4, 1, .rw, 0x1F, 0xF, 0x0, false, false⟩,  -- BIST_FLT_EN
  ⟨0x48, 4, 1, .ro, 0x1F, 0x0, 0x0, false, false⟩,  -- BIST_FLT_CAUSE
  ⟨0x100, 4, 16, .ro, 0x3FFFF, 0x0, 0x0, false, false⟩,  -- BIST_HELD
  ⟨0x140, 4, 16, .ro, 0xFFFFFFFF, 0x0, 0x0, false, false⟩  -- BIST_CQ_LOG
]

def thmRegs : List RegBlock := [
  ⟨0x0, 4, 1, .rw, 0xFF03FF, 0x140196, 0x0, false, false⟩,  -- THM_CFG
  ⟨0x4, 4, 1, .ro, 0xFFF77, 0x80000, 0x0, false, false⟩,  -- THM_STAT
  ⟨0x8, 4, 1, .ro, 0xFFFF001F, 0x0, 0x0, false, false⟩,  -- THM_REQ
  ⟨0xC, 4, 1, .ro, 0xFFFFFF, 0x0, 0x0, false, false⟩,  -- THM_HOT
  ⟨0x10, 4, 1, .ro, 0xFFFFFF, 0x877873, 0x0, false, false⟩,  -- THM_LIMITS
  ⟨0x14, 4, 1, .ro, 0xFFFFFF, 0x0, 0x0, true, false⟩,  -- THM_TLIMITS
  ⟨0x20, 4, 4, .rw, 0xFFFFFFFF, 0x0, 0x0, false, false⟩,  -- THM_FASTSEL
  ⟨0x40, 4, 1, .w1c, 0x1FF, 0x0, 0x0, false, false⟩,  -- THM_FLT_STAT
  ⟨0x44, 4, 1, .rw, 0x1FF, 0x1FF, 0x0, false, false⟩,  -- THM_FLT_EN
  ⟨0x48, 4, 1, .ro, 0x1FF, 0x0, 0x0, false, false⟩,  -- THM_FLT_CAUSE
  ⟨0x100, 4, 128, .ro, 0x1F1FFFFF, 0x0, 0x0, false, false⟩,  -- THM_SENS
  ⟨0x400, 4, 16, .ro, 0x7FFFF, 0x0, 0x0, false, false⟩,  -- THM_TILE
  ⟨0x480, 4, 5, .ro, 0x7FFFFF, 0x0, 0x0, false, false⟩  -- THM_COMP
]

def brgRegs : List RegBlock := [
  ⟨0x0, 4, 1, .ro, 0xF, 0x0, 0x0, false, false⟩,  -- FAB_BRG_STAT
  ⟨0x4, 4, 4, .ro, 0xFFFFFFFF, 0x0, 0x0, false, false⟩,  -- FAB_BRG_CNT
  ⟨0x40, 4, 1, .w1c, 0x1F, 0x0, 0x0, false, false⟩,  -- FAB_BRG_FLT_STAT
  ⟨0x44, 4, 1, .rw, 0x1F, 0x1F, 0x0, false, false⟩,  -- FAB_BRG_FLT_EN
  ⟨0x48, 4, 1, .ro, 0x1F, 0x0, 0x0, false, false⟩  -- FAB_BRG_FLT_CAUSE
]

def pzpRegs : List RegBlock := [
  ⟨0x0, 4, 1, .ro, 0x3F, 0x0, 0x0, false, false⟩,  -- PZP_PCIE_STAT
  ⟨0x4, 4, 1, .ro, 0xFFFFFFFF, 0x0, 0x0, false, false⟩,  -- PZP_PCIE_ERR
  ⟨0x100, 16, 8, .rw, 0x1, 0x0, 0x0, false, false⟩,  -- PZP_DMA_CTRL
  ⟨0x104, 16, 8, .rw, 0xFF, 0x0, 0x0, false, false⟩,  -- PZP_DMA_TAIL
  ⟨0x108, 16, 8, .ro, 0xFF, 0x0, 0x0, false, false⟩,  -- PZP_DMA_HEAD
  ⟨0x10C, 16, 8, .ro, 0xFFFFFFFF, 0x0, 0x0, false, false⟩,  -- PZP_DMA_CNT
  ⟨0x200, 16, 2, .ro, 0xFFFF07FF, 0x0, 0x0, false, false⟩,  -- PZP_CAN_STAT
  ⟨0x204, 16, 2, .ro, 0xFFFFFFFF, 0x0, 0x0, false, false⟩,  -- PZP_CAN_CNT
  ⟨0x300, 4, 1, .ro, 0x3FFF07FF, 0x0, 0x0, false, false⟩,  -- PZP_SESS_STAT
  ⟨0x304, 4, 1, .ro, 0xFFFFFFFF, 0x0, 0x0, false, false⟩,  -- PZP_NACK_SUP
  ⟨0x308, 4, 1, .wo, 0x7FF07FF, 0x0, 0x0, false, false⟩,  -- PZP_HOST_SET
  ⟨0x30C, 4, 1, .ro, 0xF, 0x0, 0x0, false, false⟩,  -- PZP_HOST_RES
  ⟨0x340, 4, 1, .w1c, 0x1FF, 0x0, 0x0, false, false⟩,  -- PZP_FLT_STAT
  ⟨0x344, 4, 1, .rw, 0x1FF, 0x1FF, 0x0, false, false⟩,  -- PZP_FLT_EN
  ⟨0x348, 4, 1, .ro, 0x1FF, 0x0, 0x0, false, false⟩,  -- PZP_FLT_CAUSE
  ⟨0x2000, 4, 2048, .ro, 0x7FF1FFF, 0x700, 0x0, false, false⟩  -- PZP_ZONE
]

def bstRegs : List RegBlock := [
  ⟨0x0, 4, 1, .rw, 0x1, 0x0, 0x0, false, false⟩,  -- BST_CTRL
  ⟨0x4, 4, 1, .ro, 0xFFFFFF, 0x0, 0x0, true, false⟩,  -- BST_CFG
  ⟨0x8, 4, 1, .ro, 0x7FF3FFF, 0x0, 0x0, false, false⟩,  -- BST_STAT
  ⟨0xC, 4, 1, .ro, 0xFFFF003F, 0x0, 0x0, false, false⟩,  -- BST_NEEDY
  ⟨0x10, 4, 1, .rw, 0xFFF, 0x0, 0x0, true, false⟩,  -- BST_PCAP
  ⟨0x14, 4, 1, .ro, 0x71FFF, 0x1000, 0x0, false, false⟩,  -- BST_SCALE
  ⟨0x18, 4, 1, .ro, 0x7FF, 0x0, 0x0, false, false⟩,  -- BST_VIN
  ⟨0x20, 4, 1, .w1c, 0x3F, 0x0, 0x0, false, false⟩,  -- BST_FLT_STAT
  ⟨0x24, 4, 1, .rw, 0x3F, 0x3F, 0x0, false, false⟩,  -- BST_FLT_EN
  ⟨0x28, 4, 1, .ro, 0x3F, 0x0, 0x0, false, false⟩,  -- BST_FLT_CAUSE
  ⟨0x40, 4, 4, .rw, 0xFFFFF, 0x0, 0x0, true, false⟩  -- BST_PWM_PER
]

def chRegs : List RegBlock := [
  ⟨0x0, 4, 1, .ro, 0xFFFFF3F3, 0x0, 0x0, true, false⟩,  -- CH_CFG
  ⟨0x4, 4, 1, .rw, 0xFFF, 0x0, 0x0, false, false⟩,  -- CH_ISET
  ⟨0x8, 4, 1, .rw, 0xFFFF, 0x0, 0x0, false, false⟩,  -- CH_DUTY
  ⟨0xC, 4, 1, .ro, 0xFFFF0FFF, 0x0, 0x0, true, false⟩,  -- CH_SAFE
  ⟨0x10, 4, 1, .ro, 0xFFFFFF0F, 0x0, 0x0, false, false⟩,  -- CH_STAT
  ⟨0x14, 4, 1, .ro, 0xFFFF0FFF, 0x0, 0x0, false, false⟩,  -- CH_MEAS
  ⟨0x18, 4, 1, .ro, 0xFFFF, 0x0, 0x0, false, false⟩,  -- CH_MXFLT
  ⟨0x1C, 4, 1, .ro, 0xFFFFFFFF, 0x0, 0x0, false, false⟩,  -- CH_CNT
  ⟨0x20, 4, 1, .w1c, 0x3F, 0x0, 0x0, false, false⟩,  -- CH_FLT_STAT
  ⟨0x24, 4, 1, .rw, 0x3F, 0x3F, 0x0, false, false⟩,  -- CH_FLT_EN
  ⟨0x28, 4, 1, .ro, 0x3F, 0x0, 0x0, false, false⟩  -- CH_FLT_CAUSE
]

def mxRegs : List RegBlock := [
  ⟨0x0, 16, 8, .ro, 0xF77F3F, 0x0, 0x0, true, false⟩,  -- BST_MX_CFG
  ⟨0x4, 16, 8, .rw, 0xFFFFFFF, 0x0, 0x0, true, false⟩,  -- BST_MX_TIME
  ⟨0x8, 16, 8, .rw, 0x3, 0x0, 0x0, true, false⟩,  -- BST_MX_SYNC
  ⟨0xC, 16, 8, .ro, 0x707, 0x0, 0x0, false, false⟩,  -- BST_MX_STAT
  ⟨0x100, 4, 1, .wo, 0xFF, 0x0, 0x0, false, false⟩,  -- BST_MX_SWAP
  ⟨0x110, 4, 1, .w1c, 0xFFFF, 0x0, 0x0, false, false⟩,  -- BST_MX_FLT_STAT
  ⟨0x114, 4, 1, .rw, 0xFFFF, 0xFFFF, 0x0, false, false⟩,  -- BST_MX_FLT_EN
  ⟨0x118, 4, 1, .ro, 0xFFFF, 0x0, 0x0, false, false⟩,  -- BST_MX_FLT_CAUSE
  ⟨0x1000, 4, 512, .rw, 0xFFFFFFF, 0x0, 0x0, false, false⟩  -- BST_MX_BACK
]

def linkRegs : List RegBlock := [
  ⟨0x0, 4, 1, .ro, 0xF, 0x0, 0x0, false, false⟩,  -- BST_LINK_STAT
  ⟨0x4, 4, 1, .ro, 0xFFFFFFFF, 0x0, 0x0, false, false⟩,  -- BST_LINK_CNT0
  ⟨0x8, 4, 1, .ro, 0xFFFFFFFF, 0x0, 0x0, false, false⟩,  -- BST_LINK_CNT1
  ⟨0xC, 4, 1, .ro, 0xFFFFFFFF, 0x0, 0x0, false, false⟩,  -- BST_LINK_SWITCH
  ⟨0x10, 4, 1, .w1c, 0x7, 0x0, 0x0, false, false⟩,  -- BST_LINK_FLT_STAT
  ⟨0x14, 4, 1, .rw, 0x7, 0x7, 0x0, false, false⟩,  -- BST_LINK_FLT_EN
  ⟨0x18, 4, 1, .ro, 0x7, 0x0, 0x0, false, false⟩  -- BST_LINK_FLT_CAUSE
]

/-- Base address and register table of the unit that holds address `a` (R383), where some unit does. -/
def regUnit (a : Nat) : Option (Nat × List RegBlock) :=
  if a < 0x1000000 then
    if a < 0x4000 then some (0, powerRegs)
    else if a < 0x5000 then some (0x4000, imgRegs)
    else if a < 0x6000 then some (0x5000, trimRegs)
    else if a < 0x7000 then some (0x6000, hkRegs)
    else if a < 0x8000 then some (0x7000, pinsRegs)
    else if a < 0x9000 then some (0x8000, spiRegs)
    else none
  else if a < 0x3000000 then
    let w := a / 0x1000000 * 0x1000000
    let o := a % 0x1000000
    if o < 0x10000 then some (w, dieRegs)
    else if o < 0x1A000 then
      let n := o / 0x1000 - 0x10
      some (w + o / 0x1000 * 0x1000, laneRegs ++ if n < 8 then tileLaneRegs else inLaneRegs)
    else if 0x1C000 ≤ o ∧ o < 0x1C300 then some (w + o / 0x100 * 0x100, quadRegs)
    else if 0x40000 ≤ o ∧ o < 0x40400 then some (w + o / 0x100 * 0x100, timRegs)
    else if 0x40800 ≤ o ∧ o < 0x40900 then some (w + 0x40000, lbRegs)
    else if 0x48000 ≤ o ∧ o < 0x48400 then some (w + o / 0x100 * 0x100, compRegs)
    else if 0x48400 ≤ o ∧ o < 0x48500 then some (w + 0x40000, rasRegs)
    else if 0x49000 ≤ o ∧ o < 0x49100 then some (w + 0x40000, pipesRegs)
    else if 0x4A000 ≤ o ∧ o < 0x4A400 then some (w + o / 0x100 * 0x100, warpRegs)
    else if 0x4A400 ≤ o ∧ o < 0x4A500 then some (w + 0x40000, rasdimRegs)
    else if 0x4C000 ≤ o ∧ o < 0x4C200 then (if w = 0x1000000 then some (w + 0x40000, imuRegs) else none)
    else if 0x4E000 ≤ o ∧ o < 0x4E100 then some (w + 0x40000, fabRegs)
    else if 0x60000 ≤ o ∧ o < 0x62000 then some (w + 0x60000, phoRegs)
    else if 0x80000 ≤ o ∧ o < 0x80100 then some (w + 0x80000, drcRegs)
    else if 0xA0000 ≤ o ∧ o < 0xA0800 then some (w + o / 0x100 * 0x100, crcRegs)
    else if 0xB0000 ≤ o ∧ o < 0xB0200 then some (w + 0xB0000, bistRegs)
    else if 0xC0000 ≤ o ∧ o < 0xC0500 then some (w + 0xC0000, thmRegs)
    else if 0xD0000 ≤ o ∧ o < 0xD0100 then some (w + 0xD0000, brgRegs)
    else if 0xE0000 ≤ o ∧ o < 0xE4000 then (if w = 0x1000000 then some (w + 0xE0000, pzpRegs) else none)
    else none
  else if a < 0x3800000 then
    let w := a / 0x400000 * 0x400000
    let o := a % 0x400000
    if o < 0x10000 then some (w, bstRegs)
    else if o < 0x11000 then some (w + o / 0x40 * 0x40, chRegs)
    else if 0x20000 ≤ o ∧ o < 0x22000 then some (w + 0x20000, mxRegs)
    else if 0x30000 ≤ o ∧ o < 0x30100 then some (w + 0x30000, linkRegs)
    else none
  else if 0x3C00000 ≤ a ∧ a < 0x3C01000 then some (0x3C00000, secRegs)
  else none

/-- The block and the index within it of the register at offset `o` of a unit. -/
def findBlock : List RegBlock → Nat → Option (RegBlock × Nat)
  | [], _ => none
  | b :: bs, o =>
    if b.off ≤ o ∧ (o - b.off) % b.stride = 0 ∧ (o - b.off) / b.stride < b.count then some (b, (o - b.off) / b.stride)
    else findBlock bs o

/-- The register at address `a`, where one is there (R13). -/
def regAt (a : Nat) : Option (RegBlock × Nat) :=
  match regUnit a with
  | none => none
  | some (base, t) => findBlock t (a - base)

/-- The vesper die's own fault triple for its supervisor and status channels, kept beside the map (log entry 14). -/
def isVspLink (a : Nat) : Bool := a == 0x4000000 || a == 0x4000004 || a == 0x4000008

/-- Reset value of the register at `a` (R12): the table's, but for FAB_DIE_ID of CD1 and BST_LINK_STAT of HV1. -/
def regReset (a : Nat) : Word :=
  if a = 0x2000000 then 0x72160101#32
  else if a = 0x3430000 then 1#32
  else if a = 0x4000004 then 0xFFFFFFFF#32
  else match regAt a with
    | none => 0#32
    | some (b, i) => BitVec.ofNat 32 (b.reset + b.step * i)

/-- Implemented bits of the register at `a`; the others are reserved and read 0 (R11). -/
def regMask (a : Nat) : Word :=
  if isVspLink a then 0xFFFFFFFF#32
  else match regAt a with
    | none => 0#32
    | some (b, _) => BitVec.ofNat 32 b.mask

end Sys2Proof.Machine
end

