-- ==== Sys2Proof/Machine/SMap.lean ====
section
/-! DEFINITION. Sparse maps in one canonical form: keys strictly rising, and no entry equal to what an unlisted key reads as.
Registers, memories and the repeated parts of the device are held in them. -/

namespace Sys2Proof.Machine

/-- A sparse map from a key (an address, an index) to a value. -/
abbrev SMap (α : Type) := List (Nat × α)

/-- The value at key `k`; `df k` is what an unlisted key reads as. -/
def SMap.get {α : Type} (df : Nat → α) : SMap α → Nat → α
  | [], k => df k
  | (j, v) :: m, k => if k = j then v else SMap.get df m k

/-- `m` with `v` at key `k`: the new entry stands in its place in the rising order, and a default value has no entry. -/
def SMap.put {α : Type} [DecidableEq α] (df : Nat → α) : SMap α → Nat → α → SMap α
  | [], k, v => if v = df k then [] else [(k, v)]
  | (j, w) :: m, k, v =>
    if k = j then (if v = df k then SMap.put df m k v else (k, v) :: m)
    else if k < j ∧ v ≠ df k then (k, v) :: (j, w) :: m
    else (j, w) :: SMap.put df m k v

/-- The canonical form: keys strictly rising from `lo` on, no entry equal to its default. -/
def SMap.wfFrom {α : Type} [DecidableEq α] (df : Nat → α) (lo : Nat) : SMap α → Bool
  | [] => true
  | (j, v) :: m => decide (lo ≤ j) && decide (v ≠ df j) && SMap.wfFrom df (j + 1) m

/-- The canonical form of a sparse map. -/
def SMap.wf {α : Type} [DecidableEq α] (df : Nat → α) (m : SMap α) : Bool := SMap.wfFrom df 0 m

/-- The map with only the entries whose key passes `p`. -/
def SMap.keep {α : Type} (p : Nat → Bool) (m : SMap α) : SMap α := m.filter (fun e => p e.1)

end Sys2Proof.Machine
end

