-- ==== Sys2Proof/Machine/State.lean ====
section
/-! DEFINITION. The state of the PV-7216 as plain data, the reasons a step can stop, and the machine right after reset. -/

namespace Sys2Proof.Machine

/-- What a training set that the device sends says (Table 7-3). -/
structure TrainOut where
  ts2 : Bool
  phase : Nat
  fast : Bool
  loopback : Bool
  retrainReq : Bool
  rate : Nat
  ppre : Nat
  mypre : Nat
  errcnt : Nat
  fom : Nat
  seq : Nat
deriving DecidableEq, Repr

/-- A pattern checker (R159, R173): how many bits it has taken to synchronise, the last bits of the sequence, the newest in bit 0, and
the errors counted. -/
structure Checker where
  got : Nat
  bits : Nat
  errs : Nat
deriving DecidableEq, Repr

/-- The equaliser search of a training attempt (R159, R163, R164). -/
structure TrainH where
  tx : Nat                      -- last bits of the sequence that the device sends (R159, R173)
  rx : Checker                  -- the checker, with the errors of the block or run in progress
  peer : Option (Bool × Nat × Nat)  -- the block's valid training set: whether a TS2, ERRCNT, FOM
  blk : Nat                     -- blocks of the setting in progress, or good blocks of CONFIRM
  clean : Bool                  -- the setting in progress has worked so far
  fom : Nat                     -- the sum of its FOM
  results : List (Bool × Nat)   -- the settings tried: whether each works, and its sum of FOM
  errOut : Nat                  -- ERRCNT that the device sends
  seqNo : Nat                   -- SEQ that the device sends
deriving DecidableEq, Repr

/-- Downstream packets of a lane (Table 8-1, Table 8-2), and the ordered sets that a transmitter originates (R156, R158, R172). -/
inductive Pkt where
  | line (ur : Bool) (line : Nat) (frame : Nat) (codes : List Nat)
  | sync (hold : Bool) (line : Nat) (frame : Nat) (linePer total act : Nat)
  | cmd (opc : Nat) (seq : Nat) (arg : Nat) (payload : List Byte)
  | safe (pat : Nat) (seq : Nat)
  | calib (band : Nat) (blank : Bool) (cseq phase code tDark tLit : Nat)
  | srcstat (frmOk frmBad why batch bres nacc ndrop : Nat)
  | filler
  | training (t : TrainOut) (count : Nat)             -- `count` training sets back to back
  | pattern (data : List Byte)                        -- PRBS data or a loopback pattern, as data symbols (R159, R173)
deriving DecidableEq, Repr

/-- A message sent on a CAN port (R332 to R337, R343). -/
inductive CanMsg where
  | claim (sa name : Nat)                             -- address claim (R333)
  | cannotClaim (name : Nat)
  | lighting (states : List (Nat × Nat))              -- lighting data: function and state, 0 Off, 1 On, 2 Error, 3 not available (R336)
  | dm1 (codes : List (Nat × Bool))                   -- SPN of every active code, and whether its entry is DISPUTED (R337)
  | dm2 (codes : List Nat)
  | answer (dest pgn : Nat)                           -- an identification of part 12
  | negative (dest pgn : Nat)                         -- the negative acknowledgement of part 3 (R332)
  | zone (dest : Nat) (bytes : List Byte)             -- Proprietary A (Table 15-9)
deriving DecidableEq, Repr

/-- What a data channel frame carries (Table 1-1): nothing, a write or a read of the register at an address (set points, PWM values,
matrix data, register access), the answer to a read, a fault event of the unit with the status register at an address, the throttle
level (R232), the power state (R243), an MXSYNC edge (R242), or the complete current state of the die (R20). -/
inductive DcWhat where
  | idle
  | write (a : Nat) (v : Word)
  | read (a : Nat)
  | answer (v : Word)
  | event (a : Nat)
  | level (l : Nat)
  | power (st : Nat)
  | mxsync
  | state
deriving DecidableEq, Repr

/-- What the inertial master puts on its bus (R106): a level of its chip select, or a byte. -/
inductive ImuOut where
  | sel (on : Bool)
  | byte (b : Nat)
deriving DecidableEq, Repr

/-- What the device sends to the outside world or over its own links; the model's record of it (log entry 5). -/
inductive OutMsg where
  | msix (vector : Nat)                               -- R305, R328
  | lane (d n : Nat) (p : Pkt)                        -- on the forward half of a lane
  | dcAck (h c : Nat) (up : Bool) (seq : Nat)         -- data channel c of power die h, up or down: an acknowledgement (R18)
  | dcSend (h c : Nat) (up : Bool) (seq : Nat) (w : DcWhat)  -- a frame with what it carries
  | dcAgain (h c : Nat) (up : Bool) (seq : Nat)       -- a frame sent again
  | status (h : Nat) (hot : Int) (flt : List (Nat × Word))  -- a status frame (R273)
  | replay (d link : Nat)                             -- a request to replay a flit (R24)
  | can (p : Nat) (m : CanMsg)                        -- on CAN port p
  | spi (bytes : List Byte)                           -- a safety SPI response shifted out (R329)
  | imu (l : List ImuOut)                             -- a run of the inertial script (R106)
deriving DecidableEq, Repr

/-- A section of an image (R40), as plaintext. -/
structure Section where
  typ : Nat
  inst : Nat
  data : List Byte
deriving DecidableEq, Repr, Inhabited

/-- Where TOPOLOGY places a tile (R88): its head, and its row and column within the head. -/
structure TilePlace where
  used : Bool
  head : Nat
  row : Nat
  col : Nat
deriving DecidableEq, Repr, Inhabited

/-- An entry of the SAFEFILL section (R191). -/
structure SafeFill where
  tile : Nat
  pat : Nat
  crc : Nat
  data : List Byte
deriving DecidableEq, Repr, Inhabited

/-- A zone entry (Table 15-7): the eight TARGET bytes are 4 to 11. -/
structure ZoneE where
  kind : Nat
  classes : Nat
  dflt : Nat
  loss : Nat
  target : List Nat
  dutyMax : Nat
  iset : Nat
deriving DecidableEq, Repr, Inhabited

/-- What ZONES holds beside the zone entries and the ports (R335, R338): TECU NAME, client entries (NAME, mask, highest class),
HOST_CLASS, REFHEAD, and the zone of each lighting function. -/
structure ZoneHead where
  tecu : Nat
  clients : List (Nat × Nat × Nat)
  hostClass : Nat
  refhead : Nat
  lighting : List (Nat × Nat)
deriving DecidableEq, Repr, Inhabited

/-- What the running image configures beside the registers: tile places by 8 * die + tile, and the safe-fill patterns. -/
structure ImgCfg where
  tiles : SMap TilePlace
  safefill : List SafeFill
  outCol : SMap Nat             -- output-stage column of each head half, by 4 * die + head (Table 2-5)
  modes : SMap (Nat × Nat)      -- LINE_PER and frame period of each HEAD section, by 2 * head + die (R131)
  zones : SMap ZoneE
  zhead : ZoneHead
deriving DecidableEq, Repr, Inhabited

/-- The command outstanding on a lane, and its unacknowledged repeats (R192). -/
structure Outstanding where
  pkt : Pkt
  seq : Nat
  repeats : Nat
deriving DecidableEq, Repr

/-- Why the device holds a tile in safe-fill (R195). -/
inductive SafeCause where
  | safe          -- SAFE entry (R134)
  | tgFail        -- its timing generator failed (R148)
  | markLost      -- its slave half lost the marks (R147)
  | column        -- a running column of its half failed (R56)
  | pipes         -- its die lost two pipes (R37)
  | dram          -- its die has no DRAM service (R222, R224)
  | thermal       -- the tile is shut down by temperature (R288)
  | bist          -- its lane, path or line buffer is held by self-test (R316)
  | bridge        -- its slave half or half-memory client lost the bridge (Table 1-9)
  | dieLost       -- its compositor die is treated as failed (Table 1-1, Table 1-9)
deriving DecidableEq, Repr

/-- A lane (R165, R166) and the tile at its end (R192 to R195). -/
structure LaneH where
  attempt : Nat                 -- 1 to 3 of R165, 0 none
  auto : Bool                   -- the sequence in progress is an automatic retry (R166)
  everLocked : Bool             -- LOCKED since it last left OFF (R165)
  retryAt : Option Nat          -- microsecond count at which the next retry is due (R166)
  fill : Nat                    -- elastic buffer fill (R157)
  sets : Nat                    -- consecutive valid training sets (R161, R162, R168)
  queue : List Pkt              -- SAFE, CALIB and CMD packets waiting for a gap (R181)
  seq : Nat                     -- command count (R192)
  out : Option Outstanding      -- the command outstanding (R192)
  plan : List Pkt               -- bring-up commands still to be sent (R194)
  waitStatus : Bool             -- bring-up step 1 (R194)
  waitRun : Bool                -- bring-up step 4: RUN or SAFE goes at the next midnight (R194)
  wantRun : Bool                -- the cause of SAFE_CMD has ended: RUN goes at the next midnight (R195)
  causes : List SafeCause       -- why safe-fill is commanded (R195)
  statusAt : Option Nat         -- microsecond count of the last STATUS
  badViews : Nat                -- consecutive STATUS whose STATE differs from the commanded one (R194, R311)
  goodViews : Nat               -- consecutive STATUS that agree (R311)
  sending : Bool                -- a line packet is on the lane and holds its line-buffer slot (R135)
  old : Bool                    -- the newest STATUS is more than 100 ms old (R272)
  txRd : Bool                   -- running disparity of the transmitter, positive or not (R153)
  eqAt : Word                   -- LANE_EQn at the last loss of lock: the settings that a fast retrain keeps (R161)
  lost : Bool                   -- the training follows a loss of lock: RETRAIN_REQ is sent (Table 7-3)
  lb : Nat                      -- the loopback in progress, 0 none (Table 7-8)
  tr : TrainH
deriving DecidableEq, Repr

/-- An input lane (R197 to R202). -/
structure InH where
  inFrame : Bool
  ignoring : Bool               -- the rest of a discarded frame is ignored until FIRST (R198)
  frame : Nat                   -- FRAME of the frame in progress
  written : Nat                 -- bytes written of it
  lastOk : Nat
  lastBad : Nat
  lastDone : Nat                -- microsecond count of the last completed frame (R199)
  inBatch : Bool
  batchDead : Bool              -- the rest of a failed batch is ignored until FIRST (R201)
  batch : Nat
  head : Nat
  slot : Nat
  bres : Nat                    -- BRES of the last batch (R202)
  lastBatch : Nat
  waits : List (Nat × Nat)      -- batches whose commit is being binned: head and BATCH; the result is due in SRCSTAT (R202)
deriving DecidableEq, Repr

/-- A primitive record (Table 3-1). -/
structure Prim where
  shape : Nat
  layer : Nat
  feather : Nat
  value : Nat
  alpha : Nat
  bx0 : Int
  by0 : Int
  bx1 : Int
  by1 : Int
  geo : List Nat                -- words 4 to 11
deriving DecidableEq, Repr

/-- A generation held in bin memory (R79, R83): its number, TAG, beam grid, the records taken, the correction margin that
its bins were formed under with the layers of the build at its acceptance (R78, R103), and the records skipped. -/
structure Gen where
  num : Nat
  tag : Nat
  beam : List Nat
  masks : List Prim
  syms : List Prim
  margin : Nat
  types : Word
  skipped : Nat
deriving DecidableEq, Repr

/-- Generation 0 (R82). -/
def Gen.zero : Gen := { num := 0, tag := 0, beam := [], masks := [], syms := [], margin := 0, types := 0#32, skipped := 0 }

/-- A band in composition: its number, generation and correction (R85, R97) with the angles as HEAD_CORR_NOWn shows them, whether
GROUND layers are hidden (R108), and the line from which it sends background because of a bin-memory error (R84). -/
structure Band where
  band : Nat
  gen : Gen
  s : Int
  c : Int
  dy : Int
  now : Word
  hide : Bool
  bg : Option Nat
deriving DecidableEq, Repr

/-- An accepted pitch and roll sample and its time stamp (R98). -/
structure Att where
  p : Int
  r : Int
  t : Int
deriving DecidableEq, Repr

/-- A warp mesh: U and V of the 1,089 nodes (R90). -/
structure Mesh where
  u : List Int
  v : List Int
deriving DecidableEq, Repr

/-- A ceiling entry as a half has latched it (R114). -/
structure Ceil where
  x : Word
  y : Word
  ctl : Word
deriving DecidableEq, Repr

/-- A head half: its generator, generations, correction, mesh, photometric latches and sums. -/
structure HalfH where
  running : Bool                -- the generator has started (R134)
  first : Bool                  -- its next line start is line 0 of its first frame
  failed : Bool                 -- held in reset by TG_FAIL (R148)
  composing : Bool              -- bands are being composed
  armed : Bool                  -- LIT entered: composition begins at the next midnight (R134)
  hold : Bool                   -- HOLD phase (R138)
  awaited : List Nat            -- local tiles waited for in HOLD phase
  holdAt : Nat                  -- microsecond count at its start
  newMode : Bool                -- MODE_DONE is due at the next dawn (R138)
  lit0 : Bool                   -- the next dawn is the first after an entry to LIT (R108)
  marks : Nat                   -- marks received without a gap (R147)
  lost : Bool                   -- MARK_LOST stands and the half has not returned to composition (R147)
  markHeld : Bool               -- the last dusk latched nothing: deferred by HOLD, or on a slave not marked as latched (R137, R146)
  urHold : Bool                 -- P0 held at urgency 3 after an underrun (R143)
  newest : Gen
  sampled : Bool                -- the newest generation has been sampled
  badGen : Option Nat           -- the newest number at a bin-memory error: background until a later one is sampled (R84)
  binning : Option Nat          -- the slot being binned (R79)
  bands : List Band             -- bands in composition, newest first
  hist : List Att               -- accepted samples, newest first, at most two (R98)
  accepted : Option Att         -- jump reference: the last accepted sample (R107)
  jumps : List Att              -- samples that failed the jump test in a row, newest first (R107)
  exempt : Bool                 -- the next sample is accepted without the jump test (R107)
  refP : Option Int             -- REF32 of pitch (R99)
  refR : Option Int             -- REF32 of roll
  timer : Nat                   -- start of the stale timer (R108)
  stale : Option Nat            -- microsecond count since which the correction is stale
  staleEnd : Bool               -- a sample has been accepted since; stale ends at the next band start
  lastP : Int                   -- angles last formed (R108)
  lastR : Int
  mesh : Option Mesh            -- accepted mesh (R91, R96)
  copy : Option Nat             -- base of the mesh whose copy began at the last dusk, not yet accepted or refused (R91)
  checked : Option Mesh         -- on a slave, its copy that has passed its own checks while the master's check word is awaited (R95)
  ceils : SMap Ceil             -- latched view of the ceiling entries (R114)
  drt : List Word               -- latched derate classes (R121)
  k : Nat                       -- K latched at the last dusk (R115)
  sumD : Nat                    -- sum of d of the frame in composition
  report : Option (Nat × Nat)   -- sum of d and K_used of the frame just ended, not yet reported
  sumAt : Nat                   -- microsecond count of the last report (R116)
deriving DecidableEq, Repr

/-- A span of 32 pixels of a line of a head half (R62): head, local tile, head line, span 0 to 15 on the tile, and whether
its line is still to be released. -/
structure Span where
  head : Nat
  tile : Nat
  line : Nat
  span : Nat
  live : Bool
deriving DecidableEq, Repr

/-- A coefficient row being fetched (R124, R125): the bursts that have arrived, whether one of them failed, and whether this is
the second fetch. -/
structure RowF where
  got : List (Nat × List Byte)
  bad : Bool
  second : Bool
deriving DecidableEq, Repr

/-- An entry of a DRAM request table (R211): its number, the port it counts on, the request, the die whose unit made it, its
address in this DRAM, the microsecond count of its acceptance, its escalation (R212), whether it has been granted, the bytes a
granted read took, the grants that passed it (R213), and whether it has counted as reaching urgency 3. -/
structure DrcEntry where
  id : Nat
  port : Fin 7
  p0 : Bool                     -- promoted to P0 (R210)
  req : DramReq
  src : Nat
  addr : Nat
  at_ : Nat
  esc : Nat
  granted : Bool
  got : List Byte
  passed : Nat
  noted : Bool
deriving DecidableEq, Repr

/-- A bank: its open row, and its table of activated rows with their counts (R219). -/
structure BankH where
  row : Option Nat
  acts : List (Nat × Nat)
deriving DecidableEq, Repr, Inhabited

/-- A DRAM channel: its banks, writes come first (R213), a refresh burst waits (R218), refreshes since the window began and
whether the window is a full one (R219, R220), whether a full window has ended, times of uncorrectable errors, and MR4 reads
without data in a row (R222). -/
structure DrcCh where
  banks : SMap BankH
  wrFirst : Bool
  burst : Bool
  win : Nat
  full : Bool
  fullEnded : Bool
  errs : List Nat
  mr4Bad : Nat
deriving DecidableEq, Repr

/-- A die's DRAM controller: the request table, oldest first, the number of the next entry, and whether training has ended. -/
structure DrcH where
  table : List DrcEntry
  next : Nat
  trained : Bool
deriving DecidableEq, Repr

/-- A compositor die's pipe array (R63): the span on each pipe, and the eligible spans, oldest first. -/
structure DieH where
  pipes : List (Option Span)
  elig : List Span
deriving DecidableEq, Repr

/-- The inertial master (R105): the next start is skipped after an abandoned run, the bad runs in a row, and whether its chip select is
asserted (R106). -/
structure ImuH where
  skip : Bool
  bad : Nat
  sel : Bool
deriving DecidableEq, Repr

/-- The budget controller (R115): A of each half by 4 * die + head, and the halves removed from U (R116). -/
structure BudH where
  a : SMap Nat
  out : List Nat
  k : Nat
deriving DecidableEq, Repr

/-- A watcher masked after a reaction reset (R310): its block ID, the block reset, and whether that block has been released. -/
structure WMask where
  watcher : Nat
  cause : Nat
  released : Bool
  ended : Bool                  -- the mask has ended while the watcher was in a slice (Table 14-7)
deriving DecidableEq, Repr

/-- A temperature sensor (R267 to R277): whether it is present and whether stale, its last raw reading in 1/16 °C and the
substitute in use, suspect and reinstating rounds, rounds at or above SHUT in a row, broken, substituted under R276, and whether it
held the highest reading of the device in its previous round. -/
structure SenH where
  pres : Bool
  stale : Bool
  raw : Int
  sub : Option Int
  susp : Nat
  rein : Nat
  shut : Nat
  broken : Bool
  early : Bool
  top : Bool
deriving DecidableEq, Repr

/-- The thermal manager: its sensors, what AUTOFAST has placed in the fast set (sensor and the sensor that brought it in, R271),
VSP_SPLIT rounds (R274), the level that the host is asked for (R283), the start of the request and whether its grace has expired
(R282), whether the next LIT begins at L = 7 (R289), and slow rounds of the vesper sensors at or above 135 °C (R287). -/
structure ThmH where
  sens : SMap SenH
  auto : List (Nat × Nat)
  split : Nat
  base : Nat
  reqAt : Nat
  graceOver : Bool
  after : Bool
  vsp : List (Nat × Nat)
deriving DecidableEq, Repr

/-- The vesper die's view of a power die's status channel (R22, R287): the last hottest reading, frames in a row at or above
135 °C, and whether the mirror is stale. -/
structure StatH where
  hot : Option Int
  over135 : Nat
  stale : Bool
deriving DecidableEq, Repr

/-- Fault reporting: the EVT_N pulse (R308), masked watchers (R310), DISPUTED units (R311), and by CAN port and summary cluster
the DM2 list and the codes that DM11 has marked cleared (R337). -/
structure FltS where
  pulse : Bool
  masks : List WMask
  disputed : List DispUnit
  dm2 : List (Nat × Nat)
  cleared : List (Nat × Nat)
deriving DecidableEq, Repr

/-- A check-value unit's window (R300): in progress, first byte still to come, and a line or frame missing from it. -/
structure CrcH where
  inWin : Bool
  first : Bool
  missed : Bool
deriving DecidableEq, Repr

/-- A self-test slice in progress (R312): its block, its programmed length, whether it is a priority slice (R314) or a
RETEST (R316), and the registers saved for the block (R302). -/
structure Slice where
  block : Nat
  len : Nat
  prio : Bool
  retest : Bool
  saved : List (Nat × Word)
deriving DecidableEq, Repr

/-- The self-test engine of a die (R312 to R317): the slice in progress, consecutive abandonments of each block (R314), slices
passed in the coverage cycle, and the microsecond counts of the cycle's start and of the last SAFE entry. -/
structure BistH where
  slice : Option Slice
  aband : SMap Nat
  prioAband : SMap Nat
  starved : List Nat            -- blocks of eight abandoned priority slices that have not passed since (R314)
  passes : SMap Nat
  tried : List Nat              -- blocks that have had a slice in the coverage cycle (R317)
  due : List Nat                -- blocks whose RETEST waits for its opportunity (R316)
  cycleAt : Nat
  safeAt : Option Nat
deriving DecidableEq, Repr

/-- What a run that was accepted leaves for its header (Table 11-4): TEMP, SPREAD, QRES and its implausible list. -/
structure CalAcc where
  temp : Nat
  spread : Nat
  qres : Nat
  impl : List Nat
deriving DecidableEq, Repr

/-- A store of an accepted coefficient set in progress (R264): the copy, the source table, SEQ, and what else its header will say. -/
structure CalStore where
  copy : Nat
  base : Nat
  seq : Nat
  acc : CalAcc
deriving DecidableEq, Repr

/-- Calibration of a tile (R253 to R266). -/
structure CalH where
  want : Nat                    -- runs that are due: 1 UPDATE, 2 MEASURE, 3 both (R254)
  kind : Nat                    -- the run in progress: 0 none, 1 UPDATE, 2 MEASURE
  tDark : Nat                   -- settings held for the whole run (R255)
  tLit : Nat
  code : Nat
  blank : Bool
  limits : Word                 -- CAL_LIMITS and CAL_DT, which a change leaves as they are for a run in progress
  dt : Nat
  cseq : Nat                    -- CSEQ of the last CALIB of the lane
  slot : Nat                    -- slot s in progress, 1,024 when all are done
  await : Bool                  -- a PHOTO with CSEQ is awaited
  missed : Nat                  -- consecutive missed slots (R257)
  temps : List Int              -- temperatures of the run's slots: sum, highest, lowest (R260)
  nTemps : Nat
  oldRow : Bool                 -- a row of the table in use failed its check (R260)
  meas : SMap Nat               -- by pixel: Sn, plus 65,536 where dark, plus 131,072 where its reference row failed, plus 2^18
  impl : List Nat               -- implausible list of the last evaluated run (Table 11-9)
  fails : Nat                   -- consecutive rejected or abandoned runs (R262)
  holdoff : Bool                -- AUTO triggers are held off (R262)
  govern : Option Nat           -- copy that governs (R252)
  seq : Nat                     -- SEQ of the governing region
  rebase : Nat                  -- bases still to be written on a half-memory client: 1 PHO_COEF_BASE, 2 CAL_ALTBASE (R266)
  acc : CalAcc                  -- what the header of the newest accepted set will say (R264)
  storeDue : Bool               -- an accepted set is to be stored (R264)
  storeTry : Nat                -- failed stores of it
  storing : Option CalStore
deriving DecidableEq, Repr

/-- The newest sample of a string channel (R233): pin and output voltage in mV, whether it is suspect, whether a rule-1 step
has answered it (R234), and the sample's age in periods or scan frames. -/
structure ChanSample where
  vpin : Nat
  vout : Nat
  suspect : Bool
  stepped : Bool
  age : Nat
deriving DecidableEq, Repr

/-- Runs of consecutive samples of a channel, or of a matrix column in one row (Table 10-3): the suspect samples in a row with
V_ref at each, newest first, and the counts of SHORT_FULL and SHORT samples. -/
structure RunH where
  iset : Nat                    -- ISET last in force in the row
  susp : List (Nat × Nat)
  full : Nat
  short : Nat
deriving DecidableEq, Repr

/-- A string channel (R228 to R237). -/
structure ChanH where
  iset : Nat                    -- in force
  duty : Nat
  per : Nat
  ton : Nat                     -- scaled on-time of the period or row slot in progress, clocks
  tonU : Nat                    -- the same before scaling (R232)
  pcount : Nat                  -- periods or scan frames since the last probe (R233)
  repay : Nat                   -- clocks of a probe still to be repaid
  onProbe : Bool                -- the channel takes probe pulses
  last : Option ChanSample
  sink : Nat                    -- consecutive SINK samples
  settle : Nat                  -- samples before SHORT is evaluated again (R236)
  learn : Nat                   -- VF_LEARN in 1/256 mV
  failed : Bool                 -- sink off until cold start (Table 10-3)
  cand : List Nat               -- rows in which a matrix column shows OPEN in the scan frame in progress (R240)
  fresh : Bool                  -- sampled since its gang was last judged (R231)
deriving DecidableEq, Repr

/-- A matrix group (R239 to R242). -/
structure GroupH where
  row : Option Nat              -- row being scanned, counted from the group's first
  slot : Nat                    -- SLOT and DEAD in force, clocks
  dead : Nat
  src : Nat                     -- what drives the scan frame in progress: 0 off, 1 safe set points, 2 the front buffer (R244)
  pend : Bool                   -- a swap takes place at the end of the scan frame in progress
  edges : Nat                   -- MXSYNC edges in consecutive scan frames since MXSYNC_LOST
deriving DecidableEq, Repr

/-- A power die: what drives its sinks (0 off, 1 safe set points, 2 written values, R230, R243), whether STRINGS has been
delivered since VBAT was applied (R244), whether its safe set points come from both channels being down (R21), the times of OVP
events (R238), SHORT_DV in mV, the front frame buffer by entry (R241), its active channel in STRINGS, whether the complete current
state is still to be carried, and the changes that wait for it, oldest first (R20, R245). -/
structure HvH where
  mode : Nat
  strings : Bool
  linkSafe : Bool
  ovps : List Nat
  shortDv : Nat
  front : SMap Word
  defActive : Nat               -- active channel of the STRINGS section (R20)
  resend : Bool                 -- the complete current state is still to be carried (R20, R21)
  held : List (Nat × Word)      -- register writes that wait until it has been carried
deriving DecidableEq, Repr

/-- A trim group in OTP (R247): its trim words and its check word. -/
structure TrimGroup where
  words : List Byte
  check : Nat
deriving DecidableEq, Repr

/-- An OTP key slot (R361): the hash it holds, and its revoke fuse. -/
structure KeySlot where
  hash : Option (List Byte)
  revoked : Bool
deriving DecidableEq, Repr, Inhabited

/-- A boot record (R47): its sequence number, PREF (0 A, 1 B), TRIAL and TRIED. -/
structure BootRec where
  seq : Nat
  pref : Nat
  trial : Bool
  tried : Bool
deriving DecidableEq, Repr

/-- What the part holds without power: OTP, fuses, key stores and boot records. -/
structure Nv where
  trims : List TrimGroup        -- TG0 to TG4 (Table 11-1)
  floor : Nat                   -- anti-rollback fuses blown (R362)
  slots : List KeySlot          -- the eight key slots (R361)
  keys : List (Option (List Byte))  -- the 16 entries of the key store (R363)
  policy : Nat                  -- tamper policy fuses, two of each detector (R365)
  locked : Bool                 -- LOCKED and ZEROISED (R365)
  zeroised : Bool
  tampCount : Nat               -- detections since the part was made (Table 16-11)
  tampLast : Nat                -- DET and ACT of SEC_TAMP_LAST
  unusable : List Nat           -- blocks that fuses mark unusable (step 9 of Table 2-4)
  boot : List (Option BootRec)  -- the two copies of the boot record, none where its check fails (R47)
deriving DecidableEq, Repr

/-- The image that runs (R48): copy 0 A, 1 B or 2 recovery, its header fields, the slot that verified it, the digest of its
non-HEAD sections, its sections, and whether it started as a trial or a fallback. -/
structure RunImg where
  copy : Nat
  secver : Nat
  build : Nat
  slot : Nat
  digest : List Byte
  secs : List Section
  trial : Bool
  fallback : Bool
deriving DecidableEq, Repr

/-- The image loader: the command in progress (0 none, 1 VERIFY, 2 PROGRAM; R51), whether PROGRAM has begun to erase, the length and
SHA-256 of the image that it verified, the copies whose last verification passed, and the key store and ZEROISED as the command in
progress began (Table 16-8). -/
structure ImgH where
  running : Option RunImg
  job : Nat
  erasing : Bool
  len : Nat
  digest : List Byte
  passed : List Nat
  keys : List (Option (List Byte))
  zero : Bool
deriving DecidableEq, Repr

/-- A data channel frame not yet acknowledged (R18): its direction, its sequence number, its retransmissions, and what it carries. -/
structure DcSent where
  up : Bool
  seq : Nat
  tries : Nat
  what : DcWhat
deriving DecidableEq, Repr

/-- A data channel of a power die (R18, R19): consecutive valid frames (of both directions, log entry 189), the frames not yet
acknowledged, oldest first, and the next sequence number of each direction. -/
structure DcH where
  valid : Nat
  unack : List DcSent
  seqUp : Nat
  seqDown : Nat
deriving DecidableEq, Repr

/-- A bridge flit (R23, R24): its number in the order of commitment and its virtual channel. -/
structure BrgFlit where
  num : Nat
  vc : Nat
deriving DecidableEq, Repr

/-- A compositor die's end of the bridge (R23, R24). As a sender: by virtual channel the credits in use, the flits committed that
wait for a credit, oldest first, the flits sent and not yet acknowledged with their link, oldest first, the next number, and the place
in the 3:1 share of VC2 and VC3 (Table 1-2). As a receiver: by link the failed receptions of one flit in a row, and by virtual channel
the flits in its receive buffer. -/
structure BrgH where
  used : SMap Nat
  wait : List BrgFlit
  unack : List (Nat × BrgFlit)
  next : Nat
  turn : Nat
  fails : SMap Nat
  buf : SMap Nat
deriving DecidableEq, Repr

/-- A build of a head half (R57 to R59): the registers that its HEAD section loads, its columns as a 64-bit set, its
output-stage column, and LINE_PER and frame period of its HEAD section (R131). -/
structure Build where
  regs : List (Nat × Word)
  cols : Nat
  out : Nat
  mode : Nat × Nat
deriving DecidableEq, Repr

/-- The rebuild of a die (R57 to R61): its head, its source, the build that is not running (the new one, or the previous one
once SWAPPED), and whether the swap armed is a REVERT. -/
structure RbH where
  head : Nat
  fromRunning : Bool
  build : Option Build
  revert : Bool
deriving DecidableEq, Repr

/-- The PCI Express side (R322, R323, R326): rings with waiting descriptors in the order in which these became available, the
MSI-X table and pending bits of BAR4, the configuration space, and the die and address of bursts of Host DMA reads that failed and whose
descriptor has not ended (Table 9-7). -/
structure HostH where
  dmaQ : List Nat
  bad : List (Nat × Nat)
  msix : SMap Byte
  cfg : SMap Byte
deriving DecidableEq, Repr

/-- The safety SPI slave (R329, R330): STATUS and bytes 1 to 8 of the latest result, and of the response to the next frame;
whether the SAFE request that stands was received in SLEEP (R350). -/
structure SpiH where
  latest : Nat × List Byte
  next : Nat × List Byte
  inSleep : Bool
deriving DecidableEq, Repr

/-- A CAN port (R333): its NAME and preferred address, and the addresses and NAMEs of the other control functions. -/
structure CanH where
  name : Nat
  pref : Nat
  others : List (Nat × Nat)
deriving DecidableEq, Repr

/-- A client session (R341): its port, NAME and the NAME's last address, class, TIMEOUT and CLIENT_TAG, and whether that address
has been taken by another control function with no claim by its NAME since (R342). -/
structure Sess where
  port : Fin 2
  name : Nat
  sa : Nat
  cls : Nat
  timeout : Nat
  tag : Nat
  lost : Bool
deriving DecidableEq, Repr

/-- A request standing on a zone (R345). -/
structure ZReq where
  sess : Nat
  cls : Nat
  zone : Nat
  level : Nat
deriving DecidableEq, Repr

/-- The zone protocol engine: sessions by number, requests in the order of acceptance (R345), zones whose LOSS is in force
(R342), the session and port buckets (R346), and the microsecond count of each session's last NACK. -/
structure PzpH where
  sess : SMap (Option Sess)
  reqs : List ZReq
  loss : List Nat
  tok : SMap Nat
  ptok : SMap Nat
  nackAt : SMap (Option Nat)
deriving DecidableEq, Repr

/-- The power-state machine (R348 to R359): pins after their filters, what start-up has done, and entry to SLEEP. -/
structure PwrH where
  wakePin : Bool
  ign : Bool
  safeN : Bool
  rstHeld : Bool                -- RST_N is asserted
  rails : Bool                  -- the logic rails are up
  pen : Nat                     -- PEN groups asserted, 0 to 4 (R371)
  tries : Nat                   -- retries of this wake after a rail miss
  wakeAt : Nat                  -- microsecond count of the accepted wake or reset release
  trims : Bool                  -- steps of Table 16-3 that have ended
  pll : Bool
  delivered : Bool
  coefs : List Nat              -- dies whose coefficient load has ended
  tested : Bool
  barred : Bool                 -- start-up self-test left a failure that bars LIT (R318)
  imgFail : Bool                -- both copies and the recovery image failed in this start-up (R360)
  sleep : Nat                   -- entry to SLEEP: 0 none, 1 waiting for step 4 (Table 16-2)
  vbat : Nat                    -- 0 good, 1 low, 2 lost (R359)
  lost : List Nat               -- compositor dies held in reset until the next start-up (R359)
  rc : Bool                     -- the wake timer runs from the RC oscillator (R359)
  debugFails : Nat              -- failed debug unlock attempts since a cold start (R364)
deriving DecidableEq, Repr

/-- The device apart from its non-volatile fuses and its memories. -/
structure Dev where
  us : Nat                                            -- microseconds since power-up (log entry 3)
  fresh : Nat                                         -- the model's counter of free values (log entry 4)
  regs : SMap Word                                    -- registers by BAR0 address (R383)
  latched : SMap Word                                 -- copies in use of frame-scoped registers (R136)
  out : List OutMsg                                   -- sent, newest first (log entry 5)
  flt : FltS
  crcs : SMap CrcH                                    -- check-value units by 8 * die + unit
  cfg : ImgCfg                                        -- what the running image configures beside registers
  lanes : SMap LaneH                                  -- lanes by 16 * die + lane
  ins : SMap InH                                      -- input lanes by 2 * die + input
  halves : SMap HalfH                                 -- head halves by 4 * die + head
  dies : SMap DieH                                    -- pipe arrays by die
  drcs : SMap DrcH                                    -- DRAM controllers by die
  drcChs : SMap DrcCh                                 -- DRAM channels by 2 * die + channel
  spans : SMap (List Nat)                             -- finished spans in the line buffers: 12-bit codes (R140)
  coefs : SMap (List Nat)                             -- coefficient rows that have arrived, by tile and line (R123)
  rows : SMap RowF                                    -- coefficient rows being fetched, by tile and line
  rasPoison : List (Nat × Nat × Nat)                  -- poisoned raster bursts: 8 * die + tile, line, burst address (R208)
  ttemps : SMap (Option Int)                          -- tile temperatures latched at dusk, by 8 * die + tile (R121)
  imu : ImuH
  bud : BudH
  bist : SMap BistH                                   -- self-test engines by die
  cals : SMap CalH                                    -- calibration by 8 * die + tile
  chans : SMap ChanH                                  -- string channels by number (R227)
  runs : SMap RunH                                    -- sample runs by 8 * channel + row (R236, R240)
  groups : SMap GroupH                                -- matrix groups by 8 * power die + group
  hvs : SMap HvH                                      -- power dies
  img : ImgH
  rbs : SMap RbH                                      -- rebuilds by die
  dcs : SMap DcH                                      -- data channels by 2 * power die + channel
  brgs : SMap BrgH                                    -- the bridge, by compositor die (R23, R24)
  thm : ThmH
  stat : SMap StatH                                   -- status channels by power die
  mirror : SMap Word                                  -- the vesper mirror of power-die fault status, by address (R22)
  host : HostH
  spi : SpiH
  cans : SMap CanH                                    -- CAN ports
  pzp : PzpH
  pwr : PwrH
deriving DecidableEq, Repr

/-- The memories: in-package DRAM of both dies, by 2^31 * die + address (R205), the flash (R45), host memory as the
DMA rings write it, and the on-die memory of the rings, by 8,192 * ring + offset (R322, R326). -/
structure Mems where
  dram : SMap Byte
  flash : SMap Byte
  host : SMap Byte
  ring : SMap Byte
deriving DecidableEq, Repr

/-- The state: the block's queue of waiting commands, the device, what it keeps without power, and its memories. -/
structure State where
  pending : List Instr
  dev : Dev
  nv : Nv
  mem : Mems
deriving DecidableEq, Repr

/-- Why the machine stops. -/
inductive Fault where
  /-- Raised by a register access at or above 64 MiB: BAR0 has no such address (R321). Safe: nothing is claimed of it. -/
  | outsideBar0 (addr : Nat)
deriving DecidableEq, Repr

/-- Why a command has no meaning. -/
inductive Refusal where
  /-- Raised by an arm of exec whose command has no meaning yet. Safe: nothing can be claimed of it. -/
  | notModelled (mnemonic : String)
deriving DecidableEq, Repr

/-- A pattern checker that has received nothing. -/
def Checker.init : Checker := { got := 0, bits := 0, errs := 0 }

/-- A search that has not begun. -/
def TrainH.init : TrainH where
  tx := 0x7FFF
  rx := Checker.init
  peer := none
  blk := 0
  clean := true
  fom := 0
  results := []
  errOut := 255
  seqNo := 0

/-- A lane after a cold start (R157, R167). -/
def LaneH.init : LaneH where
  attempt := 0
  auto := false
  everLocked := false
  retryAt := none
  fill := 16
  sets := 0
  queue := []
  seq := 0
  out := none
  plan := []
  waitStatus := false
  waitRun := false
  wantRun := false
  causes := []
  statusAt := none
  badViews := 0
  goodViews := 0
  sending := false
  old := false
  txRd := false
  eqAt := 0#32
  lost := false
  lb := 0
  tr := TrainH.init

/-- An input lane after a cold start. -/
def InH.init : InH where
  inFrame := false
  ignoring := false
  frame := 0
  written := 0
  lastOk := 0
  lastBad := 0
  lastDone := 0
  inBatch := false
  batchDead := false
  batch := 0
  head := 0
  slot := 0
  bres := 0
  lastBatch := 0
  waits := []

/-- A head half after a cold start (R82, R96, R104, R116). -/
def HalfH.init : HalfH where
  running := false
  first := false
  failed := false
  composing := false
  armed := false
  hold := false
  awaited := []
  holdAt := 0
  newMode := false
  lit0 := false
  marks := 0
  lost := false
  markHeld := false
  urHold := false
  newest := Gen.zero
  sampled := false
  badGen := none
  binning := none
  bands := []
  hist := []
  accepted := none
  jumps := []
  exempt := true
  refP := none
  refR := none
  timer := 0
  stale := none
  staleEnd := false
  lastP := 0
  lastR := 0
  mesh := none
  copy := none
  checked := none
  ceils := []
  drt := []
  k := 4096
  sumD := 0
  report := none
  sumAt := 0

/-- A pipe array after a cold start. -/
def DieH.init : DieH := { pipes := [none, none, none, none], elig := [] }

/-- A sensor that has not been read. -/
def SenH.init : SenH where
  pres := false
  stale := false
  raw := 0
  sub := none
  susp := 0
  rein := 0
  shut := 0
  broken := false
  early := false
  top := false

/-- The thermal manager after start-up (R270). -/
def ThmH.init : ThmH where
  sens := []
  auto := []
  split := 0
  base := 0
  reqAt := 0
  graceOver := false
  after := false
  vsp := []

/-- A status channel of which no frame has arrived. -/
def StatH.init : StatH := { hot := none, over135 := 0, stale := false }

/-- A DRAM controller after a cold start. -/
def DrcH.init : DrcH := { table := [], next := 0, trained := false }

/-- A DRAM channel after a cold start: closed banks, empty tables (R220). -/
def DrcCh.init : DrcCh where
  banks := []
  wrFirst := false
  burst := false
  win := 0
  full := false
  fullEnded := false
  errs := []
  mr4Bad := 0

/-- A self-test engine after a cold start. -/
def BistH.init : BistH := { slice := none, aband := [], prioAband := [], starved := [], passes := [], tried := [], due := [], cycleAt := 0, safeAt := none }

/-- A check-value unit after a cold start. -/
def CrcH.init : CrcH := { inWin := false, first := false, missed := false }

/-- Calibration of a tile after a cold start. -/
def CalH.init : CalH where
  want := 0
  kind := 0
  tDark := 0
  tLit := 0
  code := 0
  blank := false
  limits := 0#32
  dt := 0
  cseq := 0
  slot := 0
  await := false
  missed := 0
  temps := []
  nTemps := 0
  oldRow := false
  meas := []
  impl := []
  fails := 0
  holdoff := false
  govern := none
  seq := 0
  rebase := 0
  acc := { temp := 0, spread := 0, qres := 0, impl := [] }
  storeDue := false
  storeTry := 0
  storing := none

/-- A string channel after a cold start. -/
def ChanH.init : ChanH where
  iset := 0
  duty := 0
  per := 2560
  ton := 0
  tonU := 0
  pcount := 0
  repay := 0
  onProbe := false
  last := none
  sink := 0
  settle := 0
  learn := 0
  failed := false
  cand := []
  fresh := false

/-- No sample runs. -/
def RunH.init : RunH := { iset := 0, susp := [], full := 0, short := 0 }

/-- A matrix group that does not scan. -/
def GroupH.init : GroupH := { row := none, slot := 0, dead := 0, src := 0, pend := false, edges := 0 }

/-- A power die after VBAT is applied: its sinks are off (R244). -/
def HvH.init (h : Nat) : HvH where
  mode := 0
  strings := false
  linkSafe := false
  ovps := []
  shortDv := 2000
  front := []
  defActive := h
  resend := false
  held := []

/-- A part as shipped: trim groups that pass their check (log entry 13), the vendor key in slot 0 and no other (R361), no fuse
of R362 or R365 blown, and no valid boot record (log entry 12). -/
def Nv.init : Nv where
  trims := List.replicate 5 ⟨[], 0xFFFF⟩
  floor := 0
  slots := { hash := some Config.vendorHash, revoked := false } :: List.replicate 7 { hash := none, revoked := false }
  keys := List.replicate 16 none
  policy := 0
  locked := false
  zeroised := false
  tampCount := 0
  tampLast := 0
  unusable := []
  boot := [none, none]

/-- A data channel that has not come up. -/
def DcH.init : DcH := { valid := 0, unack := [], seqUp := 0, seqDown := 0 }

/-- A bridge with nothing on it. -/
def BrgH.init : BrgH := { used := [], wait := [], unack := [], next := 0, turn := 0, fails := [], buf := [] }

/-- No rebuild since start-up. -/
def RbH.init : RbH := { head := 0, fromRunning := false, build := none, revert := false }

/-- A CAN port before the ZONES section is delivered. -/
def CanH.init : CanH := { name := 0, pref := 0, others := [] }

/-- The zone protocol engine after a start-up (R342). -/
def PzpH.init : PzpH := { sess := [], reqs := [], loss := [], tok := [], ptok := [], nackAt := [] }

/-- The PCI Express side after a reset. -/
def HostH.init : HostH := { dmaQ := [], bad := [], msix := [], cfg := [] }

/-- The safety SPI slave before its first frame. -/
def SpiH.init : SpiH := { latest := (0, List.replicate 8 0#8), next := (0, List.replicate 8 0#8), inSleep := false }

/-- No ZONES section. -/
def ZoneHead.init : ZoneHead := { tecu := 0, clients := [], hostClass := 3, refhead := 0xFF, lighting := [] }

/-- Nothing delivered. -/
def ImgCfg.init : ImgCfg :=
  { tiles := [], safefill := [], outCol := [], modes := [], zones := [], zhead := ZoneHead.init }

/-- The power-state machine when VBAT is applied: no wake pin asserted, SAFE_N released (log entry 10). -/
def PwrH.init : PwrH where
  wakePin := false
  ign := false
  safeN := false
  rstHeld := false
  rails := false
  pen := 0
  tries := 0
  wakeAt := 0
  trims := false
  pll := false
  delivered := false
  coefs := []
  tested := false
  barred := false
  imgFail := false
  sleep := 0
  vbat := 0
  lost := []
  rc := false
  debugFails := 0

/-- The device after a cold start with nothing loaded. -/
def Dev.reset : Dev where
  us := 0
  fresh := 0
  regs := []
  latched := []
  out := []
  flt := { pulse := false, masks := [], disputed := [], dm2 := [], cleared := [] }
  crcs := []
  cfg := ImgCfg.init
  lanes := []
  ins := []
  halves := []
  dies := []
  drcs := []
  drcChs := []
  spans := []
  coefs := []
  rows := []
  rasPoison := []
  ttemps := []
  imu := { skip := false, bad := 0, sel := false }
  bud := { a := [], out := [], k := 4096 }
  bist := []
  cals := []
  chans := []
  runs := []
  groups := []
  hvs := []
  img := { running := none, job := 0, erasing := false, len := 0, digest := [], passed := [], keys := [], zero := false }
  rbs := []
  dcs := []
  brgs := []
  thm := ThmH.init
  stat := []
  mirror := []
  host := HostH.init
  spi := SpiH.init
  cans := []
  pzp := PzpH.init
  pwr := PwrH.init

/-- The machine right after reset: VBAT present for the first time, every field at its reset value. -/
def State.reset : State where
  pending := []
  dev := Dev.reset
  nv := Nv.init
  mem := { dram := [], flash := [], host := [], ring := [] }

end Sys2Proof.Machine
end

