-- ==== Sys2Proof/Machine/Ops.lean ====
section
/-! DEFINITION. The named operations over registers, memories and the record of what is sent. -/

namespace Sys2Proof.Machine

/-- The register at address `a` as it is held. -/
def Dev.rd (s : Dev) (a : Nat) : Word := s.regs.get regReset a

/-- The register at `a` set to `v`; reserved bits stay 0 (R11). -/
def Dev.wr (s : Dev) (a : Nat) (v : Word) : Dev :=
  { s with regs := s.regs.put regReset a (v &&& regMask a) }

/-- A field of the register at `a`. -/
def Dev.rdF (s : Dev) (a : Nat) (f : Fld) : Nat := fget (s.rd a) f

/-- A field of the register at `a` set. -/
def Dev.wrF (s : Dev) (a : Nat) (f : Fld) (v : Nat) : Dev := s.wr a (fset (s.rd a) f v)

/-- A counter field that saturates. -/
def Dev.satF (s : Dev) (a : Nat) (f : Fld) (n : Nat) : Dev := s.wrF a f (satAdd f.len (s.rdF a f) n)

/-- A counter field that wraps. -/
def Dev.addF (s : Dev) (a : Nat) (f : Fld) (n : Nat) : Dev := s.wrF a f (s.rdF a f + n)

/-- A 32-bit counter register that wraps. -/
def Dev.addR (s : Dev) (a n : Nat) : Dev := s.wr a (s.rd a + BitVec.ofNat 32 n)

/-- Bit `k` of the register at `a`. -/
def Dev.rdB (s : Dev) (a k : Nat) : Bool := bitOf (s.rd a) k

/-- Bit `k` of the register at `a` set as `b` says. -/
def Dev.wrB (s : Dev) (a k : Nat) (b : Bool) : Dev := s.wr a (bitPut (s.rd a) k b)

/-- The copy in use of a frame-scoped register (R136). -/
def Dev.rdL (s : Dev) (a : Nat) : Word := s.latched.get regReset a

/-- A field of the copy in use. -/
def Dev.rdLF (s : Dev) (a : Nat) (f : Fld) : Nat := fget (s.rdL a) f

/-- The written copy of a frame-scoped register taken into use (R136). -/
def Dev.latch (s : Dev) (a : Nat) : Dev := { s with latched := s.latched.put regReset a (s.rd a) }

/-- A message sent. -/
def Dev.emit (s : Dev) (m : OutMsg) : Dev := { s with out := m :: s.out }

/-- Lane `n` of die `d`. -/
def Dev.lane (s : Dev) (d n : Nat) : LaneH := s.lanes.get (fun _ => LaneH.init) (16 * d + n)

/-- Lane `n` of die `d` set. -/
def Dev.setLane (s : Dev) (d n : Nat) (h : LaneH) : Dev :=
  { s with lanes := s.lanes.put (fun _ => LaneH.init) (16 * d + n) h }

/-- Input `i` of die `d`. -/
def Dev.inp (s : Dev) (d i : Nat) : InH := s.ins.get (fun _ => InH.init) (2 * d + i)

/-- Input `i` of die `d` set. -/
def Dev.setInp (s : Dev) (d i : Nat) (h : InH) : Dev :=
  { s with ins := s.ins.put (fun _ => InH.init) (2 * d + i) h }

/-- The half of head `n` on die `d`. -/
def Dev.half (s : Dev) (d n : Nat) : HalfH := s.halves.get (fun _ => HalfH.init) (4 * d + n)

/-- The half of head `n` on die `d` set. -/
def Dev.setHalf (s : Dev) (d n : Nat) (h : HalfH) : Dev :=
  { s with halves := s.halves.put (fun _ => HalfH.init) (4 * d + n) h }

/-- The pipe array of die `d`. -/
def Dev.pipes (s : Dev) (d : Nat) : DieH := s.dies.get (fun _ => DieH.init) d

/-- The pipe array of die `d` set. -/
def Dev.setPipes (s : Dev) (d : Nat) (h : DieH) : Dev := { s with dies := s.dies.put (fun _ => DieH.init) d h }

/-- The DRAM controller of die `d`. -/
def Dev.drc (s : Dev) (d : Nat) : DrcH := s.drcs.get (fun _ => DrcH.init) d

/-- The DRAM controller of die `d` set. -/
def Dev.setDrc (s : Dev) (d : Nat) (x : DrcH) : Dev := { s with drcs := s.drcs.put (fun _ => DrcH.init) d x }

/-- Channel `c` of the DRAM of die `d`. -/
def Dev.drcCh (s : Dev) (d c : Nat) : DrcCh := s.drcChs.get (fun _ => DrcCh.init) (2 * d + c)

/-- Channel `c` of the DRAM of die `d` set. -/
def Dev.setDrcCh (s : Dev) (d c : Nat) (x : DrcCh) : Dev :=
  { s with drcChs := s.drcChs.put (fun _ => DrcCh.init) (2 * d + c) x }

/-- Sensor `k` (Table 12-1). -/
def Dev.sen (s : Dev) (k : Nat) : SenH := s.thm.sens.get (fun _ => SenH.init) k

/-- Sensor `k` set. -/
def Dev.setSen (s : Dev) (k : Nat) (x : SenH) : Dev :=
  { s with thm := { s.thm with sens := s.thm.sens.put (fun _ => SenH.init) k x } }

/-- The status channel of power die `h`. -/
def Dev.statOf (s : Dev) (h : Nat) : StatH := s.stat.get (fun _ => StatH.init) h

/-- The status channel of power die `h` set. -/
def Dev.setStat (s : Dev) (h : Nat) (x : StatH) : Dev := { s with stat := s.stat.put (fun _ => StatH.init) h x }

/-- Check-value unit `u` of die `d`. -/
def Dev.crc (s : Dev) (d u : Nat) : CrcH := s.crcs.get (fun _ => CrcH.init) (8 * d + u)

/-- Check-value unit `u` of die `d` set. -/
def Dev.setCrc (s : Dev) (d u : Nat) (h : CrcH) : Dev :=
  { s with crcs := s.crcs.put (fun _ => CrcH.init) (8 * d + u) h }

/-- The self-test engine of die `d`. -/
def Dev.eng (s : Dev) (d : Nat) : BistH := s.bist.get (fun _ => BistH.init) d

/-- The self-test engine of die `d` set. -/
def Dev.setEng (s : Dev) (d : Nat) (h : BistH) : Dev := { s with bist := s.bist.put (fun _ => BistH.init) d h }

/-- Calibration of tile `t` of die `d`. -/
def Dev.cal (s : Dev) (d t : Nat) : CalH := s.cals.get (fun _ => CalH.init) (8 * d + t)

/-- Calibration of tile `t` of die `d` set. -/
def Dev.setCal (s : Dev) (d t : Nat) (h : CalH) : Dev := { s with cals := s.cals.put (fun _ => CalH.init) (8 * d + t) h }

/-- String channel `c`. -/
def Dev.chan (s : Dev) (c : Nat) : ChanH := s.chans.get (fun _ => ChanH.init) c

/-- String channel `c` set. -/
def Dev.setChan (s : Dev) (c : Nat) (h : ChanH) : Dev := { s with chans := s.chans.put (fun _ => ChanH.init) c h }

/-- The sample runs of channel `c` in row `r`. -/
def Dev.run (s : Dev) (c r : Nat) : RunH := s.runs.get (fun _ => RunH.init) (8 * c + r)

/-- The sample runs of channel `c` in row `r` set. -/
def Dev.setRun (s : Dev) (c r : Nat) (h : RunH) : Dev := { s with runs := s.runs.put (fun _ => RunH.init) (8 * c + r) h }

/-- Matrix group `g` of power die `h`. -/
def Dev.group (s : Dev) (h g : Nat) : GroupH := s.groups.get (fun _ => GroupH.init) (8 * h + g)

/-- Matrix group `g` of power die `h` set. -/
def Dev.setGroup (s : Dev) (h g : Nat) (x : GroupH) : Dev :=
  { s with groups := s.groups.put (fun _ => GroupH.init) (8 * h + g) x }

/-- Power die `h`. -/
def Dev.hv (s : Dev) (h : Nat) : HvH := s.hvs.get HvH.init h

/-- Power die `h` set. -/
def Dev.setHv (s : Dev) (h : Nat) (x : HvH) : Dev := { s with hvs := s.hvs.put HvH.init h x }

/-- The rebuild of die `d`. -/
def Dev.rb (s : Dev) (d : Nat) : RbH := s.rbs.get (fun _ => RbH.init) d

/-- The rebuild of die `d` set. -/
def Dev.setRb (s : Dev) (d : Nat) (x : RbH) : Dev := { s with rbs := s.rbs.put (fun _ => RbH.init) d x }

/-- Data channel `c` of power die `h`. -/
def Dev.dc (s : Dev) (h c : Nat) : DcH := s.dcs.get (fun _ => DcH.init) (2 * h + c)

/-- Data channel `c` of power die `h` set. -/
def Dev.setDc (s : Dev) (h c : Nat) (x : DcH) : Dev := { s with dcs := s.dcs.put (fun _ => DcH.init) (2 * h + c) x }

/-- The bridge end of die `d`. -/
def Dev.brg (s : Dev) (d : Nat) : BrgH := s.brgs.get (fun _ => BrgH.init) d

/-- The bridge end of die `d` set. -/
def Dev.setBrg (s : Dev) (d : Nat) (x : BrgH) : Dev := { s with brgs := s.brgs.put (fun _ => BrgH.init) d x }

/-- CAN port `p`. -/
def Dev.can (s : Dev) (p : Nat) : CanH := s.cans.get (fun _ => CanH.init) p

/-- CAN port `p` set. -/
def Dev.setCan (s : Dev) (p : Nat) (x : CanH) : Dev := { s with cans := s.cans.put (fun _ => CanH.init) p x }

/-- Client session `k`, where it is open. -/
def Dev.sess (s : Dev) (k : Nat) : Option Sess := s.pzp.sess.get (fun _ => none) k

/-- Client session `k` set. -/
def Dev.setSess (s : Dev) (k : Nat) (x : Option Sess) : Dev :=
  { s with pzp := { s.pzp with sess := s.pzp.sess.put (fun _ => none) k x } }

/-- Zone entry `z`. -/
def Dev.zone (s : Dev) (z : Nat) : ZoneE := s.cfg.zones.get (fun _ => default) z

/-- The place of tile `t` of die `d` (R88). -/
def Dev.place (s : Dev) (d t : Nat) : TilePlace := s.cfg.tiles.get (fun _ => ⟨false, 0, 0, 0⟩) (8 * d + t)

/-- The local tiles of head `n` on die `d`. -/
def Dev.tilesOf (s : Dev) (d n : Nat) : List Nat :=
  (List.range 8).filter (fun t => (s.place d t).used && (s.place d t).head == n)

/-- Head `n` has tiles on die `d` (USED, Table 6-7). -/
def Dev.usedOn (s : Dev) (d n : Nat) : Bool := s.rdF (Reg.HEAD_TACT d n) F.HEAD_TACT_USED == 1

/-- Die `d` is the master die of head `n` (R129). -/
def Dev.isMaster (s : Dev) (d n : Nat) : Bool := s.usedOn d n && s.rdF (Reg.HEAD_TACT d n) F.HEAD_TACT_MASTER == 1

/-- Head `n` spans both dies. -/
def Dev.spansDies (s : Dev) (n : Nat) : Bool := s.rdF (Reg.HEAD_TACT 0 n) F.HEAD_TACT_SPAN == 1

/-- Die `d` carries the slave half of head `n`. -/
def Dev.isSlave (s : Dev) (d n : Nat) : Bool := s.usedOn d n && !s.isMaster d n

/-- Head `n` is in use in the running image. -/
def Dev.headUsed (s : Dev) (n : Nat) : Bool := s.usedOn 0 n || s.usedOn 1 n

/-- The master die of head `n`. -/
def Dev.masterOf (s : Dev) (n : Nat) : Nat := if s.isMaster 1 n then 1 else 0

/-- The dies that carry tiles of head `n`. -/
def Dev.diesOf (s : Dev) (n : Nat) : List Nat := (List.range 2).filter (fun d => s.usedOn d n)

/-- A fresh free value: nothing constrains it (log entry 4). -/
def Dev.free (s : Dev) : Nat × Dev := (Config.freeValue s.fresh, { s with fresh := s.fresh + 1 })

/-- `f` applied for every element of a list, left to right. -/
def forAll {α : Type} (l : List α) (s : Dev) (f : Dev → α → Dev) : Dev := l.foldl f s

/-- A command whose effect is on the device alone. -/
def State.onDev (s : State) (f : Dev → Dev) : Host.Outcome State Fault Refusal := .next { s with dev := f s.dev }

/-- A microsecond passes in which no command comes (log entry 3). -/
def State.idle (s : State) : State := { s with dev := { s.dev with us := s.dev.us + 1 } }

/-- What an unlisted byte of DRAM reads as (log entry 6). -/
def dramDefault (_ : Nat) : Byte := 0#8

/-- What an unlisted byte of the flash reads as: erased (R45, log entry 7). -/
def flashDefault (_ : Nat) : Byte := 0xFF#8

/-- Byte `a` of the DRAM of die `d`. -/
def Mems.dramAt (m : Mems) (d a : Nat) : Byte := m.dram.get dramDefault (2147483648 * d + a)

/-- `n` bytes of the DRAM of die `d` from `a` on. -/
def Mems.dramRead (m : Mems) (d a n : Nat) : List Byte := (List.range n).map (fun k => m.dramAt d (a + k))

/-- Bytes stored from key `k` on. -/
def putBytes (df : Nat → Byte) : SMap Byte → Nat → List Byte → SMap Byte
  | m, _, [] => m
  | m, k, b :: bs => putBytes df (m.put df k b) (k + 1) bs

/-- Bytes stored in the DRAM of die `d` from `a` on. -/
def Mems.dramWrite (m : Mems) (d a : Nat) (bs : List Byte) : Mems :=
  { m with dram := putBytes dramDefault m.dram (2147483648 * d + a) bs }

/-- `n` bytes of the memory of ring `r` from `a` on. -/
def Mems.ringRead (m : Mems) (r a n : Nat) : List Byte := (List.range n).map (fun k => m.ring.get dramDefault (8192 * r + a + k))

/-- Bytes stored in the ring memory from key `k` on. -/
def Mems.ringWrite (m : Mems) (k : Nat) (bs : List Byte) : Mems := { m with ring := putBytes dramDefault m.ring k bs }

/-- `n` bytes of the flash from `a` on. -/
def Mems.flashRead (m : Mems) (a n : Nat) : List Byte := (List.range n).map (fun k => m.flash.get flashDefault (a + k))

/-- Bytes stored in the flash from `a` on. -/
def Mems.flashWrite (m : Mems) (a : Nat) (bs : List Byte) : Mems := { m with flash := putBytes flashDefault m.flash a bs }

end Sys2Proof.Machine
end

