-- ==== Sys2Proof/Machine/Bridge.lean ====
section
/-! DEFINITION. What the dies send to each other: frames on the isolation data channels (R18 to R20) and flits on the bridge (R23, R24,
R30, R31, R34, Table 1-2). -/

namespace Sys2Proof.Machine

/-- A fault bit's cause is present. -/
def Dev.hasCause (s : Dev) (a k : Nat) : Bool := s.rdB (a + 8) k

/-! ## Isolation data channels -/

/-- A data channel of power die `h` is up (R19). -/
def Dev.linkUp (s : Dev) (h c : Nat) : Bool := s.rdB (Reg.BST_LINK_STAT h) (1 + c)

/-- The active data channel of power die `h` (R20). -/
def Dev.active (s : Dev) (h : Nat) : Nat := s.rdF (Reg.BST_LINK_STAT h) F.BST_LINK_STAT_ACTIVE

/-- The active data channel of power die `h` is up. -/
def Dev.linked (s : Dev) (h : Nat) : Bool := s.linkUp h (s.active h)

/-- A frame that carries `w` goes out on channel `c` of power die `h`, with the next sequence number of its direction, and awaits its
acknowledgement (R18). -/
def Dev.dcPut (s : Dev) (h c : Nat) (up : Bool) (w : DcWhat) : Dev :=
  let x := s.dc h c
  let q := if up then x.seqUp else x.seqDown
  let x : DcH := { x with unack := x.unack ++ [{ up := up, seq := q, tries := 0, what := w }],
                          seqUp := if up then (q + 1) % 256 else x.seqUp,
                          seqDown := if up then x.seqDown else (q + 1) % 256 }
  (s.setDc h c x).emit (.dcSend h c up q w)

/-- A frame that carries `w` goes out on the active data channel of power die `h`, where that is up: only the compositor die on it
sends set points, PWM values and matrix frames (R20, R226). -/
def Dev.dcSend (s : Dev) (h : Nat) (up : Bool) (w : DcWhat) : Dev := if s.linked h then s.dcPut h (s.active h) up w else s

/-! ## Bridge -/

/-- Bridge links in service. -/
def Dev.links (s : Dev) : List Nat := (List.range 4).filter (fun l => s.rdB (Reg.FAB_BRG_STAT 0) l)

/-- How many bridge links are in service. -/
def Dev.linksUp (s : Dev) : Nat := s.links.length

/-- The credits in use, or the flits in the receive buffer, of a virtual channel. -/
def vcCount (m : SMap Nat) (vc : Nat) : Nat := m.get (fun _ => 0) vc

/-- A count of a virtual channel moved up or down. -/
def vcMove (m : SMap Nat) (vc up down : Nat) : SMap Nat := m.put (fun _ => 0) vc (vcCount m vc + up - down)

/-- The sender holds a credit of a virtual channel (R23); no other channel's credits serve it. -/
def BrgH.credit (x : BrgH) (vc : Nat) : Bool := decide (vcCount x.used vc < Config.vcCredits vc)

/-- The oldest flit of a virtual channel that waits and has a credit. -/
def BrgH.ready (x : BrgH) (vc : Nat) : Option BrgFlit := if x.credit vc then x.wait.find? (fun f => f.vc == vc) else none

/-- The next flit to be sent (R30, Table 1-2): VC0 before VC1 before the others, which share by weight 3:1 where both are ready. -/
def BrgH.pick (x : BrgH) : Option BrgFlit :=
  match x.ready 0, x.ready 1, x.ready 2, x.ready 3 with
  | some f, _, _, _ => some f
  | none, some f, _, _ => some f
  | none, none, some f, some g => some (if x.turn < 3 then f else g)
  | none, none, some f, none => some f
  | none, none, none, g => g

/-- The link of a flit among those in service: the flits take the links in turn (log entry 190). -/
def linkFor (links : List Nat) (f : BrgFlit) : Nat := links.getD (f.num % links.length) 0

/-- One flit is sent, where one may be. -/
def BrgH.sendOne (x : BrgH) (links : List Nat) : BrgH :=
  match x.pick with
  | none => x
  | some f =>
    { x with used := vcMove x.used f.vc 1 0, wait := x.wait.filter (fun g => g.num != f.num),
             unack := x.unack ++ [(linkFor links f, f)],
             turn := if (x.ready 2).isSome ∧ (x.ready 3).isSome ∧ 2 ≤ f.vc then (x.turn + 1) % 4 else x.turn }

/-- At most `n` flits are sent. -/
def BrgH.pump (links : List Nat) : Nat → BrgH → BrgH
  | 0, x => x
  | n + 1, x => BrgH.pump links n (x.sendOne links)

/-- Die `d` sends what its credits allow. -/
def Dev.brgPump (s : Dev) (d : Nat) : Dev :=
  if s.linksUp = 0 then s else s.setBrg d ((s.brg d).pump s.links (s.brg d).wait.length)

/-- Die `d` commits a flit to virtual channel `vc` (R29): it is sent once a credit is there. With no link in service the transfer
has failed, which FAB_BRG_FLT_STAT reports (R31). -/
def Dev.brgSend (s : Dev) (d vc : Nat) : Dev :=
  if s.linksUp = 0 then s
  else
    let x := s.brg d
    (s.setBrg d { x with wait := x.wait ++ [{ num := x.next, vc := vc }], next := x.next + 1 }).brgPump d

/-- The receive buffers of die `d` drain (R33, R34): what came on VC2 and VC3 goes to its DRAM request queues where these have room,
and its credits return. -/
def Dev.brgDrain (s : Dev) (d : Nat) : Dev :=
  if 128 ≤ (s.drc d).table.length then s
  else
    let b := (s.brg d).buf
    let y := s.brg (1 - d)
    let s := s.setBrg (1 - d) { y with used := vcMove (vcMove y.used 2 0 (vcCount b 2)) 3 0 (vcCount b 3) }
    (s.setBrg d { s.brg d with buf := [] }).brgPump (1 - d)

/-- A flit with a good check arrives at die `d` (R23, R24): its sender drops it from those not acknowledged. VC0 and VC1 flits are
consumed at once and their credit returns; the others enter their receive buffer. -/
def Dev.flitTake (s : Dev) (d link vc : Nat) : Dev :=
  let y := s.brg (1 - d)
  let k := y.unack.findIdx (fun e => e.1 == link && e.2.vc == vc)
  let s := s.setBrg (1 - d)
    { y with unack := y.unack.eraseIdx k, used := if vc < 2 then vcMove y.used vc 0 1 else y.used }
  let x := s.brg d
  let s := s.setBrg d { x with fails := x.fails.put (fun _ => 0) link 0, buf := if vc < 2 then x.buf else vcMove x.buf vc 1 0 }
  (s.brgDrain d).brgPump (1 - d)

/-- A flit arrives on a link (R24): a bad check asks for its replay on the same link, at most eight times in a row for one flit
(R31). -/
def Dev.flitRx (s : Dev) (d link vc : Nat) (good : Bool) : Dev :=
  if !s.rdB (Reg.FAB_BRG_STAT d) link then s
  else if good then s.flitTake d link vc
  else
    let x := s.brg d
    let n := x.fails.get (fun _ => 0) link + 1
    let s := s.setBrg d { x with fails := x.fails.put (fun _ => 0) link n }
    if 8 < n then s
    else (s.addF (Reg.FAB_BRG_CNT d link) F.FAB_BRG_CNT_REPLAYS 1).emit (.replay d link)

/-- The flits not acknowledged on a link that leaves service are replayed, in order, on the links that remain; with none left the
transfers have failed (R24, R31). -/
def Dev.brgMove (s : Dev) (d link : Nat) : Dev :=
  let x := s.brg d
  if s.linksUp = 0 then s.setBrg d { BrgH.init with next := x.next }
  else s.setBrg d { x with unack := x.unack.map (fun e => if e.1 = link then (linkFor s.links e.2, e.2) else e),
                           fails := x.fails.put (fun _ => 0) link 0 }

end Sys2Proof.Machine
end

