-- ==== Sys2Proof/Machine/Flags.lean ====
section
/-! DEFINITION. Fault bits and their events: the triple of status, enable and cause registers (R15, R304, R305), the
summary clusters (Table 14-1), the MSI-X vectors (Table 15-4), EVT_N (R308), masked watchers and the consequential log (R310). -/

namespace Sys2Proof.Machine

/-- Every fault status register of cluster `c` of a compositor die (Table 14-1). -/
def cdClusterStats (d c : Nat) : List Nat :=
  match c with
  | 0 => (List.range 4).flatMap (fun n => [Reg.LANE_FLT_STAT d n, Reg.LANE_TILE_FLT_STAT d n]) ++ [Reg.LANE_Q_FLT_STAT d 0]
  | 1 => (List.range' 4 4).flatMap (fun n => [Reg.LANE_FLT_STAT d n, Reg.LANE_TILE_FLT_STAT d n]) ++ [Reg.LANE_Q_FLT_STAT d 1]
  | 2 => (List.range' 8 2).flatMap (fun n => [Reg.LANE_FLT_STAT d n, Reg.LANE_IN_FLT_STAT d n]) ++ [Reg.LANE_Q_FLT_STAT d 2]
  | 3 => (List.range 4).map (Reg.HEAD_TG_FLT_STAT d)
  | 4 => (List.range 4).flatMap (fun n => [Reg.HEAD_CMP_FLT_STAT d n, Reg.HEAD_WARP_FLT_STAT d n]) ++
      (if d = 0 then [Reg.HEAD_IMU_FLT_STAT] else [])
  | 5 => [Reg.FAB_PIPE_FLT_STAT d, Reg.FAB_FLT_STAT d]
  | 6 => [Reg.PHO_FLT_STAT d]
  | 7 => [Reg.CAL_FLT_STAT d]
  | 8 => [Reg.DRC_FLT_STAT d]
  | 9 => (List.range 8).map (Reg.CRC_FLT_STAT d)
  | 10 => [Reg.BIST_FLT_STAT d]
  | 11 => if d = 0 then [Reg.THM_FLT_STAT d] else []
  | 12 => [Reg.FAB_BRG_FLT_STAT d]
  | 13 => if d = 0 then [Reg.PZP_FLT_STAT] else []
  | 14 => [Reg.FAB_DIE_FLT_STAT d]
  | _ => []

/-- Every fault status register of bit `c` of VSP_FLT_SUM1 (Table 14-1). -/
def sum1ClusterStats (c : Nat) : List Nat :=
  if c < 16 then
    let h := c / 8
    match c % 8 with
    | 4 => [Reg.BST_FLT_STAT h]
    | 5 => [Reg.BST_MX_FLT_STAT h]
    | 6 => [Reg.BST_LINK_FLT_STAT h]
    | 7 => []
    | k => (List.range 16).map (fun j => Reg.CH_FLT_STAT (64 * h + 16 * k + j))
  else match c with
  | 16 => [Reg.VSP_IMG_FLT_STAT]
  | 17 => [Reg.VSP_TRIM_FLT_STAT]
  | 18 => [Reg.SEC_FLT_STAT]
  | 19 => [Reg.VSP_LINK_FLT_STAT]
  | 20 => [Reg.VSP_PWR_FLT_STAT]
  | _ => []

/-- Fault status registers of cluster `c`: 0 to 31 are the bits of VSP_FLT_SUM0, 32 on those of VSP_FLT_SUM1. -/
def clusterStats (c : Nat) : List Nat :=
  if c < 32 then cdClusterStats (c / 16) (c % 16) else sum1ClusterStats (c - 32)

/-- The cluster of the fault status register at `a`. -/
def clusterOf (a : Nat) : Nat :=
  if 0x4000000 ≤ a then 51
  else if 0x3C00000 ≤ a then 50
  else if 0x3000000 ≤ a then
    let h := (a - 0x3000000) / 0x400000
    let o := a % 0x400000
    32 + 8 * h + (if o < 0x10000 then 4 else if o < 0x20000 then (o - 0x10000) / 0x400 else if o < 0x30000 then 5 else 6)
  else if 0x1000000 ≤ a then
    let d := a / 0x1000000 - 1
    let o := a % 0x1000000
    16 * d +
      (if o < 0x10000 then 14
       else if o < 0x14000 then 0
       else if o < 0x18000 then 1
       else if o < 0x1A000 then 2
       else if o < 0x20000 then (o - 0x1C000) / 0x100
       else if o < 0x48000 then 3
       else if 0x49000 ≤ o ∧ o < 0x4A000 then 5
       else if o < 0x4E000 then 4
       else if o < 0x60000 then 5
       else if o < 0x61000 then 6
       else if o < 0x80000 then 7
       else if o < 0xA0000 then 8
       else if o < 0xB0000 then 9
       else if o < 0xC0000 then 10
       else if o < 0xD0000 then 11
       else if o < 0xE0000 then 12
       else 13)
  else if a < 0x4000 then 52
  else if a < 0x5000 then 48
  else 49

/-- The MSI-X vector on which the unit with the fault status register at `a` sends its events (Table 15-4). -/
def vectorOf (a : Nat) : Nat :=
  let c := clusterOf a
  if c < 32 then (if c % 16 = 9 then 16 + 8 * (c / 16) + a % 0x1000 / 0x100 else 44 + c % 16)
  else if c < 48 then 59 + (c - 32) / 8
  else if c < 51 then 61
  else 62

/-- Block ID (R309). -/
def blockId (die unit index : Nat) : Nat := die * 0x1000 + unit * 0x100 + index

/-- The watcher (by block ID) that bit `k` of the fault status register at `a` belongs to, where the bit has one of its own
(Table 14-4): the tile state and packet logic of a lane, the receiver of a bridge link, the boost regulation loop. -/
def watcherOf (a k : Nat) : Option Nat :=
  let c := clusterOf a
  if c < 32 then
    (if c % 16 < 2 then some (blockId (c / 16 + 1) 1 ((a % 0x1000000 - 0x10000) / 0x1000))
     else if c % 16 = 12 ∧ k < 4 then some (blockId (c / 16 + 1) 0xD k)
     else none)
  else if c < 48 ∧ (c - 32) % 8 = 4 then some (blockId (3 + (c - 32) / 8) 0 0)
  else none

/-- The way of an event of cluster `c` to CD0, which holds the PCI Express endpoint: from CD1 on bridge VC0 (Table 1-2), from a power
die on its active data channel (Table 1-1). -/
def Dev.eventWay (s : Dev) (c a : Nat) : Dev :=
  if 16 ≤ c ∧ c < 32 then s.brgSend 1 0 else if 32 ≤ c ∧ c < 48 then s.dcSend ((c - 32) / 8) true (.event a) else s

/-- A new event of the unit with the fault status register at `a` (R305): its MSI-X message, and the EVT_N pulse and HOLD
where its cluster's mask bit is set (R308). -/
def Dev.event (s : Dev) (a : Nat) : Dev :=
  let c := clusterOf a
  let s := (s.eventWay c a).emit (.msix (vectorOf a))
  let m := if c < 32 then s.rd Reg.VSP_EVT_MASK0 else s.rd Reg.VSP_EVT_MASK1
  if bitOf m (c % 32) then
    let s := { s with flt := { s.flt with pulse := true } }
    if s.rdF Reg.VSP_EVT_HOLD F.VSP_EVT_HOLD_ARMHOLD = 1 then s.wrF Reg.VSP_EVT_HOLD F.VSP_EVT_HOLD_HOLD 1 else s
  else s

/-- Status bit `k` of the triple at `a` latches where it is enabled and clear, as a new event (R304, R305). -/
def Dev.latchFault (s : Dev) (a k : Nat) : Dev :=
  if s.rdB (a + 4) k && !s.rdB a k then (s.wrB a k true).event a else s

/-- The compositor die whose engine tests blocks of die number `die` of R309 (R312): itself, or for a power die the die on
its active data channel. -/
def Dev.engineDie (s : Dev) (die : Nat) : Nat :=
  if die = 1 ∨ die = 2 then die - 1
  else s.rdF (Reg.BST_LINK_STAT (die - 3)) F.BST_LINK_STAT_ACTIVE

/-- One entry of the consequential log of the watcher's die (R310). -/
def Dev.logConsequence (s : Dev) (cause watcher : Nat) : Dev :=
  let d := s.engineDie (watcher / 0x1000)
  let i := s.rdF (Reg.BIST_CQ_PTR d) F.BIST_CQ_PTR_NEXT
  let full := 16 ≤ (s.rd (Reg.BIST_CQ_CNT d)).toNat
  let s := s.wr (Reg.BIST_CQ_LOG d i) (BitVec.ofNat 32 (cause + 0x10000 * watcher))
  let s := s.wrF (Reg.BIST_CQ_PTR d) F.BIST_CQ_PTR_NEXT (i + 1)
  let s := s.addR (Reg.BIST_CQ_CNT d) 1
  if full then s.latchFault (Reg.BIST_FLT_STAT d) B.BIST_CQ_OVF else s

/-- The mask on a watcher, where it is masked. -/
def Dev.maskOn (s : Dev) (w : Nat) : Option WMask := s.flt.masks.find? (fun m => m.watcher == w)

/-- A detection by watcher `w` of a fault: logged while `w` is masked after a release, nothing while the reset lasts, and
otherwise what `f` does (R310). -/
def Dev.unlessMasked (s : Dev) (w : Option Nat) (f : Dev → Dev) : Dev :=
  match w with
  | none => f s
  | some w =>
    match s.maskOn w with
    | none => f s
    | some m => if m.released then s.logConsequence m.cause w else s

/-- A fault whose condition lasts a moment (R304): fault bit `k` of the triple at `a`. -/
def Dev.raise (s : Dev) (a k : Nat) : Dev := s.unlessMasked (watcherOf a k) (fun s => s.latchFault a k)

/-- The cause of fault bit `k` of the triple at `a` becomes present (R304). -/
def Dev.causeOn (s : Dev) (a k : Nat) : Dev :=
  let s := s.wrB (a + 8) k true
  s.unlessMasked (watcherOf a k) (fun s => s.latchFault a k)

/-- The cause of fault bit `k` of the triple at `a` goes (R304); a latched bit stays. -/
def Dev.causeOff (s : Dev) (a k : Nat) : Dev := s.wrB (a + 8) k false

/-- The cause of fault bit `k` as `b` says. A cause already present stays without a new event. -/
def Dev.causeIs (s : Dev) (a k : Nat) (b : Bool) : Dev := if b then s.causeOn a k else s.causeOff a k

/-- The bits of a word, lowest first. -/
def bitsOf (w : Word) : List Nat := (List.range 32).filter (bitOf w)

/-- Fault bit `k` may latch now: its cause is present, it is enabled and its watcher is not masked (R304, R310). -/
def Dev.standing (s : Dev) (a k : Nat) : Bool :=
  s.rdB (a + 8) k && s.rdB (a + 4) k &&
    (match watcherOf a k with | none => true | some w => (s.maskOn w).isNone)

/-- A fault status bit of summary cluster `c` is latched (R307). -/
def Dev.clusterLatched (s : Dev) (c : Nat) : Bool := (clusterStats c).any (fun a => s.rd a != 0#32)

/-- A code whose summary bit clears moves to DM2 (R337). -/
def Dev.codeGone (s : Dev) (c : Nat) : Dev :=
  { s with flt := { s.flt with dm2 := (s.flt.dm2.filter (fun e => e.2 != c)) ++ [(0, c), (1, c)],
                               cleared := s.flt.cleared.filter (fun e => e.2 != c) } }

/-- A W1C write to the fault status register at `a`: bits written 1 clear, but for those whose fault still stands (R304). -/
def Dev.clearStat (s : Dev) (a : Nat) (v : Word) : Dev :=
  let c := clusterOf a
  let was := s.clusterLatched c
  let s := forAll (bitsOf (v &&& s.rd a)) s (fun s k => if s.standing a k then s else s.wrB a k false)
  if was && !s.clusterLatched c then s.codeGone c else s

/-- A write of the fault enable register of the triple at `a`: an enable rising on a present cause makes a new event (R305). -/
def Dev.writeEn (s : Dev) (a : Nat) (v : Word) : Dev :=
  let s := s.wr (a + 4) v
  forAll (bitsOf (s.rd (a + 4))) s (fun s k => if s.standing a k then s.latchFault a k else s)

/-- The fault status registers of a summary word. -/
def sumWord (s : Dev) (base : Nat) : Word :=
  (List.range 32).foldl (fun w c => if s.clusterLatched (base + c) then bitSet w c else w) 0#32

/-- VSP_FLT_SUM0 (R307). -/
def Dev.fltSum0 (s : Dev) : Word := sumWord s 0

/-- VSP_FLT_SUM1 (R307). -/
def Dev.fltSum1 (s : Dev) : Word := sumWord s 32

/-- The power state (Table 16-4): 0 SLEEP, 1 STANDBY, 2 READY, 3 LIT, 4 SAFE. -/
def Dev.power (s : Dev) : Nat := s.rdF Reg.VSP_PWR_STAT F.VSP_PWR_STAT_STATE

/-- FLT_N is asserted (R307); in SLEEP it is released (R374). -/
def Dev.fltPin (s : Dev) : Bool := s.power != 0 && (s.fltSum0 != 0#32 || s.fltSum1 != 0#32 || !s.flt.disputed.isEmpty)

/-- EVT_N is asserted (R308); in SLEEP it is released (R374). -/
def Dev.evtPin (s : Dev) : Bool := s.power != 0 && (s.flt.pulse || s.rdF Reg.VSP_EVT_HOLD F.VSP_EVT_HOLD_HOLD == 1)

/-- VSP_PIN_STAT (Table 14-9). -/
def Dev.pinStat (s : Dev) : Word :=
  BitVec.ofNat 32 (b2n s.evtPin + 2 * b2n s.fltPin + 4 * b2n s.flt.pulse + 8 * b2n (!s.flt.disputed.isEmpty))

/-! ## Which dies reach each other -/

/-- Compositor die `d` is powered, and neither held in reset nor lost. -/
def Dev.cdUp (s : Dev) (d : Nat) : Bool := s.pwr.vbat != 2 && s.power != 0 && !s.pwr.rstHeld && !s.pwr.lost.contains d

/-- Compositor die `d` and the vesper die reach each other over its supervisor link (Table 1-1). -/
def Dev.supWay (s : Dev) (d : Nat) : Bool := s.cdUp d && !s.hasCause (Reg.FAB_DIE_FLT_STAT d) B.FAB_DIE_SUP_LINK

/-- CD0, which holds the PCI Express endpoint, reaches compositor die `d`: CD1 over the bridge (R17). -/
def Dev.hostWay (s : Dev) (d : Nat) : Bool := s.cdUp 0 && (d == 0 || (s.cdUp d && s.linksUp != 0))

/-- Compositor die `e` reaches compositor die `d`: itself, or the other one over the bridge (R17). -/
def Dev.dieWay (s : Dev) (e d : Nat) : Bool := e == d || (s.cdUp d && s.linksUp != 0)

end Sys2Proof.Machine
end

