-- ==== Sys2Proof/Machine/SelfTest.lean ====
section
/-! DEFINITION. Operations of the self-test engines that other units meet (R310, R313, R314, R316): masked watchers, held
blocks, and the abandonment of a slice. -/

namespace Sys2Proof.Machine

/-- Block ID of lane `n` of die `d` (Table 14-3). -/
def laneBlock (d n : Nat) : Nat := blockId (d + 1) 1 n

/-- The block ID of the line buffer of tile `t` of die `d`, which Table 14-3 gives no index: DESIGN CHOICE (log entry 15). -/
def lineBlock (d t : Nat) : Nat := blockId (d + 1) 4 (0x20 + t)

/-- The block ID of the output-stage column of the half of head `n` on die `d` (Table 2-5). -/
def Dev.outBlock (s : Dev) (d n : Nat) : Nat := blockId (d + 1) 4 (0x40 + s.cfg.outCol.get (fun _ => 0) (4 * d + n))

/-- The watchers of a block, by block ID (Table 14-4). The spec gives the packet logic and the tile state logic of a lane no block of
their own in Table 14-3: the lane's block stands for them (log entry 15). -/
def Dev.watchersOf (s : Dev) (blk : Nat) : List Nat :=
  let die := blk / 0x1000
  let unit := blk / 0x100 % 0x10
  let ix := blk % 0x100
  if die = 1 ∨ die = 2 then
    if unit = 4 ∧ 0x10 ≤ ix ∧ ix < 0x14 then ((List.range 4).filter (s.usedOn (die - 1))).map (s.outBlock (die - 1))
    else if unit = 4 ∧ 0x20 ≤ ix ∧ ix < 0x28 then [blockId die 1 (ix - 0x20)]
    else if unit = 1 ∧ ix < 8 then [blk]
    else if unit = 6 ∧ ix < 8 then [lineBlock (die - 1) ix]
    else if unit = 0xD ∧ ix < 4 then [blockId 1 0xD ix, blockId 2 0xD ix]
    else []
  else if unit = 1 then [blockId die 0 0]
  else []

/-- Reset assertion of a block masks its watchers (R310). -/
def Dev.maskAssert (s : Dev) (blk : Nat) : Dev :=
  let ws := s.watchersOf blk
  { s with flt := { s.flt with masks := ws.map (fun w => ⟨w, blk, false, false⟩) ++ s.flt.masks.filter (fun m => !ws.contains m.watcher) } }

/-- Reset release of a block: its watchers stay masked until MASK_END, and log entries name this block (R310). -/
def Dev.maskRelease (s : Dev) (blk : Nat) : Dev :=
  let ws := s.watchersOf blk
  { s with flt := { s.flt with masks := ws.map (fun w => ⟨w, blk, true, false⟩) ++ s.flt.masks.filter (fun m => !ws.contains m.watcher) } }

/-- The entries of the held list of die `d` that are valid (Table 14-8). -/
def Dev.heldList (s : Dev) (d : Nat) : List Word :=
  ((List.range 16).map (fun k => s.rd (Reg.BIST_HELD d k))).filter (fun w => fget w F.BIST_HELD_VALID == 1)

/-- A block is on the held list of the die whose engine tests it (R316). -/
def Dev.isHeld (s : Dev) (blk : Nat) : Bool :=
  (s.heldList (s.engineDie (blk / 0x1000))).any (fun w => fget w F.BIST_HELD_BLOCK == blk)

/-- The held list of die `d` written: the order in which the blocks were held (Table 14-8). -/
def Dev.putHeld (s : Dev) (d : Nat) (l : List Word) : Dev :=
  forAll (List.range 16) s (fun s k => s.wr (Reg.BIST_HELD d k) (l.getD k 0#32))

/-- A block enters the held list. -/
def Dev.addHeld (s : Dev) (d blk : Nat) (startup : Bool) : Dev :=
  if (s.heldList d).any (fun w => fget w F.BIST_HELD_BLOCK == blk) then s
  else s.putHeld d (s.heldList d ++ [BitVec.ofNat 32 (blk + 0x10000 + (if startup then 0x20000 else 0))])

/-- A block leaves the held list. -/
def Dev.dropHeld (s : Dev) (d blk : Nat) : Dev :=
  s.putHeld d ((s.heldList d).filter (fun w => fget w F.BIST_HELD_BLOCK != blk))

/-- The registers saved for a slice are restored (R302). -/
def Dev.restore (s : Dev) (l : List (Nat × Word)) : Dev := forAll l s (fun s e => s.wr e.1 e.2)

/-- The consecutive abandonments of a block count one more (R314); those of a RETEST, which is no slice, do not count. -/
def Dev.countAbandon (s : Dev) (d : Nat) (sl : Slice) : Dev :=
  let e := s.eng d
  if sl.retest then s
  else if sl.prio then
    let n := e.prioAband.get (fun _ => 0) sl.block + 1
    let s := s.setEng d { e with prioAband := e.prioAband.put (fun _ => 0) sl.block n }
    if 8 ≤ n then (s.setEng d { s.eng d with starved := sl.block :: (s.eng d).starved.filter (· != sl.block) }).causeOn (Reg.BIST_FLT_STAT d) B.BIST_STARVED
    else s
  else s.setEng d { e with aband := e.aband.put (fun _ => 0) sl.block (e.aband.get (fun _ => 0) sl.block + 1) }

/-- A block of die `d` is in a slice. -/
def Dev.inSlice (s : Dev) (d blk : Nat) : Bool := match (s.eng d).slice with | some sl => sl.block == blk | none => false

/-- The fault status registers of the units that watcher `w` may belong to (Table 14-4). -/
def watcherStats (w : Nat) : List Nat :=
  let die := w / 0x1000
  if die = 1 ∨ die = 2 then
    (if w / 0x100 % 0x10 = 1 then
      let n := w % 0x100
      [Reg.LANE_FLT_STAT (die - 1) n] ++ (if n < 8 then [Reg.LANE_TILE_FLT_STAT (die - 1) n] else [])
     else if w / 0x100 % 0x10 = 0xD then [Reg.FAB_BRG_FLT_STAT (die - 1)]
     else [])
  else if die = 3 ∨ die = 4 then [Reg.BST_FLT_STAT (die - 3)]
  else []

/-- The mask on watcher `w` ends: a cause of its own that is still present latches as a new event (R310). -/
def Dev.unmask (s : Dev) (w : Nat) : Dev :=
  let s := { s with flt := { s.flt with masks := s.flt.masks.filter (fun m => m.watcher != w) } }
  forAll (watcherStats w) s (fun s a =>
    forAll (bitsOf (s.rd (a + 8))) s (fun s k => if watcherOf a k = some w then s.latchFault a k else s))

/-- MASK_END of a watcher: while the watcher is itself in a slice, what is present latches when the slice ends (Table 14-7). -/
def Dev.maskEnd (s : Dev) (w : Nat) : Dev :=
  match s.maskOn w with
  | none => s
  | some m =>
    if !m.released then s
    else if s.inSlice (s.engineDie (w / 0x1000)) w then
      { s with flt := { s.flt with masks := s.flt.masks.map (fun x => if x.watcher = w then { x with ended := true } else x) } }
    else s.unmask w

/-- A mask on a block whose slice has just ended, and which has itself ended meanwhile. -/
def Dev.sliceUnmask (s : Dev) (blk : Nat) : Dev :=
  if s.flt.masks.any (fun m => m.watcher == blk && m.ended) then s.unmask blk else s

/-- A bridge link leaves service for a slice, or returns from it (Table 14-4). -/
def Dev.sliceLink (s : Dev) (blk : Nat) (on : Bool) : Dev :=
  if blk / 0x100 % 0x10 = 0xD ∧ blk / 0x1000 < 3 then
    forAll (List.range 2) s (fun s d => s.wrB (Reg.FAB_BRG_STAT d) (blk % 0x100) on)
  else s

/-- The slice in progress on die `d` ends ABORTED with REASON `why` (1 REQUEST, 2 BUDGET, 3 SAFE, 4 RESET): the block's context
is restored, its watchers stay masked until MASK_END, and REQUEST and BUDGET count under R314 (R313, R315, Table 14-7). How many
patterns had run is a free value. -/
def Dev.abandonSlice (s : Dev) (d why : Nat) : Dev :=
  match (s.eng d).slice with
  | none => s
  | some sl =>
    let e := s.eng d
    let s := s.setEng d { e with slice := none, due := if sl.retest ∧ why ≠ 4 then e.due ++ [sl.block] else e.due }
    let s := s.restore sl.saved
    let s := if s.isHeld sl.block then s else s.sliceLink sl.block true
    let s := (s.wrF (Reg.BIST_STAT d) F.BIST_STAT_RUNNING 0).wrF (Reg.BIST_STAT d) F.BIST_STAT_PRIORITY 0
    let s := s.wr (Reg.BIST_RES d) (BitVec.ofNat 32 (2 + 16 * why + 0x10000 * sl.block))
    let x := s.free
    let s := x.2.wr (Reg.BIST_RESCNT d) (BitVec.ofNat 32 (x.1 % (sl.len + 1) + 0x10000 * sl.len))
    let s := (s.maskRelease sl.block).sliceUnmask sl.block
    if why = 1 ∨ why = 2 then s.countAbandon d sl else s

/-- A register access to block `blk` of die `d` abandons a slice of that block (R313, R314). -/
def Dev.touch (s : Dev) (d blk : Nat) : Dev :=
  match (s.eng d).slice with
  | none => s
  | some sl => if sl.block = blk then s.abandonSlice d 1 else s

/-- The slice of a lane, column or other block that a request takes back (Table 14-4): a pipe, a photometric path, a DRAM channel, a
bridge link and a string channel are given back only when their slice ends. -/
def sliceYields (blk : Nat) : Bool :=
  let u := blk / 0x100 % 0x10
  decide (blk / 0x1000 = 1 ∨ blk / 0x1000 = 2) && (u == 1 || u == 0xA || (u == 4 && decide (0x40 ≤ blk % 0x100)))

/-- A request for normal service, other than a register access, that reaches block `blk`: it abandons an ordinary slice; a
priority slice and a RETEST make it wait (R313, R314, R316). -/
def Dev.serve (s : Dev) (d blk : Nat) : Dev :=
  match (s.eng d).slice with
  | none => s
  | some sl => if sl.block = blk ∧ !sl.prio ∧ !sl.retest then s.abandonSlice d 1 else s

end Sys2Proof.Machine
end

