-- ==== Sys2Proof/Machine/Crc.lean ====
section
/-! DEFINITION. The check-value algorithms of Table 13-1 (R292). -/

namespace Sys2Proof.Machine

/-- The parameters of an algorithm. -/
structure CrcAlg where
  w : Nat
  poly : Nat
  rpoly : Nat
  reflected : Bool
  init : Nat
  xorout : Nat
deriving DecidableEq, Repr

/-- Table 13-1, by POLY code. -/
def crcAlg (code : Nat) : CrcAlg :=
  match code with
  | 0 => ⟨32, 0x04C11DB7, 0xEDB88320, true, 0xFFFFFFFF, 0xFFFFFFFF⟩
  | 1 => ⟨32, 0x1EDC6F41, 0x82F63B78, true, 0xFFFFFFFF, 0xFFFFFFFF⟩
  | 2 => ⟨16, 0x1021, 0, false, 0xFFFF, 0⟩
  | _ => ⟨8, 0x1D, 0, false, 0xFF, 0xFF⟩

/-- One of the eight rounds of R292. -/
def crcRound (a : CrcAlg) (reg : Nat) : Nat :=
  if a.reflected then (if reg % 2 = 1 then (reg / 2) ^^^ a.rpoly else reg / 2)
  else if reg / 2 ^ (a.w - 1) % 2 = 1 then ((reg * 2) ^^^ a.poly) % 2 ^ a.w
  else reg * 2 % 2 ^ a.w

/-- The register after one byte (R292). -/
def crcByte (a : CrcAlg) (reg : Nat) (b : Byte) : Nat :=
  (crcRound a)^[8] (reg ^^^ (if a.reflected then b.toNat else b.toNat * 2 ^ (a.w - 8)))

/-- The register after some bytes. -/
def crcBytes (a : CrcAlg) (reg : Nat) (bs : List Byte) : Nat := bs.foldl (crcByte a) reg

/-- The check value of some bytes. -/
def crcOf (a : CrcAlg) (bs : List Byte) : Nat := crcBytes a a.init bs ^^^ a.xorout

/-- CRC-32C. -/
def crc32c (bs : List Byte) : Nat := crcOf (crcAlg 1) bs

/-- CRC-16/CCITT. -/
def crc16 (bs : List Byte) : Nat := crcOf (crcAlg 2) bs

end Sys2Proof.Machine
end

