-- ==== Sys2Proof/Machine/Symbols.lean ====
section
/-! DEFINITION. What stands on the two halves of a Derwell lane: 8b/10b code groups and control symbols (R153, R154), packet bodies and
their framing (R155, R178 to R180), filler and training sets (R156, R158), and the PRBS and pattern generators with their checker
(R159, R173). -/

namespace Sys2Proof.Machine

/-! ## Code groups -/

/-- How many of the low `n` bits of `v` are 1. -/
def onesOf (n v : Nat) : Nat := ((List.range n).filter (fun k => v.testBit k)).length

/-- The abcdei groups of D0 to D31 at negative running disparity, `a` leftmost (IEEE 802.3 Clause 36; PRESUMED, log entry 208). -/
def sixTab : List Nat :=
  [0b100111, 0b011101, 0b101101, 0b110001, 0b110101, 0b101001, 0b011001, 0b111000,
   0b111001, 0b100101, 0b010101, 0b110100, 0b001101, 0b101100, 0b011100, 0b010111,
   0b011011, 0b100011, 0b010011, 0b110010, 0b001011, 0b101010, 0b011010, 0b111010,
   0b110011, 0b100110, 0b010110, 0b110110, 0b001110, 0b101110, 0b011110, 0b101011]

/-- The fghj groups of Dx.0 to Dx.7 at negative running disparity (IEEE 802.3 Clause 36; PRESUMED, log entry 208). -/
def fourTab : List Nat := [0b1011, 0b1001, 0b0101, 0b1100, 0b1101, 0b1010, 0b0110, 0b1110]

/-- The control symbols of Table 7-2 that may be sent: byte and RD− code group. -/
def ctlTab : List (Nat × Nat) :=
  [(0xBC, 0b0011111010), (0x1C, 0b0011110100), (0xFB, 0b1101101000), (0xFD, 0b1011101000), (0xFE, 0b0111101000)]

/-- The abcdei group of Dx at a running disparity; `rd` is true where that is positive. -/
def sixOf (rd : Bool) (x : Nat) : Nat :=
  let v := nthD 0 sixTab x
  if rd && (onesOf 6 v != 3 || x == 7) then 63 - v else v

/-- The fghj group of Dx.y at the running disparity after its abcdei group. -/
def fourOf (rd : Bool) (x y : Nat) : Nat :=
  let v := nthD 0 fourTab y
  if y = 7 ∧ !rd ∧ (x = 17 ∨ x = 18 ∨ x = 20) then 0b0111
  else if y = 7 ∧ rd ∧ (x = 11 ∨ x = 13 ∨ x = 14) then 0b1000
  else if rd && (onesOf 4 v != 2 || y == 3) then 15 - v else v

/-- The running disparity after a group of `n` bits. -/
def rdAfter (rd : Bool) (n g : Nat) : Bool := if 2 * onesOf n g = n then rd else decide (n < 2 * onesOf n g)

/-- A symbol: a data byte, a control symbol of Table 7-2 by its byte, or a symbol error of R153 (reserved control symbols among them). -/
inductive Sym where
  | data (b : Byte)
  | ctl (b : Nat)
  | err
deriving DecidableEq, Repr

/-- The code group of a symbol at a running disparity (R153, R154), bit a leftmost. -/
def encodeSym (rd : Bool) : Sym → Nat
  | .data b =>
    let g := sixOf rd (b.toNat % 32)
    g * 16 + fourOf (rdAfter rd 6 g) (b.toNat % 32) (b.toNat / 32)
  | .ctl c => let g := (ctlTab.lookup c).getD 0; if rd then 1023 - g else g
  | .err => 0

/-- The symbol of a code group received at a running disparity (R153): one outside the tables, at the wrong disparity or reserved is a
symbol error. -/
def decodeSym (rd : Bool) (g : Nat) : Sym :=
  match ctlTab.find? (fun e => (if rd then 1023 - e.2 else e.2) == g) with
  | some e => .ctl e.1
  | none =>
    match (List.range 32).find? (fun x => sixOf rd x == g / 16) with
    | none => .err
    | some x =>
      match (List.range 8).find? (fun y => fourOf (rdAfter rd 6 (g / 16)) x y == g % 16) with
      | none => .err
      | some y => .data (BitVec.ofNat 8 (x + 32 * y))

/-- The symbols of code groups received one after another. -/
def decodeSyms (rd : Bool) : List Nat → List Sym
  | [] => []
  | g :: l => decodeSym rd g :: decodeSyms (rdAfter rd 10 g) l

/-- The symbols that a receiver takes from what it received. -/
def symsOf (r : RxSyms) : List Sym := decodeSyms r.rd (r.groups.map BitVec.toNat)

/-- The symbol errors among symbols (R153). -/
def symErrors (l : List Sym) : Nat := (l.filter (· == Sym.err)).length

/-- The last 20 raw received bits, the first received in bit 0 (LANE_RAWn). -/
def rawOf (r : RxSyms) : Nat :=
  match r.groups.reverse with
  | b :: a :: _ => (List.range 10).foldl (fun v k => v + 2 ^ k * (a.toNat / 2 ^ (9 - k) % 2) + 2 ^ (10 + k) * (b.toNat / 2 ^ (9 - k) % 2)) 0
  | _ => 0

/-- The running disparity of a transmitter after some symbols (R153). -/
def sentRd (rd : Bool) (l : List Sym) : Bool := l.foldl (fun r x => rdAfter r 10 (encodeSym r x)) rd

/-! ## Ordered sets and packets -/

/-- COM. -/
def symCom : Sym := .ctl 0xBC

/-- The filler set that a transmitter originates (R156). -/
def fillerSyms : List Sym := [symCom, .ctl 0x1C, .ctl 0x1C, .ctl 0x1C]

/-- Symbols 1 to 14 of a training set (Table 7-3). -/
def TrainOut.bytes (t : TrainOut) : List Byte :=
  [if t.ts2 then 0x45#8 else 0x4A#8, BitVec.ofNat 8 (t.phase + 128 * b2n t.fast), BitVec.ofNat 8 (b2n t.loopback + 2 * b2n t.retrainReq),
   BitVec.ofNat 8 (3 + 16 * t.rate), BitVec.ofNat 8 t.ppre, BitVec.ofNat 8 t.mypre, BitVec.ofNat 8 t.errcnt, BitVec.ofNat 8 t.fom,
   BitVec.ofNat 8 t.seq, 0xB5#8, 0xB5#8, 0xB5#8, 0xB5#8, 0xB5#8]

/-- The check value of a training set: CRC-8/SAE-J1850 over symbols 1 to 14 (Table 7-3). -/
def trainChk (l : List Byte) : Byte := BitVec.ofNat 8 (crcOf (crcAlg 3) l)

/-- The symbols of a training set. -/
def TrainOut.syms (t : TrainOut) : List Sym := symCom :: (t.bytes ++ [trainChk t.bytes]).map Sym.data

/-- The 15 data bytes of a valid training set (R158): COM first, no symbol error, a TS1 or TS2 ID, and CHK matches. -/
def trainBytes (l : List Sym) : Option (List Byte) :=
  match l with
  | .ctl 0xBC :: r =>
    let bs := r.filterMap (fun x => match x with | .data b => some b | _ => none)
    if r.length = 15 ∧ bs.length = 15 ∧ (bs[0]? = some 0x4A#8 ∨ bs[0]? = some 0x45#8) ∧ bs[14]? = some (trainChk (bs.take 14))
    then some bs else none
  | _ => none

/-- Bytes of 12-bit codes packed in pairs (R180). -/
def packCodes : List Nat → List Byte
  | a :: b :: l =>
    BitVec.ofNat 8 a :: BitVec.ofNat 8 (a / 256 % 16 + b % 16 * 16) :: BitVec.ofNat 8 (b / 16) :: packCodes l
  | [a] => [BitVec.ofNat 8 a, BitVec.ofNat 8 (a / 256 % 16)]
  | [] => []

/-- Header and payload of a packet (R178, Tables 8-1 and 8-2, R202); an ordered set or a pattern has none. -/
def Pkt.content : Pkt → List Byte
  | .line ur k frame codes => [0x01#8, BitVec.ofNat 8 (b2n ur)] ++ toLE 2 k ++ toLE 4 frame ++ packCodes codes
  | .sync hold k frame per total act =>
    [0x02#8, BitVec.ofNat 8 (b2n hold)] ++ toLE 2 k ++ toLE 4 frame ++ toLE 4 per ++ toLE 2 total ++ toLE 2 act
  | .cmd opc seq arg pl => [0x03#8, BitVec.ofNat 8 opc] ++ toLE 2 seq ++ toLE 4 arg ++ pl
  | .safe pat seq => [0x04#8, BitVec.ofNat 8 pat] ++ toLE 2 seq ++ toLE 4 0
  | .calib band blank cseq phase code tDark tLit =>
    [0x05#8, BitVec.ofNat 8 (band + 128 * b2n blank)] ++ toLE 2 cseq ++ toLE 1 phase ++ toLE 2 code ++ toLE 1 0 ++ toLE 2 tDark ++ toLE 2 tLit
  | .srcstat ok bad why batch bres nacc ndrop =>
    [0x91#8] ++ toLE 7 0 ++ toLE 2 ok ++ toLE 2 bad ++ toLE 1 why ++ toLE 1 0 ++ toLE 2 batch ++ toLE 1 bres ++ toLE 1 0 ++ toLE 2 nacc ++
      toLE 2 ndrop ++ toLE 2 0
  | .filler | .training .. | .pattern .. => []

/-- The body of a packet: header, payload and the CRC-32C of both, little-endian (R178). -/
def Pkt.body (p : Pkt) : List Byte := p.content ++ toLE 4 (crc32c p.content)

/-- The symbols that carry a packet or an ordered set (R155, R156, R158). -/
def Pkt.syms : Pkt → List Sym
  | .filler => fillerSyms
  | .training t count => (List.replicate count t.syms).flatten
  | .pattern bs => bs.map Sym.data
  | p => .ctl 0xFB :: (p.body.map Sym.data ++ [.ctl 0xFD])

/-- A packet or an ordered set goes out on the transmit half of a lane; the running disparity runs on (R153). -/
def Dev.laneSend (s : Dev) (d n : Nat) (p : Pkt) : Dev :=
  (s.setLane d n { s.lane d n with txRd := sentRd (s.lane d n).txRd p.syms }).emit (.lane d n p)

/-- The body of a packet as received (R155): none where it holds a symbol error, ends otherwise than with EOP, has a control symbol
inside, or a body outside 1 to 1,086 symbols. -/
def packetBody (l : List Sym) : Option (List Byte) :=
  match l with
  | .ctl 0xFB :: r =>
    let bs := r.filterMap (fun x => match x with | .data b => some b | _ => none)
    if bs.length + 1 = r.length ∧ r.getLast? = some (.ctl 0xFD) ∧ 1 ≤ bs.length ∧ bs.length ≤ 1086 then some bs else none
  | _ => none

/-- The TYPE of a received packet, where its first byte could be read. -/
def packetType (l : List Sym) : Nat :=
  match l with
  | .ctl 0xFB :: .data b :: _ => b.toNat
  | _ => 0

/-- A body of a TYPE that the device accepts on the lane, of the length that Table 8-1 gives it, whose check word holds (R179). -/
def bodyOk (tile : Bool) (b : List Byte) : Bool :=
  let n := b.length
  let len := match (b.getD 0 0).toNat, tile with
    | 0x81, true => n == 172
    | 0x82, true => n == 1036
    | 0x11, false => decide (14 ≤ n ∧ n ≤ 1036) && n % 2 == 0
    | 0x12, false => decide (12 ≤ n ∧ n ≤ 1036) && n % 4 == 0
    | _, _ => false
  len && leNat (b.drop (n - 4)) == crc32c (b.take (n - 4))

/-- A 16-bit field of a body. -/
def field16 (b : List Byte) (k : Nat) : BitVec 16 := BitVec.ofNat 16 (leAt b k 2)

/-- A STATUS packet read from its body (Table 8-3). -/
def statusOf (b : List Byte) : StatusPkt :=
  let h1 := (b.getD 1 0).toNat
  let h7 := (b.getD 7 0).toNat
  let f := field16 b
  { state := BitVec.ofNat 3 h1, cause := BitVec.ofNat 3 (h1 / 8), lock := h1.testBit 6, urgent := h1.testBit 7,
    seq := f 2, ackSeq := f 4, ackRes := b.getD 6 0, slice := Fin.ofNat 8 h7, pat := h7.testBit 3,
    temp0 := f 8, temp1 := f 10, temp2 := f 12, temp3 := f 14, sup0 := f 16, sup1 := f 18, sup2 := f 20, sup3 := f 22,
    rxErr := BitVec.ofNat 32 (leAt b 24 4), lastFrame := BitVec.ofNat 32 (leAt b 28 4),
    openMap := slice b 32 64, shortMap := slice b 96 64, vendor := f 160, model := f 162, proto := b.getD 164 0,
    caps := b.getD 165 0, fwVer := f 166 }

/-- A PHOTO packet read from its body (R184). -/
def photoOf (b : List Byte) : PhotoPkt :=
  { band := Fin.ofNat 16 (b.getD 1 0).toNat, cseq := field16 b 2, phase := Fin.ofNat 64 (b.getD 4 0).toNat,
    valid := (b.getD 5 0).toNat.testBit 0, dark := (List.range 256).map (fun k => field16 b (8 + 2 * k)),
    lit := (List.range 256).map (fun k => field16 b (520 + 2 * k)) }

/-- A VID packet read from its body (R197), which the receive buffer holds. -/
def vidOf (b : List Byte) : VidPkt :=
  let h1 := (b.getD 1 0).toNat
  { first := h1.testBit 0, last := h1.testBit 1, line := field16 b 2, x0 := field16 b 4, frame := field16 b 6,
    texels := slice b 8 (b.length - 12), fits := true }

/-- An OBJ packet read from its body (R200), which the receive buffer holds. -/
def objOf (b : List Byte) : ObjPkt :=
  let h1 := (b.getD 1 0).toNat
  { head := Fin.ofNat 4 h1, slot := h1.testBit 2, first := h1.testBit 4, commit := h1.testBit 5, batch := field16 b 2,
    offset := field16 b 4, data := slice b 8 (b.length - 12), fits := true }

/-! ## Patterns -/

/-- A bit sequence in which each bit is that of `n` bits before, with that of `m` bits before added modulo 2 where `m` is not 0. -/
structure PatGen where
  n : Nat
  m : Nat
deriving DecidableEq, Repr

/-- The patterns of PAT (R173): PRBS-7, PRBS-15 (R159), PRBS-31 and the four user bytes. PRESUMED (log entry 209): the generators of
PRBS-7 and PRBS-31. -/
def patGen (code : Nat) : PatGen :=
  match code with
  | 0 => ⟨7, 6⟩
  | 1 => ⟨15, 14⟩
  | 2 => ⟨31, 28⟩
  | _ => ⟨32, 0⟩

/-- The next bit of a sequence, given its last bits with the newest in bit 0. -/
def PatGen.bit (g : PatGen) (v : Nat) : Nat :=
  if g.m = 0 then v / 2 ^ (g.n - 1) % 2 else (v / 2 ^ (g.n - 1) + v / 2 ^ (g.m - 1)) % 2

/-- The last bits of a sequence after one more. -/
def PatGen.push (g : PatGen) (v b : Nat) : Nat := (2 * v + b) % 2 ^ g.n

/-- `k` bits of a sequence, the first in bit 0, and its last bits after them. -/
def PatGen.bits (g : PatGen) : Nat → Nat → Nat × Nat
  | 0, v => (0, v)
  | k + 1, v => let b := g.bit v; let r := PatGen.bits g k (g.push v b); (b + 2 * r.1, r.2)

/-- `k` bytes of a sequence, the first generated bit of each in bit 0 (R159), and its last bits after them. -/
def PatGen.bytes (g : PatGen) : Nat → Nat → List Byte × Nat
  | 0, v => ([], v)
  | k + 1, v => let r := g.bits 8 v; let q := PatGen.bytes g k r.2; (BitVec.ofNat 8 r.1 :: q.1, q.2)

/-- The last bits of the user pattern before its byte 0 is sent. -/
def userSeed (w : Word) : Nat := (List.range 32).foldl (fun v k => 2 * v + b2n (bitOf w k)) 0

/-- Where a sequence begins when the device starts to send it. DESIGN CHOICE (log entry 209): a PRBS from all ones. -/
def patSeed (code : Nat) (user : Word) : Nat := if code < 3 then 2 ^ (patGen code).n - 1 else userSeed user

/-- A checker takes one received bit (R159): the first `n` synchronise it; after that the bit is compared, and the sequence runs on
from the prediction. -/
def checkBit (g : PatGen) (c : Checker × Bool) (b : Nat) : Checker × Bool :=
  if c.1.got < g.n then ({ c.1 with got := c.1.got + 1, bits := g.push c.1.bits b }, c.2)
  else ({ c.1 with bits := g.push c.1.bits (g.bit c.1.bits) }, c.2 || g.bit c.1.bits != b)

/-- The checker of the user pattern holds it in step. -/
def userAligned (w : Word) (v : Nat) : Bool :=
  (List.range 4).any (fun k => ((patGen 3).bits (8 * k) (userSeed w)).2 == v)

/-- A checker takes one received symbol of pattern `code` (R159, R173): one error for a byte that differs from the prediction or for a
symbol error. DESIGN CHOICE (log entry 209): a symbol error before it is synchronised makes it begin again, one after that lets the
sequence run on; the user pattern is held in step only once four bytes of it have come in order. -/
def Checker.take (g : PatGen) (user : Word) (c : Checker) (x : Sym) : Checker :=
  match x with
  | .data b =>
    let r := ((List.range 8).map (fun k => b.toNat / 2 ^ k % 2)).foldl (checkBit g) (c, false)
    let c : Checker := { r.1 with errs := r.1.errs + b2n r.2 }
    if g.m = 0 ∧ c.got = 32 ∧ !userAligned user c.bits then { c with got := 24 } else c
  | .ctl _ => c
  | .err => if c.got < g.n then { c with got := 0, errs := c.errs + 1 } else { c with bits := (g.bits 8 c.bits).2, errs := c.errs + 1 }

/-- A checker takes received symbols. -/
def Checker.takeAll (g : PatGen) (user : Word) (c : Checker) (l : List Sym) : Checker := l.foldl (Checker.take g user) c

end Sys2Proof.Machine
end

