-- ==== Sys2Proof/Machine/Snoop.lean ====
section
/-! DEFINITION. The check-value units' register arithmetic and their snoop windows (R294 to R301). -/

namespace Sys2Proof.Machine

/-- Block ID of check-value unit `u` of die `d` (Table 14-3). -/
def crcBlock (d u : Nat) : Nat := blockId (d + 1) 0xA u

/-- The algorithm selected on a unit. -/
def Dev.crcAlgOf (s : Dev) (d u : Nat) : CrcAlg := crcAlg (s.rdF (Reg.CRC_CTRL d u) F.CRC_CTRL_POLY)

/-- The unit is ARMED. -/
def Dev.crcArmed (s : Dev) (d u : Nat) : Bool := s.rdF (Reg.CRC_STAT d u) F.CRC_STAT_ARMED == 1

/-- The low W bits of VALUE (R294). -/
def Dev.crcValue (s : Dev) (d u : Nat) : Nat := (s.rd (Reg.CRC_VALUE d u)).toNat % 2 ^ (s.crcAlgOf d u).w

/-- RESULT: VALUE XOR XOROUT (R294). -/
def Dev.crcResult (s : Dev) (d u : Nat) : Word := BitVec.ofNat 32 (s.crcValue d u ^^^ (s.crcAlgOf d u).xorout)

/-- VALUE takes INIT of the selected POLY and CNT takes 0 (R294, R300). -/
def Dev.crcRestart (s : Dev) (d u : Nat) : Dev :=
  (s.wr (Reg.CRC_VALUE d u) (BitVec.ofNat 32 (s.crcAlgOf d u).init)).wr (Reg.CRC_CNT d u) 0#32

/-- Bytes fed to a unit (R292, R294). -/
def Dev.crcFeed (s : Dev) (d u : Nat) (bs : List Byte) : Dev :=
  let s' := s.wr (Reg.CRC_VALUE d u) (BitVec.ofNat 32 (crcBytes (s.crcAlgOf d u) (s.crcValue d u) bs))
  s'.addR (Reg.CRC_CNT d u) bs.length

/-- An ignored write counts in IGNORED (R296). -/
def Dev.crcIgnore (s : Dev) (d u : Nat) : Dev := s.satF (Reg.CRC_STAT d u) F.CRC_STAT_IGNORED 1

/-- A compare or a CHECK: DONE, MATCH, the counts, the MISMATCH cause and the unit's interrupt (R301). -/
def Dev.crcCompare (s : Dev) (d u : Nat) : Dev :=
  let m := s.crcResult d u == s.rd (Reg.CRC_EXP d u)
  let s := (s.wrF (Reg.CRC_STAT d u) F.CRC_STAT_DONE 1).wrF (Reg.CRC_STAT d u) F.CRC_STAT_MATCH (b2n m)
  let s := if m then s.satF (Reg.CRC_CMPCNT d u) F.CRC_CMPCNT_MATCHES 1 else s.satF (Reg.CRC_CMPCNT d u) F.CRC_CMPCNT_MISMATCHES 1
  let s := s.emit (.msix (16 + 8 * d + u))
  if m then s.causeOff (Reg.CRC_FLT_STAT d u) B.CRC_MISMATCH
  else if s.rdB (Reg.CRC_FLT_CAUSE d u) B.CRC_MISMATCH then s
  else s.causeOn (Reg.CRC_FLT_STAT d u) B.CRC_MISMATCH

/-- ARMED clears after the first compare or skip unless AUTO is set (R300). -/
def Dev.crcRearm (s : Dev) (d u : Nat) (window : Bool) : Dev :=
  if s.rdF (Reg.CRC_CTRL d u) F.CRC_CTRL_AUTO = 1 then s.setCrc d u { inWin := window, first := true, missed := false }
  else (s.setCrc d u CrcH.init).wrF (Reg.CRC_STAT d u) F.CRC_STAT_ARMED 0

/-- The sources whose window is open from ARM on (Table 13-2). -/
def crcOpenAtArm (src : Nat) : Bool := src == 3 || src == 5

/-- The window in progress ends: compared where it is complete, otherwise skipped and counted (R300). -/
def Dev.crcWindowEnd (s : Dev) (d u : Nat) (complete : Bool) : Dev :=
  if !(s.crc d u).inWin then s
  else
    let src := s.rdF (Reg.CRC_CTRL d u) F.CRC_CTRL_SRC
    let s := if complete && !(s.crc d u).missed then s.crcCompare d u else s.satF (Reg.CRC_STAT d u) F.CRC_STAT_SKIPPED 1
    s.crcRearm d u (crcOpenAtArm src)

/-- Snooped bytes reach a unit whose window is open; the first of a window reinitialises it (R300). A held unit ignores them
(R316). -/
def Dev.snoopUnit (s : Dev) (d u : Nat) (bs : List Byte) : Dev :=
  if bs.isEmpty || !(s.crc d u).inWin || s.isHeld (crcBlock d u) then s
  else
    let s := if (s.crc d u).first then (s.crcRestart d u).setCrc d u { s.crc d u with first := false } else s
    s.crcFeed d u bs

/-- The units of die `d` that watch source `src` and pass `p`. -/
def Dev.watchersOfSrc (s : Dev) (d src : Nat) (p : Nat → Bool) : List Nat :=
  (List.range 8).filter (fun u => s.crcArmed d u && s.rdF (Reg.CRC_CTRL d u) F.CRC_CTRL_SRC == src && p u)

/-- SEL of a unit. -/
def Dev.crcSel (s : Dev) (d u : Nat) : Nat := s.rdF (Reg.CRC_CTRL d u) F.CRC_CTRL_SEL

/-- The codes of a tile line as released reach the units that watch the tile's lane (Table 13-2, TILE_OUT); `whole` is false
where the line was not released as a composed line. -/
def Dev.snoopTile (s : Dev) (d t line : Nat) (payload : List Byte) (whole : Bool) : Dev :=
  forAll (s.watchersOfSrc d 1 (fun u => s.crcSel d u == t)) s (fun s u =>
    let y := s.rd (Reg.CRC_WINY d u)
    let x := s.rd (Reg.CRC_WINX d u)
    if fget y F.CRC_WINY_Y0 ≤ line ∧ line ≤ fget y F.CRC_WINY_Y1 then
      if whole then
        let b0 := 3 * (fget x F.CRC_WINX_X0 / 2)
        let b1 := 3 * ((fget x F.CRC_WINX_X1 + 1 + 1) / 2)
        s.snoopUnit d u (slice payload b0 (b1 - b0))
      else s.setCrc d u { s.crc d u with missed := true }
    else s)

/-- The generator of half `n` of die `d` stops after line `k` (R303): the lines of an open TILE_OUT window that it will not release are
missing from it. -/
def Dev.snoopStop (s : Dev) (d n k : Nat) : Dev :=
  forAll (s.watchersOfSrc d 1 (fun u => (s.place d (s.crcSel d u)).used && (s.place d (s.crcSel d u)).head == n)) s (fun s u =>
    if (s.crc d u).inWin ∧ k < 512 * (s.place d (s.crcSel d u)).row + fget (s.rd (Reg.CRC_WINY d u)) F.CRC_WINY_Y1 then
      s.setCrc d u { s.crc d u with missed := true }
    else s)

/-- A write accepted on a DRAM port reaches the units that watch it (Table 13-2, DRAM_WR). -/
def Dev.snoopDram (s : Dev) (d port addr : Nat) (bs : List Byte) : Dev :=
  forAll (s.watchersOfSrc d 3 (fun u => s.crcSel d u == port)) s (fun s u =>
    if (s.rd (Reg.CRC_ADDRLO d u)).toNat / 64 * 64 ≤ addr ∧ addr ≤ (s.rd (Reg.CRC_ADDRHI d u)).toNat then s.snoopUnit d u bs else s)

/-- Flash read data delivered to die `d` reaches the units that watch it (Table 13-2, FLASH). -/
def Dev.snoopFlash (s : Dev) (d addr : Nat) (bs : List Byte) : Dev :=
  forAll (s.watchersOfSrc d 5 (fun _ => true)) s (fun s u =>
    let lo := (s.rd (Reg.CRC_ADDRLO d u)).toNat
    let hi := (s.rd (Reg.CRC_ADDRHI d u)).toNat
    s.snoopUnit d u ((bs.drop (lo - addr)).take (hi + 1 - max lo addr)))

/-- An image read by the loader reaches the units of CD0 that watch it (Table 13-2, IMAGE): to its last byte, or, where the loader
refuses it and stops early, a part whose length is a free value (R303, log entry 212). -/
def Dev.snoopImage (s : Dev) (bs : List Byte) (whole : Bool) : Dev :=
  let (k, s) := s.free
  let bs := if whole then bs else bs.take (1 + k % (bs.length + 1))
  forAll (s.watchersOfSrc 0 4 (fun _ => true)) s (fun s u =>
    ((s.setCrc 0 u { inWin := true, first := true, missed := false }).snoopUnit 0 u bs).crcWindowEnd 0 u whole)

/-- The loader has read an image to its last byte when it takes the signature (step 3 of Table 2-4): an image that fails step 1 or 2
stops early (R53, log entry 212). -/
def readWhole {α : Type} : Except Nat α → Bool
  | .ok _ => true
  | .error k => decide (3 ≤ k)

/-- The units of die `d` that watch a stream of an input lane (Table 13-2, INPUT): `kind` 0 VID, 1 OBJ. -/
def Dev.watchersOfInput (s : Dev) (d lane kind : Nat) : List Nat :=
  s.watchersOfSrc d 2 (fun u => s.crcSel d u == lane && s.rdF (Reg.CRC_CTRL d u) F.CRC_CTRL_KIND == kind)

/-- FIRST of a frame or batch opens an INPUT window, though the frame or batch be discarded at once (R298, R300). -/
def Dev.snoopInputOpen (s : Dev) (d lane kind : Nat) : Dev :=
  forAll (s.watchersOfInput d lane kind) s (fun s u =>
    if (s.crc d u).inWin then s else s.setCrc d u { inWin := true, first := true, missed := false })

/-- The payload of a VID or OBJ packet reaches the units that watch its stream. -/
def Dev.snoopInput (s : Dev) (d lane kind : Nat) (bs : List Byte) : Dev :=
  forAll (s.watchersOfInput d lane kind) s (fun s u => s.snoopUnit d u bs)

/-- A frame or batch watched by an INPUT window ends accepted or not. -/
def Dev.snoopInputEnd (s : Dev) (d lane kind : Nat) (accepted : Bool) : Dev :=
  forAll (s.watchersOfInput d lane kind) s (fun s u => s.crcWindowEnd d u accepted)

end Sys2Proof.Machine
end

