-- ==== Sys2Proof/Machine/Tiles.lean ====
section
/-! DEFINITION. A tile lane's packet queue, its bring-up and its safe-fill commands (R181, R192 to R195), and what an input
lane reports to its source (R198, R201, R202). -/

namespace Sys2Proof.Machine

/-- STATE of a lane (Table 7-11): 0 OFF, 1 WAIT_PLL, 2 TRAIN, 3 LOCKED, 4 FAILED, 5 LOOPBACK. -/
def Dev.laneState (s : Dev) (d n : Nat) : Nat := s.rdF (Reg.LANE_STAT d n) F.LANE_STAT_STATE

/-- The lane is LOCKED (R167). -/
def Dev.locked (s : Dev) (d n : Nat) : Bool := s.laneState d n == 3

/-- DSTATE of a tile (Table 8-5): 0 NONE, 1 BRINGUP, 2 ACTIVE, 3 SAFE_CMD, 4 FAILED, 5 INCOMPAT. -/
def Dev.dstate (s : Dev) (d t : Nat) : Nat := s.rdF (Reg.LANE_TILE_STAT d t) F.LANE_TILE_STAT_DSTATE

/-- DSTATE of a tile set. -/
def Dev.setDstate (s : Dev) (d t v : Nat) : Dev := s.wrF (Reg.LANE_TILE_STAT d t) F.LANE_TILE_STAT_DSTATE v

/-- A packet is a SAFE packet. -/
def Pkt.isSafe : Pkt → Bool
  | .safe .. => true
  | _ => false

/-- A packet is a CALIB packet. -/
def Pkt.isCalib : Pkt → Bool
  | .calib .. => true
  | _ => false

/-- A packet is a CMD packet. -/
def Pkt.isCmd : Pkt → Bool
  | .cmd .. => true
  | _ => false

/-- A packet is the RUN command. -/
def Pkt.isRun : Pkt → Bool
  | .cmd opc _ _ _ => opc == 4
  | _ => false

/-- A packet is the MODE command. -/
def Pkt.isMode : Pkt → Bool
  | .cmd opc _ _ _ => opc == 1
  | _ => false

/-- A packet with its SEQ (R192). -/
def Pkt.withSeq (p : Pkt) (q : Nat) : Pkt :=
  match p with
  | .cmd opc _ arg pl => .cmd opc q arg pl
  | .safe pat _ => .safe pat q
  | p => p

/-- A packet offered to a lane: queued while it is LOCKED, else discarded; the answer says whether it is to be sent (R169). A SAFE packet
that is queued already is not queued twice. -/
def Dev.offer (s : Dev) (d t : Nat) (p : Pkt) : Dev × Bool :=
  if !s.locked d t then (s, false)
  else if p.isSafe && (s.lane d t).queue.contains p then (s, true)
  else (s.setLane d t { s.lane d t with queue := (s.lane d t).queue ++ [p] }, true)

/-- A packet offered to a lane by logic that asks nothing of a discard: bring-up begins again at LOCKED (R169, R194). -/
def Dev.enqueue (s : Dev) (d t : Nat) (p : Pkt) : Dev := (s.offer d t p).1

/-- The packet that the forward half sends next: SAFE, then CALIB, then CMD (R181), CMD and SAFE only while no command is
outstanding (R192). -/
def nextPacket (h : LaneH) : Option Pkt :=
  if h.out.isNone && h.queue.any Pkt.isSafe then h.queue.find? Pkt.isSafe
  else if h.queue.any Pkt.isCalib then h.queue.find? Pkt.isCalib
  else if h.out.isNone then h.queue.find? Pkt.isCmd
  else none

/-- A list without the first occurrence of an element. -/
def dropFirst {α : Type} [DecidableEq α] (p : α) : List α → List α
  | [] => []
  | q :: l => if q = p then l else q :: dropFirst p l

/-- The first queued packet goes out in a gap (R181, R192); a SAFE sent during bring-up makes SAFE_CMD (Table 8-5), from which RUN leads
at the next midnight where the cause has ended by then (R195). A packet that falls due abandons an ordinary slice of the lane, and waits for
a priority slice or a RETEST (R313, R314, R316). -/
def Dev.sendPacket (s : Dev) (d t : Nat) : Dev :=
  if !s.locked d t ∨ (nextPacket (s.lane d t)).isNone then s
  else
    let s := s.serve d (laneBlock d t)
    let h := s.lane d t
    match nextPacket h with
    | none => s
    | some p =>
      if s.inSlice d (laneBlock d t) then s else
      let q := dropFirst p h.queue
      if p.isCalib then (s.setLane d t { h with queue := q }).laneSend d t p
      else
        let n := (h.seq + 1) % 65536
        let s := s.setLane d t { h with queue := q, seq := n, out := some ⟨p.withSeq n, n, 0⟩ }
        let s := s.addF (Reg.LANE_TILE_CMDCNT d t) F.LANE_TILE_CMDCNT_CMDS 1
        let s := if p.isSafe ∧ s.dstate d t = 1 then
            (s.setDstate d t 3).setLane d t { s.lane d t with wantRun := h.causes.isEmpty }
          else s
        s.laneSend d t (p.withSeq n)

/-- The pattern of a SAFE packet: pattern 0 (R195), but for SAFE_PAT while the recovery image runs (R360). -/
def Dev.safePat (s : Dev) : Nat :=
  if s.rdF Reg.VSP_IMG_STAT F.VSP_IMG_STAT_RECOVERY = 1 then s.rdF Reg.VSP_PWR_CFG F.VSP_PWR_CFG_SAFE_PAT else 0

/-- A SAFE packet offered to a tile (R195). -/
def Dev.queueSafe (s : Dev) (d t : Nat) : Dev := s.enqueue d t (.safe s.safePat 0)

/-- The MODE command with the mode in force of a tile's head (R194, Table 8-4). -/
def Dev.modePkt (s : Dev) (d t : Nat) : Pkt :=
  let n := (s.place d t).head
  .cmd 1 0 (s.rdLF (Reg.HEAD_TLINE d n) F.HEAD_TLINE_LINE_PER)
    (toLE 2 (s.rdLF (Reg.HEAD_TTOTAL d n) F.HEAD_TTOTAL_TOTAL) ++ toLE 2 (s.rdF (Reg.HEAD_TACT d n) F.HEAD_TACT_ACT))

/-- The load of one safe-fill pattern: eight SF_LOAD and SF_COMMIT (R194), where the SAFEFILL section holds it (R191). -/
def Dev.loadPkts (s : Dev) (d t pat : Nat) : List Pkt :=
  match s.cfg.safefill.find? (fun e => e.tile == 8 * d + t && e.pat == pat) with
  | none => []
  | some e =>
    (List.range 8).map (fun c => .cmd 2 0 (pat + 256 * c) (slice e.data (768 * c) 768)) ++ [.cmd 3 0 pat (toLE 4 e.crc)]

/-- The commands of bring-up steps 2 and 3 (R194). -/
def Dev.planPkts (s : Dev) (d t : Nat) : List Pkt := s.modePkt d t :: (s.loadPkts d t 0 ++ s.loadPkts d t 1)

/-- Bring-up begins (R194): on LOCKED, and on return from ACTIVE. A command outstanding is abandoned. -/
def Dev.bringup (s : Dev) (d t : Nat) : Dev :=
  let h := s.lane d t
  (s.setLane d t
    { h with queue := [], out := none, plan := [], waitStatus := true, waitRun := false, wantRun := false, badViews := 0 }).setDstate d t 1

/-- The lane of a tile stops being LOCKED: a command outstanding is abandoned, waiting packets are discarded and the tile is
NONE (R169, R203). -/
def Dev.tileLaneDown (s : Dev) (d t : Nat) : Dev :=
  let h := s.lane d t
  (s.setLane d t
    { h with queue := [], out := none, plan := [], waitStatus := false, waitRun := false, wantRun := false, badViews := 0,
             goodViews := 0 }).setDstate d t 0

/-- The next command of the bring-up plan is offered; after the last acknowledgement the next midnight decides (R194). -/
def Dev.planNext (s : Dev) (d t : Nat) : Dev :=
  let h := s.lane d t
  match h.plan with
  | p :: rest => (s.setLane d t { h with plan := rest }).enqueue d t p
  | [] => s.setLane d t { h with waitRun := true }

/-- A cause of safe-fill begins for a tile (R195): SAFE goes in the first gap; during bring-up it goes in place of RUN. -/
def Dev.safeFill (s : Dev) (d t : Nat) (c : SafeCause) : Dev :=
  let h := s.lane d t
  let run := h.queue.any Pkt.isRun
  let s := s.setLane d t
    { h with causes := if h.causes.contains c then h.causes else c :: h.causes, wantRun := false,
             queue := h.queue.filter (fun p => !p.isRun) }
  if s.dstate d t = 2 ∨ s.dstate d t = 3 then (s.setDstate d t 3).queueSafe d t
  else if s.dstate d t = 1 ∧ run then s.queueSafe d t
  else s

/-- A cause of safe-fill ends for a tile: with the last one gone, RUN goes at the next midnight (R195). -/
def Dev.safeFillEnd (s : Dev) (d t : Nat) (c : SafeCause) : Dev :=
  let h := s.lane d t
  let l := h.causes.filter (· != c)
  s.setLane d t { h with causes := l, wantRun := if l.isEmpty ∧ s.dstate d t = 3 then true else h.wantRun }

/-- A cause of safe-fill begins for the tiles of a head half. -/
def Dev.safeFillHalf (s : Dev) (d n : Nat) (c : SafeCause) : Dev := forAll (s.tilesOf d n) s (fun s t => s.safeFill d t c)

/-- A cause of safe-fill ends for the tiles of a head half. -/
def Dev.safeFillHalfEnd (s : Dev) (d n : Nat) (c : SafeCause) : Dev := forAll (s.tilesOf d n) s (fun s t => s.safeFillEnd d t c)

/-- The tiles of a die that the image uses. -/
def Dev.usedTiles (s : Dev) (d : Nat) : List Nat := (List.range 8).filter (fun t => (s.place d t).used)

/-- A cause of safe-fill begins for every tile of a die. -/
def Dev.safeFillDie (s : Dev) (d : Nat) (c : SafeCause) : Dev := forAll (s.usedTiles d) s (fun s t => s.safeFill d t c)

/-- A cause of safe-fill ends for every tile of a die. -/
def Dev.safeFillDieEnd (s : Dev) (d : Nat) (c : SafeCause) : Dev := forAll (s.usedTiles d) s (fun s t => s.safeFillEnd d t c)

/-- The repeat of SAFE at a dusk of the head, for as long as a cause lasts (R195). -/
def Dev.duskSafe (s : Dev) (d n : Nat) : Dev :=
  forAll (s.tilesOf d n) s (fun s t =>
    if s.dstate d t = 3 ∧ !(s.lane d t).causes.isEmpty then s.queueSafe d t else s)

/-- What a midnight of the head sends to its tiles: after bring-up RUN, or SAFE where a cause holds the tile (R194); RUN after
the last cause has ended (R195). `runs` says that the head composes or stands in READY. -/
def Dev.midnightRun (s : Dev) (d n : Nat) (runs : Bool) : Dev :=
  forAll (s.tilesOf d n) s (fun s t =>
    let h := s.lane d t
    if h.waitRun then
      (if !h.causes.isEmpty then (s.setLane d t { h with waitRun := false }).queueSafe d t
       else if runs then (s.setLane d t { h with waitRun := false }).enqueue d t (.cmd 4 0 0 [])
       else s)
    else if h.wantRun ∧ s.dstate d t = 3 ∧ runs then (s.setLane d t { h with wantRun := false }).enqueue d t (.cmd 4 0 0 [])
    else s)

/-- A tile of the lane has no MODE command waiting or outstanding. -/
def LaneH.noMode (h : LaneH) : Bool := !h.queue.any Pkt.isMode && (match h.out with | none => true | some o => !o.pkt.isMode)

/-- The SRCSTAT packet of an input lane (R202). -/
def Dev.srcstat (s : Dev) (d i : Nat) : Pkt :=
  let h := s.inp d i
  let n := 8 + i
  .srcstat h.lastOk h.lastBad (s.rdF (Reg.LANE_IN_STAT d n) F.LANE_IN_STAT_WHY) h.lastBatch h.bres
    (s.rdF (Reg.LANE_IN_FRMCNT d n) F.LANE_IN_FRMCNT_ACCEPTED) (s.rdF (Reg.LANE_IN_FRMCNT d n) F.LANE_IN_FRMCNT_DROPPED)

/-- SRCSTAT goes on the return half of an input lane, where the lane is LOCKED (R202, R169). -/
def Dev.sendSrcstat (s : Dev) (d i : Nat) : Dev :=
  if s.locked d (8 + i) then s.laneSend d (8 + i) (s.srcstat d i) else s

/-- A video frame is discarded for reason `why` (R198). -/
def Dev.discardFrame (s : Dev) (d i why frame : Nat) (ignoring : Bool) : Dev :=
  let n := 8 + i
  let s := s.setInp d i { s.inp d i with inFrame := false, ignoring := ignoring, lastBad := frame, written := 0 }
  let s := (s.wrF (Reg.LANE_IN_STAT d n) F.LANE_IN_STAT_WHY why).wrF (Reg.LANE_IN_STAT d n) F.LANE_IN_STAT_INFRAME 0
  let s := s.wrF (Reg.LANE_IN_STAT d n) F.LANE_IN_STAT_WRITING 0
  let s := s.addF (Reg.LANE_IN_FRMCNT d n) F.LANE_IN_FRMCNT_DROPPED 1
  let s := s.snoopInputEnd d n 0 false
  (s.raise (Reg.LANE_IN_FLT_STAT d n) B.LANE_IN_FRAME_DROP).sendSrcstat d i

/-- An object batch fails (R201). -/
def Dev.failBatch (s : Dev) (d i : Nat) : Dev :=
  let n := 8 + i
  let h := s.inp d i
  let s := s.setInp d i { h with inBatch := false, batchDead := true, bres := 8, lastBatch := h.batch }
  let s := s.wrF (Reg.LANE_IN_STAT d n) F.LANE_IN_STAT_INBATCH 0
  let s := s.addF (Reg.LANE_IN_SUPER d n) F.LANE_IN_SUPER_BATCH_FAIL 1
  let s := s.snoopInputEnd d n 1 false
  (s.raise (Reg.LANE_IN_FLT_STAT d n) B.LANE_IN_OBJ_FAIL).sendSrcstat d i

/-- An input lane leaves LOCKED: a frame in progress is discarded (R198, 6 LANE) and a batch fails (R201). -/
def Dev.inputLaneDown (s : Dev) (d i : Nat) : Dev :=
  let s := if (s.inp d i).inFrame then s.discardFrame d i 6 (s.inp d i).frame true else s
  if (s.inp d i).inBatch then s.failBatch d i else s

/-- A received packet of TYPE `typ` is dropped and counted (R179); it discards the video frame (R198) or fails the batch (R201) it is
part of. -/
def Dev.badPacket (s : Dev) (d n typ : Nat) : Dev :=
  if n < 8 then s.addR (Reg.LANE_TILE_UPERR d n) 1
  else
    let s := s.raise (Reg.LANE_IN_FLT_STAT d n) B.LANE_IN_BAD_PKT
    let h := s.inp d (n - 8)
    if typ = 0x11 ∧ h.inFrame then s.discardFrame d (n - 8) 2 h.frame true
    else if typ = 0x12 ∧ h.inBatch then s.failBatch d (n - 8)
    else s

end Sys2Proof.Machine
end

