-- ==== Sys2Proof/Machine/Lanes.lean ====
section
/-! DEFINITION. Derwell lanes (R151 to R177): training, retries, loss of lock, quad PLLs, rate matching, loopbacks and eye
scans, with the meanings of the lane commands. -/

namespace Sys2Proof.Machine

/-- The quad of a lane (Table 7-1). -/
def quadOf (n : Nat) : Nat := n / 4

/-- The lanes of a quad (Table 7-1). -/
def lanesOfQuad (q : Nat) : List Nat := (List.range 10).filter (fun n => quadOf n == q)

/-- A field of LANE_STATn set. -/
def Dev.setLaneStat (s : Dev) (d n : Nat) (f : Fld) (v : Nat) : Dev := s.wrF (Reg.LANE_STAT d n) f v

/-- A scan in progress ends with DONE and ABORTED (R175). -/
def Dev.endScan (s : Dev) (d n : Nat) : Dev :=
  if s.rdF (Reg.LANE_ESCAN_STAT d n) F.LANE_ESCAN_STAT_BUSY = 1 then s.wr (Reg.LANE_ESCAN_STAT d n) 6#32 else s

/-- The lane leaves LOCKED: the settings in use are kept for a fast retrain (R161), its tile's or source's traffic stops (R169), and a
HOLD phase waits for its tile no longer (Table 6-6, Table 7-9). -/
def Dev.leaveLocked (s : Dev) (d n : Nat) : Dev :=
  if !s.locked d n then s
  else
  let s := s.setLaneStat d n F.LANE_STAT_STATE 2
  let s := s.setLane d n { s.lane d n with eqAt := s.rd (Reg.LANE_EQ d n) }
  if n < 8 then
    let k := (s.place d n).head
    let s := (s.tileLaneDown d n).causeOff (Reg.LANE_TILE_FLT_STAT d n) B.LANE_TILE_SILENT
    s.setHalf d k { s.half d k with awaited := (s.half d k).awaited.filter (· != n) }
  else s.inputLaneDown d (n - 8)

/-- Attempt `k` of R165 begins in DETECT: 1 a fast retrain at the rate in use with the settings of the last loss (R161), 2 a full attempt
at the rate of the LANES section, 3 a full attempt at 2.5 Gbit/s. A transmitter that changes rate starts with negative running
disparity (R153). -/
def Dev.startAttempt (s : Dev) (d n k : Nat) : Dev :=
  let cfg := s.rd (Reg.LANE_CFG d n)
  let rate := if k = 1 then s.rdF (Reg.LANE_STAT d n) F.LANE_STAT_RATE_NOW
    else if k = 2 then fget cfg F.LANE_CFG_RATE else 1
  let s := s.endScan d n
  let h := s.lane d n
  let h := { h with txRd := h.txRd && rate == s.rdF (Reg.LANE_STAT d n) F.LANE_STAT_RATE_NOW }
  let s := s.wr (Reg.LANE_STAT d n) (BitVec.ofNat 32 (2 + 128 * b2n (k == 1) + 256 * rate))
  let s := s.wrF (Reg.LANE_ALIGN_STAT d n) F.LANE_ALIGN_STAT_ALIGNED 0
  let s := if k = 1 then s.wr (Reg.LANE_EQ d n) h.eqAt
    else ((s.wrF (Reg.LANE_EQ d n) F.LANE_EQ_TXPRE (fget cfg F.LANE_CFG_TXPRE0)).wrF (Reg.LANE_EQ d n) F.LANE_EQ_CTLE
      (fget cfg F.LANE_CFG_CTLE0)).wrF (Reg.LANE_EQ d n) F.LANE_EQ_PPRE (fget cfg F.LANE_CFG_PPRE0)
  s.setLane d n { h with attempt := k, sets := 0, fill := 16, retryAt := none, tr := TrainH.init }

/-- The sequence of R165 begins; `full` leaves out the fast retrain, as does a lane that has not been LOCKED since OFF. With
the quad PLL out of lock the lane waits for it. An unused lane stays OFF (R151). -/
def Dev.startSeq (s : Dev) (d n : Nat) (full auto : Bool) : Dev :=
  let s := s.leaveLocked d n
  if s.rdF (Reg.LANE_CFG d n) F.LANE_CFG_USE = 0 then s.wr (Reg.LANE_STAT d n) 0#32
  else if s.rdF (Reg.LANE_Q_STAT d (quadOf n)) F.LANE_Q_STAT_PLL_LOCK = 0 then
    let s := (s.endScan d n).wr (Reg.LANE_STAT d n) (fset (s.rd (Reg.LANE_STAT d n) &&& 0x100#32) F.LANE_STAT_STATE 1)
    s.setLane d n { s.lane d n with attempt := 0, auto := false, retryAt := none }
  else
    let s := s.setLane d n { s.lane d n with auto := auto }
    s.startAttempt d n (if full || !(s.lane d n).everLocked then 2 else 1)

/-- COUNT of LANE_RETRYn returns to 0 and the lane is not PARKED (R166). -/
def Dev.clearRetry (s : Dev) (d n : Nat) : Dev :=
  (s.wrF (Reg.LANE_RETRY d n) F.LANE_RETRY_COUNT 0).causeOff (Reg.LANE_FLT_STAT d n) B.LANE_PARKED

/-- Every attempt has failed: FAILED, with the retries of R166. A lane that is PARKED, and that a PLL loss has taken out of FAILED, gets no
further retry (R166). -/
def Dev.laneFailed (s : Dev) (d n : Nat) : Dev :=
  let h := s.lane d n
  let s := s.wr (Reg.LANE_STAT d n) (fset (s.rd (Reg.LANE_STAT d n) &&& 0x100#32) F.LANE_STAT_STATE 4)
  let s := s.causeOn (Reg.LANE_FLT_STAT d n) B.LANE_TRAIN_FAIL
  if h.auto then
    let c := min 8 (s.rdF (Reg.LANE_RETRY d n) F.LANE_RETRY_COUNT + 1)
    let s := s.wrF (Reg.LANE_RETRY d n) F.LANE_RETRY_COUNT c
    if 8 ≤ c then
      (s.setLane d n { h with attempt := 0, auto := false, retryAt := none }).causeOn (Reg.LANE_FLT_STAT d n) B.LANE_PARKED
    else s.setLane d n { h with attempt := 0, auto := false, retryAt := some (s.us + 10000000) }
  else s.setLane d n
    { h with attempt := 0, retryAt := if s.rdF (Reg.LANE_RETRY d n) F.LANE_RETRY_COUNT = 8 then none else some (s.us + 1000000) }

/-- The attempt in progress fails for reason `why` (R161, R165): 1 NO_PARTNER, 2 ALIGN, 3 NO_RX_SETTING, 4 NO_TX_SETTING,
5 CONFIRM. -/
def Dev.attemptFail (s : Dev) (d n why : Nat) : Dev :=
  let s := s.wrF (Reg.LANE_CAUSE d n) F.LANE_CAUSE_FAIL why
  let cfg := s.rd (Reg.LANE_CFG d n)
  match (s.lane d n).attempt with
  | 1 => s.startAttempt d n 2
  | 2 => if fget cfg F.LANE_CFG_FB_EN = 1 ∧ fget cfg F.LANE_CFG_RATE = 0 then s.startAttempt d n 3 else s.laneFailed d n
  | _ => s.laneFailed d n

/-- The lane reaches LOCKED (R165, R166); a tile's bring-up begins (R194). -/
def Dev.laneLock (s : Dev) (d n : Nat) : Dev :=
  let rate := s.rdF (Reg.LANE_STAT d n) F.LANE_STAT_RATE_NOW
  let fb := rate != s.rdF (Reg.LANE_CFG d n) F.LANE_CFG_RATE
  let s := s.wr (Reg.LANE_STAT d n) (BitVec.ofNat 32 (3 + 256 * rate + 512 * b2n fb))
  let s := s.setLane d n { s.lane d n with attempt := 0, auto := false, everLocked := true, retryAt := none, sets := 0, fill := 16, lost := false }
  let s := s.clearRetry d n
  let a := Reg.LANE_FLT_STAT d n
  let s := ((s.causeOff a B.LANE_LOCK_LOST).causeOff a B.LANE_TRAIN_FAIL).causeOff a B.LANE_ELASTIC
  let s := s.causeIs a B.LANE_FALLBACK fb
  if n < 8 then s.bringup d n else s

/-- LOSS codes (Table 7-10). -/
def lossCode : LossCause → Nat
  | .errors _ => 1 | .noCom => 2 | .elastic => 3 | .cdr => 4 | .partner => 5 | .refclk => 6

/-- The symbol errors that an ERRORS loss brings. -/
def lossErrors : LossCause → Nat
  | .errors n => n
  | .noCom | .elastic | .cdr | .partner | .refclk => 0

/-- A loss of lock is recorded (R168): of causes met in one clock the first listed, and each in the fault cause (Table 7-9). -/
def Dev.recordLoss (s : Dev) (d n : Nat) (c : LossCause) (also : List LossCause) : Dev :=
  let s := s.wrF (Reg.LANE_CAUSE d n) F.LANE_CAUSE_LOSS (also.foldl (fun k x => min k (lossCode x)) (lossCode c))
  let s := s.satF (Reg.LANE_LOSSCNT d n) F.LANE_LOSSCNT_LOSSES 1
  let s := s.causeOn (Reg.LANE_FLT_STAT d n) B.LANE_LOCK_LOST
  let s := s.setLane d n { s.lane d n with lost := true }
  if (c :: also).contains .elastic then s.causeOn (Reg.LANE_FLT_STAT d n) B.LANE_ELASTIC else s

/-- A loopback ends: MODE reads 0, and its flags are `flags` (R171 to R173). -/
def Dev.endLoopback (s : Dev) (d n : Nat) (flags : Nat) : Dev :=
  let s := s.setLane d n { s.lane d n with lb := 0, tr := TrainH.init }
  (s.wrF (Reg.LANE_LB_CTRL d n) F.LANE_LB_CTRL_MODE 0).wr (Reg.LANE_LB_STAT d n) (BitVec.ofNat 32 flags)

/-- Loss of lock of a LOCKED lane, or during a loopback, which it ends with LOST (R168, R173). -/
def Dev.loseLock (s : Dev) (d n : Nat) (c : LossCause) (also : List LossCause) : Dev :=
  if s.laneState d n = 3 then
    let errs := ((c :: also).map lossErrors).sum
    ((s.addR (Reg.LANE_SYMERR d n) errs).recordLoss d n c also).startSeq d n false false
  else if s.laneState d n = 5 then ((s.recordLoss d n c also).endLoopback d n 8).startSeq d n false false
  else s

/-- What a comma in a training or filler set shows (R162): its position, and its count at position 0. -/
def Dev.commaSeen (s : Dev) (d n pos raw : Nat) : Dev :=
  let a := Reg.LANE_ALIGN_STAT d n
  let s := (s.wr (Reg.LANE_RAW d n) (BitVec.ofNat 32 raw)).wrF a F.LANE_ALIGN_STAT_COMMA_POS pos
  if pos = 0 then s.satF a F.LANE_ALIGN_STAT_COMMA_HITS 1 else s

/-- The symbols are those of a valid TS1 (R158). -/
def ts1Valid (l : List Sym) : Bool := match trainBytes l with | some b => b[0]? == some 0x4A#8 | none => false

/-- A training set opens a block (R159): its symbol errors count in it, and it brings the partner's ERRCNT and FOM. -/
def Dev.blockStart (s : Dev) (d n : Nat) (l : List Sym) : Dev :=
  let h := s.lane d n
  let peer := (trainBytes l).map (fun b => (b[0]? == some 0x45#8, (b.getD 6 0).toNat, (b.getD 7 0).toNat))
  s.setLane d n { h with tr := { h.tr with rx := { h.tr.rx with errs := h.tr.rx.errs + symErrors l }, peer := peer } }

/-- A training set is received (R158, R161, R162, R168). DESIGN CHOICE (log entry 210): in DETECT a set is judged as the comma frames
it, before the boundary is aligned. -/
def Dev.trainingSet (s : Dev) (d n : Nat) (rx : RxSyms) : Dev :=
  let st := s.laneState d n
  if st = 0 ∨ st = 1 then s
  else
    let l := symsOf rx
    let s := s.commaSeen d n rx.pos (rawOf rx)
    let a := Reg.LANE_ALIGN_STAT d n
    let h := s.lane d n
    if st = 3 then
      let s := s.addR (Reg.LANE_SYMERR d n) (symErrors l)
      if ts1Valid l then
        (if h.sets = 1 then s.loseLock d n .partner [] else s.setLane d n { h with sets := 1 })
      else s.setLane d n { h with sets := 0 }
    else if st = 2 then
      match s.rdF (Reg.LANE_STAT d n) F.LANE_STAT_PHASE with
      | 0 => s.setLane d n { h with sets := if ts1Valid l then min (h.sets + 1) 8 else 0 }
      | 1 =>
        if rx.pos = 0 then
          let k := if ts1Valid l then min (h.sets + 1) 4 else 0
          let s := s.setLane d n { h with sets := k }
          if k = 4 then s.wrF a F.LANE_ALIGN_STAT_ALIGNED 1 else s
        else
          let s := s.setLane d n { h with sets := 0 }
          if s.rdF (Reg.LANE_ALIGN_CTRL d n) F.LANE_ALIGN_CTRL_SLIP_MODE = 0 then s.wrF a F.LANE_ALIGN_STAT_COMMA_HITS 0 else s
      | _ => s.blockStart d n l
    else s

/-- TRAINING_SET_RX. -/
def execTrainingSetRx (d : Die) (n : LaneIx) (rx : RxSyms) (s : State) : Host.Outcome State Fault Refusal :=
  s.onDev (fun s => s.trainingSet d n rx)

/-- The runs of consecutive working settings: first setting and length, lowest first. -/
def workRuns : List Bool → Nat → List (Nat × Nat)
  | [], _ => []
  | false :: l, k => workRuns l (k + 1)
  | true :: l, k =>
    match workRuns l (k + 1) with
    | (j, m) :: r => if j = k + 1 then (k, m + 1) :: r else (k, 1) :: (j, m) :: r
    | [] => [(k, 1)]

/-- The middle of a run, rounded down (R164). -/
def runMiddle (r : Nat × Nat) : Nat := (2 * r.1 + r.2 - 1) / 2

/-- The CTLE setting of R164: the middle of the longest run, the nearer to CTLE0 of equal runs, then the lower. -/
def chooseCtle (works : List Bool) (ctle0 : Nat) : Option Nat :=
  ((workRuns (works.take 16) 0).foldl (fun (best : Option (Nat × Nat)) r =>
    match best with
    | none => some r
    | some b =>
      if b.2 < r.2 ∨ (b.2 = r.2 ∧ natDist (runMiddle r) ctle0 < natDist (runMiddle b) ctle0) then some r else some b) none).map runMiddle

/-- The preset of R164: the working one with the highest mean FOM, nearest TXPRE0 among equals, then the lower; with its sum. -/
def choosePreset (works : List (Bool × Nat)) (pre0 : Nat) : Option (Nat × Nat) :=
  ((List.range 8).filterMap (fun k => match works[k]? with | some (true, f) => some (k, f) | _ => none)).foldl
    (fun (best : Option (Nat × Nat)) r =>
      match best with
      | none => some r
      | some b => if b.2 < r.2 ∨ (b.2 = r.2 ∧ natDist r.1 pre0 < natDist b.1 pre0) then some r else some b) none

/-- What a training set of the device says (Table 7-3): RETRAIN_REQ where the training follows a loss of lock. -/
def Dev.trainOut (s : Dev) (d n : Nat) (ts2 loopback fast : Bool) (fom : Nat) : TrainOut :=
  let h := s.lane d n
  { ts2 := ts2, phase := s.rdF (Reg.LANE_STAT d n) F.LANE_STAT_PHASE, fast := fast, loopback := loopback, retrainReq := h.lost,
    rate := s.rdF (Reg.LANE_STAT d n) F.LANE_STAT_RATE_NOW, ppre := s.rdF (Reg.LANE_EQ d n) F.LANE_EQ_PPRE,
    mypre := s.rdF (Reg.LANE_EQ d n) F.LANE_EQ_TXPRE, errcnt := h.tr.errOut, fom := fom, seq := h.tr.seqNo }

/-- Training sets go out back to back; the FOM of the device's own receiver is a free value (log entry 211). -/
def Dev.sendSets (s : Dev) (d n : Nat) (ts2 loopback : Bool) (count : Nat) : Dev :=
  let (f, s) := s.free
  let fast := s.rdF (Reg.LANE_STAT d n) F.LANE_STAT_FAST == 1
  s.laneSend d n (.training (s.trainOut d n ts2 loopback fast (f % 256)) count)

/-- A phase of training begins (R161, R163): the checker synchronises anew (R159), EQ_RX at CTLE setting 0 and EQ_TX at preset 0. -/
def Dev.enterPhase (s : Dev) (d n p : Nat) : Dev :=
  let s := s.setLaneStat d n F.LANE_STAT_PHASE p
  let s := if p = 2 then s.wrF (Reg.LANE_EQ d n) F.LANE_EQ_CTLE 0 else if p = 3 then s.wrF (Reg.LANE_EQ d n) F.LANE_EQ_TXPRE 0 else s
  let h := s.lane d n
  s.setLane d n { h with sets := 0, tr := { TrainH.init with tx := h.tr.tx, seqNo := h.tr.seqNo } }

/-- Blocks that a setting gets in EQ_RX and EQ_TX, and how many of them come before its measurement (R163). -/
def searchBlocks (rx : Bool) : Nat × Nat := if rx then (80, 16) else (68, 4)

/-- A block of the search ends (R163, R164): after the blocks in which its equaliser settles, a CTLE setting works while the device counts no
error and the offset sampler records no mismatch, a preset while the partner reports ERRCNT 0; then the next setting is tried. -/
def Dev.searchBlock (s : Dev) (d n : Nat) (isRx mism : Bool) : Dev :=
  let h := s.lane d n
  let t := h.tr
  let b := searchBlocks isRx
  let good := if isRx then t.rx.errs == 0 && !mism else (match t.peer with | some (_, e, _) => e == 0 | none => false)
  let fom := match t.peer with | some (_, _, f) => f | none => 0
  let meas := decide (b.2 ≤ t.blk)
  let t := { t with clean := t.clean && (good || !meas), fom := t.fom + if meas then fom else 0, blk := t.blk + 1 }
  if t.blk < b.1 then s.setLane d n { h with tr := t }
  else
    let k := t.results.length + 1
    let s := s.setLane d n { h with tr := { t with results := t.results ++ [(t.clean, t.fom)], blk := 0, clean := true, fom := 0 } }
    if isRx then (if k < 16 then s.wrF (Reg.LANE_EQ d n) F.LANE_EQ_CTLE k else s)
    else if k < 8 then s.wrF (Reg.LANE_EQ d n) F.LANE_EQ_TXPRE k else s

/-- The attempt in progress, in CONFIRM, takes a block (R161): an error that the device counts fails it. DEDUCED (log entry 211): a block
whose set is no valid TS2 with ERRCNT 0 makes the count begin again. -/
def Dev.confirmBlock (s : Dev) (d n : Nat) : Dev :=
  let h := s.lane d n
  if h.tr.rx.errs ≠ 0 then s.attemptFail d n 5
  else
    let good := match h.tr.peer with | some (ts2, e, _) => ts2 && e == 0 | none => false
    s.setLane d n { h with tr := { h.tr with blk := if good then h.tr.blk + 1 else 0 } }

/-- A filler set closes a block (R159, R163): what the checker counted is the ERRCNT that the device sends next, 255 until it is
synchronised. -/
def Dev.blockEnd (s : Dev) (d n : Nat) (mism : Bool) : Dev :=
  let s := match s.rdF (Reg.LANE_STAT d n) F.LANE_STAT_PHASE with
    | 2 => if (s.lane d n).tr.results.length < 16 then s.searchBlock d n true mism else s
    | 3 => if (s.lane d n).tr.results.length < 8 then s.searchBlock d n false mism else s
    | 4 => s.confirmBlock d n
    | _ => s
  let h := s.lane d n
  let t := h.tr
  s.setLane d n
    { h with tr := { t with rx := { t.rx with errs := 0 }, peer := none, errOut := if t.rx.got < 15 then 255 else min 255 t.rx.errs } }

/-- A training phase meets its exit condition (R161, R164); `cdr` says that clock recovery is locked, which DETECT asks for. -/
def Dev.phaseDone (s : Dev) (d n : Nat) (cdr : Bool) : Dev :=
  if s.laneState d n ≠ 2 then s
  else
    let cfg := s.rd (Reg.LANE_CFG d n)
    let h := s.lane d n
    let fast := s.rdF (Reg.LANE_STAT d n) F.LANE_STAT_FAST = 1
    match s.rdF (Reg.LANE_STAT d n) F.LANE_STAT_PHASE with
    | 0 => if cdr ∧ 8 ≤ h.sets then (s.wrF (Reg.LANE_ALIGN_STAT d n) F.LANE_ALIGN_STAT_ALIGNED 0).enterPhase d n 1 else s
    | 1 =>
      if s.rdF (Reg.LANE_ALIGN_STAT d n) F.LANE_ALIGN_STAT_ALIGNED = 1 ∧
          s.rdF (Reg.LANE_ALIGN_CTRL d n) F.LANE_ALIGN_CTRL_SLIP_MODE = 0 then
        s.enterPhase d n (if fast then 4 else 2)
      else s
    | 2 =>
      if h.tr.results.length < 16 then s
      else match chooseCtle (h.tr.results.map Prod.fst) (fget cfg F.LANE_CFG_CTLE0) with
      | none => s.attemptFail d n 3
      | some k =>
        let (tap, s) := s.free
        ((s.wrF (Reg.LANE_EQ d n) F.LANE_EQ_CTLE k).wrF (Reg.LANE_EQ d n) F.LANE_EQ_DFE1 tap).enterPhase d n 3
    | 3 =>
      if h.tr.results.length < 8 then s
      else match choosePreset h.tr.results (fget cfg F.LANE_CFG_TXPRE0) with
      | none => s.attemptFail d n 4
      | some (k, f) => ((s.wrF (Reg.LANE_EQ d n) F.LANE_EQ_TXPRE k).wrF (Reg.LANE_EQ d n) F.LANE_EQ_FOM (f / 64)).enterPhase d n 4
    | 4 => if (if fast then 256 else 1024) ≤ h.tr.blk then s.enterPhase d n 5 else s
    | _ => (s.sendSets d n true false 16).laneLock d n

/-- TRAIN_PHASE_DONE. -/
def execTrainPhaseDone (d : Die) (n : LaneIx) (cdr : Bool) (s : State) : Host.Outcome State Fault Refusal :=
  s.onDev (fun s => s.phaseDone d n cdr)

/-- A phase limit expires, or a CONFIRM counts an error (R161); the limit of ALIGN is suspended with SLIP_MODE 1 (R162). -/
def Dev.phaseTimeout (s : Dev) (d n : Nat) : Dev :=
  if s.laneState d n ≠ 2 then s
  else match s.rdF (Reg.LANE_STAT d n) F.LANE_STAT_PHASE with
  | 0 => s.attemptFail d n 1
  | 1 => if s.rdF (Reg.LANE_ALIGN_CTRL d n) F.LANE_ALIGN_CTRL_SLIP_MODE = 1 then s else s.attemptFail d n 2
  | 2 => s.attemptFail d n 3
  | 3 => s.attemptFail d n 4
  | _ => s.attemptFail d n 5

/-- TRAIN_PHASE_TIMEOUT. -/
def execTrainPhaseTimeout (d : Die) (n : LaneIx) (s : State) : Host.Outcome State Fault Refusal :=
  s.onDev (fun s => s.phaseTimeout d n)

/-- A write of SLIP (R162): the boundary moves, so COMMA_HITS counts anew and the last comma seen lies that many bits lower;
it acts in ALIGN with SLIP_MODE 1. -/
def Dev.slipBits (s : Dev) (d n bits : Nat) : Dev :=
  let s := s.touch d (laneBlock d n)
  let a := Reg.LANE_ALIGN_STAT d n
  if s.laneState d n = 2 ∧ s.rdF (Reg.LANE_STAT d n) F.LANE_STAT_PHASE = 1 ∧
      s.rdF (Reg.LANE_ALIGN_CTRL d n) F.LANE_ALIGN_CTRL_SLIP_MODE = 1 ∧ bits ≤ 9 then
    let p := s.rdF a F.LANE_ALIGN_STAT_COMMA_POS
    let s := (s.wrF a F.LANE_ALIGN_STAT_COMMA_HITS 0).wrF a F.LANE_ALIGN_STAT_ALIGNED 0
    let s := if p < 10 then s.wrF a F.LANE_ALIGN_STAT_COMMA_POS ((p + 10 - bits) % 10) else s
    s.setLane d n { s.lane d n with sets := 0 }
  else s

/-- SLIP. -/
def execSlip (d : Die) (n : LaneIx) (bits : Fin 16) (s : State) : Host.Outcome State Fault Refusal :=
  s.onDev (fun s => s.slipBits d n bits)

/-- CONTINUE ends manual ALIGN once ALIGNED is 1 (R162). -/
def Dev.alignEnd (s : Dev) (d n : Nat) : Dev :=
  let s := s.touch d (laneBlock d n)
  if s.laneState d n = 2 ∧ s.rdF (Reg.LANE_STAT d n) F.LANE_STAT_PHASE = 1 ∧
      s.rdF (Reg.LANE_ALIGN_CTRL d n) F.LANE_ALIGN_CTRL_SLIP_MODE = 1 ∧
      s.rdF (Reg.LANE_ALIGN_STAT d n) F.LANE_ALIGN_STAT_ALIGNED = 1 then
    s.enterPhase d n (if s.rdF (Reg.LANE_STAT d n) F.LANE_STAT_FAST = 1 then 4 else 2)
  else s

/-- CONTINUE. -/
def execAlignContinue (d : Die) (n : LaneIx) (s : State) : Host.Outcome State Fault Refusal :=
  s.onDev (fun s => s.alignEnd d n)

/-- RETRAIN and RETRAIN_FULL act in TRAIN, LOCKED and FAILED (R165, R166). -/
def Dev.retrainLane (s : Dev) (d n : Nat) (full : Bool) : Dev :=
  let s := s.touch d (laneBlock d n)
  let st := s.laneState d n
  if st = 2 ∨ st = 3 ∨ st = 4 then (s.clearRetry d n).startSeq d n full false else s

/-- RETRAIN. -/
def execRetrain (d : Die) (n : LaneIx) (s : State) : Host.Outcome State Fault Refusal :=
  s.onDev (fun s => s.retrainLane d n false)

/-- RETRAIN_FULL. -/
def execRetrainFull (d : Die) (n : LaneIx) (s : State) : Host.Outcome State Fault Refusal :=
  s.onDev (fun s => s.retrainLane d n true)

/-- ENABLE acts on a lane in use in OFF or FAILED, unless self-test holds it (R165, R316). -/
def Dev.enableLane (s : Dev) (d n : Nat) : Dev :=
  let s := s.touch d (laneBlock d n)
  if s.rdF (Reg.LANE_CFG d n) F.LANE_CFG_USE ≠ 0 ∧ (s.laneState d n = 0 ∨ s.laneState d n = 4) ∧ !s.isHeld (laneBlock d n) then
    (s.clearRetry d n).startSeq d n true false
  else s

/-- LANE_ENABLE. -/
def execLaneEnable (d : Die) (n : LaneIx) (s : State) : Host.Outcome State Fault Refusal :=
  s.onDev (fun s => s.enableLane d n)

/-- A lane goes to OFF at once: a loopback or scan in progress ends (R176). -/
def Dev.laneOff (s : Dev) (d n : Nat) : Dev :=
  let s := (s.leaveLocked d n).endScan d n
  let s := if s.laneState d n = 5 then s.endLoopback d n 0 else s
  let s := s.wr (Reg.LANE_STAT d n) 0#32
  let a := Reg.LANE_FLT_STAT d n
  let s := ((((s.causeOff a B.LANE_LOCK_LOST).causeOff a B.LANE_TRAIN_FAIL).causeOff a B.LANE_FALLBACK).causeOff a
    B.LANE_ELASTIC).causeOff a B.LANE_PARKED
  s.setLane d n { s.lane d n with attempt := 0, auto := false, everLocked := false, retryAt := none, sets := 0, txRd := false, lost := false }

/-- LANE_DISABLE. -/
def execLaneDisable (d : Die) (n : LaneIx) (s : State) : Host.Outcome State Fault Refusal :=
  s.onDev (fun s => (s.touch d (laneBlock d n)).laneOff d n)

/-- The retry timer of a FAILED lane expires (R166). -/
def Dev.retryLane (s : Dev) (d n : Nat) : Dev :=
  if s.laneState d n = 4 ∧ (s.lane d n).retryAt.isSome then s.startSeq d n true true else s

/-- LANE_RETRY. -/
def execLaneRetry (d : Die) (n : LaneIx) (s : State) : Host.Outcome State Fault Refusal :=
  s.onDev (fun s => s.retryLane d n)

/-- LOSS_OF_LOCK. -/
def execLossOfLock (d : Die) (n : LaneIx) (c : Losses) (s : State) : Host.Outcome State Fault Refusal :=
  s.onDev (fun s => s.loseLock d n c.first c.also)

/-- A lane of a quad whose PLL has lost lock enters WAIT_PLL; a LOCKED lane loses lock with cause REFCLK (R168, R170). -/
def Dev.laneWaitPll (s : Dev) (d n : Nat) : Dev :=
  let st := s.laneState d n
  if st = 0 then s
  else if st = 3 ∨ st = 5 then s.loseLock d n .refclk []
  else s.startSeq d n false false

/-- A quad PLL loses lock (R170). -/
def Dev.quadLoss (s : Dev) (d q : Nat) (ref : Bool) : Dev :=
  let s := (s.wrF (Reg.LANE_Q_STAT d q) F.LANE_Q_STAT_PLL_LOCK 0).wrF (Reg.LANE_Q_STAT d q) F.LANE_Q_STAT_REF_PRESENT (b2n ref)
  let s := s.wr (Reg.LANE_Q_UNLOCK d q) (BitVec.ofNat 32 (satAdd 32 (s.rd (Reg.LANE_Q_UNLOCK d q)).toNat 1))
  let s := s.causeOn (Reg.LANE_Q_FLT_STAT d q) (if ref then B.LANE_Q_PLL_UNLOCK else B.LANE_Q_REF_LOST)
  forAll (lanesOfQuad q) s (fun s n => s.laneWaitPll d n)

/-- QUAD_PLL_LOSS. -/
def execQuadPllLoss (d : Die) (q : Fin 3) (refPresent : Bool) (s : State) : Host.Outcome State Fault Refusal :=
  s.onDev (fun s => s.quadLoss d q refPresent)

/-- A quad PLL relocks: each lane that was not OFF begins the sequence of R165 at step 1 (R170). -/
def Dev.quadRelock (s : Dev) (d q : Nat) : Dev :=
  let s := (s.wrF (Reg.LANE_Q_STAT d q) F.LANE_Q_STAT_PLL_LOCK 1).wrF (Reg.LANE_Q_STAT d q) F.LANE_Q_STAT_REF_PRESENT 1
  let s := (s.causeOff (Reg.LANE_Q_FLT_STAT d q) B.LANE_Q_PLL_UNLOCK).causeOff (Reg.LANE_Q_FLT_STAT d q) B.LANE_Q_REF_LOST
  forAll (lanesOfQuad q) s (fun s n => if s.laneState d n = 1 then s.startSeq d n false false else s)

/-- QUAD_PLL_RELOCK. -/
def execQuadPllRelock (d : Die) (q : Fin 3) (s : State) : Host.Outcome State Fault Refusal :=
  s.onDev (fun s => s.quadRelock d q)

/-- The pattern of a loopback (R173). -/
def Dev.lbCode (s : Dev) (d n : Nat) : Nat := s.rdF (Reg.LANE_LB_CTRL d n) F.LANE_LB_CTRL_PAT

/-- The checker of a loopback takes what has come back (R173): SYNC once it is synchronised, and its errors in LANE_LB_ERRn. -/
def Dev.loopRx (s : Dev) (d n : Nat) (l : List Sym) : Dev :=
  let h := s.lane d n
  let g := patGen (s.lbCode d n)
  let c := h.tr.rx.takeAll g (s.rd (Reg.LANE_LB_USER d n)) l
  let s := s.setLane d n { h with tr := { h.tr with rx := { c with errs := 0 } } }
  let s := s.wr (Reg.LANE_LB_ERR d n) (BitVec.ofNat 32 (satAdd 32 (s.rd (Reg.LANE_LB_ERR d n)).toNat c.errs))
  if g.n ≤ c.got then s.wrF (Reg.LANE_LB_STAT d n) F.LANE_LB_STAT_SYNC 1 else s

/-- The data symbols received since the last ordered set: PRBS data of a block (R159), the pattern of a loopback (R173), which a far-end
loopback returns once it is ACTIVE, or in LOCKED nothing but symbol errors (R168). -/
def Dev.dataRx (s : Dev) (d n : Nat) (l : List Sym) (mism : Bool) : Dev :=
  let h := s.lane d n
  match s.laneState d n with
  | 2 =>
    if s.rdF (Reg.LANE_STAT d n) F.LANE_STAT_PHASE < 2 then s
    else (s.setLane d n { h with tr := { h.tr with rx := h.tr.rx.takeAll (patGen 1) 0#32 l } }).blockEnd d n mism
  | 3 => s.addR (Reg.LANE_SYMERR d n) (symErrors l)
  | 5 => if h.lb = 3 ∧ s.rdF (Reg.LANE_LB_STAT d n) F.LANE_LB_STAT_ACTIVE = 0 then s else s.loopRx d n l
  | _ => s

/-- The last 20 raw bits after a filler set of `skp` SKP that follows received symbols. -/
def rawAfter (rx : RxSyms) (skp : Nat) : Nat :=
  let rd := (rx.groups.map BitVec.toNat).foldl (fun r g => rdAfter r 10 g) rx.rd
  let com := encodeSym rd symCom
  let r1 := rdAfter rd 10 com
  let g := (List.replicate skp ()).foldl (fun (p : List Nat × Bool) _ =>
    let x := encodeSym p.2 (.ctl 0x1C)
    (p.1 ++ [x], rdAfter p.2 10 x)) ([com], r1)
  rawOf { rx with groups := g.1.map (BitVec.ofNat 10) }

/-- A filler set of `skp` SKP reaches the elastic buffer after a drift (R157). -/
def Dev.rateMatch (s : Dev) (d n skp : Nat) (drift : Int) : Dev :=
  let f := ((s.lane d n).fill : Int) + drift
  if f < 0 ∨ 32 < f then s.loseLock d n .elastic []
  else
    let k := f.toNat
    if 17 < k ∧ 2 ≤ skp then
      (s.addF (Reg.LANE_RMCNT d n) F.LANE_RMCNT_DELETED 1).setLane d n { s.lane d n with fill := k - 1 }
    else if k < 15 then
      (s.addF (Reg.LANE_RMCNT d n) F.LANE_RMCNT_INSERTED 1).setLane d n { s.lane d n with fill := k + 1 }
    else s.setLane d n { s.lane d n with fill := k }

/-- A filler set is received, after data symbols (R157, R159, R173). -/
def Dev.fillerSet (s : Dev) (d n skp : Nat) (drift : Int) (rx : RxSyms) (mism : Bool) : Dev :=
  if s.laneState d n < 2 ∨ skp = 0 then s
  else ((s.commaSeen d n rx.pos (rawAfter rx skp)).rateMatch d n skp drift).dataRx d n (symsOf rx) mism

/-- FILLER_SET_RX. -/
def execFillerSetRx (d : Die) (n : LaneIx) (skp : Fin 9) (f : FillerRx) (s : State) : Host.Outcome State Fault Refusal :=
  s.onDev (fun s => s.fillerSet d n skp f.drift f.rx f.mism)

/-- `count` data symbols of a sequence go out (R159, R173). -/
def Dev.sendPattern (s : Dev) (d n : Nat) (g : PatGen) (count : Nat) (pins : Bool) : Dev :=
  let h := s.lane d n
  let r := g.bytes count h.tr.tx
  let s := s.setLane d n { h with tr := { h.tr with tx := r.2 } }
  if pins then s.laneSend d n (.pattern r.1) else s

/-- A transmitter sends a filler set (R156), with what a filler set closes: in DETECT and ALIGN 64 TS1 (Table 7-5), in EQ_RX, EQ_TX and
CONFIRM a block (R159), in a loopback 1,020 symbols of the pattern (R173), in a far-end one that is not ACTIVE yet TS1 with LOOPBACK 1
(R172); never inside a packet. NES and NEP leave the pins at electrical idle (Table 7-8). -/
def Dev.fillerOut (s : Dev) (d n : Nat) : Dev :=
  let h := s.lane d n
  match s.laneState d n with
  | 2 =>
    let p := s.rdF (Reg.LANE_STAT d n) F.LANE_STAT_PHASE
    if p < 2 then (s.sendSets d n false false 64).laneSend d n .filler
    else if p < 5 then
      let s := (s.sendSets d n (p == 4) false 1).sendPattern d n (patGen 1) 1004 true
      let h := s.lane d n
      (s.setLane d n { h with tr := { h.tr with seqNo := (h.tr.seqNo + 1) % 256 } }).laneSend d n .filler
    else s.laneSend d n .filler
  | 3 => if h.sending then s else s.laneSend d n .filler
  | 5 =>
    if h.lb = 3 ∧ s.rdF (Reg.LANE_LB_STAT d n) F.LANE_LB_STAT_ACTIVE = 0 then
      (s.sendSets d n false true 64).laneSend d n .filler
    else
      let s := s.sendPattern d n (patGen (s.lbCode d n)) 1020 (h.lb == 3)
      if h.lb = 3 then s.laneSend d n .filler else s
  | _ => s

/-- FILLER_SEND. -/
def execFillerSend (d : Die) (n : LaneIx) (s : State) : Host.Outcome State Fault Refusal := s.onDev (fun s => s.fillerOut d n)

/-- A far-end loopback is left: 64 TS1 with LOOPBACK 0 and FAST 1 (R172). -/
def Dev.leaveFe (s : Dev) (d n : Nat) : Dev :=
  if (s.lane d n).lb = 3 then
    let (f, s) := s.free
    s.laneSend d n (.training (s.trainOut d n false false true (f % 256)) 64)
  else s

/-- A loopback is entered (R171 to R173): the lane's traffic stops, the checker and the pattern begin anew, and the transmitter is at
electrical idle but for a far-end one, which sends TS1 with LOOPBACK 1. DESIGN CHOICE (log entry 61): LANE_LB_ERRn counts from 0. -/
def Dev.enterLoop (s : Dev) (d n mode : Nat) : Dev :=
  let s := (s.leaveFe d n).leaveLocked d n
  let h := s.lane d n
  let seed := patSeed (s.lbCode d n) (s.rd (Reg.LANE_LB_USER d n))
  let s := s.setLane d n
    { h with attempt := 0, auto := false, sets := 0, lb := mode, txRd := h.txRd && mode == 3, tr := { TrainH.init with tx := seed } }
  let s := s.wr (Reg.LANE_STAT d n) (fset (s.rd (Reg.LANE_STAT d n) &&& 0x100#32) F.LANE_STAT_STATE 5)
  let s := (s.wr (Reg.LANE_LB_STAT d n) 0#32).wr (Reg.LANE_LB_ERR d n) 0#32
  if mode = 3 then s.sendSets d n false true 64 else s

/-- A write of LANE_LB_CTRLn (R171, R172): FE out of LOCKED, and NES or NEP in WAIT_PLL, are refused, with MODE reading 0; a loopback in
progress then goes on (log entry 60). -/
def Dev.loopbackWrite (s : Dev) (d n : Nat) (v : Word) : Dev :=
  let s := s.touch d (laneBlock d n)
  let mode := fget v F.LANE_LB_CTRL_MODE
  let st := s.laneState d n
  let s := s.wr (Reg.LANE_LB_CTRL d n) v
  if mode = 0 then (if st = 5 then (((s.leaveFe d n).endLoopback d n 0).clearRetry d n).startSeq d n false false else s)
  else if (if mode = 3 then st = 3 else st ≠ 1) then s.enterLoop d n mode
  else s.wrF (Reg.LANE_LB_CTRL d n) F.LANE_LB_CTRL_MODE 0

/-- LOOPBACK_MODE_WRITE. -/
def execLoopbackModeWrite (d : Die) (n : LaneIx) (v : Word) (s : State) : Host.Outcome State Fault Refusal :=
  s.onDev (fun s => s.loopbackWrite d n v)

/-- The lane is in far-end loopback. -/
def Dev.inFe (s : Dev) (d n : Nat) : Bool :=
  s.laneState d n == 5 && (s.lane d n).lb == 3

/-- FE_LOOPBACK_ACTIVE: the device's own TS1 have come back (R172). -/
def execFeLoopbackActive (d : Die) (n : LaneIx) (s : State) : Host.Outcome State Fault Refusal :=
  s.onDev (fun s => if s.inFe d n then s.wrF (Reg.LANE_LB_STAT d n) F.LANE_LB_STAT_ACTIVE 1 else s)

/-- FE_LOOPBACK_TIMEOUT: the loopback ends with TIMEOUT, and training follows (R172, Table 7-6). -/
def execFeLoopbackTimeout (d : Die) (n : LaneIx) (s : State) : Host.Outcome State Fault Refusal :=
  s.onDev (fun s =>
    if s.inFe d n && s.rdF (Reg.LANE_LB_STAT d n) F.LANE_LB_STAT_ACTIVE == 0 then
      ((s.endLoopback d n 4).clearRetry d n).startSeq d n false false
    else s)

/-- GO starts a scan point on a LOCKED lane (R174). -/
def Dev.escanGo (s : Dev) (d n : Nat) : Dev :=
  let s := s.touch d (laneBlock d n)
  if s.locked d n then
    ((s.wr (Reg.LANE_ESCAN_STAT d n) 1#32).wr (Reg.LANE_ESCAN_ERR d n) 0#32).wr (Reg.LANE_ESCAN_BITS d n) 0#32
  else s.wr (Reg.LANE_ESCAN_STAT d n) 6#32

/-- ESCAN_GO. -/
def execEscanGo (d : Die) (n : LaneIx) (s : State) : Host.Outcome State Fault Refusal := s.onDev (fun s => s.escanGo d n)

/-- The bits of a scan point that are compared, and the mismatches among them (R174): all at Y 0, those decided 1 above it, those decided
0 below it. -/
def eyeCount (y : Int) (t : EyeTally) : Nat × Nat :=
  if y = 0 then (t.one1 + t.one0 + t.zero1 + t.zero0, t.one0 + t.zero1)
  else if 0 < y then (t.one1 + t.one0, t.one0)
  else (t.zero1 + t.zero0, t.zero1)

/-- The tally of a scan in progress is taken: with 2^(20 + DWELL) compared bits it ends with DONE; before that it shows its counts
(R174, log entry 65). -/
def Dev.escanTake (s : Dev) (d n : Nat) (t : EyeTally) : Dev :=
  if s.rdF (Reg.LANE_ESCAN_STAT d n) F.LANE_ESCAN_STAT_BUSY = 0 then s
  else
    let ctl := s.rd (Reg.LANE_ESCAN_CTRL d n)
    let c := eyeCount (sgn 7 (fget ctl F.LANE_ESCAN_CTRL_Y)) t
    let full := 2 ^ (20 + min 12 (fget ctl F.LANE_ESCAN_CTRL_DWELL))
    let s := s.wr (Reg.LANE_ESCAN_ERR d n) (BitVec.ofNat 32 (min c.2 (2 ^ 32 - 1)))
    let s := s.wr (Reg.LANE_ESCAN_BITS d n) (BitVec.ofNat 32 (min c.1 full / 1024))
    if full ≤ c.1 then s.wr (Reg.LANE_ESCAN_STAT d n) 2#32 else s

/-- ESCAN_DONE. -/
def execEscanDone (d : Die) (n : LaneIx) (tally : EyeTally) (s : State) : Host.Outcome State Fault Refusal :=
  s.onDev (fun s => s.escanTake d n tally)

end Sys2Proof.Machine
end

