-- ==== Sys2Proof/Machine/Compose.lean ====
section
/-! DEFINITION. The arithmetic of line-time composition (R66 to R76, R83): base beam, shapes, coverage, mask and symbol layers,
layer operators and bins. -/

namespace Sys2Proof.Machine

/-- a >> k for a signed number: the floor of a / 2^k (R67). -/
def shr (a : Int) (k : Nat) : Int := a / (2 ^ k : Nat)

/-- The largest integer whose square does not exceed `n` (R67), for n below 2^64. -/
def isqrt (n : Nat) : Nat := (List.range 32).foldr (fun k r => if (r + 2 ^ k) * (r + 2 ^ k) ≤ n then r + 2 ^ k else r) 0

/-- An opacity above 4,096 reads as 4,096 (R67). -/
def opacity (a : Nat) : Nat := min a 4096

/-- v is limited to 0 to 65,535 (R67). -/
def lim16 (v : Int) : Nat := (clampI 0 65535 v).toNat

/-- Node (i, j) of a beam grid (Table 3-4). -/
def beamNode (g : List Nat) (i j : Nat) : Nat := g.getD (j * 17 + i) 0

/-- The base beam at pixel (x, y) of a head of w × h pixels (R69). -/
def baseBeam (g : List Nat) (w h x y : Nat) : Nat :=
  let cw := w / 16
  let ch := h / 16
  let i := x / cw
  let j := y / ch
  let dx := x - i * cw
  let dy := y - j * ch
  let sum := beamNode g i j * (cw - dx) * (ch - dy) + beamNode g (i + 1) j * dx * (ch - dy) +
    beamNode g i (j + 1) * (cw - dx) * dy + beamNode g (i + 1) (j + 1) * dx * dy
  min ((sum + cw * ch / 2) / (cw * ch)) 65535

/-- A texel converted to (s, a) (R70). -/
def texel (fmt w : Nat) : Nat × Nat :=
  match fmt with
  | 0 => (w, 4096)
  | 1 => (w % 256 * 257, (w / 256 * 4096 + 127) / 255)
  | _ => (0, 0)

/-- A primitive record from its 48 bytes (Table 3-1). -/
def primOf (bs : List Byte) : Prim :=
  let w := fun k => leAt bs (4 * k) 4
  { shape := w 0 % 16, layer := w 0 / 16 % 8, feather := w 0 / 256 % 4096, value := w 1 % 65536,
    alpha := opacity (w 1 / 65536 % 8192), bx0 := sgn 16 (w 2), by0 := sgn 16 (w 2 / 65536), bx1 := sgn 16 (w 3),
    by1 := sgn 16 (w 3 / 65536), geo := (List.range 8).map (fun k => w (4 + k)) }

/-- OFF of a primitive record (Table 3-1). -/
def primOff (bs : List Byte) : Bool := leAt bs 0 4 / 128 % 2 == 1

/-- A coordinate, length or offset word: clamped to ±2^22 (R72). -/
def geoWord (p : Prim) (k : Nat) : Int := clampI (-4194304) 4194304 (sgn 32 (p.geo.getD (k - 4) 0))

/-- A unit-vector component in the low or the high half-word (R72). -/
def geoLo (p : Prim) (k : Nat) : Int := sgn 16 (p.geo.getD (k - 4) 0)

/-- A unit-vector component in the high half-word (R72). -/
def geoHi (p : Prim) (k : Nat) : Int := sgn 16 (p.geo.getD (k - 4) 0 / 65536)

/-- The distance of edge `k` of an EDGE4 (Table 3-2). -/
def edgeDist (p : Prim) (x y : Int) (k : Nat) : Int :=
  shr (geoLo p (4 + 2 * k) * x + geoHi p (4 + 2 * k) * y + 8192) 14 + geoWord p (5 + 2 * k)

/-- The signed distance D of a record's shape at sample position (X, Y) (Table 3-2). -/
def shapeDist (p : Prim) (x y : Int) : Int :=
  let dx := x - geoWord p 4
  let dy := y - geoWord p 5
  match p.shape with
  | 0 => min (min dx (geoWord p 6 - x)) (min dy (geoWord p 7 - y))
  | 1 => min (min (edgeDist p x y 0) (edgeDist p x y 1)) (min (edgeDist p x y 2) (edgeDist p x y 3))
  | 2 =>
    let ux := geoLo p 6
    let uy := geoHi p 6
    let u := shr (dx * ux + dy * uy + 8192) 14
    let w := shr (dx * uy - dy * ux + 8192) 14
    min (min u (geoWord p 7 - u)) (geoWord p 8 - (w.natAbs : Int))
  | _ => geoWord p 6 - (isqrt (dx * dx + dy * dy).toNat : Int)

/-- The coverage of a record at a pixel whose box test uses (bx, by) and whose sample position is (X, Y) (R73). -/
def coverage (p : Prim) (bx by_ x y : Int) : Nat :=
  if bx < p.bx0 ∨ p.bx1 < bx ∨ by_ < p.by0 ∨ p.by1 < by_ then 0
  else
    let d := shapeDist p x y
    let f : Int := p.feather
    if p.feather = 0 then (if 0 ≤ d then 4096 else 0)
    else if 2 * d ≤ -f then 0
    else if f ≤ 2 * d then 4096
    else ((2 * d + f) * 2048 / f).toNat

/-- The effective coverage (R73). -/
def effective (p : Prim) (c : Nat) : Nat := (c * p.alpha + 2048) / 4096

/-- The result of one mask record on an arriving value (R74). -/
def maskStep (v e level : Nat) : Nat := v - (e * (v - level) + 2048) / 4096

/-- A mask layer: the minimum of v and every record's result (R74). -/
def maskLayer (v : Nat) (es : List (Nat × Nat)) : Nat := es.foldl (fun m e => min m (maskStep v e.1 e.2)) v

/-- A symbol layer's premultiplied value and opacity, from effective coverages and values in list order (R75). -/
def symbolLayer (es : List (Nat × Nat)) : Nat × Nat :=
  es.foldl (fun pa e =>
    ((e.2 * e.1 + pa.1 * (4096 - e.1) + 2048) / 4096, e.1 + (pa.2 * (4096 - e.1) + 2048) / 4096)) (0, 0)

/-- OVER (Table 3-3). -/
def opOver (v p a : Nat) : Nat := min (p + (v * (4096 - a) + 2048) / 4096) 65535

/-- A layer operator (Table 3-3); `s` is the sample of a raster layer, none on a symbol layer. -/
def layerOp (op v p a : Nat) (s : Option Nat) : Nat :=
  match op, s with
  | 1, _ => min (v + p) 65535
  | 2, _ => max v p
  | 3, some s =>
    let m := (v * s + 32767) / 65535
    lim16 ((v : Int) - shr (((v : Int) - (m : Int)) * a + 2048) 12)
  | _, _ => opOver v p a

/-- TYPE of layer `k` (Table 3-9): 0 absent, 1 raster, 2 mask, 3 symbol. -/
def layerType (types : Word) (k : Nat) : Nat := types.toNat / 16 ^ k % 4

/-- Layer `k` lies in GROUND space. -/
def layerGround (types : Word) (k : Nat) : Bool := types.toNat / 16 ^ k / 4 % 2 == 1

/-- OP of layer `k`. -/
def layerOpCode (ops : Word) (k : Nat) : Nat := ops.toNat / 16 ^ k % 8

/-- A record is a candidate in the bin of band `b` and span `sp`, its box widened by `m` pixels (R83). DESIGN CHOICE (log entry 204): a
box whose corners are the wrong way round touches the bins for which both inequalities hold. -/
def candidate (p : Prim) (m : Int) (b sp : Nat) : Bool :=
  decide (p.bx0 - m ≤ 32 * (sp : Int) + 31) && decide (32 * (sp : Int) ≤ p.bx1 + m) &&
    decide (p.by0 - m ≤ 32 * (b : Int) + 31) && decide (32 * (b : Int) ≤ p.by1 + m)

/-- The widening of a record on layer `k`. -/
def marginOf (types : Word) (margin k : Nat) : Int := if layerGround types k then margin else 0

/-- The candidates of layer `k` in a bin. -/
def candCount (types : Word) (g : Gen) (k b sp : Nat) : Nat :=
  ((g.masks ++ g.syms).filter (fun p => p.layer == k && candidate p (marginOf types g.margin k) b sp)).length

/-- The passes that a bin needs and the vector layer with the most candidates in it (R83). -/
def binNeed (types : Word) (g : Gen) (b sp : Nat) : Nat × Nat :=
  let best := (List.range 8).foldl (fun (m : Nat × Nat) k =>
    let c := if 2 ≤ layerType types k then candCount types g k b sp else 0
    if m.1 < c then (c, k) else m) (0, 0)
  (max 1 ((best.1 + 15) / 16), best.2)

/-- The bin with the largest need above `passes`: need, layer, span and band; the lowest band and then span among equals. -/
def binOver (types : Word) (g : Gen) (passes w h : Nat) : Option (Nat × Nat × Nat × Nat) :=
  ((List.range (h / 32)).flatMap (fun b => (List.range (w / 32)).map (fun sp => (b, sp)))).foldl
    (fun (m : Option (Nat × Nat × Nat × Nat)) e =>
      let n := binNeed types g e.1 e.2
      let old := match m with | none => passes | some o => o.1
      if old < n.1 then some (n.1, n.2, e.2, e.1) else m) none

/-- What composition of a pixel depends on: the head's size, its layers, the band, the rotation centre, and the raster samples. -/
structure PixCtx where
  w : Nat
  h : Nat
  types : Word
  ops : Word
  band : Band
  cx : Int
  cy : Int

/-- The ground-frame position of a pixel centre (R101). -/
def groundPos (b : Band) (cx cy xp yp : Int) : Int × Int :=
  let dx := xp - cx
  let dy := yp - cy
  (cx + shr (b.c * dx - b.s * dy + 32768) 16, cy + shr (b.s * dx + b.c * dy + 32768) 16 - b.dy)

/-- The sample position of layer `k` (R68, R101). -/
def samplePos (c : PixCtx) (k x y : Nat) : Int × Int :=
  let xp : Int := 16 * x + 8
  let yp : Int := 16 * y + 8
  if layerGround c.types k then groundPos c.band c.cx c.cy xp yp else (xp, yp)

/-- Effective coverages and values of the records of layer `k` at a pixel, in list order (R73); a record is drawn only in the bins in
which it was a candidate when it was binned (R83, R103). -/
def layerCover (c : PixCtx) (l : List Prim) (k x y : Nat) : List (Nat × Nat) :=
  let q := samplePos c k x y
  let box : Int × Int := if layerGround c.types k then (shr q.1 4, shr q.2 4) else ((x : Int), (y : Int))
  (l.filter (fun p => p.layer == k && candidate p (marginOf c.band.gen.types c.band.gen.margin k) (y / 32) (x / 32))).map
    (fun p => (effective p (coverage p box.1 box.2 q.1 q.2), p.value))

/-- Layer `k` applied to v; `raster` is the sample of a slot at a position (R66, R74 to R76, R108). -/
def applyLayer (c : PixCtx) (raster : Nat → Int → Int → Nat × Nat) (x y v k : Nat) : Nat :=
  if layerGround c.types k && c.band.hide then v
  else match layerType c.types k with
  | 1 =>
    let slot := ((List.range k).filter (fun j => layerType c.types j == 1)).length
    let q := samplePos c k x y
    let sa := raster slot q.1 q.2
    layerOp (layerOpCode c.ops k) v ((sa.1 * sa.2 + 2048) / 4096) sa.2 (some sa.1)
  | 2 => maskLayer v (layerCover c c.band.gen.masks k x y)
  | 3 =>
    let pa := symbolLayer (layerCover c c.band.gen.syms k x y)
    layerOp (layerOpCode c.ops k) v pa.1 pa.2 none
  | _ => v

/-- The value that composition hands to the photometric stage (R66). -/
def composePixel (c : PixCtx) (raster : Nat → Int → Int → Nat × Nat) (x y : Nat) : Nat :=
  (List.range 8).foldl (applyLayer c raster x y) (baseBeam c.band.gen.beam c.w c.h x y)

/-! ## Warp mesh and correction arithmetic -/

/-- Node (i, j) of one plane of a mesh (R90). -/
def meshNode (u : List Int) (i j : Nat) : Int := u.getD (j * 33 + i) 0

/-- One plane of a mesh at (X, Y) (R93). -/
def meshEval (u : List Int) (w h : Nat) (x y : Int) : Int :=
  let cw : Int := w / 2
  let ch : Int := h / 2
  let i := (clampI 0 31 (x / cw)).toNat
  let j := (clampI 0 31 (y / ch)).toNat
  let fx := x - i * cw
  let fy := y - j * ch
  (meshNode u i j * (cw - fx) * (ch - fy) + meshNode u (i + 1) j * fx * (ch - fy) + meshNode u i (j + 1) * (cw - fx) * fy +
    meshNode u (i + 1) (j + 1) * fx * fy + cw * ch / 2) / (cw * ch)

/-- A raster sample from texel reads (R94): `rw` × `rh` texels, filter, edge and sample position in 1/256 texel. -/
def resample (tex : Int → Int → Nat × Nat) (rw rh : Nat) (bilinear clampEdge : Bool) (tu tv : Int) : Nat × Nat :=
  if rw = 0 ∨ rh = 0 then (0, 0)
  else
    let at_ := fun (p q : Int) =>
      if clampEdge then tex (clampI 0 (rw - 1) p) (clampI 0 (rh - 1) q)
      else if p < 0 ∨ (rw : Int) ≤ p ∨ q < 0 ∨ (rh : Int) ≤ q then (0, 0) else tex p q
    if !bilinear then at_ (shr tu 8) (shr tv 8)
    else
      let p0 := shr (tu - 128) 8
      let q0 := shr (tv - 128) 8
      let wu := (tu - 128 - 256 * p0).toNat
      let wv := (tv - 128 - 256 * q0).toNat
      let mix := fun (a b c d : Nat) =>
        (a * (256 - wu) * (256 - wv) + b * wu * (256 - wv) + c * (256 - wu) * wv + d * wu * wv + 32768) / 65536
      let t00 := at_ p0 q0
      let t10 := at_ (p0 + 1) q0
      let t01 := at_ p0 (q0 + 1)
      let t11 := at_ (p0 + 1) (q0 + 1)
      (mix t00.1 t10.1 t01.1 t11.1, mix t00.2 t10.2 t01.2 t11.2)

/-- S of R100. -/
def corrS (dr : Int) : Int := dr - dr * dr * dr / 25769803776

/-- C of R100. -/
def corrC (dr : Int) : Int := 65536 - dr * dr / 131072

/-- DY of R100. -/
def corrDY (kp dp : Int) : Int := shr (kp * dp + 32768) 16

/-- The correction margin M of R102, in pixels. -/
def corrMargin (w h lim : Nat) (kp cx cy : Int) : Nat :=
  let ds := [8 - cx, 16 * (w : Int) - 8 - cx]
  let es := [8 - cy, 16 * (h : Int) - 8 - cy]
  let sums : List Nat := ds.flatMap (fun a => es.map (fun b => a.natAbs + b.natAbs))
  let rmax : Nat := sums.foldl max 0
  let m16 := shr ((rmax : Int) * (corrS lim + 65536 - corrC lim) + 65535) 16 + corrDY kp lim + 16
  ((m16 + 15) / 16).toNat

/-- Prediction of one axis to the target time (R98). -/
def predict (on : Bool) (a0 a1 t0 t1 tgt : Int) : Int :=
  let dt := sgn 32 (unsgn 32 (t1 - t0))
  if on && decide (1 ≤ dt) && decide (dt ≤ 2500) then
    a1 + (a1 - a0) * min (max (sgn 32 (unsgn 32 (tgt - t1))) 0) 1250 / dt
  else a1

/-! ## Photometric arithmetic -/

/-- Step 2 (Table 5-1). -/
def budgetStep (v k : Nat) : Nat := min ((v * k + 2048) / 4096) 65535

/-- Step 3: the coefficient word applied (R118). -/
def coefStep (v2 word : Nat) : Nat :=
  if v2 = 0 then 0
  else
    let g : Int := ((v2 * (word / 1048576) + 1024) / 2048 : Nat)
    lim16 (g + 16 * sgn 8 (word / 4096))

/-- The derate factor of a class at a temperature; without one, FLOOR (R120, R121). -/
def derate (drt : Word) (t : Option Int) : Nat :=
  let floor_ := fget drt F.PHO_DRT_FLOOR
  match t with
  | none => floor_
  | some t =>
    (max (4096 - (fget drt F.PHO_DRT_SLOPE : Int) * max (t - sgn 8 (fget drt F.PHO_DRT_KNEE)) 0) (floor_ : Int)).toNat

/-- Steps 4 and 5: derate and flags; d of the frame sum too (R119). -/
def driveStep (v3 df word : Nat) : Nat :=
  if word % 2 = 1 ∨ word / 2 % 2 = 1 ∨ word / 8 % 2 = 1 then 0 else min ((v3 * df + 2048) / 4096) 65535

/-- The dither matrix (Table 5-3). -/
def ditherB (x y : Nat) : Nat :=
  ([0, 8, 2, 10, 12, 4, 14, 6, 3, 11, 1, 9, 15, 7, 13, 5] : List Nat).getD (y % 4 * 4 + x % 4) 0

/-- Step 6: the 12-bit code (R122). -/
def ditherCode (on : Bool) (d x y n : Nat) : Nat :=
  let t := if on then (ditherB x y + 5 * (n % 16)) % 16 else 8
  min ((d + t) / 16) 4095

end Sys2Proof.Machine
end

