-- ==== Sys2Proof/Machine/Gens.lean ====
section
/-! DEFINITION. Where a die's DRAM addresses lie (R205 to R207, R223, R385), and generations: staging slots, commits and
binning (R77 to R84). -/

namespace Sys2Proof.Machine

/-- ROLE of a die's DRAM (Table 9-10): 0 NORMAL, 1 CLIENT, 2 SERVER, 3 NONE. -/
def Dev.drcRole (s : Dev) (d : Nat) : Nat := s.rdF (Reg.DRC_STAT d) F.DRC_STAT_ROLE

/-- Where a request of die `d` at address `a` goes, or the fault bit that refuses it; no bit where the die has no DRAM, or cannot
reach the die that serves it (R27, R222, R223, R385). -/
def Dev.drcMap (s : Dev) (d a : Nat) : Except (Option Nat) (Nat × Nat) :=
  let win := s.rd (Reg.DRC_HM_WIN (1 - d))
  let base := fget win F.DRC_HM_WIN_BASE * 0x100000
  let size := fget win F.DRC_HM_WIN_SIZE * 0x100000
  let own := s.rd (Reg.DRC_HM_WIN d)
  let obase := fget own F.DRC_HM_WIN_BASE * 0x100000
  let osize := fget own F.DRC_HM_WIN_SIZE * 0x100000
  if 0x80000000 ≤ a then .error (some B.DRC_ADDR_RANGE)
  else match s.drcRole d with
  | 0 => .ok (d, a)
  | 1 =>
    if s.linksUp = 0 ∨ s.pwr.lost.contains (1 - d) then .error none
    else if a < size - 0x100000 then .ok (1 - d, base + a)
    else if 0x7FF00000 ≤ a then .ok (1 - d, base + size - 0x100000 + (a - 0x7FF00000))
    else .error (some B.DRC_ADDR_HM)
  | 2 => if obase ≤ a ∧ a < obase + osize then .error (some B.DRC_HM_OVERLAP) else .ok (d, a)
  | _ => .error none

/-- Bytes that die `d` reads from `a` on; none where one of them is refused. -/
def Dev.dieRead (s : Dev) (m : Mems) (d a n : Nat) : Option (List Byte) :=
  (List.range n).mapM (fun k =>
    match s.drcMap d (a + k) with
    | .ok (e, b) => some (m.dramAt e b)
    | .error _ => none)

/-- A write at `a` into the reserved region is refused unless it is a staging write (R207). -/
def rsvRefused (a : Nat) (staging : Bool) : Bool := decide (0x7FF00000 ≤ a) && !staging

/-- Bytes that die `d` writes from `a` on; a refused byte is dropped (R207, R223, R385). -/
def Dev.dieWrite (s : Dev) (m : Mems) (d : Nat) (staging : Bool) : Nat → List Byte → Mems
  | _, [] => m
  | a, b :: bs =>
    match s.drcMap d a with
    | .ok (e, k) => s.dieWrite (if rsvRefused a staging then m else m.dramWrite e k [b]) d staging (a + 1) bs
    | .error _ => s.dieWrite m d staging (a + 1) bs

/-- The addresses at which the bursts of a transfer of `n` bytes from `a` on begin. -/
def burstsOf (a n : Nat) : List Nat := (List.range ((a % 64 + n + 63) / 64)).map (fun k => max a (a / 64 * 64 + 64 * k))

/-- How a burst of die `d` at `a` is refused: by its address or as a write into the reserved region, with the fault bit (R207, R223,
R385), or because it finds no DRAM, with none (R222). -/
def Dev.refusalAt (s : Dev) (d a : Nat) (write staging : Bool) : Option (Option Nat) :=
  match s.drcMap d a with
  | .ok _ => if write && rsvRefused a staging then some (some B.DRC_RSV_WRITE) else none
  | .error e => some e

/-- The ways in which bursts of a transfer are refused, each once. -/
def Dev.refusals (s : Dev) (d a n : Nat) (write staging : Bool) : List (Option Nat) :=
  ((burstsOf a n).filterMap (fun x => s.refusalAt d x write staging)).dedup

/-- The faults of a transfer of `n` bytes of die `d` from `a` on: one for each way in which a burst of it is refused. -/
def Dev.raiseRefused (s : Dev) (d a n : Nat) (write staging : Bool) : Dev :=
  forAll ((s.refusals d a n write staging).filterMap id) s (fun s b => s.raise (Reg.DRC_FLT_STAT d) b)

/-- A burst of a transfer finds no DRAM (R222, Table 9-7). -/
def Dev.noDramAt (s : Dev) (d a n : Nat) : Bool := (s.refusals d a n false false).contains none

/-- `n` bytes that die `d` has written from `a` on through port `p` reach the check-value units that watch the port, in whole
bursts as they stand in `m` after the write (Table 13-2, DRAM_WR); a write that the other die serves is accepted there on P6 (R223). -/
def Dev.snoopWrite (s : Dev) (m : Mems) (d p a n : Nat) : Dev :=
  if n = 0 ∨ (List.range 2).all (fun e => (s.watchersOfSrc e 3 (fun _ => true)).isEmpty) then s
  else forAll (List.range ((a % 64 + n + 63) / 64)) s (fun s k =>
    match s.drcMap d (a / 64 * 64 + 64 * k) with
    | .ok (e, x) => s.snoopDram e (if e = d then p else 6) x (m.dramRead e x 64)
    | .error _ => s)

/-- Address of a staging slot (R207). -/
def slotAddr (n slot : Nat) : Nat := 0x7FF00000 + (2 * n + slot) * 0x10000

/-- A staging slot is locked (R79, R80). -/
def Dev.slotLocked (s : Dev) (n slot : Nat) : Bool := bitOf (s.rd (Reg.HEAD_GEN_STAT (s.masterOf n) n)) slot

/-- The dies that own head `n` and are reached from die `e` (R17, R77). DESIGN CHOICE (log entry 191): a copy for a die that is not
reached is dropped. -/
def Dev.waysOf (s : Dev) (e n : Nat) : List Nat := (s.diesOf n).filter (s.dieWay e)

/-- Write data of die `e` for the dies `l` cross the bridge on VC3 where one of them is the other die (Table 1-2, R34). -/
def Dev.crossWrite (s : Dev) (e : Nat) (l : List Nat) : Dev := if l.contains (1 - e) then s.brgSend e 3 else s

/-- Bytes that come in on die `e` stored at an offset of a staging slot, in the DRAM of every die that owns the head (R77). -/
def Dev.slotWrite (s : Dev) (m : Mems) (e n slot off : Nat) (bs : List Byte) : Mems :=
  (s.waysOf e n).foldl (fun m d => s.dieWrite m d true (slotAddr n slot + off) (bs.take (0x10000 - off))) m

/-- The check-value units that watch the port of a write to a staging slot take it on every die that stores it. -/
def Dev.snoopSlot (s : Dev) (m : Mems) (e n slot off len p : Nat) : Dev :=
  forAll (s.waysOf e n) s (fun s d => s.snoopWrite m d p (slotAddr n slot + off) (min len (0x10000 - off)))

/-- The faults of a write to a staging slot on each die that refuses it. -/
def Dev.slotRefused (s : Dev) (e n slot off len : Nat) : Dev :=
  forAll (s.waysOf e n) s (fun v d => v.raiseRefused d (slotAddr n slot + off) len true true)

/-- A BAR2 write to the generation staging area, which comes in on CD0 (R77, R80). DESIGN CHOICE (log entry 191): a write to a slot of
a head that is not in use is dropped, and of a spanning head STAGE_LOCKED is raised on the master die only. -/
def State.staging (s : State) (off : Nat) (data : List Byte) : State :=
  let i := off / 0x10000
  let n := i / 2
  if 8 ≤ i ∨ !s.dev.cdUp 0 ∨ !s.dev.headUsed n then s
  else if s.dev.slotLocked n (i % 2) then
    { s with dev := s.dev.raise (Reg.HEAD_CMP_FLT_STAT (s.dev.masterOf n) n) B.HEAD_CMP_STAGE_LOCKED }
  else
    let dev := (s.dev.crossWrite 0 (s.dev.waysOf 0 n)).slotRefused 0 n (i % 2) (off % 0x10000) data.length
    let mem := s.dev.slotWrite s.mem 0 n (i % 2) (off % 0x10000) data
    { s with dev := dev.snoopSlot mem 0 n (i % 2) (off % 0x10000) data.length 4, mem := mem }

/-- STAGING_WRITE. -/
def execStagingWrite (off : Nat) (data : List Byte) (s : State) : Host.Outcome State Fault Refusal :=
  .next (s.staging off data)

/-- A field of HEAD_GEN_STATn set on every die of the head: the other die mirrors the master (R79). -/
def Dev.setGenStat (s : Dev) (n : Nat) (f : Fld) (v : Nat) : Dev :=
  forAll (s.diesOf n) s (fun s d => s.wrF (Reg.HEAD_GEN_STAT d n) f v)

/-- The BRES of a batch, reported to its source (R202). -/
def Dev.reportBatch (s : Dev) (d i batch result : Nat) : Dev :=
  (s.setInp d i { s.inp d i with bres := result, lastBatch := batch }).sendSrcstat d i

/-- The batch whose commit of head `n` has been binned takes its RESULT (R200, R202). -/
def Dev.reportWaiting (s : Dev) (n result : Nat) : Dev :=
  forAll (List.range 4) s (fun s k =>
    let h := s.inp (k / 2) (k % 2)
    match h.waits.find? (fun w => w.1 == n) with
    | some w =>
      (s.setInp (k / 2) (k % 2) { h with waits := h.waits.filter (fun v => v.1 != n) }).reportBatch (k / 2) (k % 2) w.2 result
    | none => s)

/-- A commit on die `d` is refused (R79): RESULT, REFUSED and a message on that die's commit vector. -/
def Dev.refuseCommit (s : Dev) (d n result : Nat) : Dev :=
  let s := if s.isMaster d n then s.setGenStat n F.HEAD_GEN_STAT_RESULT result
    else s.wrF (Reg.HEAD_GEN_STAT d n) F.HEAD_GEN_STAT_RESULT result
  (s.raise (Reg.HEAD_CMP_FLT_STAT d n) B.HEAD_CMP_REFUSED).emit (.msix (8 + 2 * n + d))

/-- Why a write of HEAD_GEN_COMMITn on die `d` is refused at once (Table 3-5). -/
def Dev.commitRefusal (s : Dev) (d n : Nat) : Option Nat :=
  if !s.headUsed n then some 6
  else if !s.isMaster d n then some 7
  else if s.rdF (Reg.HEAD_GEN_STAT d n) F.HEAD_GEN_STAT_BUSY = 1 then some 2
  else none

/-- A write of HEAD_GEN_COMMITn on die `d` (R79). -/
def Dev.commit (s : Dev) (d n slot : Nat) : Dev :=
  match s.commitRefusal d n with
  | some r => s.refuseCommit d n r
  | none =>
    let s := s.setGenStat n F.HEAD_GEN_STAT_BUSY 1
    let s := s.setGenStat n F.HEAD_GEN_STAT_LOCK (2 ^ slot)
    let s := if s.spansDies n then s.brgSend d 2 else s
    s.setHalf d n { s.half d n with binning := some slot }

/-- HEAD_GEN_COMMIT. -/
def execHeadGenCommit (d : Die) (n : Head) (slot : Bool) (s : State) : Host.Outcome State Fault Refusal :=
  s.onDev (fun s => s.commit d n (b2n slot))

/-- COMMIT_NOTICE: the other die of a spanning head begins to bin the slot (R81). -/
def Dev.notice (s : Dev) (n : Nat) : Dev :=
  let m := s.masterOf n
  match (s.half m n).binning with
  | some slot => if s.spansDies n ∧ s.dieWay m (1 - m) then s.setHalf (1 - m) n { s.half (1 - m) n with binning := some slot } else s
  | none => s

/-- COMMIT_NOTICE. -/
def execCommitNotice (n : Head) (s : State) : Host.Outcome State Fault Refusal := s.onDev (fun s => s.notice n)

/-- Width of a head in pixels: 512 for each column that TOPOLOGY places (R88). -/
def Dev.headW (s : Dev) (n : Nat) : Nat :=
  512 * (((List.range 16).filterMap (fun k =>
    let p := s.place (k / 8) (k % 8)
    if p.used && p.head == n then some (p.col + 1) else none)).foldl max 0)

/-- Height of a head in lines: ACT (R129). -/
def Dev.headH (s : Dev) (n : Nat) : Nat := s.rdF (Reg.HEAD_TACT (s.masterOf n) n) F.HEAD_TACT_ACT

/-- A record of the mask (2) or symbol (3) list: none where OFF, skipped where it names no layer of its kind or no shape (R78). -/
def takeRecord (types : Word) (kind : Nat) (bs : List Byte) : Option (Option Prim) :=
  if primOff bs then none
  else
    let p := primOf bs
    if layerType types p.layer = kind ∧ p.shape < 4 then some (some p) else some none

/-- The records of a slot's list that are taken, and the number skipped (R78). -/
def takeRecords (types : Word) (kind start count : Nat) (slot : List Byte) : List Prim × Nat :=
  let l := (List.range count).filterMap (fun k => takeRecord types kind (slice slot (start + 48 * k) 48))
  (l.filterMap id, (l.filter Option.isNone).length)

/-- The outcome of binning a slot's bytes: the generation, or the RESULT of Table 3-5 and the bin of BIN_OVER (R79, R83). -/
def binSlot (types : Word) (passes w h margin num : Nat) (slot : Option (List Byte)) :
    Except (Nat × Option (Nat × Nat × Nat × Nat)) Gen :=
  match slot with
  | none => .error (5, none)
  | some bs =>
    let mc := leAt bs 4 2
    let sc := leAt bs 6 2
    let checked := slice bs 0x40 578 ++ slice bs 0x300 (48 * mc) ++ slice bs 0x3300 (48 * sc)
    if 256 < mc ∨ 512 < sc then .error (3, none)
    else if leAt bs 8 4 % 2 = 1 ∧ crc32c checked ≠ leAt bs 12 4 then .error (5, none)
    else
      let ms := takeRecords types 2 0x300 mc bs
      let ss := takeRecords types 3 0x3300 sc bs
      let g : Gen := { num := num, tag := leAt bs 0 4, beam := (List.range 289).map (fun k => leAt bs (0x40 + 2 * k) 2),
                       masks := ms.1, syms := ss.1, margin := margin, types := types, skipped := ms.2 + ss.2 }
      match binOver types g passes w h with
      | some o => .error (4, some o)
      | none => .ok g

/-- The outcome of binning on die `d`. DESIGN CHOICE (log entry 205): each half of a spanning head bins every bin of the head, with its
own SPAN_PASSES and layers. -/
def Dev.binOn (s : Dev) (m : Mems) (d n slot : Nat) : Except (Nat × Option (Nat × Nat × Nat × Nat)) Gen :=
  binSlot (s.rd (Reg.HEAD_LAYER_TYPE d n)) (s.rdF (Reg.HEAD_CMP_CFG d n) F.HEAD_CMP_CFG_SPAN_PASSES) (s.headW n) (s.headH n)
    (s.rdF (Reg.HEAD_CORR_LIM d n) F.HEAD_CORR_LIM_MARGIN) ((s.half (s.masterOf n) n).newest.num + 1)
    (s.dieRead m d (slotAddr n slot) 0x9300)

/-- Position of a refusal in the order of R79: COUNT, CHECK, BIN_OVER. -/
def refusalOrder (r : Nat) : Nat := match r with | 3 => 0 | 5 => 1 | _ => 2

/-- The joint outcome of the halves: refused on either is refused on both, by the first test that holds (R79, R81). -/
def firstRefusal (l : List (Except (Nat × Option (Nat × Nat × Nat × Nat)) Gen)) :
    Option (Nat × Option (Nat × Nat × Nat × Nat)) :=
  l.foldl (fun (m : Option (Nat × Option (Nat × Nat × Nat × Nat))) e =>
    match e, m with
    | .error r, none => some r
    | .error r, some o => if refusalOrder r.1 < refusalOrder o.1 then some r else m
    | .ok _, _ => m) none

/-- A generation becomes the newest on die `d` (R79, R83). -/
def Dev.takeGen (s : Dev) (d n : Nat) (g : Gen) : Dev :=
  let h := s.half d n
  let s := if !h.sampled ∧ h.newest.num ≠ 0 then s.addR (Reg.HEAD_GEN_SUPER d n) 1 else s
  let s := s.setHalf d n { s.half d n with newest := g, sampled := false, binning := none }
  (s.wr (Reg.HEAD_GEN_NEWEST d n) (BitVec.ofNat 32 g.num)).wr (Reg.HEAD_GEN_TAG d n) (BitVec.ofNat 32 g.tag)

/-- Binning ends: acceptance or refusal of the commit (R79, R81). -/
def Dev.binDone (s : Dev) (m : Mems) (n : Nat) : Dev :=
  let md := s.masterOf n
  match (s.half md n).binning with
  | none => s
  | some slot =>
    if (s.diesOf n).any (fun d => (s.half d n).binning.isNone) then s
    else
      let outs := (s.diesOf n).map (fun d => s.binOn m d n slot)
      let s := (s.setGenStat n F.HEAD_GEN_STAT_BUSY 0).setGenStat n F.HEAD_GEN_STAT_LOCK 0
      match firstRefusal outs with
      | some (r, loc) =>
        let s := match loc with
          | none => s
          | some (need, layer, span, band) =>
            forAll (s.diesOf n) s (fun s d => s.wr (Reg.HEAD_BIN_OVER d n)
              (BitVec.ofNat 32 (min need 63 * 0x4000000 + layer * 0x100000 + span * 256 + band)))
        let s := forAll (s.diesOf n) s (fun s d => s.setHalf d n { s.half d n with binning := none })
        (s.refuseCommit md n r).reportWaiting n r
      | none =>
        let s := forAll ((s.diesOf n).zip outs) s (fun s e =>
          match e.2 with | .ok g => s.takeGen e.1 n g | .error _ => s)
        let s := s.setGenStat n F.HEAD_GEN_STAT_RESULT 1
        let s := s.setGenStat n F.HEAD_GEN_STAT_SKIPPED (min 255 (s.half md n).newest.skipped)
        (s.emit (.msix (8 + 2 * n + md))).reportWaiting n 1

/-- BINNING_DONE. -/
def execBinningDone (n : Head) (s : State) : Host.Outcome State Fault Refusal := s.onDev (fun d => d.binDone s.mem n)

end Sys2Proof.Machine
end

