-- ==== Sys2Proof/Machine/Correction.lean ====
section
/-! DEFINITION. Pitch and roll sources, the band correction and the warp mesh of a head half (R90 to R109). -/

namespace Sys2Proof.Machine

/-- SRC in use of head `n` (R104): 1 HOST, 2 IMU; anything else acts as NONE. -/
def Dev.corrSrc (s : Dev) (n : Nat) : Nat := s.rdLF (Reg.HEAD_CORR_CFG (s.masterOf n) n) F.HEAD_CORR_CFG_SRC

/-- The larger difference of two samples on either axis. -/
def attDiff (a b : Att) : Nat := max (a.p - b.p).natAbs (a.r - b.r).natAbs

/-- REF32 of one axis after an accepted sample (R99). -/
def refNext (old : Option Int) (a : Int) (k : Nat) : Int :=
  match old with
  | none => 256 * a
  | some r => r + shr ((256 * a - r) * k) 16

/-- A sample is accepted on the master half of head `n` (R99, R107, R108); `level` clears the prediction history. -/
def Dev.acceptSample (s : Dev) (d n : Nat) (a : Att) (level : Bool) : Dev :=
  let h := s.half d n
  let k := s.rdLF (Reg.HEAD_CORR_CFG d n) F.HEAD_CORR_CFG_REF_K
  s.setHalf d n
    { h with hist := if level then [a] else a :: h.hist.take 1, accepted := some a, jumps := [], exempt := false,
             refP := some (refNext h.refP a.p k), refR := some (refNext h.refR a.r k), timer := s.us,
             staleEnd := h.stale.isSome }

/-- A sample of the selected source is tested against the last accepted sample (R107). -/
def Dev.sample (s : Dev) (n : Nat) (a : Att) : Dev :=
  let d := s.masterOf n
  let h := s.half d n
  let jump := s.rdF (Reg.HEAD_CORR_LIMITS d n) F.HEAD_CORR_LIMITS_JUMP
  match h.accepted, h.exempt with
  | some old, false =>
    if attDiff a old ≤ jump then s.acceptSample d n a false
    else
      let s := (s.satF (Reg.HEAD_CORR_CNT d n) F.HEAD_CORR_CNT_JUMPS 1).raise (Reg.HEAD_WARP_FLT_STAT d n) B.HEAD_WARP_JUMP
      let chain := match h.jumps with
        | [] => [a]
        | b :: l => if attDiff a b ≤ jump then a :: b :: l else [a]
      if 3 ≤ chain.length then s.acceptSample d n a true else s.setHalf d n { s.half d n with jumps := chain }
  | _, _ => s.acceptSample d n a false

/-- A write of HEAD_CORR_HOSTn: a sample of the HOST source, time-stamped at acceptance; ignored on a die that is not the
master and where another source is selected (R104). -/
def Dev.corrHost (s : Dev) (d n : Nat) (v : Word) : Dev :=
  if s.isMaster d n ∧ s.corrSrc n = 1 then
    s.sample n ⟨sgn 16 (fget v F.HEAD_CORR_HOST_PITCH), sgn 16 (fget v F.HEAD_CORR_HOST_ROLL), s.us⟩
  else s

/-- HEAD_CORR_HOST. -/
def execHeadCorrHost (d : Die) (n : Head) (v : Word) (s : State) : Host.Outcome State Fault Refusal :=
  s.onDev (fun s => s.corrHost d n v)

/-- What a run of the inertial script has done so far (R105). -/
structure ImuRun where
  rx : List Byte
  cap : List Byte
  pitch : Option Int
  roll : Option Int
  cmpFail : Bool
  script : Bool
  stop : Bool
  out : List ImuOut             -- what it has put on the bus, newest first

/-- A list of capture bytes with one stored. -/
def putCap (cap : List Byte) (k : Nat) (b : Byte) : List Byte := cap.set k b

/-- One operation of the inertial script (Table 4-1); `over_` stands for capture byte 32. -/
def imuOp (scaleP scaleR : Int) (beyond : Byte) (r : ImuRun) (op : Word) : ImuRun :=
  if r.stop then r
  else
    let w := op.toNat
    let idx := w / 0x10000 % 32
    match w / 0x10000000 with
    | 0 => { r with stop := true }
    | 1 => { r with out := .sel (w % 2 == 1) :: r.out }
    | 2 =>
      let b := r.rx.headD 0#8
      { r with rx := r.rx.tail, out := .byte (w % 256) :: r.out, cap := if w / 256 % 2 = 1 then putCap r.cap idx b else r.cap }
    | 3 => r
    | 4 =>
      let v := (r.cap.getD idx 0#8).toNat &&& (w / 256 % 256)
      if v = w % 256 then r else { r with cmpFail := true }
    | 5 =>
      let a := (r.cap.getD idx 0#8).toNat
      let b := (r.cap.getD (idx + 1) beyond).toNat
      let raw := sgn 16 (if w / 256 % 2 = 0 then a * 256 + b else b * 256 + a)
      let angle := fun (k : Int) => clampI (-32767) 32767 (shr (raw * k + 2048) 12)
      if w / 0x1000000 % 2 = 0 then { r with pitch := some (angle scaleP) } else { r with roll := some (angle scaleR) }
    | _ => { r with stop := true, script := true }

/-- The capture bytes as held in HEAD_IMU_CAPk (Table 4-8). -/
def Dev.imuCap (s : Dev) : List Byte := (List.range 8).flatMap (fun k => toLE 4 (s.rd (Reg.HEAD_IMU_CAP k)).toNat)

/-- A run that delivers no sample counts as bad (R105); `last` is LAST of HEAD_IMU_STAT. -/
def Dev.imuBad (s : Dev) (last : Nat) : Dev :=
  let n := min 16 (s.imu.bad + 1)
  let s := { s with imu := { s.imu with bad := n } }
  let s := s.wr Reg.HEAD_IMU_STAT (BitVec.ofNat 32 (2 * last + 16 * min n 15))
  let s := s.satF Reg.HEAD_IMU_CNT F.HEAD_IMU_CNT_BAD 1
  if n = 16 then s.causeOn Reg.HEAD_IMU_FLT_STAT B.HEAD_IMU_SILENT else s

/-- The inertial master is enabled (R105). -/
def Dev.imuOn (s : Dev) : Bool := s.rdF Reg.HEAD_IMU_CTRL F.HEAD_IMU_CTRL_EN == 1

/-- The script run over the bytes that the sensor returns (Table 4-1); `beyond` stands for capture byte 32. -/
def Dev.imuScript (s : Dev) (beyond : Byte) (rx : List Byte) : ImuRun :=
  ((List.range 32).map (fun k => s.rd (Reg.HEAD_IMU_OP k))).foldl
    (imuOp (sgn 32 (s.rd Reg.HEAD_IMU_SCALEP).toNat) (sgn 32 (s.rd Reg.HEAD_IMU_SCALER).toNat) beyond)
    { rx := rx, cap := s.imuCap, pitch := none, roll := none, cmpFail := false, script := false, stop := false, out := [] }

/-- The level of the chip select after what a run has put on the bus. -/
def selAfter (old : Bool) (l : List ImuOut) : Bool := (l.findSome? (fun e => match e with | .sel b => some b | .byte _ => none)).getD old

/-- A sample of the inertial master reaches the head that uses it: one mastered on CD1 over bridge VC0 (R104). -/
def Dev.imuSample (s : Dev) (n : Nat) (a : Att) : Dev :=
  if !s.headUsed n ∨ s.corrSrc n ≠ 2 then s
  else if s.masterOf n = 0 then s.sample n a
  else if s.dieWay 0 1 then (s.brgSend 0 0).sample n a
  else s

/-- A run of the inertial script with the bytes that the sensor returns (R105, R106). A run that an operation code abandons releases
the chip select, as an overrun does (log entry 206). -/
def Dev.imuRun (s : Dev) (rx : List Byte) : Dev :=
  if !s.imuOn then s
  else if s.imu.skip then { s with imu := { s.imu with skip := false } }
  else
    let (fr, s) := s.free
    let r := s.imuScript (BitVec.ofNat 8 fr) rx
    let s := forAll (List.range 8) s (fun s k => s.wr (Reg.HEAD_IMU_CAP k) (BitVec.ofNat 32 (leAt r.cap (4 * k) 4)))
    let s := { s with imu := { s.imu with sel := !r.script && selAfter s.imu.sel r.out } }
    let s := s.emit (.imu ((if r.script then [ImuOut.sel false] else []) ++ r.out).reverse)
    let s := if r.cmpFail then s.raise Reg.HEAD_IMU_FLT_STAT B.HEAD_IMU_CMP else s
    if r.script then (s.raise Reg.HEAD_IMU_FLT_STAT B.HEAD_IMU_SCRIPT).imuBad 3
    else if r.cmpFail then s.imuBad 1
    else match r.pitch, r.roll with
    | some p, some q =>
      let t : Int := s.us - sgn 16 (s.rdF Reg.HEAD_IMU_LAT F.HEAD_IMU_LAT_LAT)
      let s := { s with imu := { s.imu with bad := 0 } }
      let s := (s.wr Reg.HEAD_IMU_STAT 0#32).addF Reg.HEAD_IMU_CNT F.HEAD_IMU_CNT_SAMPLES 1
      let s := s.wr Reg.HEAD_IMU_LAST (BitVec.ofNat 32 (unsgn 16 p + 0x10000 * unsgn 16 q))
      let s := s.wr Reg.HEAD_IMU_TIME (BitVec.ofNat 32 (unsgn 32 t))
      let s := s.causeOff Reg.HEAD_IMU_FLT_STAT B.HEAD_IMU_SILENT
      forAll (List.range 4) s (fun s n => s.imuSample n ⟨p, q, t⟩)
    | _, _ => s.imuBad 2

/-- IMU_RUN. -/
def execImuRun (rx : List Byte) (s : State) : Host.Outcome State Fault Refusal := s.onDev (fun s => s.imuRun rx)

/-- IMU_OVERRUN: the run is abandoned and the next start skipped (R105). -/
def Dev.imuOverrun (s : Dev) : Dev :=
  if !s.imuOn then s
  else ((({ s with imu := { s.imu with skip := true, sel := false } }).emit (.imu [.sel false])).raise Reg.HEAD_IMU_FLT_STAT B.HEAD_IMU_OVERRUN).imuBad 3

/-- IMU_OVERRUN. -/
def execImuOverrun (s : State) : Host.Outcome State Fault Refusal := s.onDev Dev.imuOverrun

/-- A write of HEAD_IMU_OPk: stored while EN is 0 (R106). -/
def Dev.imuOpWrite (s : Dev) (k : Nat) (v : Word) : Dev :=
  if s.imuOn then s.raise Reg.HEAD_IMU_FLT_STAT B.HEAD_IMU_SCRIPT else s.wr (Reg.HEAD_IMU_OP k) v

/-- IMU_OP_WRITE. -/
def execImuOpWrite (k : Fin 32) (v : Word) (s : State) : Host.Outcome State Fault Refusal :=
  s.onDev (fun s => s.imuOpWrite k v)

/-- No sample has been accepted for STALE_T: the correction is stale (R108). With no source selected nothing of this holds
(R104). -/
def Dev.corrStale (s : Dev) (n : Nat) : Dev :=
  let d := s.masterOf n
  let h := s.half d n
  if !s.headUsed n ∨ (s.corrSrc n ≠ 1 ∧ s.corrSrc n ≠ 2) ∨ h.stale.isSome then s
  else
    (s.setHalf d n { h with stale := some s.us, staleEnd := false, exempt := true, jumps := [] }).causeOn
      (Reg.HEAD_WARP_FLT_STAT d n) B.HEAD_WARP_STALE

/-- CORR_STALE. -/
def execCorrStale (n : Head) (s : State) : Host.Outcome State Fault Refusal := s.onDev (fun s => s.corrStale n)

/-- The stale timer starts anew: at the dusk at which SRC latches, and at the first dawn after an entry to LIT (R108). -/
def Dev.restartStale (s : Dev) (d n : Nat) : Dev :=
  (s.setHalf d n { s.half d n with timer := s.us, stale := none, staleEnd := false }).causeOff
    (Reg.HEAD_WARP_FLT_STAT d n) B.HEAD_WARP_STALE

/-- The sample history is cleared when SRC latches a change (R104). -/
def Dev.clearHistory (s : Dev) (d n : Nat) : Dev :=
  (s.setHalf d n { s.half d n with hist := [], accepted := none, jumps := [], exempt := true, refP := none,
                                   refR := none }).restartStale d n

/-- The reference in use on each axis (R99). -/
def Dev.reference (s : Dev) (d n : Nat) : Int × Int :=
  let h := s.half d n
  if s.rdLF (Reg.HEAD_CORR_CFG d n) F.HEAD_CORR_CFG_REFMODE = 1 then (shr (h.refP.getD 0) 8, shr (h.refR.getD 0) 8)
  else (sgn 16 (s.rdLF (Reg.HEAD_CORR_REF d n) F.HEAD_CORR_REF_PITCH), sgn 16 (s.rdLF (Reg.HEAD_CORR_REF d n) F.HEAD_CORR_REF_ROLL))

/-- The predicted angles at the middle of the band's time in light (R98). -/
def Dev.predicted (s : Dev) (d n : Nat) : Option (Int × Int) :=
  let h := s.half d n
  let on := s.rdLF (Reg.HEAD_CORR_CFG d n) F.HEAD_CORR_CFG_PREDICT == 1
  let tgt : Int := s.us + (s.rdLF (Reg.HEAD_TLINE d n) F.HEAD_TLINE_LINE_PER + 3200) / 6400
  match h.hist with
  | [] => none
  | [a] => some (a.p, a.r)
  | a :: b :: _ => some (predict on b.p a.p b.t a.t tgt, predict on b.r a.r b.t a.t tgt)

/-- The band correction's angles on the master half (R97 to R99, R104, R108), with the HIDE of GROUND layers. -/
def Dev.formAngles (s : Dev) (d n : Nat) : Dev × Int × Int × Bool :=
  let flt := Reg.HEAD_WARP_FLT_STAT d n
  let s := if (s.half d n).staleEnd then s.restartStale d n else s
  let h := s.half d n
  match h.stale with
  | some t0 =>
    let s := s.causeOff flt B.HEAD_WARP_CLAMP
    if s.rdLF (Reg.HEAD_CORR_CFG d n) F.HEAD_CORR_CFG_STALE_ACT = 1 then (s, 0, 0, true)
    else
      let e : Int := max (100000 - ((s.us - t0 : Nat) : Int)) 0
      (s, h.lastP * e / 100000, h.lastR * e / 100000, false)
  | none =>
    let none_ := fun (s : Dev) =>
      ((s.setHalf d n { s.half d n with lastP := 0, lastR := 0 }).causeOff flt B.HEAD_WARP_CLAMP, (0 : Int), (0 : Int), false)
    if s.corrSrc n ≠ 1 ∧ s.corrSrc n ≠ 2 then none_ s
    else match s.predicted d n with
    | none => none_ s
    | some (pp, pr) =>
      let (rp, rr) := s.reference d n
      let lim : Int := s.rdF (Reg.HEAD_CORR_LIM d n) F.HEAD_CORR_LIM_LIM
      let dp := clampI (-lim) lim (pp - rp)
      let dr := clampI (-lim) lim (pr - rr)
      let hit := dp != pp - rp || dr != pr - rr
      let s := s.wr (Reg.HEAD_CORR_REFNOW d n) (BitVec.ofNat 32 (unsgn 16 rp + 0x10000 * unsgn 16 rr))
      let s := s.causeIs flt B.HEAD_WARP_CLAMP hit
      let s := if hit then s.satF (Reg.HEAD_CORR_CNT d n) F.HEAD_CORR_CNT_CLAMPS 1 else s
      (s.setHalf d n { s.half d n with lastP := dp, lastR := dr }, dp, dr, false)

/-- A mesh from its bytes (R90). -/
def meshOf (bs : List Byte) : Mesh :=
  { u := (List.range 1089).map (fun k => sgn 32 (leAt bs (8 * k) 4)), v := (List.range 1089).map (fun k => sgn 32 (leAt bs (8 * k + 4) 4)) }

/-- Two adjacent nodes keep the resampler's step within `lim` (R92). -/
def stepOk (m : Mesh) (a b : Nat) (rw rh lim : Nat) : Bool :=
  decide ((m.u.getD a 0 - m.u.getD b 0).natAbs * rw ≤ lim) && decide ((m.v.getD a 0 - m.v.getD b 0).natAbs * rh ≤ lim)

/-- The ranges of a mesh hold for a w × h head and a slot of rw × rh texels (R92). -/
def meshRangeOk (m : Mesh) (w h : Nat) (dims : List (Nat × Nat)) : Bool :=
  (m.u ++ m.v).all (fun x => decide (x.natAbs ≤ 16777216)) &&
    dims.all (fun e => e.1 == 0 || e.2 == 0 ||
      ((List.range 33).all (fun j => (List.range 32).all (fun i => stepOk m (j * 33 + i) (j * 33 + i + 1) e.1 e.2 (4096 * w))) &&
       (List.range 32).all (fun j => (List.range 33).all (fun i => stepOk m (j * 33 + i) ((j + 1) * 33 + i) e.1 e.2 (4096 * h)))))

/-- A mesh is refused: LAST and its fault bit; the accepted mesh stays in force (R92). -/
def Dev.refuseMesh (s : Dev) (d n last bit : Nat) : Dev :=
  let a := Reg.HEAD_WARP_STAT d n
  let s := s.setHalf d n { s.half d n with copy := none, checked := none }
  (s.wr a (BitVec.ofNat 32 ((s.rd a).toNat % 4 + 16 * last))).raise (Reg.HEAD_WARP_FLT_STAT d n) bit

/-- A mesh is accepted (R91, R96). -/
def Dev.acceptMesh (s : Dev) (d n : Nat) (mesh : Mesh) : Dev :=
  (s.setHalf d n { s.half d n with copy := none, checked := none, mesh := some mesh }).wr (Reg.HEAD_WARP_STAT d n) 3#32

/-- The check words of the two halves of a spanning head agree (R95). -/
def Dev.meshAgrees (s : Dev) (n : Nat) : Bool := s.rd (Reg.HEAD_WARP_CRC 0 n) == s.rd (Reg.HEAD_WARP_CRC 1 n)

/-- A slave half's copy that has passed its own checks is held against the master's check word: at once, or once that has come from a
copy in progress (R95). -/
def Dev.meshCompare (s : Dev) (d n : Nat) (mesh : Mesh) : Dev :=
  if (s.half (1 - d) n).copy.isSome then s.setHalf d n { s.half d n with checked := some mesh }
  else if s.meshAgrees n then s.acceptMesh d n mesh
  else s.refuseMesh d n 3 B.HEAD_WARP_MESH_MISMATCH

/-- The master's check word goes to the other half on VC0 (R95): it settles a copy that waits for it, and differs from the word of a
half that has copied nothing. -/
def Dev.meshTell (s : Dev) (n : Nat) : Dev :=
  let m := s.masterOf n
  let d := 1 - m
  if !s.spansDies n ∨ !s.dieWay m d then s
  else
    let s := s.brgSend m 0
    match (s.half d n).checked, (s.half d n).copy with
    | some mesh, _ => s.meshCompare d n mesh
    | none, some _ => s
    | none, none => if s.meshAgrees n then s else s.refuseMesh d n 3 B.HEAD_WARP_MESH_MISMATCH

/-- A mesh copy is checked (R92, R95); `data` is what it read, none where a burst failed. -/
def Dev.meshCheck (s : Dev) (d n : Nat) (data : Option (List Byte)) : Dev :=
  match data with
  | none => s.refuseMesh d n 1 B.HEAD_WARP_MESH_CHECK
  | some bs =>
    let crc := crc32c (bs.take 8712)
    let s := s.wr (Reg.HEAD_WARP_CRC d n) (BitVec.ofNat 32 crc)
    let mesh := meshOf bs
    let dims := [0, 1].map (fun k =>
      (s.rdLF (Reg.HEAD_WARP_RASDIM d (2 * n + k)) F.HEAD_WARP_RASDIM_RW, s.rdLF (Reg.HEAD_WARP_RASDIM d (2 * n + k)) F.HEAD_WARP_RASDIM_RH))
    if s.rdLF (Reg.HEAD_WARP_CFG d n) F.HEAD_WARP_CFG_CHECK = 1 ∧ crc ≠ leAt bs 8712 4 then s.refuseMesh d n 1 B.HEAD_WARP_MESH_CHECK
    else if !meshRangeOk mesh (s.headW n) (s.headH n) dims then s.refuseMesh d n 2 B.HEAD_WARP_MESH_RANGE
    else if s.isSlave d n then s.meshCompare d n mesh
    else s.acceptMesh d n mesh

/-- The mesh copy begun at dusk ends and is checked (R91, R92, R95). -/
def Dev.meshDone (s : Dev) (m : Mems) (d n : Nat) : Dev :=
  match (s.half d n).copy with
  | none => s
  | some base =>
    let s := ((s.wrB (Reg.HEAD_WARP_STAT d n) 1 true).raiseRefused d base 8716 false false).meshCheck d n (s.dieRead m d base 8716)
    if s.isMaster d n then s.meshTell n else s

/-- MESH_COPY_DONE. -/
def execMeshCopyDone (d : Die) (n : Head) (s : State) : Host.Outcome State Fault Refusal :=
  s.onDev (fun v => v.meshDone s.mem d n)

end Sys2Proof.Machine
end

