-- ==== Sys2Proof/Machine/Photo.lean ====
section
/-! DEFINITION. Ceilings, the luminance budget and the photometric stage of a pixel (R110 to R128). -/

namespace Sys2Proof.Machine

/-- A ceiling entry covers pixel (x, y) (R112). -/
def ceilCovers (c : Ceil) (n x y : Nat) : Bool :=
  fget c.ctl F.PHO_CEIL_CTL_EN == 1 && fget c.ctl F.PHO_CEIL_CTL_HEAD == n &&
    decide (fget c.x F.PHO_CEIL_X_X0 ≤ x) && decide (x ≤ fget c.x F.PHO_CEIL_X_X1) &&
    decide (fget c.y F.PHO_CEIL_Y_Y0 ≤ y) && decide (y ≤ fget c.y F.PHO_CEIL_Y_Y1)

/-- Ceiling entry `k` of die `d` as written. -/
def Dev.ceilAt (s : Dev) (d k : Nat) : Ceil := ⟨s.rd (Reg.PHO_CEIL_X d k), s.rd (Reg.PHO_CEIL_Y d k), s.rd (Reg.PHO_CEIL_CTL d k)⟩

/-- An entry's class is ROAD (R113). -/
def Ceil.isRoad (c : Ceil) : Bool := fget c.ctl F.PHO_CEIL_CTL_CLASS == 1

/-- The ceiling entries in force for a head half: its die's ROAD entries and its own latched view of GLARE entries (R114). -/
def Dev.ceilView (s : Dev) (d n : Nat) : List Ceil :=
  ((List.range 64).map (s.ceilAt d)).filter Ceil.isRoad ++ (s.half d n).ceils.map (·.2)

/-- Step 1 (Table 5-1). -/
def ceilStep (cs : List Ceil) (n x y v : Nat) : Nat :=
  cs.foldl (fun v c => if ceilCovers c n x y then min v (fget c.ctl F.PHO_CEIL_CTL_LEVEL) else v) v

/-- The view of GLARE entries that a half takes at its dusk (R114). -/
def Dev.takeCeils (s : Dev) (d n : Nat) : SMap Ceil :=
  ((List.range 64).map (fun k => (k, s.ceilAt d k))).filter
    (fun e => !e.2.isRoad && fget e.2.ctl F.PHO_CEIL_CTL_HEAD == n && e.2 != ⟨0#32, 0#32, 0#32⟩)

/-- Drive of a pixel before dither, and its 12-bit code (R110). -/
def photoPixel (cs : List Ceil) (n k : Nat) (drt : List Word) (temp : Option Int) (dither : Bool) (frame x y word v : Nat) :
    Nat × Nat :=
  let v3 := coefStep (budgetStep (ceilStep cs n x y v) k) word
  let d := driveStep v3 (derate (drt.getD (word / 64 % 64) 0#32) temp) word
  (d, ditherCode dither d x y frame)

/-- A write to a field of a ceiling entry (R112, R113). -/
def Dev.ceilWrite (s : Dev) (d k : Nat) (f : CeilField) (v : Word) : Dev :=
  let road := (s.ceilAt d k).isRoad || (f == .ctl && fget v F.PHO_CEIL_CTL_CLASS == 1)
  if road then s.raise (Reg.PHO_FLT_STAT d) B.PHO_ROAD_WRITE
  else match f with
  | .x => s.wr (Reg.PHO_CEIL_X d k) v
  | .y => s.wr (Reg.PHO_CEIL_Y d k) v
  | .ctl => s.wr (Reg.PHO_CEIL_CTL d k) v

/-- CEIL_WRITE. -/
def execCeilWrite (d : Die) (k : Fin 64) (f : CeilField) (v : Word) (s : State) : Host.Outcome State Fault Refusal :=
  s.onDev (fun s => s.ceilWrite d k f v)

/-- The throttle level L in force (R115, Table 12-11). -/
def Dev.level (s : Dev) : Nat := s.rdF (Reg.THM_STAT 0) F.THM_STAT_LEVEL

/-- The allowance E for a limit and a throttle level (R115). -/
def allowance (limit l : Nat) : Nat := limit * 256 * (8 - l) / 8

/-- The demand U: the halves' values of A, summed and divided once (R115); halves removed under R116 are left out. -/
def Dev.demand (s : Dev) : Nat :=
  ((List.range 8).filter (fun k => !s.bud.out.contains k)).foldl (fun a k => a + s.bud.a.get (fun _ => 0) k) 0 / 65535

/-- K_tgt (R115). -/
def kTarget (e u : Nat) : Nat := if e = 0 then 0 else if u ≤ e then 4096 else e * 4096 / u

/-- K after an update: a fall in full, a rise of at most 256 (R115). -/
def kNext (k tgt : Nat) : Nat := if tgt < k then tgt else min (k + 256) tgt

/-- The 1 ms update of the budget controller (R115), with its status registers (Table 5-6). -/
def Dev.budgetUpdate (s : Dev) : Dev :=
  let e := allowance (s.rdF (Reg.PHO_BUDGET 0) F.PHO_BUDGET_LIMIT) s.level
  let u := s.demand
  let k := kNext s.bud.k (kTarget e u)
  let s := { s with bud := { s.bud with k := k } }
  let s := s.wr (Reg.PHO_BUDGET_STAT 0) (BitVec.ofNat 32 (k + 0x10000 * s.level + 0x100000 * b2n (decide (k < 4096))))
  s.wr (Reg.PHO_DEMAND 0) (BitVec.ofNat 32 (min 65535 (u / 256) + 0x10000 * min 65535 (e / 256)))

/-- BUDGET_UPDATE. -/
def execBudgetUpdate (s : State) : Host.Outcome State Fault Refusal := s.onDev Dev.budgetUpdate

/-- A half's frame sum and the K it used reach the budget controller, from CD1 on bridge VC0; it rejoins U (R115, R116). A sum that
finds no way is lost. -/
def Dev.sumReport (s : Dev) (d n : Nat) : Dev :=
  match (s.half d n).report with
  | none => s
  | some (sum, k) =>
    if !s.dieWay d 0 then s.setHalf d n { s.half d n with report := none }
    else
    let s := if d = 1 then s.brgSend 1 0 else s
    let i := 4 * d + n
    let b := s.bud
    let out := b.out.filter (· != i)
    let s := { s with bud := { b with a := if k = 0 then b.a else b.a.put (fun _ => 0) i (sum * 4096 / k), out := out } }
    let s := s.setHalf d n { s.half d n with report := none, sumAt := s.us }
    if out.isEmpty then s.causeOff (Reg.PHO_FLT_STAT 0) B.PHO_SUM_LOST else s

/-- HALF_SUM_REPORT. -/
def execHalfSumReport (d : Die) (n : Head) (s : State) : Host.Outcome State Fault Refusal := s.onDev (fun s => s.sumReport d n)

/-- No sum of a half has arrived for 100 ms: it leaves U (R116). -/
def Dev.sumLost (s : Dev) (d n : Nat) : Dev :=
  let i := 4 * d + n
  if !s.usedOn d n ∨ s.bud.out.contains i then s
  else ({ s with bud := { s.bud with out := i :: s.bud.out } }).causeOn (Reg.PHO_FLT_STAT 0) B.PHO_SUM_LOST

/-- SUM_LOST. -/
def execSumLost (d : Die) (n : Head) (s : State) : Host.Outcome State Fault Refusal := s.onDev (fun s => s.sumLost d n)

end Sys2Proof.Machine
end

