-- ==== Sys2Proof/Machine/Pipes.lean ====
section
/-! DEFINITION. The pixel pipes of a die (R62 to R65, R84): spans, their composition and photometric correction, and the loss
of a pipe. -/

namespace Sys2Proof.Machine

/-- Key of a span in the line buffers. -/
def spanKey (d t line sp : Nat) : Nat := ((8 * d + t) * 8192 + line) * 16 + sp

/-- Key of a tile line in the coefficient rows. -/
def rowKey (d t line : Nat) : Nat := (8 * d + t) * 8192 + line

/-- The codes of a finished span. -/
def Dev.spanCodes (s : Dev) (d t line sp : Nat) : Option (List Nat) := s.spans.lookup (spanKey d t line sp)

/-- The pipes of a die in service (Table 3-13). -/
def Dev.pipeOk (s : Dev) (d p : Nat) : Bool := s.rdB (Reg.FAB_PIPE_STAT d) p

/-- Each free pipe in service takes the oldest eligible span (R63). -/
def Dev.dispatch (s : Dev) (d : Nat) : Dev :=
  forAll (List.range 4) s (fun s p =>
    let h := s.pipes d
    match h.elig with
    | sp :: rest =>
      if s.pipeOk d p && !s.inSlice d (blockId (d + 1) 4 (0x10 + p)) && (h.pipes.getD p none).isNone then
        s.setPipes d { pipes := h.pipes.set p (some sp), elig := rest }
      else s
    | [] => s)

/-- The spans of a tile line become eligible, in order (R63). -/
def Dev.eligible (s : Dev) (d n line : Nat) : Dev :=
  let tiles := (s.tilesOf d n).filter (fun t => (s.place d t).row == line / 512)
  let spans := tiles.flatMap (fun t => (List.range 16).map (fun k => (⟨n, t, line, k, true⟩ : Span)))
  let h := s.pipes d
  (s.setPipes d { h with elig := h.elig ++ spans }).dispatch d

/-- A pipe becomes free and takes the oldest eligible span. -/
def Dev.freePipe (s : Dev) (d p : Nat) : Dev :=
  let h := s.pipes d
  (s.setPipes d { h with pipes := h.pipes.set p none }).dispatch d

/-- A raster sample of a head half at a position (R70, R93, R94): texels come from the die's DRAM, and a failed or poisoned
burst reads as (0, 0) (Table 9-7). -/
def Dev.rasterAt (s : Dev) (m : Mems) (d n t line slot : Nat) (x y : Int) : Nat × Nat :=
  match (s.half d n).mesh with
  | none => (0, 0)
  | some mesh =>
    let r := 2 * n + slot
    let w := s.headW n
    let h := s.headH n
    let dim := s.rdL (Reg.HEAD_WARP_RASDIM d r)
    let rw := fget dim F.HEAD_WARP_RASDIM_RW
    let rh := fget dim F.HEAD_WARP_RASDIM_RH
    let tu := shr (meshEval mesh.u w h x y * rw + 128) 8
    let tv := shr (meshEval mesh.v w h x y * rh + 128) 8
    let cfg := s.rdL (Reg.HEAD_WARP_CFG d n)
    let base := (s.rdL (Reg.HEAD_RAS_BASE d r)).toNat
    let rc := s.rdL (Reg.HEAD_RAS_CFG d r)
    let tex := fun (p q : Int) =>
      let a := base + q.toNat * fget rc F.HEAD_RAS_CFG_STRIDE * 64 + p.toNat * 2
      if s.rasPoison.contains (8 * d + t, line, a / 64) then (0, 0)
      else match s.dieRead m d a 2 with
        | some bs => texel (fget rc F.HEAD_RAS_CFG_FMT) (leNat bs)
        | none => (0, 0)
    resample tex rw rh (bitOf cfg (3 * slot)) (bitOf cfg (3 * slot + 1)) tu tv

/-- The tile temperature latched at the last dusk (R121). -/
def Dev.latchedTemp (s : Dev) (d t : Nat) : Option Int := s.ttemps.get (fun _ => none) (8 * d + t)

/-- The flat word (R125, R127). -/
def flatWord : Nat := 0x80000000

/-- The coefficient word of each pixel of a tile line: flat with FLAT set, none where the row has not arrived (R126, R127). -/
def Dev.coefRow (s : Dev) (d t line : Nat) : Option (List Nat) :=
  if s.rdLF (Reg.PHO_TILE_CFG d t) F.PHO_TILE_CFG_FLAT = 1 then some [] else s.coefs.lookup (rowKey d t line)

/-- The 32 pixels of a span: drive and code of each (R66, R110). -/
def Dev.spanPixels (s : Dev) (m : Mems) (d : Nat) (sp : Span) (b : Band) (row : List Nat) : List (Nat × Nat) :=
  let n := sp.head
  let h := s.half d n
  let c : PixCtx :=
    { w := s.headW n, h := s.headH n, types := s.rd (Reg.HEAD_LAYER_TYPE d n), ops := s.rd (Reg.HEAD_LAYER_OP d n), band := b,
      cx := sgn 32 (s.rd (Reg.HEAD_CORR_CX d n)).toNat, cy := sgn 32 (s.rd (Reg.HEAD_CORR_CY d n)).toNat }
  (List.range 32).map (fun i =>
    let px := 32 * sp.span + i
    let x := 512 * (s.place d sp.tile).col + px
    let v := composePixel c (s.rasterAt m d n sp.tile sp.line) x sp.line
    photoPixel (s.ceilView d n) n h.k h.drt (s.latchedTemp d sp.tile) (s.rdLF (Reg.PHO_TILE_CFG d sp.tile) F.PHO_TILE_CFG_DITHER == 1)
      (s.rd (Reg.HEAD_FRAME d n)).toNat x sp.line (row.getD px flatWord) v)

/-- The band in composition that holds a line. -/
def HalfH.bandOf (h : HalfH) (line : Nat) : Option Band := h.bands.find? (fun b => b.band == line / 32)

/-- A band after a bin-memory error at a line (R84): background from that line on in its own band, and throughout a later one. -/
def Band.spoil (b : Band) (line : Nat) : Band :=
  if b.band = line / 32 then { b with bg := some (min line (b.bg.getD line)) }
  else if line / 32 < b.band then { b with bg := some (32 * b.band) }
  else b

/-- An uncorrectable bin-memory error in the band of a line (R84): background from that line on, on both halves; the other half hears
of it on VC0. -/
def Dev.binError (s : Dev) (d n line : Nat) : Dev :=
  let s := s.raise (Reg.HEAD_CMP_FLT_STAT d n) B.HEAD_CMP_BIN_ECC
  let s := if s.spansDies n then s.brgSend d 0 else s
  forAll ((s.diesOf n).filter (s.dieWay d)) s (fun s e =>
    let h := s.half e n
    s.setHalf e n { h with badGen := some h.newest.num, bands := h.bands.map (fun b => b.spoil line) })

/-- The line-buffer slots of a tile that are taken: lines with a finished span, and the line being sent (R135, R140). -/
def Dev.slotsTaken (s : Dev) (d t : Nat) : List Nat :=
  ((s.spans.filter (fun e => e.1 / 16 / 8192 == 8 * d + t)).map (fun e => e.1 / 16 % 8192)).dedup

/-- A pipe finishes its span (R63): it passes the photometric stage into the line buffer, unless its line has been released,
its band sends background, or its coefficient row is missing (R126, R142). A span waits on its pipe for a free slot. -/
def Dev.finishSpan (s : Dev) (m : Mems) (d p : Nat) (binErr : Bool) : Dev :=
  match (s.pipes d).pipes.getD p none with
  | none => s
  | some sp =>
    let h := s.half d sp.head
    if !sp.live ∨ !h.composing then s.freePipe d p
    else match h.bandOf sp.line with
    | none => s.freePipe d p
    | some b =>
      if binErr then (s.binError d sp.head sp.line).freePipe d p
      else if (match b.bg with | some l => decide (l ≤ sp.line) | none => false) then s.freePipe d p
      else
        let taken := s.slotsTaken d sp.tile
        if !taken.contains sp.line ∧ 16 ≤ taken.length + b2n (s.lane d sp.tile).sending then s
        else match s.coefRow d sp.tile (sp.line % 512) with
        | none => (s.raise (Reg.PHO_FLT_STAT d) B.PHO_ROW_LATE).freePipe d p
        | some row =>
          let px : List (Nat × Nat) := s.spanPixels m d sp b row
          let s := { s with spans := s.spans.put (fun _ => []) (spanKey d sp.tile sp.line sp.span) (px.map Prod.snd) }
          let s := s.setHalf d sp.head { h with sumD := h.sumD + (px.map Prod.fst).sum }
          s.freePipe d p

/-- The line buffers, coefficient rows and waiting spans of some tiles of a die are emptied: their composition has stopped. -/
def Dev.flushTiles (s : Dev) (d : Nat) (ts : List Nat) : Dev :=
  let out := fun k => !ts.any (fun t => k == 8 * d + t)
  let h := s.pipes d
  let s := s.setPipes d
    { pipes := h.pipes.map (Option.map (fun sp => if ts.contains sp.tile then { sp with live := false } else sp)),
      elig := h.elig.filter (fun sp => !ts.contains sp.tile) }
  { s with spans := s.spans.keep (fun k => out (k / 16 / 8192)), coefs := s.coefs.keep (fun k => out (k / 8192)),
           rows := s.rows.keep (fun k => out (k / 8192)), rasPoison := s.rasPoison.filter (fun e => out e.1) }

/-- Composition stops on a head half; nothing of it stays in the line buffers (R134). -/
def Dev.stopHalf (s : Dev) (d n : Nat) : Dev :=
  (s.setHalf d n { s.half d n with composing := false, armed := false, bands := [] }).flushTiles d (s.tilesOf d n)

/-- Composition stops on every half of a die, and its tiles fall to safe-fill. -/
def Dev.stopDie (s : Dev) (d : Nat) (c : SafeCause) : Dev :=
  (forAll ((List.range 4).filter (s.usedOn d)) s (fun s n => s.stopHalf d n)).safeFillDie d c

/-- A pipe fails (R37, R65): its span goes to another pipe from its first pass; the second loss stops the die's composition. -/
def Dev.pipeLoss (s : Dev) (d p : Nat) : Dev :=
  if !s.pipeOk d p then s
  else
    let h := s.pipes d
    let back := match h.pipes.getD p none with | some sp => [sp] | none => []
    let s := (s.wrB (Reg.FAB_PIPE_STAT d) p false).causeOn (Reg.FAB_PIPE_FLT_STAT d) p
    let s := (s.setPipes d { pipes := h.pipes.set p none, elig := back ++ h.elig }).dispatch d
    if ((List.range 4).filter (s.pipeOk d)).length ≤ 2 then
      (s.causeOn (Reg.FAB_PIPE_FLT_STAT d) B.FAB_PIPE_SECOND).stopDie d .pipes
    else s

/-- The mask on the output-stage column that watches pipe `p`: that of the half whose span the pipe carries (R310, Table 14-4). -/
def Dev.pipeMask (s : Dev) (d p : Nat) : Option WMask :=
  ((s.pipes d).pipes.getD p none).bind (fun sp => s.maskOn (s.outBlock d sp.head))

/-- The span on a pipe is composed again from its first pass, on another pipe where one is free (R65). -/
def Dev.composeAgain (s : Dev) (d p : Nat) : Dev :=
  match (s.pipes d).pipes.getD p none with
  | none => s
  | some sp =>
    let h := s.pipes d
    ((s.setPipes d { h with elig := sp :: h.elig }).dispatch d).freePipe d p

/-- A pipe is found failing (R65). In its slice that is part of the slice's result (Table 14-7). While the column that watches it is
masked the span is composed again and nothing latches; after the release the detection is logged (R310, Table 14-6). -/
def Dev.pipeFail (s : Dev) (d p : Nat) : Dev :=
  if s.inSlice d (blockId (d + 1) 4 (0x10 + p)) then s
  else
    match s.pipeMask d p with
    | some m => if m.released then (s.composeAgain d p).logConsequence m.cause m.watcher else s.composeAgain d p
    | none => s.pipeLoss d p

/-- PIPE_FAIL. -/
def execPipeFail (d : Die) (pipe : Fin 4) (s : State) : Host.Outcome State Fault Refusal := s.onDev (fun s => s.pipeFail d pipe)

end Sys2Proof.Machine
end

