-- ==== Sys2Proof/Machine/Calib.lean ====
section
/-! DEFINITION. Calibration (R247 to R266): trim groups, reference sets, stored coefficient sets, runs, their evaluation and
their storing. -/

namespace Sys2Proof.Machine

/-- STATE of a tile's calibration (Table 11-10): 0 IDLE, 1 WAIT, 2 RUNNING, 3 EVALUATING, 4 STORING. -/
def Dev.calState (s : Dev) (d t : Nat) : Nat := s.rdF (Reg.CAL_TSTAT d t) F.CAL_TSTAT_STATE

/-- A field of CAL_TSTATn set. -/
def Dev.setTstat (s : Dev) (d t : Nat) (f : Fld) (v : Nat) : Dev := s.wrF (Reg.CAL_TSTAT d t) f v

/-- A run of the tile is in progress. -/
def Dev.inRun (s : Dev) (d t : Nat) : Bool := (s.cal d t).kind != 0

/-- STATE as the run, a trigger and a store in progress give it. -/
def Dev.showCal (s : Dev) (d t : Nat) : Dev :=
  let h := s.cal d t
  s.setTstat d t F.CAL_TSTAT_STATE
    (if h.kind ≠ 0 then (if h.slot < 1024 then 2 else 3) else if h.want ≠ 0 then 1 else if h.storing.isSome then 4 else 0)

/-- After a rejected or abandoned run: the hold-off and the count of R262. -/
def Dev.calFailed (s : Dev) (d t : Nat) : Dev :=
  let h := s.cal d t
  let s := s.setCal d t { h with fails := h.fails + 1, holdoff := true }
  if 4 ≤ h.fails + 1 then (s.setTstat d t F.CAL_TSTAT_STOPPED 1).causeOn (Reg.CAL_FLT_STAT d) B.CAL_STOPPED else s

/-- The STOPPED cause of a die is present while AUTO runs of one of its tiles are stopped. -/
def Dev.stoppedCause (s : Dev) (d : Nat) : Dev :=
  if (List.range 8).any (fun t => s.rdF (Reg.CAL_TSTAT d t) F.CAL_TSTAT_STOPPED == 1) then s
  else s.causeOff (Reg.CAL_FLT_STAT d) B.CAL_STOPPED

/-- The count of R262 is cleared. -/
def Dev.clearFails (s : Dev) (d t : Nat) : Dev :=
  ((s.setCal d t { s.cal d t with fails := 0 }).setTstat d t F.CAL_TSTAT_STOPPED 0).stoppedCause d

/-- A run or evaluation in progress is abandoned (R266): WHY 4 COMMAND, 5 SAFE, 6 BASE, 7 NO_PHOTO, 8 HALFMEM. -/
def Dev.abandonRun (s : Dev) (d t why : Nat) : Dev :=
  if !s.inRun d t then s
  else
    let s := s.setCal d t { s.cal d t with kind := 0, await := false }
    let s := (s.setTstat d t F.CAL_TSTAT_LAST 3).setTstat d t F.CAL_TSTAT_WHY why
    let s := if why = 4 then s else s.calFailed d t
    let s := if why = 7 then s.raise (Reg.CAL_FLT_STAT d) B.CAL_NO_PHOTO else s
    (s.showCal d t).emit (.msix 43)

/-- Every run of a die is abandoned. -/
def Dev.abandonDie (s : Dev) (d why : Nat) : Dev := forAll (List.range 8) s (fun s t => s.abandonRun d t why)

/-- The tiles that a mask names. -/
def tilesIn (m : BitVec 8) : List Nat := (List.range 8).filter (fun t => m.getLsbD t)

/-- RESULT of CAL_CMD_STAT (Table 11-9). -/
def Dev.calResult (s : Dev) (d r : Nat) : Dev := s.wr (Reg.CAL_CMD_STAT d) (BitVec.ofNat 32 r)

/-- A run of kind 1 UPDATE or 2 MEASURE is due in what is due already. -/
def wantToo (want kind : Nat) : Nat := if want = 0 ∨ want = kind then kind else 3

/-- The named tiles are to run: an UPDATE run (1) or a MEASURE run (2); a tile in a run ignores it, and one that cannot start waits
(R254). -/
def Dev.calTrigger (s : Dev) (d : Nat) (tiles : BitVec 8) (kind : Nat) : Dev :=
  let s := forAll (tilesIn tiles) s (fun s t =>
    let s := if kind = 1 then s.clearFails d t else s
    if s.inRun d t then s else (s.setCal d t { s.cal d t with want := wantToo (s.cal d t).want kind }).showCal d t)
  let noref := (tilesIn tiles).any (fun t => s.rdF (Reg.CAL_TSTAT d t) F.CAL_TSTAT_REF_OK == 0)
  s.calResult d (if noref then 3 else 1)

/-- CAL_START. -/
def execCalStart (d : Die) (tiles : BitVec 8) (s : State) : Host.Outcome State Fault Refusal :=
  s.onDev (fun s => s.calTrigger d tiles 1)

/-- CAL_MEASURE. -/
def execCalMeasure (d : Die) (tiles : BitVec 8) (s : State) : Host.Outcome State Fault Refusal :=
  s.onDev (fun s => s.calTrigger d tiles 2)

/-- ABORT: runs, evaluations and waiting triggers of the named tiles end (R266). -/
def Dev.calAbortCmd (s : Dev) (d : Nat) (tiles : BitVec 8) : Dev :=
  (forAll (tilesIn tiles) s (fun s t =>
    ((s.abandonRun d t 4).setCal d t { (s.abandonRun d t 4).cal d t with want := 0 }).showCal d t)).calResult d 1

/-- CAL_ABORT. -/
def execCalAbort (d : Die) (tiles : BitVec 8) (s : State) : Host.Outcome State Fault Refusal :=
  s.onDev (fun s => s.calAbortCmd d tiles)

/-! ## Layouts in NV (Tables 11-2 to 11-4) -/

/-- NV offset of the reference set of global tile `g` (R249). -/
def refOff (g : Nat) : Nat := 0x3300000 + g * 0xC2000

/-- NV offset of the tile region of global tile `g` in copy 0 (A) or 1 (B) (R251). -/
def setOff (copy g : Nat) : Nat := (if copy = 0 then 0x1100000 else 0x2200000) + g * 0x104000

/-- The reference set of a tile is valid (R250). -/
def refValid (m : Mems) (g : Nat) : Bool :=
  let h := m.flashRead (refOff g) 0x40
  slice h 0 4 == [0x52#8, 0x45#8, 0x46#8, 0x31#8] && leAt h 4 1 == g && crc32c (h.take 0x3C) == leAt h 0x3C 4

/-- A REF row, with whether it passes its check (Table 11-2). -/
def refRow (m : Mems) (g r : Nat) : List Byte × Bool :=
  let row := m.flashRead (refOff g + 0x2000 + 1024 * r) 1024
  (row, crc32c row == leNat (m.flashRead (refOff g + 0x1000 + 4 * r) 4))

/-- An FGN row, with whether it passes its check (Table 11-2). -/
def fgnRow (m : Mems) (g r : Nat) : List Byte × Bool :=
  let row := m.flashRead (refOff g + 0x82000 + 512 * r) 512
  (row, crc32c row == leNat (m.flashRead (refOff g + 0x1000 + 4 * (512 + r)) 4))

/-- Header of a tile region (Table 11-4). -/
def setHdr (m : Mems) (copy g : Nat) : List Byte := m.flashRead (setOff copy g) 0x40

/-- MAGIC, TILE and HDRCRC of a tile region hold. -/
def setHdrOk (m : Mems) (copy g : Nat) : Bool :=
  let h := setHdr m copy g
  slice h 0 4 == [0x43#8, 0x4F#8, 0x45#8, 0x46#8] && leAt h 8 1 == g && crc32c (h.take 0x3C) == leAt h 0x3C 4

/-- A tile region is valid (R252). -/
def setValid (m : Mems) (copy g : Nat) : Bool :=
  let h := setHdr m copy g
  setHdrOk m copy g && crc32c (m.flashRead (setOff copy g + 0x1000) 2048) == leAt h 0x14 4 &&
    crc32c (m.flashRead (setOff copy g + 0x2000) (4 * leAt h 0x0E 2)) == leAt h 0x10 4

/-- Row `r` of a tile region, where it passes its check. -/
def setRow (m : Mems) (copy g r : Nat) : Option (List Byte) :=
  let row := m.flashRead (setOff copy g + 0x4000 + 2048 * r) 2048
  if crc32c row = leNat (m.flashRead (setOff copy g + 0x1000 + 4 * r) 4) then some row else none

/-- The copies of a tile's set that are valid, the governing one first (R252). -/
def governOrder (m : Mems) (g : Nat) : List Nat :=
  let seq := fun c => leAt (setHdr m c g) 4 4
  match setValid m 0 g, setValid m 1 g with
  | true, true => if seq 0 < seq 1 then [1, 0] else [0, 1]
  | true, false => [0]
  | false, true => [1]
  | false, false => []

/-- ROWTAG of a row (R123). -/
def rowTag (g r : Nat) : Nat := r + 0x10000 * g

/-- A row with its ROWCRC and ROWTAG (R123). -/
def taggedRow (g r : Nat) (row : List Byte) : List Byte := row ++ toLE 4 (crc32c row) ++ toLE 4 (rowTag g r)

/-- Row `r` of a table at `base` in the DRAM of die `d`, with whether it passes ROWCRC and ROWTAG (R125). -/
def Dev.tableRow (s : Dev) (m : Mems) (d g base r : Nat) : List Byte × Bool :=
  match s.dieRead m d (base + 2112 * r) 2056 with
  | none => ([], false)
  | some b => (b.take 2048, crc32c (b.take 2048) == leAt b 2048 4 && leAt b 2052 4 == rowTag g r)

/-- The rows of a stored set written into a table (R253). -/
def Dev.loadRows (s : Dev) (m : Mems) (d g base : Nat) (rows : List (List Byte)) : Mems :=
  ((List.range 512).zip rows).foldl (fun m e => s.dieWrite m d false (base + 2112 * e.1) (taggedRow g e.1 e.2)) m

/-- The faults of calibration traffic on rows of a table: `n` bytes of each (R207, R223, R385). -/
def Dev.rowsRefused (s : Dev) (d base : Nat) (rows : List Nat) (n : Nat) (write : Bool) : Dev :=
  forAll rows s (fun s r => s.raiseRefused d (base + 2112 * r) n write false)

/-- The check-value units that watch P5 take the rows written into a table (Table 13-2). -/
def Dev.snoopRows (s : Dev) (m : Mems) (d base : Nat) (rows : List Nat) : Dev :=
  forAll rows s (fun s r => s.snoopWrite m d 5 (base + 2112 * r) 2056)

/-- All 512 rows of a region, where each passes its check. -/
def setRows (m : Mems) (copy g : Nat) : Option (List (List Byte)) := (List.range 512).mapM (setRow m copy g)

/-- Flash data delivered to a die passes its check-value units that watch it (Table 13-2). -/
def State.flashTo (s : State) (d off n : Nat) : State := { s with dev := s.dev.snoopFlash d off (s.mem.flashRead off n) }

/-- Pieces of the flash delivered to a die, in order. -/
def State.flashList (s : State) (d : Nat) (l : List (Nat × Nat)) : State := l.foldl (fun s e => s.flashTo d e.1 e.2) s

/-- The rows that the load reads of the copies in `order`: of each, up to its first row that fails, and the next copy after that. -/
def rowPieces (m : Mems) (g : Nat) : List Nat → List (Nat × Nat)
  | [] => []
  | c :: rest =>
    let k := ((List.range 512).takeWhile (fun r => (setRow m c g r).isSome)).length
    (setOff c g + 0x4000, 2048 * min 512 (k + 1)) :: (if k = 512 then [] else rowPieces m g rest)

/-- What the start-up load of a tile reads of the flash (log entry 194): the headers of its reference set and of both copies, row check
words and list of each copy whose header holds, and rows. -/
def loadPieces (m : Mems) (g : Nat) : List (Nat × Nat) :=
  [(refOff g, 0x40), (setOff 0 g, 0x40), (setOff 1 g, 0x40)] ++
    ((List.range 2).filter (fun c => setHdrOk m c g)).flatMap (fun c =>
      [(setOff c g + 0x1000, 2048), (setOff c g + 0x2000, 4 * leAt (setHdr m c g) 0x0E 2)]) ++
    rowPieces m g (governOrder m g)

/-- The recovery image runs (R360). -/
def Dev.recovery (s : Dev) : Bool := s.rdF Reg.VSP_IMG_STAT F.VSP_IMG_STAT_RECOVERY == 1

/-- The stored set of tile `t` is loaded; without a valid one the tile is FLAT and an UPDATE run is due (R250, R253). The recovery image
has no coefficients in use (Table 11-6). -/
def State.coefTile (s : State) (d t : Nat) : State :=
  let g := 8 * d + t
  let base := (regReset (Reg.PHO_COEF_BASE d t)).toNat
  let ok := refValid s.mem g
  let dev := s.dev.setTstat d t F.CAL_TSTAT_REF_OK (b2n ok)
  let dev := if ok then dev else dev.raise (Reg.CAL_FLT_STAT d) B.CAL_REF_BAD
  if dev.recovery then { s with dev := dev.wr (Reg.CAL_TQ d t) 0xFFFFFFFF#32 }
  else
  let s := ({ s with dev := dev }).flashList d (loadPieces s.mem g)
  let dev := s.dev
  match (governOrder s.mem g).findSome? (fun c => (setRows s.mem c g).map (fun r => (c, r))) with
  | some (c, rows) =>
    let h := setHdr s.mem c g
    let mem := dev.loadRows s.mem d g base rows
    let dev := (dev.rowsRefused d base (List.range 512) 2056 true).snoopRows mem d base (List.range 512)
    let dev := dev.wr (Reg.CAL_TTEMP d t) (BitVec.ofNat 32 (leAt h 9 1 + 256 * leAt h 10 1 + 0x10000 * leAt h 4 2))
    let dev := dev.wr (Reg.CAL_TQ d t) (BitVec.ofNat 32 (leAt h 0x0C 2 + 0x10000 * leAt h 0x0E 2))
    let dev := dev.setTstat d t F.CAL_TSTAT_SET 1
    let dev := dev.setCal d t { dev.cal d t with govern := some c, seq := leAt h 4 4 }
    { s with dev := dev, mem := mem }
  | none =>
    let dev := (dev.raise (Reg.CAL_FLT_STAT d) B.CAL_SET_BAD).wrF (Reg.PHO_TILE_CFG d t) F.PHO_TILE_CFG_FLAT 1
    let dev := (dev.latch (Reg.PHO_TILE_CFG d t)).wr (Reg.CAL_TQ d t) 0xFFFFFFFF#32
    let dev := dev.setTstat d t F.CAL_TSTAT_SET 0
    let dev := (dev.setCal d t { dev.cal d t with want := wantToo (dev.cal d t).want 1, govern := none, seq := 0 }).showCal d t
    { s with dev := dev }

/-- The coefficient load of a die may run: step 6 of Table 16-3, after delivery and the die's DRAM training. -/
def Dev.coefDue (s : Dev) (d : Nat) : Bool :=
  s.power == 1 && s.pwr.delivered && (s.drc d).trained && !s.pwr.coefs.contains d && !s.pwr.lost.contains d

/-- The coefficient sets of a die's tiles are loaded (R253). -/
def State.coefDie (s : State) (d : Nat) : State :=
  if s.dev.coefDue d then
    let s := (s.dev.usedTiles d).foldl (fun s t => s.coefTile d t) s
    { s with dev := { s.dev with pwr := { s.dev.pwr with coefs := d :: s.dev.pwr.coefs } } }
  else s

/-- COEF_LOAD. -/
def execCoefLoad (d : Die) (s : State) : Host.Outcome State Fault Refusal := .next (s.coefDie d)

/-- CAL_CMD RESTORE (R265): one row of the table in use is rewritten from the governing region. -/
def State.calRestoreCmd (s : State) (d : Nat) (tiles : BitVec 8) (row : Nat) : State :=
  match tilesIn tiles with
  | [t] =>
    let g := 8 * d + t
    if s.dev.inRun d t then { s with dev := s.dev.calResult d 2 }
    else if s.dev.rdF (Reg.CAL_TSTAT d t) F.CAL_TSTAT_SET = 2 then { s with dev := s.dev.calResult d 4 }
    else match (s.dev.cal d t).govern with
    | none => { s with dev := s.dev.calResult d 6 }
    | some c =>
      let s := s.flashList d [(setOff c g + 0x1000 + 4 * row, 4), (setOff c g + 0x4000 + 2048 * row, 2048)]
      match setRow s.mem c g row with
      | none => { s with dev := s.dev.calResult d 6 }
      | some bs =>
        let base := (s.dev.rdL (Reg.PHO_COEF_BASE d t)).toNat
        let mem := s.dev.dieWrite s.mem d false (base + 2112 * row) (taggedRow g row bs)
        { s with dev := ((s.dev.calResult d 1).rowsRefused d base [row] 2056 true).snoopRows mem d base [row], mem := mem }
  | _ => { s with dev := s.dev.calResult d 6 }

/-- CAL_RESTORE. -/
def execCalRestore (d : Die) (tiles : BitVec 8) (row : BitVec 9) (s : State) : Host.Outcome State Fault Refusal :=
  .next (s.calRestoreCmd d tiles row.toNat)

/-- REF_PROG: a tile's reference set is programmed from DRAM, in READY, for one tile without a valid set (R250). -/
def State.refProgCmd (s : State) (d : Nat) (tiles : BitVec 8) : State :=
  if s.dev.power ≠ 2 then { s with dev := s.dev.calResult d 5 }
  else match tilesIn tiles with
  | [t] =>
    let g := 8 * d + t
    if s.dev.inRun d t then { s with dev := s.dev.calResult d 2 }
    else if refValid s.mem g then { s with dev := s.dev.calResult d 6 }
    else match s.dev.dieRead s.mem d (s.dev.rd (Reg.CAL_REFSRC d)).toNat 0xC2000 with
    | none => { s with dev := (s.dev.calResult d 6).raiseRefused d (s.dev.rd (Reg.CAL_REFSRC d)).toNat 0xC2000 false false }
    | some bs =>
      let mem := s.mem.flashWrite (refOff g) bs
      { s with dev := (s.dev.calResult d 1).setTstat d t F.CAL_TSTAT_REF_OK (b2n (refValid mem g)), mem := mem }
  | _ => { s with dev := s.dev.calResult d 6 }

/-- REF_PROG. -/
def execRefProg (d : Die) (tiles : BitVec 8) (s : State) : Host.Outcome State Fault Refusal := .next (s.refProgCmd d tiles)

/-- Bytes of the flash from `a` on erased. -/
def Mems.flashErase (m : Mems) (a n : Nat) : Mems := { m with flash := m.flash.keep (fun k => !(a ≤ k && k < a + n)) }

/-- REF_ERASE: a tile's reference set is erased, in READY, for one tile (R250). -/
def State.refEraseCmd (s : State) (d : Nat) (tiles : BitVec 8) : State :=
  if s.dev.power ≠ 2 then { s with dev := s.dev.calResult d 5 }
  else match tilesIn tiles with
  | [t] =>
    if s.dev.inRun d t then { s with dev := s.dev.calResult d 2 }
    else { s with dev := (s.dev.calResult d 1).setTstat d t F.CAL_TSTAT_REF_OK 0, mem := s.mem.flashErase (refOff (8 * d + t)) 0xC2000 }
  | _ => { s with dev := s.dev.calResult d 6 }

/-- REF_ERASE. -/
def execRefErase (d : Die) (tiles : BitVec 8) (s : State) : Host.Outcome State Fault Refusal := .next (s.refEraseCmd d tiles)

/-! ## Runs -/

/-- CAL_DT, with 0 acting as 1 (Table 11-9). -/
def Dev.calDt (s : Dev) (d : Nat) : Nat := max 1 (s.rdF (Reg.CAL_CFG d) F.CAL_CFG_CAL_DT)

/-- A write of PHO_COEF_BASEn (`alt` 0) or CAL_ALTBASEn (1): a run of the tile is abandoned, and a half-memory client's runs need both
(R266, log entry 195). -/
def Dev.writeCalBase (s : Dev) (d t alt : Nat) (v : Word) : Dev :=
  let s := s.abandonRun d t 6
  let x := s.cal d t
  let left := if x.rebase / 2 ^ alt % 2 = 1 then x.rebase - 2 ^ alt else x.rebase
  (s.setCal d t { x with rebase := left }).wr (if alt = 0 then Reg.PHO_COEF_BASE d t else Reg.CAL_ALTBASE d t) v

/-- TEMP of the coefficients in use. -/
def Dev.coefTemp (s : Dev) (d t : Nat) : Int := sgn 8 (s.rdF (Reg.CAL_TTEMP d t) F.CAL_TTEMP_TEMP)

/-- The AUTO trigger at a dusk (R254, R262). -/
def Dev.calAuto (s : Dev) (d t : Nat) : Dev :=
  let h := s.cal d t
  let due := match s.latchedTemp d t with
    | none => false
    | some x => decide (s.calDt d ≤ (x - s.coefTemp d t).natAbs)
  let none_ := h.govern.isNone
  if s.rdF (Reg.CAL_CFG d) F.CAL_CFG_AUTO = 1 ∧ !s.inRun d t ∧ !h.holdoff ∧
      s.rdF (Reg.CAL_TSTAT d t) F.CAL_TSTAT_STOPPED = 0 ∧ (due || none_) = true then
    (s.setCal d t { h with want := wantToo h.want 1 }).showCal d t
  else s

/-- The conditions under which a run that is due starts (R254, R263, R266). -/
def Dev.calReady (s : Dev) (d t : Nat) : Bool :=
  s.rdF (Reg.CAL_TSTAT d t) F.CAL_TSTAT_REF_OK == 1 && s.rdF (Reg.LANE_CFG d t) F.LANE_CFG_USE == 1 &&
    s.rdF (Reg.LANE_TILE_STAT d t) F.LANE_TILE_STAT_CAPS % 2 == 1 && (s.latchedTemp d t).isSome && !s.recovery &&
    (s.cal d t).rebase == 0

/-- A run starts (R255): its settings are taken and held. Of two that are due the UPDATE run comes first (log entry 196). -/
def Dev.calBegin (s : Dev) (d t : Nat) : Dev :=
  let h := s.cal d t
  let w := s.rd (Reg.CAL_SLOT d)
  let s := s.setCal d t
    { h with kind := if h.want % 2 = 1 then 1 else 2, want := if h.want = 3 then 2 else 0,
             limits := s.rd (Reg.CAL_LIMITS d), dt := s.calDt d, tDark := fget w F.CAL_SLOT_T_DARK, tLit := fget w F.CAL_SLOT_T_LIT,
             code := fget w F.CAL_SLOT_CODE, blank := s.rdF (Reg.CAL_CFG d) F.CAL_CFG_BLANK == 1, slot := 0, await := false,
             missed := 0, temps := [], nTemps := 0, oldRow := false, meas := [] }
  (s.setTstat d t F.CAL_TSTAT_SLOT 0).showCal d t

/-- A slot is missed; the eighth in a row abandons the run (R257). -/
def Dev.slotMissed (s : Dev) (d t : Nat) : Dev :=
  let h := s.cal d t
  let s := s.setCal d t { h with await := false, missed := h.missed + 1 }
  if 8 ≤ h.missed + 1 then s.abandonRun d t 7 else s

/-- The temperature of a slot joins the run's record: sum, highest, lowest (R260). -/
def addTemp (l : List Int) (x : Int) : List Int :=
  match l with
  | [a, b, c] => [a + x, max b x, min c x]
  | _ => [x, x, x]

/-- The slot of a tile at the start of its head's twilight slot (R254, R255, R257). -/
def Dev.calSlot (s : Dev) (d t : Nat) : Dev :=
  let s := if (s.cal d t).await then s.slotMissed d t else s
  let s := if (s.cal d t).want ≠ 0 ∧ !s.inRun d t ∧ s.calReady d t then s.calBegin d t else s
  let h := s.cal d t
  if h.kind = 0 ∨ 1024 ≤ h.slot then s
  else
    let q := (h.cseq + 1) % 65536
    let h := match s.latchedTemp d t with | some x => { h with temps := addTemp h.temps x, nTemps := h.nTemps + 1 } | none => h
    let sent := (s.setCal d t { h with cseq := q, await := true }).offer d t
        (.calib (h.slot % 16) h.blank q (h.slot / 16) h.code h.tDark h.tLit)
    if s.dstate d t = 2 ∧ sent.2 then sent.1 else (s.setCal d t h).slotMissed d t

/-- CAL_SLOT_MISSED: no valid PHOTO in time (R257). -/
def execCalSlotMissed (d : Die) (t : TileIx) (s : State) : Host.Outcome State Fault Refusal :=
  s.onDev (fun s => if (s.cal d t).await ∧ s.inRun d t then s.slotMissed d t else s)

/-- Sn of a pixel (R258). -/
def photoSn (dark lit tDark tLit code : Nat) : Nat := min 65535 ((lit - dark * tLit / tDark) * 122880 / (code * tLit))

/-- G of a pixel (R258). -/
def photoGain (ref sn : Nat) : Nat := clampN 1 4095 ((ref * 2048 + sn / 2) / sn)

/-- Row `y` of the table that tile `t` has in use, with whether it passes its check: on a FLAT tile the flat word throughout (R127). -/
def State.oldRow (s : State) (d t y : Nat) : List Byte × Bool :=
  if s.dev.rdLF (Reg.PHO_TILE_CFG d t) F.PHO_TILE_CFG_FLAT = 1 then ((List.replicate 512 (toLE 4 flatWord)).flatten, true)
  else s.dev.tableRow s.mem d (8 * d + t) (s.dev.rdL (Reg.PHO_COEF_BASE d t)).toNat y

/-- The faults of reading rows of the table in use. -/
def Dev.oldRefused (s : Dev) (d t : Nat) (rows : List Nat) : Dev :=
  if s.rdLF (Reg.PHO_TILE_CFG d t) F.PHO_TILE_CFG_FLAT = 1 then s
  else s.rowsRefused d (s.rdL (Reg.PHO_COEF_BASE d t)).toNat rows 2056 false

/-- Row `r` of a PHOTO packet (R257): its number in the tile, REF row, whether its FGN row passes, and the row of the table in use. -/
def State.photoRow (s : State) (d t : Nat) (p : PhotoPkt) (r : Nat) : Nat × (List Byte × Bool) × Bool × (List Byte × Bool) :=
  let g := 8 * d + t
  let y := 8 * (4 * p.band.val + r) + p.phase.val / 8
  (y, refRow s.mem g y, (fgnRow s.mem g y).2, s.oldRow d t y)

/-- Pixel `i` of row `r` of a PHOTO packet (R257, R258): y, x, candidate word, and what the run records of it. -/
def State.photoPx (s : State) (d t : Nat) (p : PhotoPkt) (r : Nat) (row : Nat × (List Byte × Bool) × Bool × (List Byte × Bool))
    (i : Nat) : Nat × Nat × Nat × Nat :=
  let h := s.dev.cal d t
  let (y, (ref, refOk), fgnOk, (old, _)) := row
  let x := 8 * i + p.phase.val % 8
  let sn := photoSn (p.dark.getD (64 * r + i) 0#16).toNat (p.lit.getD (64 * r + i) 0#16).toNat h.tDark h.tLit h.code
  let dark := decide (sn ≤ fget h.limits F.CAL_LIMITS_DEAD_TH)
  let bad := !refOk || !fgnOk
  let word := leAt old (4 * x) 4
  let gain := if dark || bad then word / 0x100000 else photoGain (leAt ref (2 * x) 2) sn
  (y, x, gain * 0x100000 + word % 0x100000, sn + 65536 * b2n dark + 131072 * b2n bad + 262144)

/-- The PHOTO packet is the one that the run awaits (R257). -/
def Dev.photoDue (s : Dev) (d t : Nat) (p : PhotoPkt) : Bool :=
  let h := s.cal d t
  h.kind != 0 && h.await && p.valid && p.cseq.toNat == h.cseq && p.band.val == h.slot % 16 && p.phase.val == h.slot / 16

/-- A PHOTO packet is processed into candidate words of the alternative table (R257, R258). -/
def State.photo (s : State) (d t : Nat) (p : PhotoPkt) : State :=
  if !s.dev.photoDue d t p then s
  else
    let h := s.dev.cal d t
    let g := 8 * d + t
    let alt := (s.dev.rd (Reg.CAL_ALTBASE d t)).toNat
    let rows := (List.range 4).map (s.photoRow d t p)
    let px := rows.zipIdx.flatMap (fun e => (List.range 64).map (s.photoPx d t p e.2 e.1))
    let mem := px.foldl (fun m e => s.dev.dieWrite m d false (alt + 2112 * e.1 + 4 * e.2.1) (toLE 4 e.2.2.1)) s.mem
    let meas := px.foldl (fun m e => SMap.put (fun _ => 0) m (512 * e.1 + e.2.1) e.2.2.2) h.meas
    let oldBad := rows.any (fun e => !e.2.2.2.2)
    let ys := rows.map Prod.fst
    let dev := (s.dev.oldRefused d t ys).rowsRefused d alt ys 2048 true
    let dev := forAll px dev (fun v e => v.snoopWrite mem d 5 (alt + 2112 * e.1 + 4 * e.2.1) 4)
    let dev := dev.setCal d t
      { h with await := false, missed := 0, slot := h.slot + 1, meas := meas, oldRow := h.oldRow || oldBad }
    let dev := (dev.setTstat d t F.CAL_TSTAT_SLOT (min 1023 (h.slot + 1))).showCal d t
    let s := { s with dev := dev, mem := mem }
    s.flashList d (ys.flatMap (fun y => [(refOff g + 0x1000 + 4 * y, 4), (refOff g + 0x2000 + 1024 * y, 1024),
      (refOff g + 0x1000 + 4 * (512 + y), 4), (refOff g + 0x82000 + 512 * y, 512)]))

/-- A PHOTO packet on a LOCKED lane (R184); one of another length is dropped and counted (R179). -/
def State.photoRx (s : State) (d t : Nat) (p : PhotoPkt) : State :=
  if !s.dev.locked d t then s
  else if p.dark.length ≠ 256 ∨ p.lit.length ≠ 256 then { s with dev := s.dev.badPacket d t 0x82 }
  else s.photo d t p

/-- PHOTO_RX. -/
def execPhotoRx (d : Die) (t : TileIx) (p : PhotoPkt) (s : State) : Host.Outcome State Fault Refusal := .next (s.photoRx d t p)

/-! ## Evaluation -/

/-- What the evaluation knows of a pixel: old word, candidate GAIN, Sn, dark, reference row failed, FG and REF. -/
structure Pix where
  old : Nat
  g : Nat
  sn : Nat
  dark : Bool
  bad : Bool
  fg : Nat
  ref : Nat

/-- DEAD, STUCK or MASKED is set in the old word (R259, step 1). -/
def Pix.excluded (p : Pix) : Bool := p.old % 2 == 1 || p.old / 2 % 2 == 1 || p.old / 8 % 2 == 1

/-- The factory test (R259, step 4). -/
def Pix.factory (p : Pix) : Bool := decide (3 * p.fg ≤ 5 * p.g) && decide (5 * p.g ≤ 8 * p.fg)

/-- The quotient of the neighbour test (R259, step 5); R259 states none for an old GAIN of 0. -/
def Pix.ratio (p : Pix) : Nat := if p.old / 0x100000 = 0 then Config.ratioOverZero p.g else p.g * 4096 / (p.old / 0x100000)

/-- The median, the lower of the two middle values of an even count (R259). -/
def median (l : List Nat) : Nat := (l.mergeSort (· ≤ ·)).getD ((l.length - 1) / 2) 0

/-- A pixel has passed step 4 and was not excluded. -/
def Pix.passed (p : Pix) (blockDark : Bool) : Bool := !p.excluded && !blockDark && !p.dark && !p.bad && p.factory

/-- The verdict of R259 on a pixel: its final word and the WHY of an implausible one. -/
def verdict (p : Pix) (blockDark : Bool) (near : List Nat) (nbtol : Nat) : Nat × Option Nat :=
  if p.excluded then (p.old, none)
  else if blockDark then (p.old, some 3)
  else if p.dark then (p.old + 1, none)
  else if p.bad then (p.old, some 4)
  else if !p.factory then (p.old, some 1)
  else
    let qm := median near
    if 3 ≤ near.length ∧ nbtol * qm < natDist p.ratio qm * 4096 then (p.old, some 2)
    else
      let weak := decide (13 * p.fg ≤ 10 * p.g)
      (p.g * 0x100000 + (p.old % 0x100000 - p.old % 8 / 4 * 4) + 4 * b2n weak, none)

/-- QRES (R263). -/
def qres (l : List Pix) : Nat :=
  let num := (l.map (fun p => natDist (p.old / 0x100000 * p.sn) (2048 * p.ref))).sum
  let den := (l.map (fun p => 2048 * p.ref)).sum
  if den = 0 then 0xFFFF else min 0xFFFE (10000 * num / den)

/-- The pixels of a tile as the evaluation of a run reads them, by 512 * y + x. -/
def State.evalPixels (s : State) (d t : Nat) : List Pix :=
  let g := 8 * d + t
  let h := s.dev.cal d t
  let alt := (s.dev.rd (Reg.CAL_ALTBASE d t)).toNat
  (List.range 512).flatMap (fun y =>
    let old := (s.oldRow d t y).1
    let cand := (s.dev.tableRow s.mem d g alt y).1
    let ref := (refRow s.mem g y).1
    let fgn := (fgnRow s.mem g y).1
    (List.range 512).map (fun x =>
      let m := h.meas.get (fun _ => 0) (512 * y + x)
      { old := leAt old (4 * x) 4, g := leAt cand (4 * x) 4 / 0x100000, sn := m % 65536, dark := m / 65536 % 2 == 1,
        bad := m / 131072 % 2 == 1, fg := 16 * leAt fgn x 1, ref := leAt ref (2 * x) 2 }))

/-- The pixel at (x, y). -/
def pixAt (l : List Pix) (x y : Nat) : Pix := l.getD (512 * y + x) ⟨0, 0, 0, false, false, 0, 0⟩

/-- All 64 pixels of the block of (x, y) were dark (R259, step 2). -/
def blockDark (l : List Pix) (x y : Nat) : Bool :=
  (List.range 8).all (fun j => (List.range 8).all (fun i => (pixAt l (x / 8 * 8 + i) (y / 8 * 8 + j)).dark))

/-- Quotients of the tile neighbours of (x, y) that take part in the neighbour test (R259, step 5). -/
def nearRatios (l : List Pix) (x y : Nat) : List Nat :=
  (List.range 9).filterMap (fun k =>
    let nx := x + k % 3
    let ny := y + k / 3
    if k = 4 ∨ nx = 0 ∨ ny = 0 ∨ 512 < nx ∨ 512 < ny then none
    else
      let p := pixAt l (nx - 1) (ny - 1)
      if p.passed (blockDark l (nx - 1) (ny - 1)) then some p.ratio else none)

/-- The final words of a tile and its implausible list (R259). -/
def evaluate (l : List Pix) (nbtol : Nat) : List Nat × List Nat :=
  let v := (List.range (512 * 512)).map (fun k =>
    let x := k % 512
    let y := k / 512
    (x, y, verdict (pixAt l x y) (blockDark l x y) (nearRatios l x y) nbtol))
  (v.map (fun e => e.2.2.1), v.filterMap (fun e => e.2.2.2.map (fun w => e.1 + 0x10000 * e.2.1 + 0x10000000 * w)))

/-- A table's rows from its words, with their tags (R261). -/
def tableBytes (g : Nat) (words : List Nat) : List (List Byte) :=
  (List.range 512).map (fun r => taggedRow g r (((words.drop (512 * r)).take 512).flatMap (toLE 4)))

/-- The run's TEMP and SPREAD (R260). -/
def runTemp (h : CalH) : Int × Nat :=
  match h.temps with
  | [sum, hi, lo] => (sum / (h.nTemps : Int), (hi - lo).toNat)
  | _ => (0, 0)

/-- Final words and implausible list of the run of a tile (R259). -/
def State.evalOf (s : State) (d t : Nat) : List Nat × List Nat :=
  evaluate (s.evalPixels d t) (fget (s.dev.cal d t).limits F.CAL_LIMITS_NBTOL)

/-- WHY a run is rejected (R260), 0 where it is accepted. -/
def State.rejectWhy (s : State) (d t : Nat) : Nat :=
  if 1310 < (s.evalOf d t).2.length then 1
  else if (s.dev.cal d t).dt < (runTemp (s.dev.cal d t)).2 then 2
  else if (s.dev.cal d t).oldRow || (List.range 512).any (fun y => !(s.oldRow d t y).2) then 3 else 0

/-- Evaluation of a run ends: MEASURED, REJECTED or ACCEPTED (R259 to R263). -/
def State.calEval (s : State) (d t : Nat) : State :=
  let h := s.dev.cal d t
  if h.kind = 0 ∨ h.slot < 1024 then s
  else
    let g := 8 * d + t
    let px := s.evalPixels d t
    let ev := s.evalOf d t
    let q := qres ((List.range (512 * 512)).filterMap (fun k =>
      let p := pixAt px (k % 512) (k / 512)
      if p.passed (blockDark px (k % 512) (k / 512)) then some p else none))
    let (temp, spread) := runTemp h
    let nimpl := ev.2.length
    let why := s.rejectWhy d t
    let dev := (s.dev.oldRefused d t (List.range 512)).rowsRefused d (s.dev.rd (Reg.CAL_ALTBASE d t)).toNat (List.range 512) 2056 false
    let dev := dev.wr (Reg.CAL_TQ d t) (BitVec.ofNat 32 (q + 0x10000 * min 0xFFFF nimpl))
    let dev := dev.wrF (Reg.CAL_TTEMP d t) F.CAL_TTEMP_SPREAD (min 255 spread)
    let dev := dev.setCal d t { h with kind := 0, impl := ev.2 }
    let fin := fun (v : Dev) (last : Nat) => ((v.setTstat d t F.CAL_TSTAT_LAST last).showCal d t).emit (.msix 43)
    if h.kind = 2 then { s with dev := fin dev 4 }
    else if why ≠ 0 then
      let dev := dev.satF (Reg.CAL_TCNT d t) F.CAL_TCNT_REJECTED 1
      let dev := (dev.setTstat d t F.CAL_TSTAT_WHY why).raise (Reg.CAL_FLT_STAT d) B.CAL_REJECTED
      { s with dev := fin (dev.calFailed d t) 2 }
    else
      let old := s.dev.rd (Reg.PHO_COEF_BASE d t)
      let alt := s.dev.rd (Reg.CAL_ALTBASE d t)
      let mem := ((List.range 512).zip (tableBytes g ev.1)).foldl (fun m e => s.dev.dieWrite m d false (alt.toNat + 2112 * e.1) e.2) s.mem
      let dev := (dev.rowsRefused d alt.toNat (List.range 512) 2056 true).snoopRows mem d alt.toNat (List.range 512)
      let dev := (dev.wr (Reg.PHO_COEF_BASE d t) alt).wr (Reg.CAL_ALTBASE d t) old
      let dev := dev.wrF (Reg.PHO_TILE_CFG d t) F.PHO_TILE_CFG_FLAT 0
      let dev := dev.wrF (Reg.CAL_TTEMP d t) F.CAL_TTEMP_TEMP (unsgn 8 temp)
      let dev := (dev.setTstat d t F.CAL_TSTAT_SET 2).satF (Reg.CAL_TCNT d t) F.CAL_TCNT_ACCEPTED 1
      let dead := px.zipIdx.any (fun e => e.1.dark && !e.1.excluded && !blockDark px (e.2 % 512) (e.2 / 512))
      let dev := if dead then dev.raise (Reg.CAL_FLT_STAT d) B.CAL_DEAD_NEW else dev
      let dev := dev.clearFails d t
      let acc : CalAcc := { temp := unsgn 8 temp, spread := min 255 spread, qres := q, impl := ev.2 }
      let dev := dev.setCal d t { dev.cal d t with storeDue := true, storeTry := 0, acc := acc }
      { s with dev := fin dev 1, mem := mem }

/-- CAL_EVAL_DONE. -/
def execCalEvalDone (d : Die) (t : TileIx) (s : State) : Host.Outcome State Fault Refusal := .next (s.calEval d t)

/-- CAL_HOLDOFF_END: AUTO triggers of the tile act again (R262). -/
def execCalHoldoffEnd (d : Die) (t : TileIx) (s : State) : Host.Outcome State Fault Refusal :=
  s.onDev (fun s => s.setCal d t { s.cal d t with holdoff := false })

/-! ## Storing -/

/-- A store starts (R264): the region that does not govern is erased. -/
def State.storeStart (s : State) (d t : Nat) : State :=
  let h := s.dev.cal d t
  if !h.storeDue ∨ h.storing.isSome then s
  else
    let g := 8 * d + t
    let copy := match h.govern with | some 0 => 1 | _ => 0
    let seq := match h.govern with | some _ => (h.seq + 1) % 2 ^ 32 | none => 1
    let st : CalStore :=
      { copy := copy, base := (s.dev.rd (Reg.PHO_COEF_BASE d t)).toNat, seq := seq, acc := h.acc }
    let dev := (s.dev.setCal d t { h with storeDue := false, storing := some st }).showCal d t
    { s with dev := dev, mem := s.mem.flashErase (setOff copy g) 0x104000 }

/-- CAL_STORE_START. -/
def execCalStoreStart (d : Die) (t : TileIx) (s : State) : Host.Outcome State Fault Refusal := .next (s.storeStart d t)

/-- The header of a stored region (Table 11-4). -/
def storeHeader (g : Nat) (st : CalStore) (checks : List Byte) : List Byte :=
  let list := st.acc.impl.flatMap (toLE 4)
  let b := [0x43#8, 0x4F#8, 0x45#8, 0x46#8] ++ toLE 4 st.seq ++ toLE 1 g ++ toLE 1 st.acc.temp ++ toLE 1 st.acc.spread ++ [0#8] ++
    toLE 2 st.acc.qres ++ toLE 2 st.acc.impl.length ++ toLE 4 (crc32c list) ++ toLE 4 (crc32c checks) ++ List.replicate 36 0#8
  b ++ toLE 4 (crc32c b)

/-- A store ends (R264): `good` says that it read back as written. -/
def State.storeDone (s : State) (d t : Nat) (good : Bool) : State :=
  let h := s.dev.cal d t
  match h.storing with
  | none => s
  | some st =>
    let g := 8 * d + t
    if good then
      let v := s.dev.rowsRefused d st.base (List.range 512) 2056 false
      let rows := (List.range 512).map (fun r => (s.dev.tableRow s.mem d g st.base r).1)
      let checks := rows.flatMap (fun r => toLE 4 (crc32c r))
      let off := setOff st.copy g
      let mem := ((List.range 512).zip rows).foldl (fun m e => m.flashWrite (off + 0x4000 + 2048 * e.1) e.2) s.mem
      let mem := (mem.flashWrite (off + 0x1000) checks).flashWrite (off + 0x2000) (st.acc.impl.flatMap (toLE 4))
      let mem := mem.flashWrite off (storeHeader g st checks)
      let dev := v.setCal d t { h with storing := none, govern := some st.copy, seq := st.seq, storeTry := 0 }
      let dev := if h.storeDue then dev else dev.setTstat d t F.CAL_TSTAT_SET 1
      { s with dev := (dev.wrF (Reg.CAL_TTEMP d t) F.CAL_TTEMP_SEQ st.seq).showCal d t, mem := mem }
    else
      let again := h.storeDue || h.storeTry == 0
      let dev := s.dev.setCal d t { h with storing := none, storeDue := again, storeTry := if h.storeDue then 0 else h.storeTry + 1 }
      { s with dev := (dev.raise (Reg.CAL_FLT_STAT d) B.CAL_STORE_FAIL).showCal d t }

/-- CAL_STORE_DONE. -/
def execCalStoreDone (d : Die) (t : TileIx) (good : Bool) (s : State) : Host.Outcome State Fault Refusal :=
  .next (s.storeDone d t good)

/-- A trim group passes its check (R247). -/
def TrimGroup.good (g : TrimGroup) : Bool := crc16 g.words == g.check

/-- Step 2 of Table 16-3, once every rail is up: each trim group is read, checked and delivered; a failing one raises its fault
(R247, R248). Step 4 can begin then. -/
def Dev.trimLoad (s : Dev) (groups : List TrimGroup) : Dev :=
  if s.power ≠ 1 ∨ s.pwr.pen < 4 ∨ s.pwr.trims ∨ s.pwr.rstHeld then s
  else
    let s := forAll groups.zipIdx s (fun s e =>
      (s.wrB Reg.VSP_TRIM_STAT e.2 e.1.good).causeIs Reg.VSP_TRIM_FLT_STAT e.2 (!e.1.good))
    ({ s with pwr := { s.pwr with rails := true, trims := true } }).wrF Reg.VSP_PWR_STAT F.VSP_PWR_STAT_STEP 4

/-- TRIM_LOAD. -/
def execTrimLoad (s : State) : Host.Outcome State Fault Refusal := s.onDev (fun v => v.trimLoad s.nv.trims)

end Sys2Proof.Machine
end

