-- ==== Sys2Proof/Machine/Verify.lean ====
section
/-! DEFINITION. Svayx images: header, section table, decryption, the check record and the verification of Table 2-4 (R38 to R45,
R53, R191). -/

namespace Sys2Proof.Machine

/-- An entry of the section table (R40). -/
structure SecEntry where
  typ : Nat
  inst : Nat
  off : Nat
  len : Nat
  crc : Nat
deriving DecidableEq, Repr, Inhabited

/-- IMAGE_LEN of an image (Table 2-2). -/
def imgLen (b : List Byte) : Nat := leAt b 0x08 4

/-- SECT_COUNT of an image. -/
def imgCount (b : List Byte) : Nat := leAt b 0x16 1

/-- FLAGS of an image. -/
def imgFlags (b : List Byte) : Nat := leAt b 0x17 1

/-- ENC of an image. -/
def imgEnc (b : List Byte) : Bool := imgFlags b % 2 == 1

/-- PARTIAL of an image. -/
def imgPartial (b : List Byte) : Bool := imgFlags b / 2 % 2 == 1

/-- RECOVERY of an image. -/
def imgRecovery (b : List Byte) : Bool := imgFlags b / 4 % 2 == 1

/-- SECVER of an image. -/
def imgSecver (b : List Byte) : Nat := leAt b 0x0C 4

/-- KEY_IDX of an image. -/
def imgKey (b : List Byte) : Nat := leAt b 0x18 1

/-- End of the section table. -/
def imgTableEnd (b : List Byte) : Nat := 128 + 16 * imgCount b

/-- Start of the signature block. -/
def imgSig (b : List Byte) : Nat := imgLen b - 128

/-- The section table (R40). -/
def imgTable (b : List Byte) : List SecEntry :=
  (List.range (imgCount b)).map (fun k =>
    let o := 128 + 16 * k
    ⟨leAt b o 2, leAt b (o + 2) 2, leAt b (o + 4) 4, leAt b (o + 8) 4, leAt b (o + 12) 4⟩)

/-- Step 1: the header (R39), for a copy or staging of `room` bytes. -/
def headerOk (b : List Byte) (room : Nat) : Bool :=
  slice b 0 4 == [0x53#8, 0x56#8, 0x59#8, 0x58#8] && leAt b 4 2 == 3 && leAt b 6 2 == 128 && leAt b 0x14 2 == 0x7216 &&
    decide (imgLen b ≤ 0x800000) && decide (imgLen b ≤ room) && leAt b 0x1A 2 == 0 && leAt b 0x60 32 == 0 &&
    decide (imgFlags b < 8)

/-- Step 2: the key (R361): the slot holds the key's hash and is not revoked, and slot 0 and RECOVERY go together; while
ZEROISED is set only the recovery image is accepted (R365). -/
def keyOk (nv : Nv) (b : List Byte) : Bool :=
  match nv.slots[imgKey b]? with
  | some s => s.hash == some (Config.sha256 (slice b (imgSig b) 64)) && !s.revoked && (imgKey b == 0) == imgRecovery b &&
      (!nv.zeroised || imgRecovery b)
  | none => false

/-- Step 3: the signature (R41). -/
def sigOk (b : List Byte) : Bool :=
  Config.ecdsaVerify (slice b (imgSig b) 64) (slice b (imgSig b + 64) 64) (Config.sha256 (b.take (imgSig b)))

/-- The section data in plaintext, from the end of the section table to the signature block; none where the GCM tag does not
verify (R42). -/
def plainData (nv : Nv) (b : List Byte) : Option (List Byte) :=
  let ct := slice b (imgTableEnd b) (imgSig b - imgTableEnd b)
  if !imgEnc b then some ct
  else match nv.keys.getD (leAt b 0x19 1) none with
  | none => none
  | some key =>
    let aad := b.take 0x28 ++ List.replicate 16 0#8 ++ slice b 0x38 (imgTableEnd b - 0x38)
    Config.gcmOpen key (slice b 0x1C 12) aad ct (slice b 0x28 16)

/-- A section of plaintext data that starts where the section table ends. -/
def sectionOf (b data : List Byte) (e : SecEntry) : Section :=
  ⟨e.typ, e.inst, slice data (e.off - imgTableEnd b) e.len⟩

/-- What Config's functions take of the sections. -/
def secArgs (l : List Section) : List (Nat × Nat × List Byte) := l.map (fun s => (s.typ, s.inst, s.data))

/-- The data of the one section of a type. -/
def secData (l : List Section) (typ : Nat) : List Byte := ((l.find? (fun s => s.typ == typ)).map Section.data).getD []

/-- Tiles in use, from TOPOLOGY: global tile, head, row, column. -/
def tilesUsed (l : List Section) : List (Nat × Nat × Nat × Nat) := Config.imageTiles (secArgs l)

/-- The HEAD instances that the head halves in use need: head * 2 + die (Table 2-1). -/
def halvesUsed (l : List Section) : List Nat := ((tilesUsed l).map (fun t => 2 * t.2.1 + t.1 / 8)).dedup

/-- The entries of a SAFEFILL section (R191). -/
def safefillOf (d : List Byte) : List SafeFill :=
  (List.range (leAt d 0 2)).map (fun k =>
    let o := 16 + 6160 * k
    ⟨leAt d o 1, leAt d (o + 1) 1, leAt d (o + 4) 4, slice d (o + 16) 6144⟩)

/-- The SAFEFILL rule of step 6 (R191): a PAT 0 entry for each tile in use, and no two entries of one TILE and PAT. -/
def safefillOk (l : List Section) : Bool :=
  let es := safefillOf (secData l 7)
  (tilesUsed l).all (fun t => es.any (fun e => e.tile == t.1 && e.pat == 0)) &&
    decide ((es.map (fun e => (e.tile, e.pat))).Nodup)

/-- No section overlaps an earlier one, and each lies on a multiple of 16 within its bounds (R40). -/
def placesOk (b : List Byte) : List SecEntry → Bool
  | [] => true
  | e :: l => e.off % 16 == 0 && decide (imgTableEnd b ≤ e.off) && decide (e.off + e.len ≤ imgSig b) &&
      l.all (fun f => decide (e.off + e.len ≤ f.off) || decide (f.off + f.len ≤ e.off)) && placesOk b l

/-- Step 6: the rules of R38 and R40, the section CRCs, and the SAFEFILL rule of a full image. DESIGN CHOICE (log entries 24 and 198):
a SECT_COUNT outside its bounds fails here, and a section other than HEAD may have any INSTANCE. -/
def sectionsOk (part : Bool) (b : List Byte) (t : List SecEntry) (l : List Section) : Bool :=
  decide (1 ≤ imgCount b) && decide (imgCount b ≤ 32) && placesOk b t && t.all (fun e => decide (1 ≤ e.typ) && decide (e.typ ≤ 9)) &&
    decide ((t.map (fun e => (e.typ, e.inst))).Nodup) && (t.zip l).all (fun p => crc32c p.2.data == p.1.crc) &&
    (part || ([1, 2, 4, 5, 6, 7, 8].all (fun k => (t.filter (fun e => e.typ == k)).length == 1) &&
      decide ((((t.filter (fun e => e.typ == 3)).map SecEntry.inst).mergeSort) = (halvesUsed l).mergeSort) && safefillOk l))

/-- Step 7: the check record (R44, R45). -/
def checkOk (l : List Section) : Bool :=
  let c := secData l 8
  let rest := (l.filter (fun s => s.typ != 8)).flatMap Section.data
  leAt c 0 2 == 1 && decide (14 ≤ leAt c 2 2) && slice c 4 32 == Config.sha256 rest && (List.range 14).all (fun k => leAt c (36 + k) 1 == 1)

/-- The digest of the non-HEAD sections (BASE_DIGEST, Table 2-2). -/
def baseDigest (l : List Section) : List Byte := Config.sha256 ((l.filter (fun s => s.typ != 3)).flatMap Section.data)

/-- Step 8: the structure of a partial image (for head `head`) or of a full one. -/
def structureOk (part : Option Nat) (run : Option RunImg) (b : List Byte) (l : List Section) : Bool :=
  match part, run with
  | none, _ => !imgPartial b
  | some _, none => false
  | some head, some r =>
    imgPartial b && slice b 0x40 32 == r.digest && (l.filter (fun s => s.typ == 8)).length == 1 &&
      l.all (fun s => s.typ == 8 || (s.typ == 3 && s.inst / 2 == head))

/-- Verification in the order of Table 2-4: the first failing step, or the sections. `part` is the head whose rebuild asks for it, none
where a full image is wanted; an image with PARTIAL set is held to the rules of a partial one until step 8 (log entry 23); `bad` lists the unusable blocks where step 9 runs. -/
def verifyImage (nv : Nv) (run : Option RunImg) (b : List Byte) (room : Nat) (part : Option Nat) (bad : List Nat) :
    Except Nat (List Section) :=
  if !headerOk b room then .error 1
  else if !keyOk nv b then .error 2
  else if !sigOk b then .error 3
  else if imgSecver b < nv.floor ∨ (imgPartial b ∧ run.any (fun r => imgSecver b != r.secver)) then .error 4
  else match plainData nv b with
  | none => .error 5
  | some data =>
    let t := imgTable b
    let l := t.map (sectionOf b data)
    if !sectionsOk (imgPartial b) b t l then .error 6
    else if !checkOk l then .error 7
    else if !structureOk part run b l then .error 8
    else if bad.any (Config.imageUses (secArgs l)) then .error 9
    else .ok l

/-- Address of the image staging area in the DRAM of CD0 (Table 15-1). -/
def stageBase : Nat := 0x7F700000

/-- The first `n` bytes of the image staging area. -/
def State.stagedTo (s : State) (n : Nat) : List Byte := (s.dev.dieRead s.mem 0 stageBase (min 0x800000 n)).getD []

/-- The staged image: VSP_IMG_UPD_LEN bytes of the staging area (R51). -/
def State.staged (s : State) : List Byte := s.stagedTo (s.dev.rd Reg.VSP_IMG_UPD_LEN).toNat

/-- Every block of die `die` of R309 (Table 14-3), the line buffers of log entry 15 among them. -/
def allBlocks (die : Nat) : List Nat :=
  if die = 1 ∨ die = 2 then
    (List.range 10 ++ List.range' 0x10 3).map (blockId die 1) ++
      (List.range 4 ++ List.range' 0x10 4 ++ List.range' 0x20 8 ++ List.range' 0x40 64).map (blockId die 4) ++
      (List.range 8 ++ [0x10]).map (blockId die 6) ++ (List.range 2).map (blockId die 8) ++ (List.range 8).map (blockId die 0xA) ++
      (List.range 4).map (blockId die 0xD)
  else if die = 3 ∨ die = 4 then (List.range 64).map (blockId die 1) ++ (List.range 2).map (blockId die 0)
  else []

/-- Blocks that start-up self-test, a failed trim group or fuses have marked unusable (step 9 of Table 2-4, R318, R319). -/
def State.badBlocks (s : State) : List Nat :=
  s.nv.unusable ++ ((s.dev.heldList 0 ++ s.dev.heldList 1).filter (fun w => fget w F.BIST_HELD_STARTUP == 1)).map
    (fun w => fget w F.BIST_HELD_BLOCK) ++
    (if s.dev.pwr.trims then ([1, 2, 3, 4].filter (fun g => !s.dev.rdB Reg.VSP_TRIM_STAT g)).flatMap allBlocks else [])

end Sys2Proof.Machine
end

