-- ==== Sys2Proof/Machine/Rebuild.lean ====
section
/-! DEFINITION. Fabric columns and head rebuilds (R54 to R61). -/

namespace Sys2Proof.Machine

/-- Columns of a running build of head `n` on die `d`, as a 64-bit set (FAB_HMAP). -/
def Dev.headCols (s : Dev) (d n : Nat) : Nat :=
  (s.rd (Reg.FAB_HMAP d (2 * n))).toNat + 2 ^ 32 * (s.rd (Reg.FAB_HMAP d (2 * n + 1))).toNat

/-- Columns of every running build of die `d`. -/
def Dev.runCols (s : Dev) (d : Nat) : Nat := (List.range 4).foldl (fun m n => m ||| s.headCols d n) 0

/-- Failed columns of die `d` (R55). -/
def Dev.failCols (s : Dev) (d : Nat) : Nat :=
  (s.rd (Reg.FAB_COLFAIL0 d)).toNat + 2 ^ 32 * (s.rd (Reg.FAB_COLFAIL1 d)).toNat

/-- Number of columns of a set. -/
def colCount (m : Nat) : Nat := ((List.range 64).filter m.testBit).length

/-- FAB_STAT follows the columns (Table 2-13). -/
def Dev.showFab (s : Dev) (d : Nat) : Dev :=
  let run := s.runCols d
  let bad := s.failCols d
  s.wr (Reg.FAB_STAT d) (BitVec.ofNat 32
    (colCount run + 256 * (64 - colCount (run ||| bad)) + 65536 * min 7 (colCount bad)))

/-- LINE_PER and frame period of the HEAD section of a half (R131). -/
def Dev.imageMode (s : Dev) (d n : Nat) : Nat × Nat := s.cfg.modes.get (fun _ => (0, 0)) (2 * n + d)

/-- Total lines of a mode given by its LINE_PER and frame period (R130). -/
def totalOf (mode : Nat × Nat) : Nat := if mode.1 = 0 then 0 else (256 * mode.2 + mode.1 - 1) / mode.1

/-- Width in pixels of the half of head `n` on die `d` (R88). -/
def Dev.halfW (s : Dev) (d n : Nat) : Nat := 512 * (((s.tilesOf d n).map (fun t => (s.place d t).col)).dedup).length

/-- The load of the half of head `n` on die `d`, in pipe clocks per second (R64). -/
def Dev.halfLoad (s : Dev) (d n : Nat) : Nat :=
  let mode := s.imageMode d n
  if !s.usedOn d n ∨ mode.2 = 0 then 0
  else s.halfW d n / 32 * (32 * s.rdF (Reg.HEAD_CMP_CFG d n) F.HEAD_CMP_CFG_SPAN_PASSES + 8) * totalOf mode * 800000000 / mode.2

/-- FAB_LOAD from the running builds (R64, Table 3-13, log entry 207). -/
def Dev.showLoad (s : Dev) (d : Nat) : Dev :=
  s.wr (Reg.FAB_LOAD d) (BitVec.ofNat 32 (min 65535 (((List.range 4).map (s.halfLoad d)).sum / 1000000)))

/-- Columns that a head half takes (R54). -/
def colCost (types : Word) : Nat :=
  2 + ((List.range 8).map (fun k => match layerType types k with | 1 => 3 | 2 => 2 | 3 => 2 | _ => 0)).sum

/-- The registers that a HEAD section loads for the half of head `n` on die `d`, its columns apart (Table 2-1). -/
def headSecRegs (d n : Nat) : List Nat :=
  [Reg.HEAD_TLINE d n, Reg.HEAD_TTOTAL d n, Reg.HEAD_BG d n, Reg.HEAD_CMP_CFG d n, Reg.HEAD_LAYER_TYPE d n, Reg.HEAD_LAYER_OP d n,
   Reg.HEAD_CORR_CFG d n, Reg.HEAD_CORR_KP d n, Reg.HEAD_CORR_CX d n, Reg.HEAD_CORR_CY d n, Reg.HEAD_CORR_LIM d n]

/-- Length of the twilight slot in lines (R131, R132). -/
def twLines (linePer : Nat) : Nat := if linePer = 0 then 0 else (24576000 + linePer - 1) / linePer

/-- Noon, twilight and the correction margin follow the mode in force and the correction constants (R102, R132). -/
def Dev.deriveHead (s : Dev) (d n : Nat) : Dev :=
  let tot := s.rdLF (Reg.HEAD_TTOTAL d n) F.HEAD_TTOTAL_TOTAL
  let lp := s.rdLF (Reg.HEAD_TLINE d n) F.HEAD_TLINE_LINE_PER
  let s := (s.wrF (Reg.HEAD_TPOINTS d n) F.HEAD_TPOINTS_NOON (s.rdF (Reg.HEAD_TACT d n) F.HEAD_TACT_ACT / 2)).wrF (Reg.HEAD_TPOINTS d n) F.HEAD_TPOINTS_TWS
    (tot - 18 - twLines lp)
  s.wrF (Reg.HEAD_CORR_LIM d n) F.HEAD_CORR_LIM_MARGIN
    (corrMargin (s.headW n) (s.headH n) (s.rdF (Reg.HEAD_CORR_LIM d n) F.HEAD_CORR_LIM_LIM)
      (s.rdF (Reg.HEAD_CORR_KP d n) F.HEAD_CORR_KP_KP) (sgn 32 (s.rd (Reg.HEAD_CORR_CX d n)).toNat)
      (sgn 32 (s.rd (Reg.HEAD_CORR_CY d n)).toNat))

/-- The frame-scoped copy in use of a register set to a value. -/
def Dev.putLatched (s : Dev) (a : Nat) (v : Word) : Dev := { s with latched := s.latched.put regReset a (v &&& regMask a) }

/-- A slave half takes the mode that its master has in use (R139, R145). -/
def Dev.takeMode (s : Dev) (d n : Nat) : Dev :=
  let m := s.masterOf n
  let s := (s.putLatched (Reg.HEAD_TLINE d n) (s.rdL (Reg.HEAD_TLINE m n))).putLatched (Reg.HEAD_TTOTAL d n) (s.rdL (Reg.HEAD_TTOTAL m n))
  s.deriveHead d n

/-- STATE of a die's rebuild (Table 2-6): 0 IDLE, 1 LOADING, 2 BUILT, 3 ARMED, 4 SWAPPED, 5 FAILED. -/
def Dev.rbState (s : Dev) (d : Nat) : Nat := s.rdF (Reg.FAB_RB_STAT d) F.FAB_RB_STAT_STATE

/-- STATE of a rebuild set on every die of its head, with its message (Table 15-4). -/
def Dev.setRbState (s : Dev) (n st : Nat) : Dev :=
  (forAll (s.diesOf n) s (fun s d => s.wrF (Reg.FAB_RB_STAT d) F.FAB_RB_STAT_STATE st)).emit (.msix 42)

/-- A rebuild of head `n` ends FAILED with ERR on every die of the head; the shadow columns are freed. -/
def Dev.rbFail (s : Dev) (n err : Nat) : Dev :=
  let s := forAll (s.diesOf n) s (fun s d =>
    let s := (s.wrF (Reg.FAB_RB_STAT d) F.FAB_RB_STAT_ERR err).wrF (Reg.FAB_RB_STAT d) F.FAB_RB_STAT_REVERTIBLE 0
    (s.setRb d { s.rb d with build := none }).raise (Reg.FAB_FLT_STAT d) B.FAB_BUILD)
  s.setRbState n 5

/-- A rebuild is in LOADING, BUILT or ARMED on die `d`. -/
def Dev.rbBusy (s : Dev) (d : Nat) : Bool := s.rbState d == 1 || s.rbState d == 2 || s.rbState d == 3

/-- Every rebuild in LOADING, BUILT or ARMED ends FAILED (Table 2-7). -/
def Dev.rbFailAll (s : Dev) (err : Nat) : Dev :=
  forAll (List.range 2) s (fun s d => if s.rbBusy d then s.rbFail (s.rb d).head err else s)

/-- ERR of a die's rebuild status set, its state unchanged. -/
def Dev.rbRefuse (s : Dev) (d err : Nat) : Dev := s.wrF (Reg.FAB_RB_STAT d) F.FAB_RB_STAT_ERR err

/-- The previous build of head `n` is no longer held, on any die whose rebuild is of that head (R59). -/
def Dev.rbForget (s : Dev) (n : Nat) : Dev :=
  forAll ((s.diesOf n).filter (fun e => (s.rb e).head == n)) s (fun s e =>
    (s.setRb e { s.rb e with build := none }).wrF (Reg.FAB_RB_STAT e) F.FAB_RB_STAT_REVERTIBLE 0)

/-- A LOAD on die `d` (R57, R58, R60): it ends the REVERT of what the dies concerned held (R59). -/
def State.rbLoad (s : State) (d n : Nat) (running : Bool) : State :=
  let v := s.dev
  let v := (v.wrF (Reg.FAB_RB_CTRL d) F.FAB_RB_CTRL_HEAD n).wrF (Reg.FAB_RB_CTRL d) F.FAB_RB_CTRL_SRC (b2n running)
  if !v.isMaster d n then { s with dev := v.rbRefuse d 9 }
  else if (v.diesOf n).any v.rbBusy then { s with dev := v.rbRefuse d 1 }
  else if s.nv.locked ∧ !running then { s with dev := v.rbRefuse d 2 }
  else
    let v := forAll (v.diesOf n) v (fun v e => v.rbForget (v.rb e).head)
    let v := forAll (v.diesOf n) v (fun v e =>
      let v := v.setRb e { head := n, fromRunning := running, build := none, revert := false }
      let st := Reg.FAB_RB_STAT e
      let v := (v.wrF st F.FAB_RB_STAT_ERR 0).wrF st F.FAB_RB_STAT_REVERTIBLE 0
      v.wrF st F.FAB_RB_STAT_LAST_HEAD n)
    { s with dev := v.setRbState n 1 }

/-- REBUILD_LOAD. -/
def execRebuildLoad (d : Die) (head : Head) (running : Bool) (s : State) : Host.Outcome State Fault Refusal :=
  .next (s.rbLoad d head running)

/-- A LOAD that needs columns takes them back from self-test (Table 14-4). -/
def Dev.serveCols (s : Dev) (d cols : Nat) : Dev :=
  forAll ((List.range 64).filter cols.testBit) s (fun s k => s.serve d (blockId (d + 1) 4 (0x40 + k)))

/-- The lowest `k` usable shadow columns of die `d` (R55, R58). -/
def Dev.pickCols (s : Dev) (d k : Nat) : Option (List Nat) :=
  let used := s.runCols d ||| s.failCols d
  let free := (List.range 64).filter (fun c => !used.testBit c)
  if free.length < k then none else some (free.take k)

/-- Clocks in a frame of a mode (R130). -/
def framePeriod (linePer total : Nat) : Nat := total * linePer / 256

/-- The shadow build of the half of head `n` on die `d`: the running configuration, or what the sections load. -/
def Dev.makeBuild (s : Dev) (d n : Nat) (secs : Option (List Section)) : Option Build :=
  let regs := (headSecRegs d n).map (fun a =>
    (a, match secs with
      | none => if a = Reg.HEAD_TLINE d n ∨ a = Reg.HEAD_TTOTAL d n then s.rdL a else s.rd a
      | some l => BitVec.ofNat 32 (Config.imageReg (secArgs l) a)))
  let types := (regs.lookup (Reg.HEAD_LAYER_TYPE d n)).getD 0#32
  let mode := match secs with
    | none => s.imageMode d n
    | some _ =>
      let lp := fget ((regs.lookup (Reg.HEAD_TLINE d n)).getD 0#32) F.HEAD_TLINE_LINE_PER
      (lp, framePeriod lp (fget ((regs.lookup (Reg.HEAD_TTOTAL d n)).getD 0#32) F.HEAD_TTOTAL_TOTAL))
  (s.pickCols d (colCost types)).map (fun cs => ⟨regs, cs.foldl (fun m c => m ||| 2 ^ c) 0, cs.getLastD 0, mode⟩)

/-- The sections of the running image with the HEAD sections of a partial image in their places. -/
def mergeSecs (run part : List Section) : List Section :=
  run.map (fun s => if s.typ = 3 then (part.find? (fun p => p.typ == 3 && p.inst == s.inst)).getD s else s)

/-- Verification and configuration end on the head's master die: BUILT, or FAILED (R58, Table 2-7). -/
def State.rbBuilt (s : State) (d : Nat) : State :=
  let v := s.dev
  let r := v.rb d
  let n := r.head
  if v.rbState d ≠ 1 ∨ !v.isMaster d n then s
  else
    let img := s.staged
    let res : Except Nat (Option (List Section)) :=
      if r.fromRunning then .ok none
      else (verifyImage s.nv v.img.running img img.length (some n) s.badBlocks).map (fun l =>
        some (mergeSecs ((v.img.running.map RunImg.secs).getD []) l))
    let v := if r.fromRunning then v else v.snoopImage (img.take (imgLen img)) (readWhole res)
    match res with
    | .error k =>
      let v := v.wrF Reg.VSP_IMG_UPD_STAT F.VSP_IMG_UPD_STAT_FAIL_STEP k
      let base := k = 8 ∧ v.img.running.map RunImg.digest ≠ some (slice img 0x40 32)
      { s with dev := v.rbFail n (if base then 3 else 2) }
    | .ok secs =>
      let v := if r.fromRunning then v else v.wrF Reg.VSP_IMG_UPD_STAT F.VSP_IMG_UPD_STAT_FAIL_STEP 0
      let bs := (v.diesOf n).map (fun e => (e, v.makeBuild e n secs))
      if bs.any (fun p => p.1 == d && p.2.isNone) then { s with dev := v.rbFail n 4 }
      else if bs.any (fun p => p.2.isNone) then { s with dev := v.rbFail n 6 }
      else
        let v := forAll bs v (fun v p => (v.serveCols p.1 (p.2.elim 0 Build.cols)).setRb p.1 { v.rb p.1 with build := p.2 })
        { s with dev := v.setRbState n 2 }

/-- REBUILD_BUILT. -/
def execRebuildBuilt (d : Die) (s : State) : Host.Outcome State Fault Refusal := .next (s.rbBuilt d)

/-- A FAB_RB_CTRL command on die `d` acts on the head that HEAD names, where the die's rebuild is of that head; a command on a die that
is not the head's master is refused with NOT_MASTER (R57). -/
def Dev.rbCommand (s : Dev) (d : Nat) (f : Dev → Nat → Dev) : Dev :=
  let n := s.rdF (Reg.FAB_RB_CTRL d) F.FAB_RB_CTRL_HEAD
  if !s.isMaster d n then s.rbRefuse d 9 else if (s.rb d).head = n then f s n else s

/-- ARM acts in BUILT (R58). -/
def Dev.rbArm (s : Dev) (d : Nat) : Dev :=
  s.rbCommand d (fun s n => if s.rbState d = 2 then s.setRbState n 3 else s)

/-- REBUILD_ARM. -/
def execRebuildArm (d : Die) (s : State) : Host.Outcome State Fault Refusal := s.onDev (fun s => s.rbArm d)

/-- REVERT acts in SWAPPED while a previous build is held, on every die of the head (R59, R60). -/
def Dev.rbRevert (s : Dev) (d : Nat) : Dev :=
  s.rbCommand d (fun s n =>
    if (s.diesOf n).all (fun e => (s.rb e).head == n && s.rbState e == 4 && s.rdF (Reg.FAB_RB_STAT e) F.FAB_RB_STAT_REVERTIBLE == 1) then
      (forAll (s.diesOf n) s (fun s e => s.setRb e { s.rb e with revert := true })).setRbState n 3
    else s)

/-- REBUILD_REVERT. -/
def execRebuildRevert (d : Die) (s : State) : Host.Outcome State Fault Refusal := s.onDev (fun s => s.rbRevert d)

/-- CANCEL in LOADING, BUILT or ARMED (Table 2-7). -/
def Dev.rbCancel (s : Dev) (d : Nat) : Dev := s.rbCommand d (fun s n => if s.rbBusy d then s.rbFail n 8 else s)

/-- REBUILD_CANCEL. -/
def execRebuildCancel (d : Die) (s : State) : Host.Outcome State Fault Refusal := s.onDev (fun s => s.rbCancel d)

/-- A column of die `d` fails (R55, R56, Table 2-7): in a running chain its half falls to safe-fill, and a shadow build that
holds it ends FAILED. DESIGN CHOICE (log entry 202): in the build of a slave half that is PEER on both dies. -/
def Dev.columnFail (s : Dev) (d k : Nat) : Dev :=
  let s := if k < 32 then s.wrB (Reg.FAB_COLFAIL0 d) k true else s.wrB (Reg.FAB_COLFAIL1 d) (k - 32) true
  let s := forAll (List.range 4) s (fun s n =>
    if (s.headCols d n).testBit k then (s.causeOn (Reg.FAB_FLT_STAT d) B.FAB_COLUMN).safeFillHalf d n .column else s)
  let r := s.rb d
  let s := match r.build with
    | some b =>
      if b.cols.testBit k then
        (if s.rbBusy d then s.rbFail r.head (if s.isMaster d r.head then 5 else 6)
         else s.rbForget r.head)
      else s
    | none => s
  s.showFab d

/-- COLUMN_FAIL. What a column finds in its slice is part of the slice's result (Table 14-7). -/
def execColumnFail (d : Die) (k : Fin 64) (s : State) : Host.Outcome State Fault Refusal :=
  s.onDev (fun s => if s.inSlice d (blockId (d + 1) 4 (0x40 + k)) then s else s.columnFail d k)

/-- A running chain of die `d` holds a failed column. -/
def Dev.columnBad (s : Dev) (d n : Nat) : Bool := s.headCols d n &&& s.failCols d != 0

/-- A column of die `d` is on the held list (R316). -/
def Dev.heldColumn (s : Dev) (d : Nat) : Bool :=
  (s.heldList d).any (fun w => decide (blockId (d + 1) 4 0x40 ≤ fget w F.BIST_HELD_BLOCK ∧ fget w F.BIST_HELD_BLOCK < blockId (d + 1) 4 0x80))

/-- The COLUMN cause of a die follows its running chains and its held columns (R316); a half is in safe-fill while its chain holds a
failed column (R56). -/
def Dev.columnCheck (s : Dev) (d n : Nat) : Dev :=
  let s := if s.columnBad d n then (s.causeOn (Reg.FAB_FLT_STAT d) B.FAB_COLUMN).safeFillHalf d n .column
    else s.safeFillHalfEnd d n .column
  if (List.range 4).any (s.columnBad d) ∨ s.heldColumn d then s else s.causeOff (Reg.FAB_FLT_STAT d) B.FAB_COLUMN

/-- A register timing commit of head `n` waits (R138). -/
def Dev.timingPending (s : Dev) (n : Nat) : Bool :=
  let m := s.masterOf n
  s.rd (Reg.HEAD_TLINE m n) != s.rdL (Reg.HEAD_TLINE m n) || s.rd (Reg.HEAD_TTOTAL m n) != s.rdL (Reg.HEAD_TTOTAL m n)

/-- A register of a build comes into use. A frame-keep one goes to the written copy, and to the copy in use where HOLD keeps the other
registers from latching; there a write that waits stays (R137, log entry 203). -/
def Dev.swapReg (s : Dev) (held : Bool) (a : Nat) (v : Word) (keep : Bool) : Dev :=
  if keep && held then
    let s' := if s.rd a = s.rdL a then s.wr a v else s
    s'.putLatched a v
  else s.wr a v

/-- The registers of a half's build that are no part of its timing mode. -/
def buildRegs (d n : Nat) (b : Build) : List (Nat × Word) :=
  b.regs.filter (fun e => e.1 != Reg.HEAD_TLINE d n && e.1 != Reg.HEAD_TTOTAL d n)

/-- The swap of one half: the two builds change places, the timing mode apart (R58, Table 2-7). A build that holds a failed column is
not kept (R55). -/
def Dev.swapHalf (s : Dev) (d n : Nat) (held ovr : Bool) : Dev :=
  match (s.rb d).build with
  | none => s
  | some b =>
    let old : Build :=
      { regs := (headSecRegs d n).map (fun a => (a, if a = Reg.HEAD_TLINE d n ∨ a = Reg.HEAD_TTOTAL d n then s.rdL a else s.rd a)),
        cols := s.headCols d n, out := s.cfg.outCol.get (fun _ => 0) (4 * d + n), mode := s.imageMode d n }
    let s := forAll (buildRegs d n b) s (fun s e => s.swapReg held e.1 e.2 (e.1 == Reg.HEAD_CORR_CFG d n))
    let s := s.wr (Reg.FAB_HMAP d (2 * n)) (BitVec.ofNat 32 b.cols)
    let s := s.wr (Reg.FAB_HMAP d (2 * n + 1)) (BitVec.ofNat 32 (b.cols / 2 ^ 32))
    let c : ImgCfg := { s.cfg with outCol := s.cfg.outCol.put (fun _ => 0) (4 * d + n) b.out }
    let c : ImgCfg := { c with modes := c.modes.put (fun _ => (0, 0)) (2 * n + d) b.mode }
    let s := { s with cfg := c }
    let s := s.setRb d { s.rb d with build := some old, revert := false }
    let st := Reg.FAB_RB_STAT d
    let s := (s.wrF st F.FAB_RB_STAT_REVERTIBLE 1).wrF st F.FAB_RB_STAT_TIMING_OVR (b2n ovr)
    let s := s.wr (Reg.FAB_RB_SWAPFRM d) (s.rd (Reg.HEAD_FRAME d n) + 1#32)
    (((s.showFab d).columnCheck d n).deriveHead d n).showLoad d

/-- The timing mode that the build of head `n` on its master carries. -/
def Dev.buildMode (s : Dev) (n : Nat) : Word × Word :=
  let m := s.masterOf n
  let l := ((s.rb m).build.map Build.regs).getD []
  ((l.lookup (Reg.HEAD_TLINE m n)).getD 0#32, (l.lookup (Reg.HEAD_TTOTAL m n)).getD 0#32)

/-- The build that has gone out of use holds a failed column on some die of the head. -/
def Dev.oldBad (s : Dev) (n : Nat) : Bool :=
  (s.diesOf n).any (fun d => (s.rb d).build.any (fun b => b.cols &&& s.failCols d != 0))

/-- The swap due at a dusk of head `n`'s master (R58, R59): both halves swap. The build's timing mode goes to the written copies, where
a register commit that was due is discarded; with HOLD such a commit is not due, and stays (R137, Table 2-7). -/
def Dev.rbSwap (s : Dev) (n : Nat) (held : Bool) : Dev :=
  let m := s.masterOf n
  if s.rbState m = 3 ∧ (s.rb m).head = n then
    let mode := s.buildMode n
    let due := s.timingPending n && !held
    let keep := s.timingPending n && held
    let s := (forAll (s.diesOf n) s (fun s d => s.swapHalf d n held due)).setRbState n 4
    let s := if s.oldBad n then s.rbForget n else s
    if keep then s else (s.wr (Reg.HEAD_TLINE m n) mode.1).wr (Reg.HEAD_TTOTAL m n) mode.2
  else s

end Sys2Proof.Machine
end

