-- ==== Sys2Proof/Machine/Strings.lean ====
section
/-! DEFINITION. String channels, the boost regulation loop and matrix groups of a power die (R226 to R245). -/

namespace Sys2Proof.Machine

/-! ## Channels and gangs -/

/-- The power die of a channel (R227). -/
def hvOf (c : Nat) : Nat := c / 64

/-- USE of a channel: 0 unused, 1 direct, 2 matrix column. -/
def Dev.chUse (s : Dev) (c : Nat) : Nat := s.rdF (Reg.CH_CFG c) F.CH_CFG_USE

/-- The leader of a channel's gang: the nearest LEADER at or below it, in its gang group, whose members reach it (R231). -/
def Dev.leaderOf (s : Dev) (c : Nat) : Nat :=
  ((List.range (c % 8 + 1)).find? (fun k =>
    s.rdF (Reg.CH_CFG (c - k)) F.CH_CFG_LEADER == 1 && decide (k ≤ s.rdF (Reg.CH_CFG (c - k)) F.CH_CFG_GSIZE))).elim c (c - ·)

/-- The members of the gang that a channel leads, itself included. -/
def Dev.gangOf (s : Dev) (l : Nat) : List Nat :=
  if s.rdF (Reg.CH_CFG l) F.CH_CFG_LEADER = 1 then List.range' l (s.rdF (Reg.CH_CFG l) F.CH_CFG_GSIZE + 1) else [l]

/-- A channel follows another one's set point (R231). -/
def Dev.isMember (s : Dev) (c : Nat) : Bool := s.leaderOf c != c

/-- The gang of a channel is off under OPEN or SHORT_FULL (Table 10-3). -/
def Dev.faultOff (s : Dev) (c : Nat) : Bool :=
  let a := Reg.CH_FLT_STAT (s.leaderOf c)
  s.hasCause a B.CH_OPEN || s.hasCause a B.CH_SHORT_FULL

/-- V_ref of a power die in mV. -/
def Dev.vref (s : Dev) (h : Nat) : Nat := s.rdF (Reg.BST_STAT h) F.BST_STAT_VREF * 50

/-- VMIN and VMAX of a power die in mV. -/
def Dev.vmin (s : Dev) (h : Nat) : Nat := s.rdF (Reg.BST_CFG h) F.BST_CFG_VMIN * 250

/-- VMAX of a power die in mV. -/
def Dev.vmax (s : Dev) (h : Nat) : Nat := s.rdF (Reg.BST_CFG h) F.BST_CFG_VMAX * 250

/-- V_ref set, in steps of 50 mV between VMIN and VMAX (R234). -/
def Dev.setVref (s : Dev) (h : Nat) (mv : Int) : Dev :=
  s.wrF (Reg.BST_STAT h) F.BST_STAT_VREF ((clampI (s.vmin h) (s.vmax h) mv).toNat / 50)

/-- STATE of the boost: 0 OFF, 1 RAMP, 2 REGULATING, 3 STOPPED. -/
def Dev.boost (s : Dev) (h : Nat) : Nat := s.rdF (Reg.BST_STAT h) F.BST_STAT_STATE

/-- The boost starts, or restarts, from the measured VBAT (R235). -/
def Dev.boostStart (s : Dev) (h : Nat) : Dev :=
  if s.boost h = 3 ∨ s.hasCause (Reg.BST_FLT_STAT h) B.BST_UVLO then s
  else (s.setVref h ((s.rdF (Reg.BST_VIN h) F.BST_VIN_VBAT * 50 : Nat) - 1000)).wrF (Reg.BST_STAT h) F.BST_STAT_STATE 1

/-- STATE of a channel as CH_STATn shows it (Table 10-10). -/
def Dev.chState (s : Dev) (c : Nat) : Nat :=
  let h := s.chan c
  if s.chUse c = 0 then 0
  else if h.failed then 5
  else if s.faultOff c then 4
  else if (s.hv (hvOf c)).mode = 1 then 3
  else if s.isMember c then 2
  else if 0 < h.iset ∧ 0 < h.duty then 1
  else 0

/-- STATE, PROBING and TON of a channel follow it. -/
def Dev.showChan (s : Dev) (c : Nat) : Dev :=
  let h := s.chan c
  let s := (s.wrF (Reg.CH_STAT c) F.CH_STAT_STATE (s.chState c)).wrF (Reg.CH_STAT c) F.CH_STAT_PROBING (b2n h.onProbe)
  (s.wrF (Reg.CH_STAT c) F.CH_STAT_VF_LEARN (h.learn / 2560)).wrF (Reg.CH_MEAS c) F.CH_MEAS_TON (min 65535 h.ton)

/-- On-time of a duty code over `per` clocks (R229, R240). -/
def onTime (duty per : Nat) : Nat := if duty = 65535 then per else (duty * per + 32768) / 65536

/-- SCALE of a power die (R232). -/
def Dev.scale (s : Dev) (h : Nat) : Nat := s.rdF (Reg.BST_SCALE h) F.BST_SCALE_SCALE

/-- An on-time scaled where THR is set; safe set points are not scaled (R232, R243). -/
def Dev.scaled (s : Dev) (c t : Nat) : Nat :=
  if s.rdF (Reg.CH_CFG c) F.CH_CFG_THR = 1 ∧ (s.hv (hvOf c)).mode = 2 then t * s.scale (hvOf c) / 4096 else t

/-- PER of a channel's cluster, limited to its range (R229). -/
def Dev.pwmPer (s : Dev) (c : Nat) : Nat :=
  clampN 2560 320000 (s.rdF (Reg.BST_PWM_PER (hvOf c) (c % 64 / 16)) F.BST_PWM_PER_PER)

/-- ISET and DUTY that drive a channel: the leader's written values in LIT, its safe set point, or nothing (R230, R231, R243). -/
def Dev.setPoint (s : Dev) (c : Nat) : Nat × Nat :=
  let l := s.leaderOf c
  match (s.hv (hvOf c)).mode with
  | 1 => (s.rdF (Reg.CH_SAFE l) F.CH_SAFE_SISET, s.rdF (Reg.CH_SAFE l) F.CH_SAFE_SDUTY)
  | 2 => (s.rdF (Reg.CH_ISET l) F.CH_ISET_ISET, s.rdF (Reg.CH_DUTY l) F.CH_DUTY_DUTY)
  | _ => (0, 0)

/-- A new ISET in place of `old`: a change by more than 25 % suspends SHORT for 16 samples (R236). -/
def ChanH.takeIset (h : ChanH) (old i : Nat) : ChanH :=
  { h with iset := i, settle := if old < 4 * natDist i old ∧ i ≠ old then 16 else h.settle }

/-- The on-time of a period after probes and their repayment (R233), with whether it is a probe. -/
def ChanH.probe (h : ChanH) (ok : Bool) (t : Nat) : ChanH × Bool :=
  if 128 ≤ t then ({ h with ton := t, repay := 0, onProbe := false }, false)
  else if t = 0 ∨ !ok ∨ h.iset = 0 then ({ h with ton := t, onProbe := false }, false)
  else if h.pcount = 0 then ({ h with ton := 256, repay := h.repay + (256 - t), onProbe := true, pcount := 255 }, true)
  else
    let k := min h.repay (min (max (t / 8) 1) t)
    ({ h with ton := t - k, repay := h.repay - k, onProbe := true, pcount := h.pcount - 1 }, false)

/-- A channel that a fault keeps off has no on-time. -/
def Dev.sinkOff (s : Dev) (c : Nat) : Bool := (s.chan c).failed || s.faultOff c

/-- A channel's PWM period starts (R229 to R233). -/
def Dev.periodStart (s : Dev) (c : Nat) : Dev :=
  let h := hvOf c
  if s.chUse c ≠ 1 then s
  else
    let held := s.rdF (Reg.BST_CTRL h) F.BST_CTRL_HOLD = 1 ∧ (s.hv h).mode = 2
    let x := s.chan c
    let (i, d) := s.setPoint c
    let x : ChanH := if held then x else { x.takeIset x.iset i with duty := d, per := s.pwmPer c }
    let x : ChanH := { x with last := x.last.map (fun v => { v with age := v.age + 1 }) }
    let u := onTime x.duty x.per
    let x := { x with tonU := u }
    if s.sinkOff c then (s.setChan c { x with ton := 0, tonU := 0, onProbe := false }).showChan c
    else
      let (x, p) := x.probe (s.rdF (Reg.CH_CFG c) F.CH_CFG_PROBE == 1) (s.scaled c u)
      let s := (s.setChan c x).showChan c
      if p then s.addF (Reg.CH_CNT c) F.CH_CNT_PROBES 1 else s

/-- PWM_PERIOD_START. -/
def execPwmPeriodStart (c : Chan) (s : State) : Host.Outcome State Fault Refusal := s.onDev (fun s => s.periodStart c)

/-! ## Samples and faults -/

/-- The group and the row being scanned of a matrix column. -/
def Dev.columnGroup (s : Dev) (c : Nat) : Option Nat :=
  (List.range 8).find? (fun g =>
    let w := s.rd (Reg.BST_MX_CFG (hvOf c) g)
    decide (fget w F.BST_MX_CFG_COL0 ≤ c % 64) && decide (c % 64 < fget w F.BST_MX_CFG_COL0 + fget w F.BST_MX_CFG_NCOL))

/-- First row drive of a group. -/
def Dev.row0 (s : Dev) (h g : Nat) : Nat := s.rdF (Reg.BST_MX_CFG h g) F.BST_MX_CFG_ROW0

/-- The columns of a group, as channels. -/
def Dev.columns (s : Dev) (h g : Nat) : List Nat :=
  List.range' (64 * h + s.rdF (Reg.BST_MX_CFG h g) F.BST_MX_CFG_COL0) (s.rdF (Reg.BST_MX_CFG h g) F.BST_MX_CFG_NCOL)

/-- The row in which a channel is sampled: 0 for a direct channel. -/
def Dev.sampleRow (s : Dev) (c : Nat) : Nat :=
  if s.chUse c = 2 then
    match s.columnGroup c with
    | some g => s.row0 (hvOf c) g + ((s.group (hvOf c) g).row.getD 0)
    | none => 0
  else 0

/-- The boost of a power die can give a channel no more headroom: V_ref stands at VMAX, or a fault holds the boost back (R238). -/
def Dev.outOfReach (s : Dev) (h : Nat) : Bool :=
  let a := Reg.BST_FLT_STAT h
  s.vref h == s.vmax h || s.hasCause a B.BST_OVP || s.hasCause a B.BST_OCP || s.hasCause a B.BST_UVLO || s.hasCause a B.BST_BOOST_OFF

/-- HEADROOM of the boost is present while a channel of the die is STARVED (Table 10-5). -/
def Dev.headroomCause (s : Dev) (h : Nat) : Dev :=
  s.causeIs (Reg.BST_FLT_STAT h) B.BST_HEADROOM
    ((List.range 64).any (fun k => s.hasCause (Reg.CH_FLT_STAT (64 * h + k)) B.CH_STARVED))

/-- OPEN or SHORT_FULL turns the gang of a channel off (Table 10-3). -/
def Dev.stopGang (s : Dev) (l k : Nat) : Dev :=
  let s := s.causeOn (Reg.CH_FLT_STAT l) k
  forAll (s.gangOf l) s (fun s c => (s.setChan c { s.chan c with ton := 0, tonU := 0 }).showChan c)

/-- The rows of a column's OPEN or SHORT samples that CH_MXFLTn holds, `row` among them (R240). -/
def Dev.noteRow (s : Dev) (c row : Nat) (f : Fld) : Dev :=
  s.wrF (Reg.CH_MXFLT c) f (s.rdF (Reg.CH_MXFLT c) f ||| 2 ^ row)

/-- The string faults of a channel or gang are judged by a sample in a row (Table 10-3): OPEN, SHORT_FULL and SHORT. -/
def Dev.judgeString (s : Dev) (l row : Nat) (v : Sample) : Dev :=
  let h := hvOf l
  let mx : Bool := s.chUse l == 2
  let r := s.run l row
  let vf := v.vout - v.vpin
  let susp := decide (v.vpin < 150)
  let chain := if susp then (v.vpin, s.vref h) :: r.susp.take 2 else []
  let full := if vf < 1500 then r.full + 1 else 0
  let x := s.chan l
  let low := decide (vf * 256 + (s.hv h).shortDv * 256 < x.learn)
  let live := x.settle == 0
  let short := if low && live then r.short + 1 else 0
  let learn := if x.settle = 1 then vf * 256
    else if low && live then (if 8 ≤ short then vf * 256 else x.learn)
    else ((x.learn : Int) + ((vf * 256 : Nat) - (x.learn : Int)) / 256).toNat
  let isOpen := match chain with
    | [c, _, a] => decide (c.1 < a.1 + 100) && (decide (a.2 + 1000 ≤ c.2) || c.2 == s.vmax h)
    | _ => false
  let s := s.setChan l { x with settle := x.settle - 1, learn := learn, cand := if isOpen && mx then row :: x.cand.filter (· != row) else x.cand }
  let s := s.setRun l row { iset := r.iset, susp := chain, full := full, short := if 8 ≤ short then 0 else short }
  let s := if 8 ≤ short then
      let s := if mx then s.noteRow l row F.CH_MXFLT_SHORTROWS else s
      s.raise (Reg.CH_FLT_STAT l) B.CH_SHORT
    else s
  let s := if mx ∧ !susp then s.causeOff (Reg.BST_MX_FLT_STAT h) (8 + row) else s
  let s := if 2 ≤ full then (if mx then s.noteRow l row F.CH_MXFLT_SHORTROWS else s).stopGang l B.CH_SHORT_FULL else s
  if isOpen && !mx then s.stopGang l B.CH_OPEN else s

/-- The measured current is off by more than 10 % of I and 1 mA (Table 10-3), in DAC units of 150 mA / 4,095. -/
def sinkBad (iset imeas : Nat) : Bool := decide (iset + 273 < 10 * natDist iset imeas)

/-- The sink of a channel is judged by a sample (Table 10-3): after eight bad ones in a row it is off until a cold start, recorded on
the member, with GANG on the leader (R231). It is judged in a gang that is off under OPEN as well (Table 10-7). -/
def Dev.judgeSink (s : Dev) (c : Nat) (v : Sample) : Dev :=
  let x := s.chan c
  let run := if 300 ≤ v.vpin ∧ sinkBad x.iset v.imeas then x.sink + 1 else 0
  let s := s.setChan c { x with sink := run }
  if run < 8 then s
  else
    let l := s.leaderOf c
    let s := s.setChan c { s.chan c with failed := true, ton := 0, tonU := 0 }
    let s := s.causeOn (Reg.CH_FLT_STAT c) B.CH_SINK
    if 1 < (s.gangOf l).length then s.causeOn (Reg.CH_FLT_STAT l) B.CH_GANG else s

/-- The members of a channel's gang that have not failed (R231). -/
def Dev.membersOf (s : Dev) (l : Nat) : List Nat := (s.gangOf l).filter (fun m => !(s.chan m).failed)

/-- The pin voltage of a gang's newest sample: the lowest among its members that have not failed (R231). -/
def Dev.gangPin (s : Dev) (l : Nat) : Nat :=
  ((s.membersOf l).filterMap (fun m => (s.chan m).last.map (fun x => x.vpin))).foldl min 100000

/-- The gang led by `l` is judged once every member that has not failed has been sampled (R231, R236): its headroom is the lowest of
theirs. -/
def Dev.judgeGang (s : Dev) (l row : Nat) (v : Sample) : Dev :=
  if !(s.membersOf l).all (fun m => (s.chan m).fresh) then s
  else
    let v : Sample := { v with vpin := s.gangPin l }
    let s := forAll (s.membersOf l) s (fun s m => s.setChan m { s.chan m with fresh := false })
    let s := if 250 ≤ v.vpin ∨ !s.outOfReach (hvOf l) then
        (s.causeOff (Reg.CH_FLT_STAT l) B.CH_STARVED).headroomCause (hvOf l)
      else s
    s.judgeString l row v

/-- A headroom sample (R233, R236), taken where the scaled on-time, or that of a probe, is at least 128 clocks. String faults go to the
leader of a gang; a sink fault stops the member. -/
def Dev.headroom (s : Dev) (c : Nat) (v : Sample) : Dev :=
  if s.chUse c = 0 ∨ (s.chan c).iset = 0 ∨ (s.chan c).failed then s
  else if s.faultOff c then (s.judgeSink c v).showChan c
  else if (s.chan c).ton < 128 then s
  else
    let s := s.setChan c
      { s.chan c with last := some { vpin := v.vpin, vout := v.vout, suspect := decide (v.vpin < 150), stepped := false, age := 0 },
                      fresh := true }
    let s := (s.wrF (Reg.CH_STAT c) F.CH_STAT_HEAD (min 255 (v.vpin / 25))).wrF (Reg.CH_MEAS c) F.CH_MEAS_IMEAS (min 4095 v.imeas)
    ((s.judgeGang (s.leaderOf c) (s.sampleRow c) v).judgeSink c v).showChan c

/-- HEADROOM_SAMPLE. -/
def execHeadroomSample (c : Chan) (v : Sample) (s : State) : Host.Outcome State Fault Refusal := s.onDev (fun s => s.headroom c v)

/-- STRING_STARVED: headroom below 0.25 V for 10 ms with V_ref at VMAX, or with a boost that a fault of its own holds back (Tables
10-3 and 10-5). -/
def execStringStarved (c : Chan) (s : State) : Host.Outcome State Fault Refusal :=
  s.onDev (fun s =>
    if s.chUse c = 0 ∨ !s.outOfReach (hvOf c) then s
    else (s.causeOn (Reg.CH_FLT_STAT (s.leaderOf c)) B.CH_STARVED).headroomCause (hvOf c))

/-- A retry probe of a channel or gang that is OPEN or SHORT_FULL (R237). -/
def Dev.stringRetry (s : Dev) (c : Nat) (v : Sample) : Dev :=
  let l := s.leaderOf c
  if !s.faultOff l then s
  else
    let s := s.judgeSink c v
    let s := s.satF (Reg.CH_CNT l) F.CH_CNT_RETRIES 1
    if v.vpin < 150 ∨ v.vout - v.vpin < 1500 then s
    else
      let a := Reg.CH_FLT_STAT l
      let s := (s.causeOff a B.CH_OPEN).causeOff a B.CH_SHORT_FULL
      let s := forAll (List.range 8) s (fun s r => s.setRun l r { RunH.init with iset := (s.run l r).iset })
      forAll (s.gangOf l) s (fun s c => (s.setChan c { s.chan c with last := none, fresh := false }).showChan c)

/-- STRING_RETRY. -/
def execStringRetry (c : Chan) (v : Sample) (s : State) : Host.Outcome State Fault Refusal := s.onDev (fun s => s.stringRetry c v)

/-! ## The boost -/

/-- The channels of a power die whose samples count: in use, not OPEN, SHORT_FULL or failed (R234). -/
def Dev.countedChans (s : Dev) (h : Nat) : List Nat :=
  ((List.range 64).map (64 * h + ·)).filter (fun c => s.chUse c != 0 && !s.sinkOff c)

/-- The newest sample of a channel while it is valid (R233): for two of its sample intervals. -/
def Dev.validSample (s : Dev) (c : Nat) : Option ChanSample :=
  (s.chan c).last.filter (fun v => decide (v.age < if (s.chan c).onProbe then 512 else 2))

/-- The lowest estimated headroom in mV and its channel (R234). -/
def Dev.hmin (s : Dev) (h vout : Nat) : Option (Int × Nat) :=
  (s.countedChans h).foldl (fun (m : Option (Int × Nat)) c =>
    match s.validSample c with
    | none => m
    | some v =>
      let e : Int := v.vpin + ((vout : Int) - v.vout)
      match m with
      | none => some (e, c)
      | some b => if e < b.1 then some (e, c) else m) none

/-- A voltage rounded up to 50 mV. -/
def up50 (x : Int) : Int := -((-x) / 50) * 50

/-- The rule of Table 10-2 that applies, and the change of V_ref in mV. -/
def boostRule (suspect fresh : Bool) (hmin : Option Int) (tgt : Int) : Nat × Int :=
  if suspect then (1, if fresh then 2000 else 0)
  else match hmin with
  | none => (4, 0)
  | some e =>
    if e < tgt - 100 then (2, min 2000 (up50 (tgt - e)))
    else if tgt + 150 < e then (3, -(max 50 ((e - tgt) / 4 / 50 * 50)))
    else (4, 0)

/-- What drives row `r` and column `c` of a group in the scan frame in progress: ISET and DUTY (R241, R243, R244). -/
def Dev.segment (s : Dev) (h g r c : Nat) : Nat × Nat :=
  match (s.group h g).src with
  | 1 => (s.rdF (Reg.CH_SAFE c) F.CH_SAFE_SISET, s.rdF (Reg.CH_SAFE c) F.CH_SAFE_SDUTY)
  | 2 =>
    let e := ((s.hv h).front.get (fun _ => 0#32) ((s.row0 h g + r) * 64 + c % 64)).toNat
    (e / 65536 % 4096, e % 65536)
  | _ => (0, 0)

/-- Rows of a group. -/
def Dev.nrow (s : Dev) (h g : Nat) : Nat := s.rdF (Reg.BST_MX_CFG h g) F.BST_MX_CFG_NROW

/-- The estimated output power of a power die in microwatts, unscaled, over the sinks that are driven (R232). -/
def Dev.outputPower (s : Dev) (h vout : Nat) : Nat :=
  (((List.range 64).map (64 * h + ·)).map (fun c =>
    let x := s.chan c
    match s.chUse c with
    | 1 => vout * x.iset * 150 * x.tonU / (4095 * x.per)
    | 2 =>
      match s.columnGroup c with
      | none => 0
      | some g =>
        let y := s.group h g
        let n := s.nrow h g
        if s.sinkOff c then 0
        else ((List.range n).map (fun r =>
          let e := s.segment h g r c
          vout * e.1 * 150 * onTime e.2 (y.slot - y.dead) / (4095 * (n * y.slot)))).sum
    | _ => 0)).sum

/-- SCALE after a tick (R232): the lower of the two terms, a rise limited to 256. -/
def Dev.nextScale (s : Dev) (h vout : Nat) : Nat :=
  let lvl := s.rdF (Reg.BST_SCALE h) F.BST_SCALE_LEVEL
  let p := s.outputPower h vout
  let cap := s.rdF (Reg.BST_PCAP h) F.BST_PCAP_PCAP * 1000000
  let t := min ((8 - lvl) * 512) (if p ≤ cap then 4096 else cap * 4096 / p)
  min t (s.scale h + 256)

/-- A regulation tick (R232, R234, R235, R238). A boost that is off although sinks are driven starts from the VBAT just measured. -/
def Dev.boostTick (s : Dev) (h vout vbat : Nat) : Dev :=
  let s := s.wrF (Reg.BST_STAT h) F.BST_STAT_VOUT (vout / 50)
  let s := s.wrF (Reg.BST_VIN h) F.BST_VIN_VBAT (vbat / 50)
  let s := s.wrF (Reg.BST_SCALE h) F.BST_SCALE_SCALE (s.nextScale h vout)
  let flt := Reg.BST_FLT_STAT h
  let s := if vout < s.vmax h then s.causeOff flt B.BST_OVP else s
  let m := s.hmin h vout
  let s := match m with
    | some (e, c) =>
      (s.wrF (Reg.BST_NEEDY h) F.BST_NEEDY_CHAN (c % 64)).wrF (Reg.BST_NEEDY h) F.BST_NEEDY_HMIN (e / 10).toNat
    | none => s
  if s.boost h = 0 then (if (s.hv h).mode = 0 then s else s.boostStart h)
  else if s.boost h = 3 then s
  else
    let sus := (s.countedChans h).filter (fun c => (s.validSample c).any (fun v => v.suspect))
    let fresh := sus.any (fun c => (s.validSample c).any (fun v => !v.stepped))
    let (rule, step) := boostRule (!sus.isEmpty) fresh (m.map (·.1)) (s.rdF (Reg.BST_CFG h) F.BST_CFG_HR_TGT * 10 : Nat)
    let s := forAll sus s (fun s c => s.setChan c { s.chan c with last := (s.chan c).last.map (fun v => { v with stepped := true }) })
    let v : Int := s.vref h
    if s.hasCause flt B.BST_OCP then s.setVref h (v - 1000)
    else if s.boost h = 1 ∧ rule < 3 then s.setVref h (v + 200)
    else (s.setVref h (v + step)).wrF (Reg.BST_STAT h) F.BST_STAT_STATE 2

/-- BOOST_TICK. -/
def execBoostTick (h : Hv) (vout vbat : Nat) (s : State) : Host.Outcome State Fault Refusal :=
  s.onDev (fun s => s.boostTick h vout vbat)

/-- BOOST_OVP: both gates off; sixteen events within 1 s stop the boost until the next start-up (R238). -/
def execBoostOvp (h : Hv) (s : State) : Host.Outcome State Fault Refusal :=
  s.onDev (fun s =>
    let x := s.hv h
    let l := (s.us :: x.ovps.filter (fun t => decide (s.us ≤ t + 1000000))).take 16
    let s := (s.setHv h { x with ovps := l }).causeOn (Reg.BST_FLT_STAT h) B.BST_OVP
    if 16 ≤ l.length then
      (s.causeOn (Reg.BST_FLT_STAT h) B.BST_BOOST_OFF).wrF (Reg.BST_STAT h) F.BST_STAT_STATE 3
    else s)

/-- BOOST_OCP: 64 consecutive limited cycles, or their end (R238). -/
def execBoostOcp (h : Hv) (active : Bool) (s : State) : Host.Outcome State Fault Refusal :=
  s.onDev (fun s => s.causeIs (Reg.BST_FLT_STAT h) B.BST_OCP active)

/-- BOOST_UVLO: the gates go off (R238). -/
def execBoostUvlo (h : Hv) (s : State) : Host.Outcome State Fault Refusal :=
  s.onDev (fun s =>
    let s := s.causeOn (Reg.BST_FLT_STAT h) B.BST_UVLO
    if s.boost h = 3 then s else s.wrF (Reg.BST_STAT h) F.BST_STAT_STATE 0)

/-- BOOST_UVLO_RECOVER: the ramp of R235 starts again (R238). -/
def execBoostUvloRecover (h : Hv) (vbat : Nat) (s : State) : Host.Outcome State Fault Refusal :=
  s.onDev (fun s =>
    if vbat ≤ 6000 then s
    else
      let s := (s.wrF (Reg.BST_VIN h) F.BST_VIN_VBAT (vbat / 50)).causeOff (Reg.BST_FLT_STAT h) B.BST_UVLO
      if (s.hv h).mode = 0 then s else s.boostStart h)

/-- BOOST_PHASE: the phase currents differ by more than 30 % for 1 ms, or no longer do (R238). -/
def execBoostPhase (h : Hv) (active : Bool) (s : State) : Host.Outcome State Fault Refusal :=
  s.onDev (fun s => s.causeIs (Reg.BST_FLT_STAT h) B.BST_PHASE active)

/-! ## Matrix groups -/

/-- The row of a column's longest on-time in a scan frame (R240). -/
def Dev.longestRow (s : Dev) (h g c : Nat) : Nat :=
  let t := fun r => let e := s.segment h g r c; if e.1 = 0 then 0 else e.2
  (List.range (s.nrow h g)).foldl (fun b r => if t b < t r then r else b) 0

/-- The sink of a column in row `r` of its group (Table 10-6, R233). -/
def Dev.columnSlot (s : Dev) (h g r c : Nat) : Dev :=
  let y := s.group h g
  let (i, d) := s.segment h g r c
  let k := s.row0 h g + r
  let x := (s.chan c).takeIset (s.run c k).iset i
  let s := s.setRun c k { s.run c k with iset := i }
  let u := onTime d (y.slot - y.dead)
  let x : ChanH :=
    { x with duty := d, per := y.slot * s.nrow h g, tonU := u,
             last := if r = 0 then x.last.map (fun v => { v with age := v.age + 1 }) else x.last }
  if s.sinkOff c then (s.setChan c { x with ton := 0, tonU := 0 }).showChan c
  else
    let t := s.scaled c u
    let lr := s.longestRow h g c
    if r = lr then
      let (x, p) := x.probe (s.rdF (Reg.CH_CFG c) F.CH_CFG_PROBE == 1) t
      let s := (s.setChan c x).showChan c
      if p then s.addF (Reg.CH_CNT c) F.CH_CNT_PROBES 1 else s
    else (s.setChan c { x with ton := t }).showChan c

/-- Row `r` of a group starts; at row 0 the timing written, and what drives the die, take effect (R240, R244, Table 10-11). -/
def Dev.rowStart (s : Dev) (h g r : Nat) : Dev :=
  let w := s.rd (Reg.BST_MX_TIME h g)
  let y := s.group h g
  let y := if r = 0 then
      { y with slot := fget w F.BST_MX_TIME_SLOT, dead := 16 * fget w F.BST_MX_TIME_DEAD, src := (s.hv h).mode }
    else y
  let s := s.setGroup h g { y with row := some r }
  let s := s.wrF (Reg.BST_MX_STAT h g) F.BST_MX_STAT_ROW r
  forAll (s.columns h g) s (fun s c => s.columnSlot h g r c)

/-- Columns that show OPEN in the scan frame that ends (R240): a row in which all columns of the group show it is ROW_OPEN, and another
one is recorded as OPEN of its columns. -/
def Dev.judgeOpen (s : Dev) (h g : Nat) : Dev :=
  let cols := s.columns h g
  let s := forAll (List.range 8) s (fun s r =>
    let l := cols.filter (fun c => (s.chan c).cand.contains r)
    if l.isEmpty then s
    else if l.length = cols.length then s.causeOn (Reg.BST_MX_FLT_STAT h) (8 + r)
    else forAll l s (fun s c => (s.noteRow c r F.CH_MXFLT_OPENROWS).stopGang c B.CH_OPEN))
  forAll cols s (fun s c => s.setChan c { s.chan c with cand := [] })

/-- The group's entries of the back buffer become its front (R242); FRONT names the buffer. -/
def Dev.mxExchange (s : Dev) (h g : Nat) : Dev :=
  let rows := List.range' (s.row0 h g) (s.nrow h g)
  let s := forAll rows s (fun s r => forAll (s.columns h g) s (fun s c =>
    let k := r * 64 + c % 64
    s.setHv h { s.hv h with front := (s.hv h).front.put (fun _ => 0#32) k (s.rd (Reg.BST_MX_BACK h k)) }))
  let st := Reg.BST_MX_STAT h g
  let s := s.wrF st F.BST_MX_STAT_FRONT (1 - s.rdF st F.BST_MX_STAT_FRONT)
  (s.wrF st F.BST_MX_STAT_ARMED 0).setGroup h g { s.group h g with pend := false }

/-- The scan frame of a group ends: a pending swap takes place (R242). -/
def Dev.scanEnd (s : Dev) (h g : Nat) : Dev :=
  let s := s.judgeOpen h g
  if (s.group h g).pend ∧ (s.hv h).mode ≠ 1 then s.mxExchange h g else s

/-- A group is in LOCK mode with its edges there: its scan frames begin only at MXSYNC edges (R242). -/
def Dev.mxLocked (s : Dev) (h g : Nat) : Bool :=
  s.rdF (Reg.BST_MX_SYNC h g) F.BST_MX_SYNC_MODE == 2 && s.rdF (Reg.BST_MX_STAT h g) F.BST_MX_STAT_LOCKED == 1 && (s.hv h).mode != 1

/-- A row slot of a group begins (R240, R242). In LOCK mode a scan frame begins only at an MXSYNC edge. -/
def Dev.rowSlot (s : Dev) (h g : Nat) : Dev :=
  if s.rdF (Reg.BST_MX_CFG h g) F.BST_MX_CFG_NCOL = 0 ∨ s.nrow h g = 0 then s
  else
    match (s.group h g).row with
    | none => if s.mxLocked h g then s else s.rowStart h g 0
    | some r =>
      if r + 1 < s.nrow h g then s.rowStart h g (r + 1)
      else
        let s := s.scanEnd h g
        if s.mxLocked h g then
          forAll (s.columns h g) (s.setGroup h g { s.group h g with row := none }) (fun s c =>
            (s.setChan c { s.chan c with ton := 0 }).showChan c)
        else s.rowStart h g 0

/-- MX_ROW_SLOT. -/
def execMxRowSlot (h : Hv) (g : Fin 8) (s : State) : Host.Outcome State Fault Refusal := s.onDev (fun s => s.rowSlot h g)

/-- A write of BST_MX_SWAP is carried out (R242): a swap at the end of the scan frame in progress, or an armed one. -/
def Dev.swapNow (s : Dev) (h : Nat) (v : Word) : Dev :=
  forAll (List.range 8) s (fun s g =>
    if !bitOf v g ∨ s.rdF (Reg.BST_MX_CFG h g) F.BST_MX_CFG_NCOL = 0 ∨ (s.hv h).mode = 1 then s
    else if s.rdF (Reg.BST_MX_SYNC h g) F.BST_MX_SYNC_MODE = 0 then s.setGroup h g { s.group h g with pend := true }
    else s.wrF (Reg.BST_MX_STAT h g) F.BST_MX_STAT_ARMED 1)

/-- A write of value `v` at offset `o` of power die `h` acts there (R229, R231, R242). -/
def Dev.hvTake (s : Dev) (h o : Nat) (v : Word) : Dev :=
  let a := Reg.hv h + o
  if o = 0x20100 then s.swapNow h v
  else if 0x40 ≤ o ∧ o < 0x50 then s.wrF a F.BST_PWM_PER_PER (clampN 2560 320000 (fget v F.BST_PWM_PER_PER))
  else if 0x10000 ≤ o ∧ o < 0x11000 ∧ (o % 0x40 = 4 ∨ o % 0x40 = 8) ∧ s.isMember (64 * h + (o - 0x10000) / 0x40) then s
  else s.wr a v

/-- A write to a register of power die `h`, at offset `o` of its window, goes out on the active data channel (R226). While the complete
current state is still to be carried, new changes wait behind it, in their order (R20, R245). -/
def Dev.writeHv (s : Dev) (h o : Nat) (v : Word) : Dev :=
  let x := s.hv h
  if x.resend then s.setHv h { x with held := x.held ++ [(o, v)] }
  else (s.dcSend h false (.write (Reg.hv h + o) v)).hvTake h o v

/-- A write of BST_MX_SWAP. -/
def Dev.mxSwap (s : Dev) (h : Nat) (v : Word) : Dev := s.writeHv h 0x20100 v

/-- BST_HOLD_WRITE (R230): with HOLD cleared, each channel takes its newest values at its next period start. -/
def execBstHoldWrite (h : Hv) (v : Word) (s : State) : Host.Outcome State Fault Refusal := 
  s.onDev (fun s => if s.linked h then s.writeHv h 0 v else s)

/-- MX_SWAP. -/
def execMxSwap (h : Hv) (v : Word) (s : State) : Host.Outcome State Fault Refusal :=
  s.onDev (fun s => if s.linked h then s.mxSwap h v else s)

/-- An MXSYNC edge reaches a group (R242). In LOCK mode an edge on time ends a scan frame that is still in its last slot, and any other
edge cuts the frame short. -/
def Dev.groupEdge (s : Dev) (h g : Nat) (good : Bool) : Dev :=
  let st := Reg.BST_MX_STAT h g
  let mode := s.rdF (Reg.BST_MX_SYNC h g) F.BST_MX_SYNC_MODE
  if s.rdF (Reg.BST_MX_CFG h g) F.BST_MX_CFG_NCOL = 0 ∨ mode = 0 ∨ (s.hv h).mode = 1 then s
  else
    let s := if mode = 2 ∧ good ∧ (s.group h g).row.isSome then s.scanEnd h g else s
    let s := if s.rdF st F.BST_MX_STAT_ARMED = 1 then s.setGroup h g { s.group h g with pend := true } else s
    if mode = 1 then s
    else
      let y := s.group h g
      let n := if good then y.edges + 1 else 1
      let lost := s.hasCause (Reg.BST_MX_FLT_STAT h) g
      let s := s.setGroup h g { y with edges := n }
      let s := if !lost ∨ 2 ≤ n then
          (s.causeOff (Reg.BST_MX_FLT_STAT h) g).wrF st F.BST_MX_STAT_LOCKED 1
        else s
      s.rowStart h g 0

/-- MXSYNC_EDGE: an edge is carried to both power dies on their active data channels (R242). -/
def execMxsyncEdge (onTime : Bool) (s : State) : Host.Outcome State Fault Refusal :=
  s.onDev (fun s => forAll (List.range 2) s (fun s h =>
    if s.linked h then forAll (List.range 8) (s.dcSend h false .mxsync) (fun s g => s.groupEdge h g onTime) else s))

/-- MXSYNC_LOST: no edge for two scan frames; the group free-runs (R242). -/
def execMxsyncLost (h : Hv) (g : Fin 8) (s : State) : Host.Outcome State Fault Refusal :=
  s.onDev (fun s =>
    if s.rdF (Reg.BST_MX_SYNC h g) F.BST_MX_SYNC_MODE ≠ 2 ∨ s.rdF (Reg.BST_MX_CFG h g) F.BST_MX_CFG_NCOL = 0 then s
    else
      let s := (s.causeOn (Reg.BST_MX_FLT_STAT h) g).wrF (Reg.BST_MX_STAT h g) F.BST_MX_STAT_LOCKED 0
      s.setGroup h g { s.group h g with edges := 0 })

/-! ## Safe set points -/

/-- Every channel and matrix group of a power die takes what drives it, without waiting for a period or scan-frame start (R243). -/
def Dev.driveNow (s : Dev) (h : Nat) : Dev :=
  let s := forAll (List.range 8) s (fun s g => s.setGroup h g { s.group h g with src := (s.hv h).mode })
  forAll (List.range 64) s (fun s k =>
    let c := 64 * h + k
    match s.chUse c with
    | 1 =>
      let (i, d) := s.setPoint c
      let x := s.chan c
      let x : ChanH := { x.takeIset x.iset i with duty := d, per := s.pwmPer c, onProbe := false, repay := 0 }
      let t := if s.sinkOff c then 0 else onTime d x.per
      (s.setChan c { x with tonU := t, ton := s.scaled c t }).showChan c
    | 2 =>
      match s.columnGroup c with
      | some g => s.columnSlot h g ((s.group h g).row.getD 0) c
      | none => s
    | _ => s)

/-- Pending and armed swaps of power die `h` are dropped (R243, R245). -/
def Dev.dropSwaps (s : Dev) (h : Nat) : Dev :=
  forAll (List.range 8) s (fun s g =>
    (s.setGroup h g { s.group h g with pend := false }).wrF (Reg.BST_MX_STAT h g) F.BST_MX_STAT_ARMED 0)

/-- Power die `h` applies its safe set points (R243): pending swaps are dropped; before STRINGS was delivered its sinks stay
off (R244). -/
def Dev.applySafe (s : Dev) (h : Nat) : Dev :=
  if !(s.hv h).strings then s
  else
    let was := (s.hv h).mode
    let s := s.setHv h { s.hv h with mode := 1 }
    let s := s.wrF (Reg.BST_LINK_STAT h) F.BST_LINK_STAT_SAFE_HOLD 1
    let s := s.dropSwaps h
    let s := if was = 0 then s.boostStart h else s
    s.driveNow h

/-- Power die `h` leaves its safe set points for the written values, which its channels take at their next period or scan-frame
start (R244). -/
def Dev.driveLit (s : Dev) (h : Nat) : Dev :=
  if !(s.hv h).strings then s
  else
    let was := (s.hv h).mode
    let s := s.setHv h { s.hv h with mode := 2, linkSafe := false }
    let s := s.wrF (Reg.BST_LINK_STAT h) F.BST_LINK_STAT_SAFE_HOLD 0
    if was = 0 then s.boostStart h else s

/-! ## The two views of a channel -/

/-- The state of a channel that the string control block last commanded (Table 14-5): 0 OFF, 1 SAFE, 2 ON. A matrix column, and a
channel whose new values HOLD keeps back, is commanded what it was last given. -/
def Dev.chCommand (s : Dev) (c : Nat) : Nat :=
  let h := hvOf c
  let kept := s.chUse c = 2 ∨ s.rdF (Reg.BST_CTRL h) F.BST_CTRL_HOLD = 1
  let sp := if kept then ((s.chan c).iset, (s.chan c).duty) else (s.rdF (Reg.CH_ISET c) F.CH_ISET_ISET, s.rdF (Reg.CH_DUTY c) F.CH_DUTY_DUTY)
  if s.chUse c = 0 ∨ !(s.hv h).strings then 0
  else if s.power ≠ 3 then 1
  else if s.isMember c ∨ (0 < sp.1 ∧ 0 < sp.2) then 2
  else 0

/-- The state of a channel that CH_STATn returns, as Table 14-5 compares it: 0 OFF, 1 SAFE, 2 ON. -/
def Dev.chReturned (s : Dev) (c : Nat) : Nat :=
  match s.rdF (Reg.CH_STAT c) F.CH_STAT_STATE with
  | 1 => 2
  | 2 => 2
  | 3 => 1
  | _ => 0

/-- The views of a channel differ; they are compared while a data channel returns one (R311). -/
def Dev.chDiffers (s : Dev) (c : Nat) : Bool := s.linked (hvOf c) && s.chCommand c != s.chReturned c

/-- The commanded state is sent again to a disputed channel's die (Table 14-5), which takes SAFE at once (R243). -/
def Dev.chResend (s : Dev) (c : Nat) : Dev :=
  let s := s.dcSend (hvOf c) false (.power s.power)
  if s.power = 4 ∧ s.linked (hvOf c) then s.applySafe (hvOf c) else s

/-- CH_STATn of a channel: while it is disputed, STATE gives the more restrictive of the two states (R311). -/
def Dev.readChStat (s : Dev) (c : Nat) : Word :=
  let w := s.rd (Reg.CH_STAT c)
  if s.rdB (Reg.VSP_DISP_CH (c / 32)) (c % 32) ∧ s.chCommand c < s.chReturned c then
    fset w F.CH_STAT_STATE (if s.chCommand c = 1 then 3 else 0)
  else w

end Sys2Proof.Machine
end

