-- ==== Sys2Proof/Machine/Safe.lean ====
section
/-! DEFINITION. The power state, the SAFE sources, and entry to and exit from SAFE (R348, R356 to R358). -/

namespace Sys2Proof.Machine

/-- The NO_TEMP cause of each die: in LIT, a tile in use has no published temperature (R121). -/
def Dev.noTemp (s : Dev) : Dev :=
  forAll [0, 1] s (fun s d => s.causeIs (Reg.PHO_FLT_STAT d) B.PHO_NO_TEMP
    (s.power == 3 && (s.usedTiles d).any (fun t => s.rdF (Reg.THM_TILE 0 (8 * d + t)) F.THM_TILE_VALID == 0)))

/-- The power state set; every change is sent on MSI-X vector 63 (R348) and, as a state frame, to both power dies (R243). -/
def Dev.setPower (s : Dev) (st : Nat) : Dev :=
  if s.power = st then s
  else
    let s := (s.wrF Reg.VSP_PWR_STAT F.VSP_PWR_STAT_STATE st).emit (.msix 63)
    ((s.dcSend 0 false (.power st)).dcSend 1 false (.power st)).noTemp

/-- Source `k` of Table 16-5 stands: 0 SAFE_N, 1 SPI, 2 software, 3 thermal, 4 CD0 lost, 5 monitor, 6 recovery image. -/
def Dev.safeSource (s : Dev) (k : Nat) : Bool := s.rdB Reg.VSP_PWR_STAT (16 + k)

/-- A SAFE request stands (R356). -/
def Dev.safeStands (s : Dev) : Bool := s.rdF Reg.VSP_PWR_STAT F.VSP_PWR_STAT_SAFE_SRC != 0

/-- ENFORCE is present while L is above the level that the host is asked for (R283). -/
def Dev.showEnforce (s : Dev) : Dev :=
  s.causeIs (Reg.THM_FLT_STAT 0) B.THM_ENFORCE (decide (s.thm.base < s.rdF (Reg.THM_STAT 0) F.THM_STAT_LEVEL))

/-- L set (R232, R284, R285): it goes to each power die whose active data channel is up. -/
def Dev.setLevel (s : Dev) (l : Nat) : Dev :=
  let s := s.wrF (Reg.THM_STAT 0) F.THM_STAT_LEVEL l
  forAll (List.range 2) s (fun s h =>
    if s.linked h then (s.dcSend h false (.level l)).wrF (Reg.BST_SCALE h) F.BST_SCALE_LEVEL l else s)

/-- The SHUTDOWN cause (R286, R287, R289). -/
def Dev.shutdownPresent (s : Dev) : Bool := s.rdB (Reg.THM_FLT_CAUSE 0) B.THM_SHUTDOWN

/-- Entry to SAFE (R134, R195, R243, R266, R313, R357, Table 2-7). -/
def Dev.enterSafe (s : Dev) : Dev :=
  let s := s.setPower 4
  let s := if s.safeSource 3 then { s with thm := { s.thm with after := true } } else s
  let s := forAll (List.range 2) s (fun s d => ((s.stopDie d .safe).abandonDie d 5).abandonSlice d 3)
  let s := forAll (List.range 2) s (fun s d => s.setEng d { s.eng d with safeAt := some s.us })
  let s := s.rbFailAll 7
  forAll (List.range 2) s (fun s h => s.applySafe h)

/-- Source `k` stands: from READY or LIT the device enters SAFE at once; in STANDBY the request waits for the end of start-up, and
in SLEEP for the next wake (R356). -/
def Dev.requestSafe (s : Dev) (k : Nat) : Dev :=
  let s := s.wrB Reg.VSP_PWR_STAT (16 + k) true
  let s := if k = 3 ∧ s.power = 4 then { s with thm := { s.thm with after := true } } else s
  if s.power = 2 ∨ s.power = 3 then s.enterSafe else s

/-- Source `k` no longer stands; SAFE is left only by EXIT (R358). -/
def Dev.safeSourceEnd (s : Dev) (k : Nat) : Dev := s.wrB Reg.VSP_PWR_STAT (16 + k) false

/-- From SAFE to READY where no source stands; tiles receive RUN under R195 (R358). -/
def Dev.leaveSafe (s : Dev) : Dev :=
  if s.power = 4 ∧ !s.safeStands then forAll (List.range 2) (s.setPower 2) (fun s d => s.safeFillDieEnd d .safe) else s

/-- From READY to LIT (R134, R355): the halves compose from the next midnight on, but for those held in safe-fill; the strings
take their written values. -/
def Dev.enterLit (s : Dev) : Dev :=
  let s := s.setPower 3
  let s := forAll (List.range 8) s (fun s k =>
    let d := k / 4
    let n := k % 4
    if s.usedOn d n then s.setHalf d n { s.half d n with armed := true, lit0 := true } else s)
  let s := if s.thm.after then (({ s with thm := { s.thm with after := false } }).setLevel 7).showEnforce else s
  forAll (List.range 2) s (fun s h => if (s.hv h).linkSafe then s else s.driveLit h)

/-- From LIT to READY (R355): lines go out at code 0, and the strings return to their safe set points at their next period
start. -/
def Dev.enterReady (s : Dev) : Dev :=
  let s := s.setPower 2
  let s := forAll (List.range 8) s (fun s k => if s.usedOn (k / 4) (k % 4) then s.stopHalf (k / 4) (k % 4) else s)
  forAll (List.range 2) s (fun s h =>
    if (s.hv h).mode = 2 then (s.setHv h { s.hv h with mode := 1 }).wrF (Reg.BST_LINK_STAT h) F.BST_LINK_STAT_SAFE_HOLD 1 else s)

end Sys2Proof.Machine
end

