-- ==== Sys2Proof/Machine/Links.lean ====
section
/-! DEFINITION. The isolation data channels, the bridge, the supervisor links and the core references (R17 to R26, Table 1-9). -/

namespace Sys2Proof.Machine

/-! ## Isolation data channels -/

/-- The check of a data channel frame holds: CRC-16/CCITT over its first 112 bits (R18). -/
def dcValid (f : DcFrame) : Bool := crc16 (f.typ :: f.seq :: toBE 12 f.payload.toNat) == f.crc.toNat

/-- The matrix groups of power die `h` whose swap is pending or armed, as bits of BST_MX_SWAP. -/
def Dev.swapBits (s : Dev) (h : Nat) : Word :=
  (List.range 8).foldl (fun w g =>
    if (s.group h g).pend || s.rdF (Reg.BST_MX_STAT h g) F.BST_MX_STAT_ARMED == 1 then bitSet w g else w) 0#32

/-- Channel `c` becomes the active channel of power die `h` (R20, R21, R245): a pending swap is dropped, and the compositor die on the
channel sends the complete current state. The dropped swap request follows it, before the changes that wait; a frame that the other
channel was carrying up is sent again (R31). -/
def Dev.dcSwitch (s : Dev) (h c : Nat) : Dev :=
  let x := s.hv h
  let bits := s.swapBits h
  let held := if bits = 0#32 then x.held else (0x20100, bits) :: x.held
  let up := (s.dc h (1 - c)).unack.filter (fun e => e.up && e.what != .idle)
  let s := s.setHv h { x with resend := true, held := held }
  let s := if s.active h = c then s
    else (s.wrF (Reg.BST_LINK_STAT h) F.BST_LINK_STAT_ACTIVE c).satF (Reg.BST_LINK_SWITCH h) ⟨0, 32⟩ 1
  let s := (s.dropSwaps h).dcPut h c false .state
  forAll up s (fun s e => s.dcPut h c true e.what)

/-- Fields of a channel's counter register (Table 10-12). -/
def dcCnt (h c : Nat) : Nat := if c = 0 then Reg.BST_LINK_CNT0 h else Reg.BST_LINK_CNT1 h

/-- A data channel is declared down (R19, R20). -/
def Dev.dcDown (s : Dev) (h c : Nat) : Dev :=
  let was := s.linkUp h c
  let s := s.wrB (Reg.BST_LINK_STAT h) (1 + c) false
  let s := if was ∧ s.active h = c ∧ s.linkUp h (1 - c) then s.dcSwitch h (1 - c) else s
  let s := if was then (s.satF (dcCnt h c) F.BST_LINK_CNT0_DOWNS 1).causeOn (Reg.BST_LINK_FLT_STAT h) c else s
  s.setDc h c { s.dc h c with valid := 0, unack := [] }

/-- A data channel is declared up (R19, R21): where the die holds its safe set points under R21, or its active channel is down,
it becomes the active channel. DESIGN CHOICE (log entry 189): of a die that holds its safe set points under R21, a second channel
declared up before the complete state has been carried becomes the active one in turn, as R21 has it of each such channel. -/
def Dev.dcUp (s : Dev) (h c : Nat) : Dev :=
  let s := (s.wrB (Reg.BST_LINK_STAT h) (1 + c) true).causeOff (Reg.BST_LINK_FLT_STAT h) c
  let s := s.causeOff (Reg.BST_LINK_FLT_STAT h) B.BST_LINK_BOTH_DOWN
  if (s.hv h).linkSafe ∨ !s.linkUp h (s.active h) then s.dcSwitch h c else s

/-- The complete current state has been carried on the active channel (R20, R21): a die that holds its safe set points under R21
leaves them in LIT (R244). Then the swap request and the changes that waited follow, in their order (R245). -/
def Dev.stateCarried (s : Dev) (h : Nat) : Dev :=
  let x := s.hv h
  let s := s.setHv h { x with resend := false, linkSafe := false, held := [] }
  let s := forAll x.held s (fun s e => s.writeHv h e.1 e.2)
  if x.linkSafe ∧ s.power = 3 then s.driveLit h else s

/-- A valid frame arrives: it is acknowledged, and counts toward declaring the channel up (R18, R19). DESIGN CHOICE (log entry 189):
the 100 consecutive valid frames are those of both directions of the channel together. -/
def Dev.dcTake (s : Dev) (h c : Nat) (up : Bool) (f : DcFrame) : Dev :=
  let x := s.dc h c
  let s := s.setDc h c { x with valid := x.valid + 1 }
  let s := if !s.linkUp h c ∧ 100 ≤ x.valid + 1 then s.dcUp h c else s
  match f.kind with
  | .ack q => s.setDc h c { s.dc h c with unack := (s.dc h c).unack.filter (fun e => !(e.up == !up && e.seq == q.toNat)) }
  | .stateEnd =>
    let s := if !up ∧ s.active h = c ∧ s.linkUp h c ∧ (s.hv h).resend then s.stateCarried h else s
    s.emit (.dcAck h c (!up) f.seq.toNat)
  | _ => s.emit (.dcAck h c (!up) f.seq.toNat)

/-- A frame arrives on data channel `c` of power die `h` (R18). -/
def Dev.dcFrame (s : Dev) (h c : Nat) (up : Bool) (f : DcFrame) : Dev :=
  if dcValid f then s.dcTake h c up f else s.setDc h c { s.dc h c with valid := 0 }

/-- DC_FRAME_RX. -/
def execDcFrameRx (h : Hv) (c : Fin 2) (up : Bool) (f : DcFrame) (s : State) : Host.Outcome State Fault Refusal :=
  s.onDev (fun s => s.dcFrame h c up f)

/-- DC_IDLE_FRAME: nothing was sent for 10 µs (R18). -/
def execDcIdleFrame (h : Hv) (c : Fin 2) (up : Bool) (s : State) : Host.Outcome State Fault Refusal :=
  s.onDev (fun s => s.dcPut h c up .idle)

/-- A frame not acknowledged in 5 µs is sent again; after eight retransmissions the channel is down (R18, R19, R31). -/
def Dev.dcAgain (s : Dev) (h c : Nat) (up : Bool) (q : Nat) : Dev :=
  let x := s.dc h c
  match x.unack.find? (fun e => e.up == up && e.seq == q) with
  | none => s
  | some e =>
    if 8 ≤ e.tries then s.dcDown h c
    else
      let x : DcH := { x with unack := x.unack.map (fun v => if v = e then { e with tries := e.tries + 1 } else v) }
      ((s.setDc h c x).addF (dcCnt h c) F.BST_LINK_CNT0_RETX 1).emit (.dcAgain h c up q)

/-- DC_RETRANSMIT. -/
def execDcRetransmit (h : Hv) (c : Fin 2) (up : Bool) (seq : Byte) (s : State) : Host.Outcome State Fault Refusal :=
  s.onDev (fun s => s.dcAgain h c up seq.toNat)

/-- DC_CHANNEL_DOWN. -/
def execDcChannelDown (h : Hv) (c : Fin 2) (why : DcDownCause) (s : State) : Host.Outcome State Fault Refusal :=
  s.onDev (fun s => match why with
    | .noFrame => s.dcDown h c
    | .retries => s.dcDown h c)

/-- DC_RETRY: a down channel exchanges idle frames (R19), where the compositor die on it is not lost. -/
def execDcRetry (h : Hv) (c : Fin 2) (s : State) : Host.Outcome State Fault Refusal :=
  s.onDev (fun s => if s.linkUp h c ∨ s.pwr.lost.contains c.val then s else (s.dcPut h c false .idle).dcPut h c true .idle)

/-- Both data channels have been down for 1 ms (R21). -/
def Dev.bothDown (s : Dev) (h : Nat) : Dev :=
  if s.linkUp h 0 ∨ s.linkUp h 1 then s
  else
    let s := s.causeOn (Reg.BST_LINK_FLT_STAT h) B.BST_LINK_BOTH_DOWN
    (s.setHv h { s.hv h with linkSafe := true }).applySafe h

/-- BOTH_DOWN. -/
def execBothDown (h : Hv) (s : State) : Host.Outcome State Fault Refusal := s.onDev (fun s => s.bothDown h)

/-! ## Bridge -/

/-- The compositor dies whose DRAM work crosses the bridge (R223). -/
def Dev.clients (s : Dev) : List Nat := (List.range 2).filter (fun d => s.rdF (Reg.DRC_STAT d) F.DRC_STAT_ROLE == 1)

/-- The bridge is gone, or carries less than half-memory demand (Table 1-9). -/
def Dev.bridgeShort (s : Dev) : Bool := s.linksUp == 0 || (decide (s.linksUp < 2) && !s.clients.isEmpty)

/-- Slave halves of spanning heads stop and fall to safe-fill, and a half-memory client stops composing (Table 1-9). -/
def Dev.bridgeStop (s : Dev) : Dev :=
  let s := forAll (List.range 8) s (fun s k =>
    if s.isSlave (k / 4) (k % 4) then (s.stopHalf (k / 4) (k % 4)).safeFillHalf (k / 4) (k % 4) .bridge else s)
  forAll s.clients s (fun s d => s.stopDie d .bridge)

/-- What Table 1-9 stopped goes on from the next midnight once the bridge serves it again. -/
def Dev.bridgeBack (s : Dev) : Dev :=
  forAll (List.range 8) s (fun s k =>
    let d := k / 4
    let n := k % 4
    if s.usedOn d n ∧ (s.tilesOf d n).any (fun t => (s.lane d t).causes.contains .bridge) then
      let s := s.safeFillHalfEnd d n .bridge
      if s.power = 3 then s.setHalf d n { s.half d n with armed := true } else s
    else s)

/-- The dies lose contact (R61, R384): PEER_LOST, and a rebuild of a spanning head ends FAILED with PEER (Table 2-7). -/
def Dev.peerLost (s : Dev) : Dev :=
  let s := forAll (List.range 2) s (fun s d =>
    (s.wrF (Reg.FAB_DIE_STAT d) F.FAB_DIE_STAT_PEER_UP 0).causeOn (Reg.FAB_DIE_FLT_STAT d) B.FAB_DIE_PEER_LOST)
  forAll (List.range 2) s (fun s d =>
    let n := (s.rb d).head
    if s.rbBusy d ∧ s.spansDies n then
      (forAll (List.range 2) s (fun s e => s.raise (Reg.FAB_FLT_STAT e) B.FAB_PEER)).rbFail n 6
    else s)

/-- BRIDGE_FLIT_RX (R23, R24): what the flit carries acts by the command of its own. -/
def execBridgeFlitRx (d : Die) (link : Fin 4) (vc : Fin 4) (f : Flit) (s : State) : Host.Outcome State Fault Refusal :=
  s.onDev (fun s => s.flitRx d link vc (crc32c f.body == f.crc.toNat))

/-- A link leaves service (R24, Table 1-9). -/
def Dev.linkRemove (s : Dev) (link : Nat) : Dev :=
  let s := forAll (List.range 2) s (fun s d =>
    let s := (s.wrB (Reg.FAB_BRG_STAT d) link false).satF (Reg.FAB_BRG_CNT d link) F.FAB_BRG_CNT_REMOVALS 1
    s.causeOn (Reg.FAB_BRG_FLT_STAT d) link)
  let s := (s.brgMove 0 link).brgMove 1 link
  let s := if s.linksUp = 0 then
      (forAll (List.range 2) s (fun s d => s.causeOn (Reg.FAB_BRG_FLT_STAT d) B.FAB_BRG_ALL)).peerLost
    else s
  if s.bridgeShort then s.bridgeStop else s

/-- BRIDGE_LINK_REMOVE: eight replays of one flit have failed in a row (R24). -/
def execBridgeLinkRemove (link : Fin 4) (s : State) : Host.Outcome State Fault Refusal :=
  s.onDev (fun s =>
    let worn := fun d => decide (9 ≤ (s.brg d).fails.get (fun _ => 0) link)
    if s.rdB (Reg.FAB_BRG_STAT 0) link ∧ (worn 0 || worn 1) then s.linkRemove link else s)

/-- A link enters service (R24). -/
def Dev.linkServe (s : Dev) (link : Nat) : Dev :=
  let short := s.bridgeShort
  let s := forAll (List.range 2) s (fun s d =>
    let s := (s.wrB (Reg.FAB_BRG_STAT d) link true).causeOff (Reg.FAB_BRG_FLT_STAT d) link
    let s := s.causeOff (Reg.FAB_BRG_FLT_STAT d) B.FAB_BRG_ALL
    if s.pwr.lost.isEmpty then
      (s.wrF (Reg.FAB_DIE_STAT d) F.FAB_DIE_STAT_PEER_UP 1).causeOff (Reg.FAB_DIE_FLT_STAT d) B.FAB_DIE_PEER_LOST
    else s)
  if short ∧ !s.bridgeShort then s.bridgeBack else s

/-- BRIDGE_LINK_RETRAIN: a removed link trains again, and serves where it passes (R24); the links train once the core PLLs have
locked. -/
def execBridgeLinkRetrain (link : Fin 4) (pass : Bool) (s : State) : Host.Outcome State Fault Refusal :=
  s.onDev (fun s => if pass ∧ s.pwr.pll ∧ !s.rdB (Reg.FAB_BRG_STAT 0) link then s.linkServe link else s)

end Sys2Proof.Machine
end

