-- ==== Sys2Proof/Machine/TileRx.lean ====
section
/-! DEFINITION. What a tile sends and how its commands are answered (R179, R183, R192 to R195, R311), and the video and object
streams of an input lane (R196 to R203). -/

namespace Sys2Proof.Machine

/-- PACKET_SEND: a queued packet goes out in the first gap in which it fits. -/
def execPacketSend (d : Die) (t : TileIx) (s : State) : Host.Outcome State Fault Refusal := s.onDev (fun s => s.sendPacket d t)

/-! ## Tiles -/

/-- What a STATUS reports goes to the tile's registers (Tables 8-3 and 8-8). -/
def Dev.takeStatus (s : Dev) (d t : Nat) (p : StatusPkt) : Dev :=
  let st := Reg.LANE_TILE_STAT d t
  let s := (s.wrF st F.LANE_TILE_STAT_TSTATE p.state.toNat).wrF st F.LANE_TILE_STAT_TCAUSE p.cause.toNat
  let s := (s.wrF st F.LANE_TILE_STAT_LOCK (b2n p.lock)).wrF st F.LANE_TILE_STAT_PROTO p.proto.toNat
  let s := s.wrF st F.LANE_TILE_STAT_CAPS p.caps.toNat
  let pair := fun (a b : BitVec 16) => BitVec.ofNat 32 (a.toNat + 0x10000 * b.toNat)
  let s := s.wr (Reg.LANE_TILE_ID d t) (pair p.vendor p.model)
  let s := (s.wr (Reg.LANE_TILE_TEMPA d t) (pair p.temp0 p.temp1)).wr (Reg.LANE_TILE_TEMPB d t) (pair p.temp2 p.temp3)
  let s := (s.wr (Reg.LANE_TILE_SUPA d t) (pair p.sup0 p.sup1)).wr (Reg.LANE_TILE_SUPB d t) (pair p.sup2 p.sup3)
  let s := (s.wr (Reg.LANE_TILE_RXERR d t) p.rxErr).wrF (Reg.LANE_TILE_AGE d t) F.LANE_TILE_AGE_FWVER p.fwVer.toNat
  let s := forAll (List.range 16) s (fun s k =>
    let w := fun (bs : List Byte) => BitVec.ofNat 32 (leAt bs (4 * k) 4)
    (s.wr (Reg.LANE_OPENMAP d t (16 * p.slice.val + k)) (w p.openMap)).wr (Reg.LANE_SHORTMAP d t (16 * p.slice.val + k)) (w p.shortMap))
  let s := s.wrF (Reg.CAL_TSTAT d t) F.CAL_TSTAT_NOCAP (b2n (p.caps.toNat % 2 == 0))
  let a := Reg.LANE_TILE_FLT_STAT d t
  let s := s.causeIs a B.LANE_TILE_OPEN ((List.range 128).any (fun k => s.rd (Reg.LANE_OPENMAP d t k) != 0#32))
  let s := s.causeIs a B.LANE_TILE_SHORT ((List.range 128).any (fun k => s.rd (Reg.LANE_SHORTMAP d t k) != 0#32))
  let s := s.causeIs a B.LANE_TILE_WDOG (p.state == 1#3 && p.cause == 1#3)
  let s := (s.causeIs a B.LANE_TILE_PROTO (p.proto != 1#8)).causeOff a B.LANE_TILE_SILENT
  s.setLane d t { s.lane d t with statusAt := some s.us, old := false }

/-- RUN has been acknowledged: the tile is ACTIVE, unless a cause of safe-fill has come meanwhile (R193, R195). -/
def Dev.runAcked (s : Dev) (d t : Nat) : Dev :=
  if (s.lane d t).causes.isEmpty then s.setDstate d t 2 else (s.setDstate d t 3).queueSafe d t

/-- A STATUS acknowledges the command outstanding (R192): bring-up goes on, or RUN has taken effect. -/
def Dev.takeAck (s : Dev) (d t : Nat) (p : StatusPkt) : Dev :=
  let h := s.lane d t
  match h.out with
  | none => s
  | some o =>
    if p.ackRes = 4#8 ∨ p.ackSeq.toNat ≠ o.seq then s
    else
      let s := s.setLane d t { h with out := none }
      let s := match o.pkt with
        | .cmd 3 _ _ _ => if p.ackRes = 3#8 then s.raise (Reg.LANE_TILE_FLT_STAT d t) B.LANE_TILE_SF_CRC else s
        | _ => s
      if o.pkt.isRun then (if s.dstate d t = 1 ∨ s.dstate d t = 3 then s.runAcked d t else s)
      else if s.dstate d t = 1 ∧ !h.waitStatus ∧ !h.waitRun ∧ !h.queue.any Pkt.isCmd then s.planNext d t
      else s

/-- The two views of a commanded safe-fill tile are compared with each STATUS (R194, R311): two that differ make it DISPUTED,
two that agree end that, and SAFE is sent with each STATUS meanwhile. -/
def Dev.tileViews (s : Dev) (d : Die) (t : TileIx) (p : StatusPkt) : Dev :=
  let h := s.lane d t
  let u := DispUnit.tile d t
  let st := Reg.LANE_TILE_STAT d t
  let s :=
    if s.dstate d t = 3 ∧ p.state ≠ 1#3 then
      let s := s.setLane d t { h with badViews := h.badViews + 1, goodViews := 0 }
      if 2 ≤ h.badViews + 1 ∧ !s.flt.disputed.contains u then
        ({ s with flt := { s.flt with disputed := u :: s.flt.disputed } }).wrF st F.LANE_TILE_STAT_DISPUTED 1
      else s
    else
      let s := s.setLane d t { h with badViews := 0, goodViews := h.goodViews + 1 }
      if 2 ≤ h.goodViews + 1 ∧ s.flt.disputed.contains u then
        ({ s with flt := { s.flt with disputed := s.flt.disputed.filter (· != u) } }).wrF st F.LANE_TILE_STAT_DISPUTED 0
      else s
  if s.flt.disputed.contains u ∧ s.dstate d t = 3 then s.queueSafe d t else s

/-- A STATUS packet is taken on a LOCKED lane (R183, R186, R192 to R195). -/
def Dev.statusRx (s : Dev) (d : Die) (t : TileIx) (p : StatusPkt) : Dev :=
  if !s.locked d t then s
  else if p.openMap.length ≠ 64 ∨ p.shortMap.length ≠ 64 then s.badPacket d t 0x81
  else
    let s := (s.takeStatus d t p).takeAck d t p
    let n := (s.place d t).head
    let s := if p.lock && (s.lane d t).noMode then
        s.setHalf d n { s.half d n with awaited := (s.half d n).awaited.filter (· != t.val) }
      else s
    let h := s.lane d t
    let s :=
      if s.dstate d t = 1 ∧ h.waitStatus then
        (if p.proto ≠ 1#8 then (s.setLane d t { h with waitStatus := false }).setDstate d t 5
         else (s.setLane d t { h with waitStatus := false, plan := s.planPkts d t }).planNext d t)
      else if s.dstate d t = 2 ∧ p.state = 1#3 then s.bringup d t
      else s
    s.tileViews d t p

/-- STATUS_RX. -/
def execStatusRx (d : Die) (t : TileIx) (p : StatusPkt) (s : State) : Host.Outcome State Fault Refusal :=
  s.onDev (fun s => s.statusRx d t p)

/-- A tile is declared FAILED: its bring-up and its waiting commands end (R192, R193). -/
def Dev.tileFailed (s : Dev) (d t : Nat) : Dev :=
  let h := s.lane d t
  (s.setLane d t { h with queue := [], out := none, plan := [], waitStatus := false, waitRun := false, wantRun := false }).setDstate d t 4

/-- A command has gone unacknowledged for 200 µs: it is sent again, and after eight repeats the tile is FAILED (R192). -/
def Dev.retransmit (s : Dev) (d t : Nat) : Dev :=
  let h := s.lane d t
  match h.out with
  | none => s
  | some o =>
    if 8 ≤ o.repeats then (s.tileFailed d t).raise (Reg.LANE_TILE_FLT_STAT d t) B.LANE_TILE_NORESP
    else
      let s := s.setLane d t { h with out := some { o with repeats := o.repeats + 1 } }
      (s.addF (Reg.LANE_TILE_CMDCNT d t) F.LANE_TILE_CMDCNT_REPEATS 1).laneSend d t o.pkt

/-- CMD_RETRANSMIT. -/
def execCmdRetransmit (d : Die) (t : TileIx) (s : State) : Host.Outcome State Fault Refusal := s.onDev (fun s => s.retransmit d t)

/-- BRINGUP_TIMEOUT: no STATUS within 5 ms of LOCKED (R193, R194). -/
def execBringupTimeout (d : Die) (t : TileIx) (s : State) : Host.Outcome State Fault Refusal :=
  s.onDev (fun s => if s.dstate d t = 1 ∧ (s.lane d t).waitStatus then s.tileFailed d t else s)

/-- TILE_SILENT: no STATUS for 5 ms while LOCKED (Table 8-8). -/
def execTileSilent (d : Die) (t : TileIx) (s : State) : Host.Outcome State Fault Refusal :=
  s.onDev (fun s => if s.locked d t then s.causeOn (Reg.LANE_TILE_FLT_STAT d t) B.LANE_TILE_SILENT else s)

/-! ## Input sources -/

/-- The raster slots that an input lane feeds (R196). -/
def Dev.fedSlots (s : Dev) (d i : Nat) : List Nat :=
  (List.range 8).filter (fun m => bitOf (s.rd (Reg.LANE_IN_MAP d (8 + i))) m)

/-- Base of buffer `b` of an input lane: 0 A, 1 B, 2 C. -/
def Dev.bufBase (s : Dev) (d i b : Nat) : Word :=
  s.rd (match b with | 0 => Reg.LANE_IN_BUFA d (8 + i) | 1 => Reg.LANE_IN_BUFB d (8 + i) | _ => Reg.LANE_IN_BUFC d (8 + i))

/-- The buffer that a new frame is written into (R199): the first that is neither the newest nor latched by a fed slot. -/
def Dev.pickBuffer (s : Dev) (d i : Nat) : Option Nat :=
  (List.range 3).find? (fun b =>
    s.rdF (Reg.LANE_IN_STAT d (8 + i)) F.LANE_IN_STAT_NEWEST != b + 1 &&
      !(s.fedSlots d i).any (fun m => (s.diesOf (m / 2)).any (fun e => s.rdL (Reg.HEAD_RAS_BASE e m) == s.bufBase d i b)))

/-- FIRST of a frame (R197 to R199): a frame in progress restarts; with EN 0, or no buffer free, the new one is discarded. -/
def Dev.frameStart (s : Dev) (d i : Nat) (p : VidPkt) : Dev :=
  let n := 8 + i
  let s := if (s.inp d i).inFrame then s.discardFrame d i 4 (s.inp d i).frame false else s
  let s := s.snoopInputOpen d n 0
  if s.rdF (Reg.LANE_IN_CFG d n) F.LANE_IN_CFG_EN = 0 then s.discardFrame d i 7 p.frame.toNat true
  else match s.pickBuffer d i with
  | none => s.discardFrame d i 1 p.frame.toNat true
  | some b =>
    let s := s.setInp d i { s.inp d i with inFrame := true, ignoring := false, frame := p.frame.toNat, written := 0 }
    (s.wrF (Reg.LANE_IN_STAT d n) F.LANE_IN_STAT_WRITING (b + 1)).wrF (Reg.LANE_IN_STAT d n) F.LANE_IN_STAT_INFRAME 1

/-- The frame in progress completes: its buffer is the newest and the written raster base of every fed slot (R199). -/
def Dev.frameComplete (s : Dev) (d i : Nat) : Dev :=
  let n := 8 + i
  let st := Reg.LANE_IN_STAT d n
  let h := s.inp d i
  let slots := (s.fedSlots d i).flatMap (fun m => (s.diesOf (m / 2)).map (fun e => Reg.HEAD_RAS_BASE e m))
  let w := s.rdF st F.LANE_IN_STAT_WRITING
  let base := s.bufBase d i (w - 1)
  let old := s.rdF st F.LANE_IN_STAT_NEWEST
  let super := old ≠ 0 ∧ slots.any (fun a => s.rd a == s.bufBase d i (old - 1) && s.rdL a != s.bufBase d i (old - 1))
  let s := if super then s.addF (Reg.LANE_IN_SUPER d n) F.LANE_IN_SUPER_SUPERSEDED 1 else s
  let s := forAll slots s (fun s a => s.wr a base)
  let s := (s.wrF st F.LANE_IN_STAT_NEWEST w).wrF st F.LANE_IN_STAT_FRAME h.frame
  let s := (s.wrF st F.LANE_IN_STAT_WRITING 0).wrF st F.LANE_IN_STAT_INFRAME 0
  let s := s.addF (Reg.LANE_IN_FRMCNT d n) F.LANE_IN_FRMCNT_ACCEPTED 1
  let s := s.setInp d i { h with inFrame := false, lastOk := h.frame, lastDone := s.us, written := 0 }
  ((s.snoopInputEnd d n 0 true).causeOff (Reg.LANE_IN_FLT_STAT d n) B.LANE_IN_IN_STALE).sendSrcstat d i

/-- The dies of some heads that an input lane of die `d` reaches (R17, R196). -/
def Dev.inputDies (s : Dev) (d : Nat) (heads : List Nat) : List Nat := (heads.flatMap (s.waysOf d)).dedup

/-- A write of an input lane of die `d` for some heads finds no DRAM on one of their dies, or does not reach it (Table 9-7). -/
def Dev.inputFails (s : Dev) (d : Nat) (heads : List Nat) (a n : Nat) : Bool :=
  (heads.flatMap s.diesOf).any (fun e => !s.dieWay d e || s.noDramAt e a n)

/-- A video frame whose write has failed is discarded (Table 9-7); R198 gives this discard no reason code, so WHY is a free value
(log entry 4). -/
def Dev.discardFailed (s : Dev) (d i : Nat) : Dev :=
  let (w, s) := s.free
  s.discardFrame d i w (s.inp d i).frame true

/-- The heads whose raster slots an input lane feeds (R196). -/
def Dev.fedHeads (s : Dev) (d i : Nat) : List Nat := ((s.fedSlots d i).map (· / 2)).dedup

/-- The DRAM address of texel `x0` of line `line` in the buffer that an input lane is writing (R197). -/
def Dev.vidAddr (s : Dev) (d i line x0 : Nat) : Nat :=
  let n := 8 + i
  (s.bufBase d i (s.rdF (Reg.LANE_IN_STAT d n) F.LANE_IN_STAT_WRITING - 1)).toNat +
    line * s.rdF (Reg.LANE_IN_CFG d n) F.LANE_IN_CFG_STRIDE * 64 + 2 * x0

/-- A VID packet of a frame in progress (R197, R198). -/
def State.vidPayload (s : State) (d i : Nat) (p : VidPkt) : State :=
  let n := 8 + i
  let h := s.dev.inp d i
  let geom := s.dev.rd (Reg.LANE_IN_GEOM d n)
  let w := fget geom F.LANE_IN_GEOM_W
  let hh := fget geom F.LANE_IN_GEOM_H
  if !h.inFrame then s
  else if !p.fits then { s with dev := s.dev.discardFrame d i 1 h.frame true }
  else if hh ≤ p.line.toNat ∨ w < p.x0.toNat + p.texels.length / 2 then { s with dev := s.dev.discardFrame d i 3 h.frame true }
  else
    let a := s.dev.vidAddr d i p.line.toNat p.x0.toNat
    let heads := s.dev.fedHeads d i
    let dies := s.dev.inputDies d heads
    let dev := forAll dies (s.dev.crossWrite d dies) (fun v e => v.raiseRefused e a p.texels.length true false)
    if s.dev.inputFails d heads a p.texels.length then { s with dev := dev.discardFailed d i }
    else
      let mem := dies.foldl (fun m e => s.dev.dieWrite m e false a p.texels) s.mem
      let dev := dev.setInp d i { h with written := h.written + p.texels.length }
      let dev := dev.snoopInput d n 0 p.texels
      let dev := forAll dies dev (fun v e => v.snoopWrite mem e 2 a p.texels.length)
      let dev := if p.last then
          (if h.written + p.texels.length ≠ w * hh * 2 then dev.discardFrame d i 5 h.frame true else dev.frameComplete d i)
        else dev
      { s with dev := dev, mem := mem }

/-- A VID packet on a LOCKED input lane (R197 to R199). -/
def State.vidRx (s : State) (d i : Nat) (p : VidPkt) : State :=
  if !s.dev.locked d (8 + i) then s
  else if p.texels.length < 2 ∨ 1024 < p.texels.length ∨ p.texels.length % 2 ≠ 0 then { s with dev := s.dev.badPacket d (8 + i) 0x11 }
  else ({ s with dev := if p.first then s.dev.frameStart d i p else s.dev }).vidPayload d i p

/-- VID_RX. -/
def execVidRx (d : Die) (i : Fin 2) (p : VidPkt) (s : State) : Host.Outcome State Fault Refusal := .next (s.vidRx d i p)

/-- FIRST of a batch (R200); a batch that has not ended by then fails. -/
def Dev.batchStart (s : Dev) (d i : Nat) (p : ObjPkt) : Dev :=
  let s := (if (s.inp d i).inBatch then s.failBatch d i else s).snoopInputOpen d (8 + i) 1
  let s := s.setInp d i
    { s.inp d i with inBatch := true, batchDead := false, batch := p.batch.toNat, head := p.head, slot := b2n p.slot }
  s.wrF (Reg.LANE_IN_STAT d (8 + i)) F.LANE_IN_STAT_INBATCH 1

/-- COMMIT of a batch: as a write of HEAD_GEN_COMMITn on the head's master die (R200). -/
def Dev.batchCommit (s : Dev) (d i : Nat) : Dev :=
  let h := s.inp d i
  let s := s.setInp d i { h with inBatch := false }
  let m := s.masterOf h.head
  let s := (s.wrF (Reg.LANE_IN_STAT d (8 + i)) F.LANE_IN_STAT_INBATCH 0).snoopInputEnd d (8 + i) 1 (s.commitRefusal m h.head).isNone
  match s.commitRefusal m h.head with
  | some r => (s.commit m h.head h.slot).reportBatch d i h.batch r
  | none => (s.setInp d i { s.inp d i with waits := (h.head, h.batch) :: h.waits }).commit m h.head h.slot

/-- An OBJ packet on a LOCKED input lane (R200, R201). -/
def State.objRx (s : State) (d i : Nat) (p : ObjPkt) : State :=
  if !s.dev.locked d (8 + i) then s
  else if 1024 < p.data.length ∨ p.data.length % 4 ≠ 0 then { s with dev := s.dev.badPacket d (8 + i) 0x12 }
  else
    let dev := if p.first then s.dev.batchStart d i p else s.dev
    let h := dev.inp d i
    let slot := b2n p.slot
    if !h.inBatch then s
    else if !p.fits ∨ !bitOf (dev.rd (Reg.LANE_IN_MAP d (8 + i))) (8 + p.head.val) ∨ p.head.val ≠ h.head ∨ slot ≠ h.slot ∨
        p.batch.toNat ≠ h.batch ∨ p.offset.toNat % 4 ≠ 0 ∨ 0x9300 < p.offset.toNat + p.data.length ∨
        dev.slotLocked h.head slot then
      { s with dev := dev.failBatch d i }
    else
      let v := (dev.crossWrite d (dev.waysOf d h.head)).slotRefused d h.head slot p.offset.toNat p.data.length
      if dev.inputFails d [h.head] (slotAddr h.head slot + p.offset.toNat) p.data.length then { s with dev := v.failBatch d i }
      else
      let mem := dev.slotWrite s.mem d h.head slot p.offset.toNat p.data
      let dev := v.snoopInput d (8 + i) 1 p.data
      let dev := dev.snoopSlot mem d h.head slot p.offset.toNat p.data.length 2
      { s with dev := if p.commit then dev.batchCommit d i else dev, mem := mem }

/-- OBJ_RX. -/
def execObjRx (d : Die) (i : Fin 2) (p : ObjPkt) (s : State) : Host.Outcome State Fault Refusal := .next (s.objRx d i p)

/-- IN_STALE: no frame has completed for STALE_T (R199); 0 turns it off. -/
def execInStale (d : Die) (i : Fin 2) (s : State) : Host.Outcome State Fault Refusal :=
  s.onDev (fun s =>
    if s.rdF (Reg.LANE_IN_CFG d (8 + i)) F.LANE_IN_CFG_STALE_T = 0 then s
    else s.causeOn (Reg.LANE_IN_FLT_STAT d (8 + i)) B.LANE_IN_IN_STALE)

/-- SRCSTAT_PERIODIC. -/
def execSrcstatPeriodic (d : Die) (i : Fin 2) (s : State) : Host.Outcome State Fault Refusal :=
  s.onDev (fun s => s.sendSrcstat d i)

end Sys2Proof.Machine
end

