-- ==== Sys2Proof/Machine/Dram.lean ====
section
/-! DEFINITION. The DRAM controllers (R205 to R225): the request table, urgency and scheduling, refresh, row-activate protection,
training and failure, and half-memory mode. -/

namespace Sys2Proof.Machine

/-! ## What the line buffers ask of a controller -/

/-- ACT of a head half (R129). -/
def Dev.tAct (s : Dev) (d n : Nat) : Nat := s.rdF (Reg.HEAD_TACT d n) F.HEAD_TACT_ACT

/-- TOTAL of the mode that a half has in use (R130). -/
def Dev.tTotal (s : Dev) (d n : Nat) : Nat := s.rdLF (Reg.HEAD_TTOTAL d n) F.HEAD_TTOTAL_TOTAL

/-- LINE_PER of the mode that a half has in use (R130). -/
def Dev.tPer (s : Dev) (d n : Nat) : Nat := s.rdLF (Reg.HEAD_TLINE d n) F.HEAD_TLINE_LINE_PER

/-- LINE of a half's generator. -/
def Dev.tLine (s : Dev) (d n : Nat) : Nat := s.rdF (Reg.HEAD_TSTAT d n) F.HEAD_TSTAT_LINE

/-- Spans of a tile line that are not finished at its release. -/
def Dev.missing (s : Dev) (d t k : Nat) : List Nat := (List.range 16).filter (fun j => (s.spanCodes d t k j).isNone)

/-- The eligible lines of a half at the start of line `k`, in the order they are due, with the line times left (R140). -/
def dueLines (act total k : Nat) : List (Nat × Nat) :=
  (List.range' 1 16).filterMap (fun j => let e := (k + j) % total; if e < act then some (e, j) else none)


/-- The oldest eligible line of a tile that is not complete (R140). -/
def Dev.oldestLine (s : Dev) (d t : Nat) : Option Nat :=
  let n := (s.place d t).head
  if !(s.place d t).used ∨ !(s.half d n).composing then none
  else
    let due := (dueLines (s.tAct d n) (s.tTotal d n) (s.tLine d n)).filter (fun e => e.1 / 512 == (s.place d t).row)
    (due.find? (fun e => !(s.missing d t e.1).isEmpty)).map Prod.fst

/-- The urgency at which the line buffers of die `d` hold P0 (R141, R143). -/
def Dev.p0Floor (s : Dev) (d : Nat) : Nat :=
  let lb := (s.usedTiles d).foldl (fun m t => max m (s.rdF (Reg.HEAD_LB_STAT d t) F.HEAD_LB_STAT_URG)) 0
  if (List.range 4).any (fun n => s.usedOn d n && (s.half d n).urHold) then 3 else lb

/-! ## Addresses -/

/-- Channel of a DRAM address (Table 9-1). -/
def dramChan (a : Nat) : Nat := a / 64 % 2

/-- Bank of a DRAM address, with its bank group in the two low bits (Table 9-1). -/
def dramBank (a : Nat) : Nat :=
  ((a / 2 ^ 12 % 4) ^^^ (a / 2 ^ 16 % 4)) + 4 * ((a / 2 ^ 14 % 4) ^^^ (a / 2 ^ 18 % 4))

/-- Row of a DRAM address (Table 9-1). -/
def dramRow (a : Nat) : Nat := a / 2 ^ 16 % 32768

/-- A channel is in RUN (Table 9-11). -/
def Dev.chanRuns (s : Dev) (d c : Nat) : Bool := s.rdF (Reg.DRC_CH_STAT d c) F.DRC_CH_STAT_STATE == 2

/-- The DRAM of a die is running (R223). -/
def Dev.dramRuns (s : Dev) (d : Nat) : Bool := s.chanRuns d 0 && s.chanRuns d 1

/-! ## Coefficient rows and failed requests -/

/-- No bursts of a row have arrived. -/
def RowF.none : RowF := { got := [], bad := false, second := false }

/-- All 33 bursts of a coefficient row have arrived: its checks, its second fetch, and the flat word (R125). A row that fails both
fetches during a run of the tile has the run rejected (R266, log entry 192). -/
def Dev.rowEnd (s : Dev) (d t r : Nat) (f : RowF) : Dev :=
  let key := rowKey d t r
  let bs := (List.range 33).flatMap (fun k => (f.got.lookup k).getD [])
  let crcOk := !f.bad && crc32c (bs.take 2048) == leAt bs 2048 4
  let tagOk := f.bad || leAt bs 2052 4 == rowTag (8 * d + t) r
  let cnt := Reg.PHO_TILE_CNT d t
  if crcOk && tagOk then
    { s with coefs := s.coefs.put (fun _ => []) key ((List.range 512).map (fun k => leAt bs (4 * k) 4)),
             rows := s.rows.put (fun _ => RowF.none) key RowF.none }
  else if !f.second then
    let s := { s with rows := s.rows.put (fun _ => RowF.none) key { RowF.none with second := true } }
    s.satF cnt F.PHO_TILE_CNT_ROWRETRY 1
  else
    let s := { s with coefs := s.coefs.put (fun _ => []) key (List.replicate 512 flatWord),
                      rows := s.rows.put (fun _ => RowF.none) key RowF.none }
    let s := (s.satF cnt F.PHO_TILE_CNT_ROWFAIL 1).wr (Reg.PHO_FLT_WHERE d) (BitVec.ofNat 32 (t + 0x10000 * r))
    let s := if (s.cal d t).kind = 0 then s else s.setCal d t { s.cal d t with oldRow := true }
    let s := if crcOk then s else s.raise (Reg.PHO_FLT_STAT d) B.PHO_ROW_CHECK
    if tagOk then s else s.raise (Reg.PHO_FLT_STAT d) B.PHO_ROW_TAG

/-- A burst of the coefficient row of a tile's eligible line returns, or fails (R124, R125). -/
def Dev.rowBurst (s : Dev) (d t line addr : Nat) (data : Option (List Byte)) : Dev :=
  let n := (s.place d t).head
  let r := line % 512
  let base := (s.rdL (Reg.PHO_COEF_BASE d t)).toNat + 2112 * r
  let key := rowKey d t r
  if !(s.place d t).used ∨ s.rdLF (Reg.PHO_TILE_CFG d t) F.PHO_TILE_CFG_FLAT = 1 ∨ (s.coefs.lookup key).isSome ∨ addr < base ∨
      base + 2112 ≤ addr ∨ !(dueLines (s.tAct d n) (s.tTotal d n) (s.tLine d n)).any (fun e => e.1 == line) then s
  else
    let f := s.rows.get (fun _ => RowF.none) key
    let k := (addr - base) / 64
    let f : RowF := { f with got := (k, data.getD []) :: f.got.filter (fun e => e.1 != k), bad := f.bad || data.isNone }
    if f.got.length = 33 then s.rowEnd d t r f else { s with rows := s.rows.put (fun _ => RowF.none) key f }

/-- The port of a request on the die whose unit made it (R223). -/
def homePort (r : DramReq) : Nat := if r.port.val = 6 then r.orig.val else r.port.val

/-- Die `d` bins the slot of head `n` that holds address `a`. -/
def Dev.binsAt (s : Dev) (d a n : Nat) : Bool :=
  match (s.half d n).binning with
  | some slot => decide (slotAddr n slot ≤ a) && decide (a < slotAddr n slot + 0x10000)
  | none => false

/-- A request of die `d` fails (Table 9-7). A failed read of a texel counts in RAS_POISON, a failed read of a mesh refuses it, and a
failed read of a slot that is being binned refuses the commit; a failed read of a descriptor ends that descriptor with ERR DRAM
(R326); a failed calibration read is a row of the table in use that cannot be checked (R260, log entry 192). -/
def Dev.reqFails (s : Dev) (d : Nat) (r : DramReq) : Dev :=
  match homePort r, r.tile with
  | 1, some t => if r.write then s else s.rowBurst d t r.line r.addr none
  | 3, some t =>
    if r.write then s
    else
      ({ s with rasPoison := (8 * d + t.val, r.line, r.addr / 64) :: s.rasPoison }).satF (Reg.DRC_ECC_CNT d (dramChan r.addr))
        F.DRC_ECC_CNT_RAS_POISON 1
  | 3, none =>
    if r.write then s
    else forAll (List.range 4) s (fun s n =>
      match (s.half d n).copy with
      | some base => if base ≤ r.addr ∧ r.addr < base + 8768 then s.refuseMesh d n 1 B.HEAD_WARP_MESH_CHECK else s
      | none => s)
  | 2, _ =>
    match r.input with
    | some i =>
      let s := if (s.inp d i).inFrame then s.discardFailed d i else s
      if (s.inp d i).inBatch then s.failBatch d i else s
    | none => s
  | 4, _ =>
    if r.write then s
    else match (List.range 4).find? (s.binsAt d r.addr) with
    | some n =>
      let s := (s.setGenStat n F.HEAD_GEN_STAT_BUSY 0).setGenStat n F.HEAD_GEN_STAT_LOCK 0
      let s := forAll (s.diesOf n) s (fun s e => s.setHalf e n { s.half e n with binning := none })
      (s.refuseCommit (s.masterOf n) n 5).reportWaiting n 5
    | none => { s with host := { s.host with bad := (d, r.addr) :: s.host.bad.filter (· != (d, r.addr)) } }
  | 5, some t =>
    let x := s.cal d t
    if r.write ∨ x.kind = 0 then s else s.setCal d t { x with oldRow := true }
  | _, _ => s

/-- A read of die `d` returns its burst (R123). -/
def Dev.reqReturns (s : Dev) (d : Nat) (r : DramReq) (bs : List Byte) : Dev :=
  match homePort r, r.tile with
  | 1, some t => s.rowBurst d t r.line r.addr (some bs)
  | _, _ => s

/-! ## The request table -/

/-- Entries counted on port `p`. -/
def DrcH.held (x : DrcH) (p : Nat) : Nat := (x.table.filter (fun e => e.port.val == p)).length

/-- MINRES of port `p`; P0 has none (R211). -/
def Dev.minres (s : Dev) (d p : Nat) : Nat := if p = 0 then 0 else s.rdF (Reg.DRC_QOS_TGT d p) F.DRC_QOS_TGT_MINRES

/-- Return slots that the reads of die `d` hold in either table (R33, R210, R223). -/
def Dev.slotsHeld (s : Dev) (d : Nat) : Nat :=
  ((s.drc 0).table ++ (s.drc 1).table).countP (fun e => e.src == d && !e.req.write)

/-- A read of die `d` finds a free return slot, which it reserves before it is issued (R33, Table 1-7); a write needs none. -/
def Dev.slotFree (s : Dev) (d : Nat) (r : DramReq) : Bool := r.write || decide (s.slotsHeld d < Config.returnSlots d)

/-- Port `p` may take a table entry (R211). -/
def Dev.mayAccept (s : Dev) (d p : Nat) : Bool :=
  let x := s.drc d
  let free := 128 - x.table.length
  let owed := ((List.range 7).map (fun q => if q = p then 0 else s.minres d q - x.held q)).sum
  decide (p ≠ 0) && decide (0 < free) && (decide (x.held p < s.minres d p) || decide (owed < free))

/-- An entry's own urgency: its escalation, P0's floor, and what a P6 request carries (R212). -/
def Dev.ownUrgency (s : Dev) (e : DrcEntry) : Nat :=
  max e.esc (max (if e.p0 then s.p0Floor e.src else 0) (if e.port = 6 then e.req.urgency.val else 0))

/-- Two entries meet in one bank and row of a channel. -/
def sameRow (e f : DrcEntry) : Bool :=
  dramChan e.addr == dramChan f.addr && dramBank e.addr == dramBank f.addr && dramRow e.addr == dramRow f.addr

/-- The entries of a table that wait for a grant, oldest first. -/
def DrcH.waiting (x : DrcH) : List DrcEntry := x.table.filter (fun e => !e.granted)

/-- The row of an entry is ORDERED: a waiting write to it is older than a waiting read to it (R214). -/
def DrcH.ordered (x : DrcH) (e : DrcEntry) : Bool :=
  let l := x.waiting.filter (sameRow e)
  l.any (fun w => w.req.write && l.any (fun r => !r.req.write && decide (w.id < r.id)))

/-- An entry must follow an older one: within an ORDERED row, or at one 64-byte address (R214). -/
def DrcH.follows (x : DrcH) (e older : DrcEntry) : Bool :=
  decide (older.id < e.id) && !older.granted && ((sameRow e older && x.ordered e) || e.addr / 64 == older.addr / 64)

/-- An entry's urgency, with what it inherits from younger requests that must follow it (R212, R214). -/
def Dev.urgencyOf (s : Dev) (d : Nat) (e : DrcEntry) : Nat :=
  let x := s.drc d
  (x.waiting.filter (fun f => x.follows f e)).foldl (fun m f => max m (s.ownUrgency f)) (s.ownUrgency e)

/-- DRC_PORT_STATp as it reads: the port's urgency, the entries held and MAXLAT (R212, Table 9-9). -/
def Dev.portStat (s : Dev) (d p : Nat) : Word :=
  let l := (s.drc d).table.filter (fun e => e.port.val == p)
  let urg := l.foldl (fun m e => max m (s.urgencyOf d e)) 0
  fset (fset (s.rd (Reg.DRC_PORT_STAT d p)) F.DRC_PORT_STAT_URG urg) F.DRC_PORT_STAT_INFLIGHT l.length

/-- Requests that have reached urgency 3 count on their port, each once (Table 9-9). -/
def Dev.noteUrgent (s : Dev) (d : Nat) : Dev :=
  let new := (s.drc d).waiting.filter (fun e => !e.noted && s.urgencyOf d e == 3)
  let s := s.setDrc d
    { s.drc d with table := (s.drc d).table.map (fun e => if new.any (fun f => f.id == e.id) then { e with noted := true } else e) }
  forAll new s (fun s e => s.addR (Reg.DRC_PORT_ESC d e.port) 1)

/-- An entry's read serves the oldest incomplete line of its tile (R210). -/
def Dev.servesOldest (s : Dev) (src : Nat) (r : DramReq) : Bool :=
  match r.tile with
  | some t => !r.write && (homePort r == 1 || homePort r == 3) && s.oldestLine src t == some r.line
  | none => false

/-- Promotion of P1 and P3 reads that serve the oldest incomplete line of their tile (R210). -/
def Dev.promoteDie (s : Dev) (d : Nat) : Dev :=
  let s := s.setDrc d
    { s.drc d with table := (s.drc d).table.map (fun e =>
        if !e.p0 && s.servesOldest e.src e.req then { e with p0 := true, port := if e.port = 6 then 6 else 0 } else e) }
  s.noteUrgent d

/-- Promotion of the reads of die `d`, which stand in its own table or in the other die's. -/
def Dev.promote (s : Dev) (d : Nat) : Dev := (s.promoteDie d).promoteDie (1 - d)

/-- An entry takes its place in the table of die `d` (R211). -/
def Dev.enter (s : Dev) (d : Nat) (p : Fin 7) (src addr : Nat) (r : DramReq) : Dev :=
  let x := s.drc d
  let p0 := s.servesOldest src r
  let e : DrcEntry := { id := x.next, port := if p0 ∧ p ≠ 6 then 0 else p, p0 := p0, req := r, src := src, addr := addr, at_ := s.us,
                        esc := 0, granted := false, got := [], passed := 0, noted := false }
  (s.setDrc d { x with table := x.table ++ [e], next := x.next + 1 }).noteUrgent d

/-- A request of die `src` enters the controller of die `d` on port `p`, where it finds a table entry and a return slot (R33, R211); its
snooped write data count once accepted. -/
def Dev.takeReq (s : Dev) (d : Nat) (p : Fin 7) (src addr : Nat) (r : DramReq) : Dev :=
  if !s.dramRuns d ∨ !s.mayAccept d p ∨ !s.slotFree src r then s
  else
    let s := s.enter d p src addr r
    if r.write then s.snoopDram d p addr (r.data.take 64) else s

/-- How a request that enters at die `d` is refused, where it is (R207, R222, R223, R385). A P6 request has met the rules of its own die,
but for the top of the DRAM and the reserved region; calibration and self-test may write the scratch part of the reserved region. -/
def Dev.reqRefusal (s : Dev) (d : Nat) (r : DramReq) : Option (Option Nat) :=
  if r.port.val = 6 then
    if 0x80000000 ≤ r.addr then some (some B.DRC_ADDR_RANGE)
    else if r.write && rsvRefused r.addr r.staging then some (some B.DRC_RSV_WRITE)
    else none
  else s.refusalAt d r.addr r.write (r.staging || (r.port.val == 5 && decide (0x7FF80000 ≤ r.addr)))

/-- A refused request of die `src` at die `d`: a read returns to its requester as failed, and a write is dropped (R207, R223, R385); a
request that finds no DRAM fails (R222). -/
def Dev.reqRefuse (s : Dev) (d src : Nat) (r : DramReq) (why : Option Nat) : Dev :=
  match why with
  | some b => let s := s.raise (Reg.DRC_FLT_STAT d) b; if r.write then s else s.reqFails src r
  | none => s.reqFails src r

/-- DRAM_REQUEST_ACCEPT on die `d` (R207, R209 to R211, R223, R385). A port-6 request is the other die's. A half-memory client's
request goes to P6 of the server, with its port and its urgency. -/
def Dev.reqAccept (s : Dev) (d : Nat) (r : DramReq) : Dev :=
  let r : DramReq := { r with addr := r.addr / 64 * 64 }
  match s.reqRefusal d r with
  | some why => s.reqRefuse d (if r.port.val = 6 then 1 - d else d) r why
  | none =>
  if r.port.val = 6 then s.takeReq d 6 (1 - d) r.addr r
  else match s.drcMap d r.addr with
  | .ok (e, a) =>
    if e = d then s.takeReq d r.port d a r
    else (s.brgSend d (if r.write then 3 else 2)).takeReq e 6 d a { r with port := 6, orig := r.port }
  | .error _ => s

/-- DRAM_REQUEST_ACCEPT. -/
def execDramRequestAccept (d : Die) (r : DramReq) (s : State) : Host.Outcome State Fault Refusal := s.onDev (fun s => s.reqAccept d r)

/-- URGENCY_ESCALATE: a request's age reaches the next fraction of its port's TGT (R212). -/
def Dev.escalate (s : Dev) (d id : Nat) : Dev :=
  (s.setDrc d
    { s.drc d with table := (s.drc d).table.map (fun e => if e.id = id then { e with esc := min 3 (e.esc + 1) } else e) }).noteUrgent d

/-- URGENCY_ESCALATE. -/
def execUrgencyEscalate (d : Die) (id : Nat) (s : State) : Host.Outcome State Fault Refusal := s.onDev (fun s => s.escalate d id)

/-! ## Refresh and row-activate protection -/

/-- M of a channel (R218). -/
def Dev.refMult (s : Dev) (d c : Nat) : Nat := 2 ^ s.rdF (Reg.DRC_CH_STAT d c) F.DRC_CH_STAT_MULT

/-- ALLOW of a channel (R217). -/
def Dev.refAllow (s : Dev) (d c : Nat) : Nat :=
  max 1 (clampN 1 8 (s.rdF (Reg.DRC_REF_CFG d) F.DRC_REF_CFG_POSTPONE) / s.refMult d c)

/-- ALLOW shown. -/
def Dev.showAllow (s : Dev) (d c : Nat) : Dev := s.wrF (Reg.DRC_CH_STAT d c) F.DRC_CH_STAT_ALLOW (s.refAllow d c)

/-- DEBT of a channel (R217). -/
def Dev.debt (s : Dev) (d c : Nat) : Nat := s.rdF (Reg.DRC_CH_STAT d c) F.DRC_CH_STAT_DEBT

/-- `n` all-bank refreshes issue on a channel, whose open rows close (R217). -/
def Dev.refreshes (s : Dev) (d c n : Nat) : Dev :=
  let x := s.drcCh d c
  let banks := (List.range 16).foldl (fun m b => m.put (fun _ => ⟨none, []⟩) b { (m.get (fun _ => ⟨none, []⟩) b) with row := none }) x.banks
  (s.setDrcCh d c { x with banks := banks, win := x.win + n }).addF (Reg.DRC_REF_CNT d c) F.DRC_REF_CNT_ISSUED n

/-- The requests waiting on a channel. -/
def Dev.waitingOn (s : Dev) (d c : Nat) : List DrcEntry := (s.drc d).waiting.filter (fun e => dramChan e.addr == c)

/-- A request of urgency `u` or above waits on a channel. -/
def Dev.urgentOn (s : Dev) (d c u : Nat) : Bool := (s.waitingOn d c).any (fun e => decide (u ≤ s.urgencyOf d e))

/-- A burst that follows a larger M is issued, unless a request at urgency 3 waits (R218). -/
def Dev.burstTry (s : Dev) (d c : Nat) : Dev :=
  let x := s.drcCh d c
  let n := s.debt d c - s.refAllow d c
  if !x.burst then s
  else if n = 0 then s.setDrcCh d c { x with burst := false }
  else if s.urgentOn d c 3 then s
  else
    let s := (s.setDrcCh d c { x with burst := false }).refreshes d c n
    let s := s.wrF (Reg.DRC_CH_STAT d c) F.DRC_CH_STAT_DEBT (s.refAllow d c)
    s.satF (Reg.DRC_REF_CNT d c) F.DRC_REF_CNT_BURSTS 1

/-- A refresh falls due (R217). -/
def Dev.refDue (s : Dev) (d c : Nat) : Dev :=
  if !s.chanRuns d c then s
  else if s.refAllow d c < s.debt d c + 1 then
    ((s.refreshes d c 1).satF (Reg.DRC_REF_CNT d c) F.DRC_REF_CNT_FORCED 1).raise (Reg.DRC_FLT_STAT d) B.DRC_REF_FORCED
  else s.wrF (Reg.DRC_CH_STAT d c) F.DRC_CH_STAT_DEBT (s.debt d c + 1)

/-- REFRESH_DUE. -/
def execRefreshDue (d : Die) (c : Fin 2) (s : State) : Host.Outcome State Fault Refusal :=
  s.onDev (fun s => (s.refDue d c).burstTry d c)

/-- Idle issue (R217). -/
def Dev.refIdle (s : Dev) (d c : Nat) : Dev :=
  let u := max 1 (s.rdF (Reg.DRC_REF_CFG d) F.DRC_REF_CFG_DEFER_URG)
  if !s.chanRuns d c ∨ s.debt d c = 0 ∨ s.urgentOn d c u then s
  else
    let s := (s.refreshes d c (s.debt d c)).wrF (Reg.DRC_CH_STAT d c) F.DRC_CH_STAT_DEBT 0
    s.setDrcCh d c { s.drcCh d c with burst := false }

/-- REFRESH_IDLE_ISSUE. -/
def execRefreshIdleIssue (d : Die) (c : Fin 2) (s : State) : Host.Outcome State Fault Refusal := s.onDev (fun s => s.refIdle d c)

/-- The trigger of a neighbour refresh (R219, R220). -/
def Dev.rhThresh (s : Dev) (d : Nat) : Nat :=
  let t := clampN 512 16384 (s.rdF (Reg.DRC_RH_CFG d) F.DRC_RH_CFG_THRESH)
  if s.rdF (Reg.DRC_STAT d) F.DRC_STAT_FIRSTWIN = 1 then t / 2 else t

/-- The lowest count of a table, 0 of an empty one. -/
def lowCount : List (Nat × Nat) → Nat
  | [] => 0
  | e :: l => l.foldl (fun m f => min m f.2) e.2

/-- The row that a table of 64 entries gives up: the lowest count, the lowest row on a tie (R219). -/
def lowRow (l : List (Nat × Nat)) : Nat :=
  (l.foldl (fun (m : Option (Nat × Nat)) e =>
    match m with
    | none => some e
    | some f => if e.2 < f.2 ∨ (e.2 = f.2 ∧ e.1 < f.1) then some e else some f) none).elim 0 Prod.fst

/-- The table of a bank after an activation of row `r` (R219). -/
def countAct (l : List (Nat × Nat)) (r : Nat) : List (Nat × Nat) :=
  match l.lookup r with
  | some n => (r, n + 1) :: l.filter (fun e => e.1 != r)
  | none => if l.length < 64 then (r, 1) :: l else (r, lowCount l + 1) :: l.filter (fun e => e.1 != lowRow l)

/-- The neighbours of a row that a neighbour refresh takes (R219). -/
def neighbours (dist r : Nat) : List Nat :=
  (if 1 ≤ r then [r - 1] else []) ++ (if r + 1 ≤ 32767 then [r + 1] else []) ++
    (if dist = 1 then (if 2 ≤ r then [r - 2] else []) ++ (if r + 2 ≤ 32767 then [r + 2] else []) else [])

/-- The table of a bank after row `r` gave its neighbours a refresh: its count becomes the lowest of the other entries (R219). -/
def lowered (l : List (Nat × Nat)) (r : Nat) : List (Nat × Nat) :=
  let others := l.filter (fun e => e.1 != r)
  if others.length = l.length then l else (r, lowCount others) :: others

/-- An activation of row `r` of a bank with a table and a count of neighbour refreshes (R219): where the count of `r` reaches the
trigger its neighbours are activated in turn, which counts as well (log entry 193). The rows in `busy` are giving their neighbours a
refresh already. -/
def rhAct (thresh dist : Nat) : Nat → List Nat → List (Nat × Nat) × Nat → Nat → List (Nat × Nat) × Nat
  | 0, _, x, r => (countAct x.1 r, x.2)
  | k + 1, busy, x, r =>
    let acts := countAct x.1 r
    if thresh ≤ (acts.lookup r).getD 0 ∧ !busy.contains r then
      let y := (neighbours dist r).foldl (rhAct thresh dist k (r :: busy)) (acts, x.2 + 1)
      (lowered y.1 r, y.2)
    else (acts, x.2)

/-- An activation of row `r` of a bank, and the neighbour refreshes that it brings (R219): the bank is closed after them. -/
def Dev.activate (s : Dev) (d c b r : Nat) : Dev :=
  let x := s.drcCh d c
  let k := x.banks.get (fun _ => ⟨none, []⟩) b
  let y := rhAct (s.rhThresh d) (s.rdF (Reg.DRC_RH_CFG d) F.DRC_RH_CFG_DIST) 16 [] (k.acts, 0) r
  let k : BankH := { row := if y.2 = 0 then some r else none, acts := y.1 }
  (s.setDrcCh d c { x with banks := x.banks.put (fun _ => ⟨none, []⟩) b k }).addR (Reg.DRC_RH_CNT d c) y.2

/-- A window of 8,192 refreshes ends (R219, R220): FIRSTWIN clears once a full window has ended on both channels. -/
def Dev.rhWindow (s : Dev) (d c : Nat) : Dev :=
  let x := s.drcCh d c
  if x.win < 8192 then s
  else
    let banks := (List.range 16).foldl (fun m b => m.put (fun _ => ⟨none, []⟩) b { (m.get (fun _ => ⟨none, []⟩) b) with acts := [] }) x.banks
    let s := s.setDrcCh d c { x with banks := banks, win := x.win - 8192, full := true, fullEnded := x.fullEnded || x.full }
    if (s.drcCh d 0).fullEnded ∧ (s.drcCh d 1).fullEnded then s.wrF (Reg.DRC_STAT d) F.DRC_STAT_FIRSTWIN 0 else s

/-- RH_WINDOW_END. -/
def execRhWindowEnd (d : Die) (c : Fin 2) (s : State) : Host.Outcome State Fault Refusal := s.onDev (fun s => s.rhWindow d c)

/-! ## Grants -/

/-- A waiting entry may be issued: nothing older must go before it (R214). -/
def DrcH.free (x : DrcH) (e : DrcEntry) : Bool := !x.waiting.any (fun f => x.follows e f)

/-- The bank of an entry has its row open. -/
def Dev.rowHit (s : Dev) (d : Nat) (e : DrcEntry) : Bool :=
  ((s.drcCh d (dramChan e.addr)).banks.get (fun _ => ⟨none, []⟩) (dramBank e.addr)).row == some (dramRow e.addr)

/-- The entries of a channel that R213 and R214 let be granted, oldest first. -/
def Dev.grantable (s : Dev) (d c : Nat) : List DrcEntry :=
  let x := s.drc d
  let l := s.waitingOn d c
  let top := l.foldl (fun m e => max m (s.urgencyOf d e)) 0
  l.filter (fun e => s.urgencyOf d e == top && x.free e)

/-- The next grant of a channel (R213); no bypass limit exceeds 64 (R30). -/
def Dev.nextGrant (s : Dev) (d c : Nat) : Option DrcEntry :=
  match s.grantable d c with
  | [] => none
  | old :: l =>
    let bypass := clampN 1 64 (s.rdF (Reg.DRC_SCHED d) F.DRC_SCHED_BYPASS)
    if s.urgencyOf d old = 3 ∨ bypass ≤ old.passed then some old
    else
      let all := old :: l
      let kind := all.filter (fun e => e.req.write == (s.drcCh d c).wrFirst)
      let pool := if kind.isEmpty then all else kind
      match pool.find? (s.rowHit d) with
      | some e => some e
      | none => pool.head?

/-- Writes come first from WR_HI waiting writes until WR_LO remain (R213). -/
def Dev.writeTurn (s : Dev) (d c : Nat) : Dev :=
  let n := ((s.waitingOn d c).filter (fun e => e.req.write)).length
  let x := s.drcCh d c
  let on := if x.wrFirst then decide (s.rdF (Reg.DRC_SCHED d) F.DRC_SCHED_WR_LO < n) else decide (s.rdF (Reg.DRC_SCHED d) F.DRC_SCHED_WR_HI ≤ n ∧ 0 < n)
  s.setDrcCh d c { x with wrFirst := on }

/-- An entry leaves the table, complete: the longest completion of its port (Table 9-9). The answer to the other die goes out on bridge
VC1, and a free entry lets the receive buffers drain (R34). -/
def Dev.complete (s : Dev) (d : Nat) (e : DrcEntry) : Dev :=
  let a := Reg.DRC_PORT_STAT d e.port
  let s := s.setDrc d { s.drc d with table := (s.drc d).table.filter (fun f => f.id != e.id) }
  let s := (if e.port = 6 then s.brgSend d 1 else s).brgDrain d
  s.wrF a F.DRC_PORT_STAT_MAXLAT (max (s.rdF a F.DRC_PORT_STAT_MAXLAT) (min 0xFFFF (10 * (s.us - e.at_))))

/-- The grant of an entry: its row is activated where it is not open, older entries count a bypass, and a read takes its data
(R213, R219). -/
def Dev.grantEntry (s : Dev) (m : Mems) (d c : Nat) (e : DrcEntry) : Dev :=
  let old := ((s.grantable d c).head?.map (fun o => o.id)).getD e.id
  let s := if s.rowHit d e then s else s.activate d c (dramBank e.addr) (dramRow e.addr)
  let s := s.setDrc d
    { s.drc d with table := (s.drc d).table.map (fun f =>
        if f.id = e.id then { f with granted := true, got := if e.req.write then [] else m.dramRead d e.addr 64 }
        else if f.id = old then { f with passed := f.passed + 1 } else f) }
  if e.req.write then s.complete d e else s

/-- DRAM_GRANT (R213). A refresh burst that waits goes before it where no request at urgency 3 is left (R218). -/
def State.dramGrant (s : State) (d c : Nat) : State :=
  let v := (s.dev.burstTry d c).writeTurn d c
  if !v.chanRuns d c then s
  else match v.nextGrant d c with
  | none => { s with dev := v }
  | some e =>
    { s with dev := (v.grantEntry s.mem d c e).burstTry d c,
             mem := if e.req.write then s.mem.dramWrite d e.addr (e.req.data.take 64) else s.mem }

/-- DRAM_GRANT. -/
def execDramGrant (d : Die) (c : Fin 2) (s : State) : Host.Outcome State Fault Refusal := .next (s.dramGrant d c)

/-! ## Failure and half-memory mode -/

/-- Every head with tiles on a half-memory client whose mode is faster than 120 Hz is capped (R224): `load` says that the capped mode
is loaded at start-up; in service it is written, and latches at the head's next dusk. -/
def Dev.capHeads (s : Dev) (d : Nat) (load : Bool) : Dev :=
  forAll ((List.range 4).filter (s.usedOn d)) s (fun s n =>
    let m := s.masterOf n
    let tot := s.tTotal m n
    if tot = 0 ∨ 6666667 ≤ framePeriod (s.tPer m n) tot then s
    else
      let lp := (6666667 * 256 + tot - 1) / tot
      let s := (s.wrF (Reg.HEAD_TLINE m n) F.HEAD_TLINE_LINE_PER lp).wrF (Reg.HEAD_TTOTAL m n) F.HEAD_TTOTAL_TOTAL tot
      if load then
        forAll (s.diesOf n) ((s.latch (Reg.HEAD_TLINE m n)).latch (Reg.HEAD_TTOTAL m n)) (fun s e => s.takeMode e n)
      else s)

/-- Entry to half-memory mode: `d` is the client (R222 to R224), whose calibration runs wait for new bases (R266). Where the bridge carries less than its demand, Table 1-9 applies. -/
def Dev.hmEnter (s : Dev) (d : Nat) (load : Bool) : Dev :=
  let s := (s.wrF (Reg.DRC_STAT d) F.DRC_STAT_ROLE 1).wrF (Reg.DRC_STAT d) F.DRC_STAT_HALTED 1
  let s := s.wrF (Reg.DRC_STAT (1 - d)) F.DRC_STAT_ROLE 2
  let s := forAll [d, 1 - d] s (fun s e => s.raise (Reg.DRC_FLT_STAT e) B.DRC_HM_ENTER)
  let s := ((s.stopDie d .dram).abandonDie d 8).capHeads d load
  let s := forAll (List.range 8) s (fun s t => s.setCal d t { s.cal d t with rebase := 3 })
  if s.bridgeShort then s.bridgeStop else s

/-- A die has no DRAM service (R222). -/
def Dev.noDram (s : Dev) (d : Nat) : Dev :=
  (s.wrF (Reg.DRC_STAT d) F.DRC_STAT_ROLE 3).stopDie d .dram

/-- The die whose DRAM has failed becomes a client of the other die, or has no DRAM service (R222, Table 9-8). -/
def Dev.drcRoles (s : Dev) (d : Nat) (load : Bool) : Dev :=
  let e := 1 - d
  if s.drcRole d = 2 then (s.noDram d).noDram e
  else if s.drcRole d ≠ 0 then s
  else if s.dramRuns e ∧ s.drcRole e = 0 ∧ !s.pwr.lost.contains e then s.hmEnter d load
  else s.noDram d

/-- Channel `c` of a die's DRAM is FAILED: both channels stop, DRAM_FAIL is raised, and every request in the table ends
(R222). -/
def Dev.dramStop (s : Dev) (d c : Nat) : Dev :=
  let s := s.wrF (Reg.DRC_CH_STAT d c) F.DRC_CH_STAT_STATE 3
  let s := if s.chanRuns d (1 - c) then s.wrF (Reg.DRC_CH_STAT d (1 - c)) F.DRC_CH_STAT_STATE 0 else s
  let s := (s.wrF (Reg.DRC_STAT d) F.DRC_STAT_CH0_OK 0).wrF (Reg.DRC_STAT d) F.DRC_STAT_CH1_OK 0
  let s := s.causeOn (Reg.DRC_FLT_STAT d) B.DRC_DRAM_FAIL
  let l := (s.drc d).table
  let s := s.setDrc d { s.drc d with table := [] }
  let s := forAll [0, 1] s (fun s k => s.setDrcCh d k { s.drcCh d k with burst := false })
  forAll l s (fun s e => s.reqFails e.src e.req)

/-- A channel fails in service (R222). -/
def Dev.dramLoss (s : Dev) (d c : Nat) : Dev := if s.chanRuns d c then (s.dramStop d c).drcRoles d false else s

/-- DRAM_FAIL. -/
def execDramFail (d : Die) (c : Fin 2) (s : State) : Host.Outcome State Fault Refusal := s.onDev (fun s => s.dramLoss d c)

/-! ## Reads, MR4 and training -/

/-- An uncorrectable read error on a channel (R208, R222): 16 within 1 ms fail the channel. -/
def Dev.uncorrectable (s : Dev) (d c : Nat) : Dev :=
  let s := (s.satF (Reg.DRC_ECC_CNT d c) F.DRC_ECC_CNT_UNCORR 1).raise (Reg.DRC_FLT_STAT d) B.DRC_UNCORR
  let x := s.drcCh d c
  let errs := s.us :: x.errs.filter (fun t => decide (s.us - t ≤ 1000))
  let s := s.setDrcCh d c { x with errs := errs }
  if 16 ≤ errs.length then s.dramLoss d c else s

/-- Read data return to their slot (R208). -/
def Dev.readReturn (s : Dev) (d id : Nat) (ecc : EccResult) : Dev :=
  match (s.drc d).table.find? (fun e => e.id == id && e.granted) with
  | none => s
  | some e =>
    let c := dramChan e.addr
    let s := s.complete d e
    let s := match ecc with
      | .ok => s.reqReturns e.src e.req e.got
      | .corrected => (s.satF (Reg.DRC_ECC_CNT d c) F.DRC_ECC_CNT_CORR 1).reqReturns e.src e.req e.got
      | .uncorrectable => (s.reqFails e.src e.req).uncorrectable d c
    s.promote e.src

/-- DRAM_READ_RETURN. -/
def execDramReadReturn (d : Die) (id : Nat) (ecc : EccResult) (s : State) : Host.Outcome State Fault Refusal :=
  s.onDev (fun s => s.readReturn d id ecc)

/-- SPAN_DONE: a finished span may complete a line, and the next one's reads are promoted (R63, R210). -/
def execSpanDone (d : Die) (pipe : Fin 4) (binErr : Bool) (s : State) : Host.Outcome State Fault Refusal :=
  s.onDev (fun v => (v.finishSpan s.mem d pipe binErr).promote d)

/-- What the refresh-rate field of an MR4 operand says (JESD209-5, log entry 16): M as a power of two, or a report beyond the 4 ×
range; none for a code that the standard reserves. -/
def mr4Rate (v : Nat) : Option (Option Nat) :=
  let r := v % 32
  if r ≤ 9 then some (some 0) else if r ≤ 11 then some (some 1) else if r ≤ 13 then some (some 2)
  else if r ≤ 15 ∨ r = 31 then some none else none

/-- A new M on a channel (R218). -/
def Dev.setMult (s : Dev) (d c k : Nat) : Dev :=
  let old := s.rdF (Reg.DRC_CH_STAT d c) F.DRC_CH_STAT_MULT
  let s := (s.wrF (Reg.DRC_CH_STAT d c) F.DRC_CH_STAT_MULT k).showAllow d c
  if old < k ∧ s.refAllow d c < s.debt d c then (s.setDrcCh d c { s.drcCh d c with burst := true }).burstTry d c
  else s

/-- A read of MR4 (R218): the operand, or none where it returned no data or an uncorrectable error (R222). -/
def Dev.mr4 (s : Dev) (d c : Nat) (operand : Option Byte) : Dev :=
  if !s.chanRuns d c then s
  else match operand with
  | none =>
    let n := (s.drcCh d c).mr4Bad + 1
    let s := s.setDrcCh d c { s.drcCh d c with mr4Bad := n }
    if 2 ≤ n then s.dramLoss d c else s
  | some v =>
    let s := s.setDrcCh d c { s.drcCh d c with mr4Bad := 0 }
    let s := s.wrF (Reg.DRC_CH_STAT d c) F.DRC_CH_STAT_MR4 v.toNat
    match mr4Rate v.toNat with
    | none => s
    | some none => (s.setMult d c 2).causeOn (Reg.DRC_FLT_STAT d) B.DRC_DRAM_HOT
    | some (some k) =>
      let s := s.setMult d c k
      if mr4Rate (s.rdF (Reg.DRC_CH_STAT d (1 - c)) F.DRC_CH_STAT_MR4) = some none then s
      else s.causeOff (Reg.DRC_FLT_STAT d) B.DRC_DRAM_HOT

/-- MR4_READ. -/
def execMr4Read (d : Die) (c : Fin 2) (operand : Option Byte) (s : State) : Host.Outcome State Fault Refusal :=
  s.onDev (fun s => s.mr4 d c operand)

/-- Training of one channel ends (R220, R221). -/
def Dev.trainChan (s : Dev) (d c : Nat) (e : TrainEnd) : Dev :=
  let st := Reg.DRC_CH_STAT d c
  let tr := Reg.DRC_TRAIN_STAT d c
  let s := (s.setDrcCh d c { DrcCh.init with win := (s.drcCh d c).win, full := (s.drcCh d c).win == 0 }).wrF tr F.DRC_TRAIN_STAT_ATTEMPTS e.attempts
  let s := s.wrF tr F.DRC_TRAIN_STAT_STEP e.step
  if e.failed then (s.wrF st F.DRC_CH_STAT_STATE 3).causeOn (Reg.DRC_FLT_STAT d) B.DRC_TRAIN_FAIL
  else
    let s := ((s.wrF st F.DRC_CH_STAT_STATE 2).showAllow d c)
    s.wrF (Reg.DRC_STAT d) (if c = 0 then F.DRC_STAT_CH0_OK else F.DRC_STAT_CH1_OK) 1

/-- A die's training has ended in failure. -/
def Dev.trainFailed (s : Dev) (d : Nat) : Bool := (s.drc d).trained && !s.dramRuns d

/-- Training of a die ends (R220 to R223): once both dies have trained, or the other die is lost, a die that failed becomes a client
or has no DRAM. -/
def Dev.trainDone (s : Dev) (d : Nat) (c0 c1 : TrainEnd) : Dev :=
  let training := fun c => s.rdF (Reg.DRC_CH_STAT d c) F.DRC_CH_STAT_STATE == 1
  if s.power ≠ 1 ∨ !training 0 ∨ !training 1 then s
  else
    let s := ((s.setDrc d { s.drc d with trained := true }).trainChan d 0 c0).trainChan d 1 c1
    let s := s.wrF (Reg.DRC_STAT d) F.DRC_STAT_FIRSTWIN 1
    let s := if c0.failed then s.dramStop d 0 else s
    let s := if c1.failed then s.dramStop d 1 else s
    let ready := fun e => (s.drc e).trained || s.pwr.lost.contains e
    if ready 0 && ready 1 then
      forAll ((List.range 2).filter s.trainFailed) s (fun s e => s.drcRoles e true)
    else s

/-- DRAM_TRAIN_DONE. -/
def execDramTrainDone (d : Die) (c0 : TrainEnd) (c1 : TrainEnd) (s : State) : Host.Outcome State Fault Refusal :=
  s.onDev (fun s => s.trainDone d c0 c1)

/-- RESUME (R224). -/
def Dev.resume (s : Dev) (d : Nat) : Dev :=
  if s.drcRole d ≠ 1 ∨ s.rdF (Reg.DRC_STAT d) F.DRC_STAT_HALTED = 0 then s
  else if s.linksUp < 2 then s.raise (Reg.DRC_FLT_STAT d) B.DRC_RESUME_NOLINK
  else
    let s := (s.wrF (Reg.DRC_STAT d) F.DRC_STAT_HALTED 0).safeFillDieEnd d .dram
    if s.power = 3 then
      forAll ((List.range 4).filter (s.usedOn d)) s (fun s n => s.setHalf d n { s.half d n with armed := true })
    else s

/-- RESUME. -/
def execResume (d : Die) (s : State) : Host.Outcome State Fault Refusal := s.onDev (fun s => s.resume d)

/-! ## Loss of a die -/

/-- A compositor die that is held in reset takes its DRAM die with it (R27): both channels stop, every request of or to it ends, and a
half-memory client that it serves stops composing (Table 1-9). -/
def Dev.loseDram (s : Dev) (d : Nat) : Dev :=
  let s := forAll [0, 1] s (fun s c => s.wrF (Reg.DRC_CH_STAT d c) F.DRC_CH_STAT_STATE 0)
  let s := (s.wrF (Reg.DRC_STAT d) F.DRC_STAT_CH0_OK 0).wrF (Reg.DRC_STAT d) F.DRC_STAT_CH1_OK 0
  let l := (s.drc d).table.filter (fun e => e.src != d)
  let s := s.setDrc d { s.drc d with table := [] }
  let s := s.setDrc (1 - d) { s.drc (1 - d) with table := (s.drc (1 - d)).table.filter (fun e => e.src != d) }
  let s := forAll l s (fun s e => s.reqFails e.src e.req)
  if s.drcRole (1 - d) = 1 then s.stopDie (1 - d) .bridge else s

/-- A compositor die counts as failed (R27, Table 1-1, Table 1-9, Table 16-6): its tiles fall to safe-fill, its DRAM goes with it, the
power dies leave its data channels, and loss of CD0 is SAFE source `src`. -/
def Dev.loseDie (s : Dev) (d src : Nat) : Dev :=
  if s.pwr.lost.contains d then s
  else
    let s := { s with pwr := { s.pwr with lost := d :: s.pwr.lost } }
    let s := ((s.stopDie d .dieLost).peerLost).loseDram d
    let s := forAll (List.range 2) s (fun s h => s.dcDown h d)
    if d = 0 then s.requestSafe src else s

/-- Loss of a supervisor link (R17, Table 1-1). -/
def Dev.supLost (s : Dev) (d : Nat) : Dev :=
  let s := (s.wrF (Reg.FAB_DIE_STAT d) F.FAB_DIE_STAT_SUP_UP 0).causeOn (Reg.FAB_DIE_FLT_STAT d) B.FAB_DIE_SUP_LINK
  if d = 0 then s.requestSafe 4 else s.loseDie 1 4

/-- SUP_LINK_LOST. -/
def execSupLinkLost (d : Die) (s : State) : Host.Outcome State Fault Refusal := s.onDev (fun s => s.supLost d)

/-- The reference in use of a die's core PLL is lost (R26, Table 16-6): the PLL takes the second tile quad's reference, or the
die is lost where that is absent too. -/
def Dev.coreRef (s : Dev) (d : Nat) (second : Bool) : Dev :=
  if second then (s.causeOn Reg.VSP_PWR_FLT_STAT B.VSP_PWR_CLOCK).loseDie d 5
  else if s.rdF (Reg.FAB_DIE_STAT d) F.FAB_DIE_STAT_CORE_REF = 1 then s
  else (s.wrF (Reg.FAB_DIE_STAT d) F.FAB_DIE_STAT_CORE_REF 1).raise (Reg.FAB_DIE_FLT_STAT d) B.FAB_DIE_REF_SWITCH

/-- CORE_REF_LOSS. -/
def execCoreRefLoss (d : Die) (second : Bool) (s : State) : Host.Outcome State Fault Refusal := s.onDev (fun s => s.coreRef d second)

end Sys2Proof.Machine
end

