-- ==== Sys2Proof/Machine/Zones.lean ====
section
/-! DEFINITION. Zones of the Parouvi Zone Protocol: entries, resolution, latches and what a latched level does (R336, R338 to
R340, R345). -/

namespace Sys2Proof.Machine

/-! ## Entries -/

/-- A zone entry from its 16 bytes (Table 15-7). -/
def zoneOf (b : List Byte) : ZoneE :=
  { kind := leAt b 0 1, classes := leAt b 1 1, dflt := leAt b 2 1, loss := leAt b 3 1,
    target := (slice b 4 8).map BitVec.toNat, dutyMax := leAt b 12 2, iset := leAt b 14 2 % 4096 }

/-- A zone number names a zone: below 2,048 and used (REASON 3, R343). -/
def Dev.zoneUsed (s : Dev) (z : Nat) : Bool := decide (z < 2048 ∧ 1 ≤ (s.zone z).kind ∧ (s.zone z).kind ≤ 3)

/-- Byte `k` of TARGET. -/
def ZoneE.tgt (e : ZoneE) (k : Nat) : Nat := e.target.getD (k - 4) 0

/-- The rectangle of a head region: X0, X1, Y0, Y1, packed from bit 0 of bytes 5 to 11. -/
def ZoneE.rect (e : ZoneE) : Nat × Nat × Nat × Nat :=
  let w := (e.target.drop 1).foldr (fun b w => b % 256 + 256 * w) 0
  (w % 8192, w / 2 ^ 13 % 8192, w / 2 ^ 26 % 8192, w / 2 ^ 39 % 8192)

/-- The channels of a string zone (Table 15-7). -/
def ZoneE.chans (e : ZoneE) : List Nat := if e.kind = 2 then (List.range' (e.tgt 4) (e.tgt 5)).filter (· < 128) else []

/-- The power die and back-buffer entry of a matrix zone (R241). -/
def ZoneE.entry (e : ZoneE) : Nat × Nat := (e.tgt 4 % 2, e.tgt 6 * 64 + e.tgt 7)

/-- The channel that carries the column of a matrix zone. -/
def ZoneE.column (e : ZoneE) : Nat := 64 * (e.tgt 4 % 2) + e.tgt 7 % 64

/-- The tiles that a head region meets, as 8 * die + tile (R88). -/
def Dev.zoneTiles (s : Dev) (e : ZoneE) : List Nat :=
  let (x0, x1, y0, y1) := e.rect
  (List.range 16).filter (fun k =>
    let p := s.place (k / 8) (k % 8)
    p.used && p.head == e.tgt 4 && decide (512 * p.col ≤ x1 ∧ x0 < 512 * p.col + 512) && decide (512 * p.row ≤ y1 ∧ y0 < 512 * p.row + 512))

/-- A tile is in safe-fill or FAILED (R336): as commanded, as its STATUS says, or as its lane stands. -/
def Dev.tileError (s : Dev) (d t : Nat) : Bool :=
  let st := s.dstate d t
  st == 3 || st == 4 || s.laneState d t == 4 || s.rdF (Reg.LANE_TILE_STAT d t) F.LANE_TILE_STAT_TSTATE == 1

/-- A channel is FAILED, or holds a latched OPEN, SHORT_FULL or SINK fault (R336). -/
def Dev.chanError (s : Dev) (c : Nat) : Bool :=
  let a := Reg.CH_FLT_STAT c
  (s.chan c).failed || s.rdB a B.CH_OPEN || s.rdB a B.CH_SHORT_FULL || s.rdB a B.CH_SINK

/-- A zone reports Error (R336). -/
def Dev.zoneError (s : Dev) (z : Nat) : Bool :=
  let e := s.zone z
  match e.kind with
  | 1 => (s.zoneTiles e).any (fun k => s.tileError (k / 8) (k % 8))
  | 2 => e.chans.any s.chanError
  | 3 => s.chanError e.column
  | _ => false

/-! ## Resolution -/

/-- The requests on a zone whose class it accepts, in the order of acceptance (R345). -/
def Dev.candidates (s : Dev) (z : Nat) : List ZReq :=
  s.pzp.reqs.filter (fun r => r.zone == z && (s.zone z).classes.testBit r.cls)

/-- A request prevails over one accepted earlier: a higher class, or a higher level in its class (R345). -/
def ZReq.beats (r w : ZReq) : Bool := decide (r.cls < w.cls) || (r.cls == w.cls && decide (w.level < r.level))

/-- The winner among candidates in the order of acceptance. -/
def winner : List ZReq → Option ZReq
  | [] => none
  | r :: l => some (l.foldl (fun w x => if x.beats w then x else w) r)

/-- LOSS is in force on a zone (R342). -/
def Dev.lossOn (s : Dev) (z : Nat) : Bool := s.pzp.loss.contains z && (s.candidates z).isEmpty

/-- The resolved level of a zone (R345). -/
def Dev.resolved (s : Dev) (z : Nat) : Nat :=
  match winner (s.candidates z) with
  | some r => r.level
  | none => if s.lossOn z then (s.zone z).loss else (s.zone z).dflt

/-- What PZP_ZONEz takes at a latch (Table 15-12). -/
def Dev.zoneWord (s : Dev) (z : Nat) : Word :=
  let w := winner (s.candidates z)
  let l := s.resolved z
  BitVec.ofNat 32 (l + 0x100 * (w.map ZReq.cls).getD 7 + 0x800 * b2n (s.lossOn z) + 0x10000 * (w.map ZReq.sess).getD 0)

/-! ## Latches -/

/-- A zone latches; a change goes out on vector 40 (R328, R339). -/
def Dev.latchZone (s : Dev) (z : Nat) : Dev :=
  let w := s.zoneWord z
  if s.rd (Reg.PZP_ZONE z) = w then s else (s.wr (Reg.PZP_ZONE z) w).emit (.msix 40)

/-- The latched level of a zone. -/
def Dev.latchedLevel (s : Dev) (z : Nat) : Nat := s.rdF (Reg.PZP_ZONE z) F.PZP_ZONE_LEVEL

/-- Every zone entry in use of a kind. -/
def Dev.zonesOf (s : Dev) (kind : Nat) : List Nat := ((s.cfg.zones.filter (fun e => e.2.kind == kind)).map Prod.fst).filter (· < 2048)

/-- Of the zones that cover one channel or entry, the one whose values it takes: the highest level, then the lowest number (R340). -/
def Dev.governing (s : Dev) (l : List Nat) : Option Nat :=
  match l with
  | [] => none
  | z :: l => some (l.foldl (fun b x => if s.latchedLevel b < s.latchedLevel x then x else b) z)

/-- ISET and DUTY of a zone at its latched level (R339). -/
def Dev.zoneSet (s : Dev) (z : Nat) : Nat × Nat :=
  let e := s.zone z
  let l := s.latchedLevel z
  (if l = 0 then 0 else e.iset, (l * e.dutyMax + 125) / 250)

/-- A value that a zone gives a register of its power die, at offset `o`: it goes out on the active data channel; while that is down the
zone waits for a later latch (R20, R226, R339; log entry 214). -/
def Dev.zoneWrite (s : Dev) (h o : Nat) (v : Word) : Dev := if s.linked h then s.writeHv h o v else s

/-- String zones applied (R339, R340): every covered channel that is no gang member takes the values of one zone. -/
def Dev.applyStrings (s : Dev) : Dev :=
  let zs := s.zonesOf 2
  forAll (List.range 128) s (fun s c =>
    match s.governing (zs.filter (fun z => (s.zone z).chans.contains c)) with
    | none => s
    | some z =>
      if s.isMember c then s
      else
        let h := hvOf c
        (s.zoneWrite h (Reg.CH_ISET c - Reg.hv h) (BitVec.ofNat 32 (s.zoneSet z).1)).zoneWrite h (Reg.CH_DUTY c - Reg.hv h)
          (BitVec.ofNat 32 (s.zoneSet z).2))

/-- The back-buffer word of a matrix zone at its latched level (R241). -/
def Dev.mxWord (s : Dev) (z : Nat) : Word := BitVec.ofNat 32 ((s.zoneSet z).2 % 65536 + 0x10000 * (s.zoneSet z).1)

/-- Matrix zones applied (R339, R340): the changed entries are written, and each group that they belong to is armed for a swap. -/
def Dev.applyMatrix (s : Dev) : Dev :=
  let zs := s.zonesOf 3
  let todo := zs.filter (fun z =>
    let e := (s.zone z).entry
    s.linked e.1 && s.governing (zs.filter (fun y => (s.zone y).entry == e)) == some z && s.rd (Reg.BST_MX_BACK e.1 e.2) != s.mxWord z)
  let s := forAll todo s (fun s z =>
    let e := (s.zone z).entry
    s.zoneWrite e.1 (Reg.BST_MX_BACK e.1 e.2 - Reg.hv e.1) (s.mxWord z))
  forAll (List.range 2) s (fun s h =>
    let w := todo.foldl (fun w z => if (s.zone z).entry.1 = h then bitSet w ((s.zone z).tgt 5 % 8) else w) 0#32
    if w = 0#32 then s else s.mxSwap h w)

/-- String and matrix zones latch and are applied (R339). -/
def Dev.latchLight (s : Dev) : Dev := ((forAll (s.zonesOf 2 ++ s.zonesOf 3) s (fun s z => s.latchZone z)).applyStrings).applyMatrix

/-- At a dusk of the master of head `n`: its head-region zones latch unless HOLD defers them, and REFHEAD's dusk latches the string and
matrix zones (R339, R347). -/
def Dev.zoneDusk (s : Dev) (n : Nat) (held : Bool) : Dev :=
  let s := if held then s
    else forAll ((s.zonesOf 1).filter (fun z => (s.zone z).tgt 4 == n)) s (fun s z => s.latchZone z)
  if s.cfg.zhead.refhead = n then s.latchLight else s

/-- ZONE_LATCH: with REFHEAD 0xFF, string and matrix zones latch every 10 ms (R339); otherwise they latch at the dusks of REFHEAD. -/
def execZoneLatch (s : State) : Host.Outcome State Fault Refusal :=
  s.onDev (fun s => if s.cfg.zhead.refhead = 0xFF ∧ s.pwr.delivered ∧ s.power ≠ 0 then s.latchLight else s)

end Sys2Proof.Machine
end

