-- ==== Sys2Proof/Machine/Timing.lean ====
section
/-! DEFINITION. Timing generators: lines, timing points, latching, mode changes, underrun and spanning heads (R129 to R150). -/

namespace Sys2Proof.Machine

/-! ## Modes and points -/

/-- A mode written to registers is valid (R131); a head with tiles on a half-memory client is capped at 120 Hz (R224). -/
def Dev.modeOk (s : Dev) (n linePer total : Nat) : Bool :=
  let p := framePeriod linePer total
  let act := s.tAct (s.masterOf n) n
  let img := s.imageMode (s.masterOf n) n
  decide (3996000 ≤ p) && decide (p ≤ 13346666) && decide (act + 26 + twLines linePer ≤ total) && decide (total ≤ 16383) &&
    decide (img.1 ≤ linePer) && decide (img.2 ≤ p) &&
    ((s.diesOf n).all (fun d => s.drcRole d != 1) || decide (6660000 ≤ p))

/-- PHASE of line `k` (Table 6-8). -/
def phaseOf (act tws total k : Nat) : Nat :=
  if k < act then 1 else if k < tws then 2 else if k + 18 < total then 3 else if k + 16 < total then 4 else 5

/-- A timing event of a head half (R149). -/
def Dev.tEvent (s : Dev) (d n b : Nat) : Dev :=
  let s := s.wrB (Reg.HEAD_TINT_STAT d n) b true
  if s.rdB (Reg.HEAD_TINT_EN d n) b then s.emit (.msix (2 * n + d)) else s

/-- The causes under which a half's composition has stopped (R134, Table 1-9). -/
def stopsHalf : SafeCause → Bool
  | .tgFail => true
  | .markLost => true
  | .pipes => true
  | .dram => true
  | .bridge => true
  | .dieLost => true
  | _ => false

/-- The half's tiles are held in safe-fill because its composition has stopped (R134). -/
def Dev.halfStopped (s : Dev) (d n : Nat) : Bool := (s.tilesOf d n).any (fun t => (s.lane d t).causes.any stopsHalf)

/-! ## Lines -/

/-- A span of a tile line still waits for a pipe or is on one. -/
def Dev.onPipes (s : Dev) (d t k : Nat) : Bool :=
  let h := s.pipes d
  h.elig.any (fun p => p.tile == t && p.line == k) || h.pipes.any (fun p => p.any (fun p => p.tile == t && p.line == k && p.live))

/-- What is left of a tile line once it has been released: nothing (R142). -/
def Dev.dropLine (s : Dev) (d t k : Nat) : Dev :=
  let h := s.pipes d
  let s := s.setPipes d
    { pipes := h.pipes.map (Option.map (fun p => if p.tile = t ∧ p.line = k then { p with live := false } else p)),
      elig := h.elig.filter (fun p => !(p.tile == t && p.line == k)) }
  let row := rowKey d t (k % 512)
  { s with spans := s.spans.keep (fun e => e / 16 != rowKey d t k), coefs := s.coefs.keep (· != row), rows := s.rows.keep (· != row),
           rasPoison := s.rasPoison.filter (fun e => !(e.1 == 8 * d + t && e.2.1 == k)) }

/-- A line packet goes to a tile at its release, or counts as dropped where the lane is not LOCKED (R135, R169). -/
def Dev.sendLine (s : Dev) (d n t k : Nat) (ur whole : Bool) (codes : List Nat) : Dev :=
  let s := s.snoopTile d t (k % 512) (packCodes codes) whole
  if s.locked d t then
    (s.setLane d t { s.lane d t with sending := true }).laneSend d t (.line ur (k % 512) (s.rd (Reg.HEAD_FRAME d n)).toNat codes)
  else s.addR (Reg.LANE_DROPCNT d t) 1

/-- An underrun of a tile line whose first background span is `sp` (R143). -/
def Dev.underrun (s : Dev) (d n t k sp : Nat) : Dev :=
  let s := s.addR (Reg.HEAD_URCNT d n) 1
  let s := s.wr (Reg.HEAD_URWHERE d n) (BitVec.ofNat 32 (t + 16 * sp + 0x10000 * (k % 512)))
  let s := s.setHalf d n { s.half d n with urHold := true }
  s.raise (Reg.HEAD_TG_FLT_STAT d n) B.HEAD_TG_UNDERRUN

/-- The release of line `k` to one tile (R134, R135, R142 to R144). -/
def Dev.releaseTile (s : Dev) (d n k t : Nat) : Dev :=
  if (s.half d n).composing then
    let miss := s.missing d t k
    let bg := s.rdF (Reg.HEAD_BG d n) F.HEAD_BG_CODE
    let codes := (List.range 16).flatMap (fun j => (s.spanCodes d t k j).getD (List.replicate 32 bg))
    let s := if !miss.isEmpty ∧ s.onPipes d t k then s.addR (Reg.FAB_LATE d) 1 else s
    let s := match miss with | [] => s | sp :: _ => s.underrun d n t k sp
    (s.sendLine d n t k (!miss.isEmpty) true codes).dropLine d t k
  else s.sendLine d n t k false false (List.replicate 512 0)

/-- The release of an active line: in READY at code 0, in LIT as composed, and nothing in SAFE or for a half whose composition has
stopped (R134), which a TILE_OUT window misses then (R303). -/
def Dev.releaseLine (s : Dev) (d n k : Nat) : Dev :=
  let ts := (s.tilesOf d n).filter (fun t => (s.place d t).row == k / 512)
  if s.power = 4 ∨ s.halfStopped d n then forAll ts s (fun s t => s.snoopTile d t (k % 512) [] false)
  else forAll ts s (fun s t => s.releaseTile d n k t)

/-- HEAD_LB_STATt at a line start (R140, R141). -/
def Dev.lineBuffer (s : Dev) (d n k t : Nat) : Dev :=
  let lines := (dueLines (s.tAct d n) (s.tTotal d n) k).filter (fun e => e.1 / 512 == (s.place d t).row)
  let lead := if (s.half d n).composing then
      ((lines.find? (fun e => !(s.missing d t e.1).isEmpty)).map Prod.snd).getD 16
    else 16
  let fill := (lines.filter (fun e => (s.missing d t e.1).isEmpty)).length
  let wm := max 1 (s.rdF (Reg.HEAD_LB_CFG d) F.HEAD_LB_CFG_WM)
  let urg := if lead ≤ wm / 2 then 3 else if lead ≤ wm then 2 else 0
  s.wr (Reg.HEAD_LB_STAT d t) (BitVec.ofNat 32 (lead + 256 * fill + 0x10000 * urg))

/-! ## Bands -/

/-- A band starts on the master half (R84, R85, R97): it samples the newest generation and forms its correction. -/
def Dev.bandStart (s : Dev) (d n b : Nat) : Dev :=
  let (s, dp, dr, hide) := s.formAngles d n
  let h := s.half d n
  let bad := h.badGen == some h.newest.num
  let kp := s.rdF (Reg.HEAD_CORR_KP d n) F.HEAD_CORR_KP_KP
  let now := BitVec.ofNat 32 (unsgn 16 dp + 0x10000 * unsgn 16 dr)
  let s := s.wr (Reg.HEAD_CORR_NOW d n) now
  let x : Band := { band := b, gen := h.newest, s := corrS dr, c := corrC dr, dy := corrDY kp dp, now := now, hide := hide,
                    bg := if bad then some (32 * b) else none }
  let s := s.setHalf d n { h with bands := x :: h.bands.take 1, sampled := h.sampled || !bad, badGen := if bad then h.badGen else none }
  if bad then s else s.wr (Reg.HEAD_GEN_INUSE d n) (BitVec.ofNat 32 h.newest.num)

/-- The band of the master half on the other half of a spanning head: its generation and correction, unchanged (R86, R97). -/
def Dev.bandMirror (s : Dev) (d n b : Nat) : Dev :=
  match (s.half (1 - d) n).bands.find? (fun x => x.band == b) with
  | none => s
  | some x =>
    let s := s.wr (Reg.HEAD_CORR_NOW d n) x.now
    let h := s.half d n
    let own := h.newest.num == x.gen.num
    let bad := h.badGen == some x.gen.num
    let y : Band := { x with gen := if own then h.newest else x.gen, bg := if bad then some (32 * b) else x.bg }
    let s := s.setHalf d n { h with bands := y :: h.bands.take 1, sampled := h.sampled || own, badGen := if bad then h.badGen else none }
    if bad then s else s.wr (Reg.HEAD_GEN_INUSE d n) (BitVec.ofNat 32 x.gen.num)

/-- The start of band `b` on a half. -/
def Dev.takeBand (s : Dev) (d n b : Nat) : Dev := if s.isSlave d n then s.bandMirror d n b else s.bandStart d n b

/-! ## Midnight -/

/-- A half composes from this midnight on: in LIT, once armed, with nothing that stops it (R134). -/
def Dev.mayCompose (s : Dev) (d n : Nat) : Bool := s.power == 3 && (s.half d n).armed && !s.halfStopped d n

/-- Band 0 of a frame starts composition: HEAD_GEN_LASTn and HEAD_GEN_FIRSTn (Table 3-9). -/
def Dev.frameStart0 (s : Dev) (d n : Nat) : Dev :=
  let s := s.setHalf d n { s.half d n with composing := true }
  let last := s.rd (Reg.HEAD_GEN_INUSE d n)
  let s := (s.takeBand d n 0).wr (Reg.HEAD_GEN_LAST d n) last
  s.wr (Reg.HEAD_GEN_FIRST d n) (s.rd (Reg.HEAD_GEN_INUSE d n))

/-- Midnight of a half (R85, R91, R133, R134, R194, R195); `marked` says that a mark brought the line of a slave half, which mirrors the
master's frame counter then. -/
def Dev.midnight (s : Dev) (d n : Nat) (marked : Bool) : Dev :=
  let s := if s.isSlave d n ∧ marked then s.wr (Reg.HEAD_FRAME d n) (s.rd (Reg.HEAD_FRAME (1 - d) n))
    else s.addR (Reg.HEAD_FRAME d n) 1
  let s := if (s.half d n).copy.isSome then s.refuseMesh d n 3 B.HEAD_WARP_MESH_LATE else s
  let s := if s.mayCompose d n then s.frameStart0 d n else s
  let s := s.midnightRun d n (s.power == 2 || s.power == 3)
  s.tEvent d n B.HEAD_TINT_MIDNIGHT

/-! ## Dusk -/

/-- The frame-scoped registers of a half, its timing mode apart (R136); those that the master supplies latch on the master. -/
def Dev.frameRegs (s : Dev) (d n : Nat) : List Nat :=
  [Reg.HEAD_WARP_BASE d n, Reg.HEAD_WARP_CFG d n] ++
    [2 * n, 2 * n + 1].flatMap (fun r => [Reg.HEAD_WARP_RASDIM d r, Reg.HEAD_RAS_BASE d r, Reg.HEAD_RAS_CFG d r]) ++
    (s.tilesOf d n).flatMap (fun t => [Reg.PHO_COEF_BASE d t, Reg.PHO_TILE_CFG d t]) ++
    (if s.isMaster d n then [Reg.HEAD_CORR_CFG d n, Reg.HEAD_CORR_REF d n] else [])

/-- The written copy of a register differs from the copy in use. -/
def Dev.differs (s : Dev) (a : Nat) : Bool := s.rd a != s.rdL a

/-- Some written copy of a head differs from its latched copy, on either die (PENDING, R136, Table 6-8). -/
def Dev.framePending (s : Dev) (n : Nat) : Bool :=
  s.timingPending n || (s.diesOf n).any (fun d => (s.frameRegs d n).any s.differs || (s.half d n).ceils != s.takeCeils d n)

/-- What the half latches whatever HOLD says: K, the frame sum, the tile temperatures and the derate classes (R115, R121, R137). A slave
takes the K that a dusk mark brings, and a half in safe-fill has no sum to send (R128). -/
def Dev.duskTakes (s : Dev) (d n : Nat) (marked : Bool) : Dev :=
  let h := s.half d n
  let k := if s.isSlave d n then (if marked then (s.half (1 - d) n).k else h.k) else s.bud.k
  let sum := if s.power = 4 ∨ s.halfStopped d n then none else some (h.sumD, h.k)
  let s := s.setHalf d n
    { h with report := sum, sumD := 0, k := k, drt := (List.range 64).map (fun c => s.rd (Reg.PHO_DRT d c)) }
  let s := s.wr (Reg.PHO_HSUM d n) (BitVec.ofNat 32 (min 0xFFFF (h.sumD / 16776960)))
  forAll (s.tilesOf d n) s (fun s t =>
    let w := s.rd (Reg.THM_TILE 0 (8 * d + t))
    if fget w F.THM_TILE_VALID = 1 then
      let x := sgn 16 (fget w F.THM_TILE_TEMP) / 16
      let s := { s with ttemps := s.ttemps.put (fun _ => none) (8 * d + t) (some x) }
      s.wr (Reg.PHO_TILE_TEMP d t) (BitVec.ofNat 32 (unsgn 8 (clampI (-128) 127 x) + 256))
    else
      let s := { s with ttemps := s.ttemps.put (fun _ => none) (8 * d + t) none }
      s.wr (Reg.PHO_TILE_TEMP d t) 0#32)

/-- The frame-scoped registers of a half latch (R136): a mesh copy begins where a warp register changed (R91), and the sample history
is cleared where SRC changed (R104). -/
def Dev.duskLatch (s : Dev) (d n : Nat) : Dev :=
  let regs := s.frameRegs d n
  let changed := regs.any s.differs || (s.half d n).ceils != s.takeCeils d n
  let warp := s.differs (Reg.HEAD_WARP_BASE d n) || s.differs (Reg.HEAD_WARP_CFG d n) ||
    s.differs (Reg.HEAD_WARP_RASDIM d (2 * n)) || s.differs (Reg.HEAD_WARP_RASDIM d (2 * n + 1))
  let src := s.corrSrc n
  let s := forAll regs s (fun s a => s.latch a)
  let s := s.setHalf d n { s.half d n with ceils := s.takeCeils d n }
  let s := if warp then
      (s.setHalf d n { s.half d n with copy := some (s.rdL (Reg.HEAD_WARP_BASE d n)).toNat, checked := none }).wrB (Reg.HEAD_WARP_STAT d n) 1 false
    else s
  let s := if s.isMaster d n ∧ s.corrSrc n ≠ src then s.clearHistory d n else s
  if changed then s.tEvent d n B.HEAD_TINT_LATCHED else s

/-- A refused mode (R138): MODE_REFUSED on every die of the head; the copies in use keep the mode in use. -/
def Dev.modeRefused (s : Dev) (n : Nat) : Dev :=
  forAll (s.diesOf n) s (fun s d => s.causeOn (Reg.HEAD_TG_FLT_STAT d n) B.HEAD_TG_MODE_REFUSED)

/-- A half enters HOLD phase (R138): MODE goes to its tiles, and it waits for those whose lanes are LOCKED. -/
def Dev.holdEnter (s : Dev) (d n : Nat) : Dev :=
  let ts := (s.tilesOf d n).filter (s.locked d)
  let s := s.setHalf d n { s.half d n with hold := true, awaited := ts, holdAt := s.us, newMode := true }
  let s := s.wrF (Reg.HEAD_TSTAT d n) F.HEAD_TSTAT_PHASE 6
  forAll ts s (fun s t => s.enqueue d t (s.modePkt d t))

/-- The MODE_REFUSED cause ends where the written mode equals the mode in use (R138). -/
def Dev.modeSettled (s : Dev) (n : Nat) : Dev :=
  if s.timingPending n then s
  else forAll (s.diesOf n) s (fun s d => s.causeOff (Reg.HEAD_TG_FLT_STAT d n) B.HEAD_TG_MODE_REFUSED)

/-- A mode of the master's generator comes due at its dusk (R138): one that differs from the mode in use latches and HOLD phase begins,
or it is refused. -/
def Dev.modeApply (s : Dev) (n : Nat) (line total : Word) : Dev :=
  let m := s.masterOf n
  if line = s.rdL (Reg.HEAD_TLINE m n) ∧ total = s.rdL (Reg.HEAD_TTOTAL m n) then s.modeSettled n
  else if s.modeOk n (fget line F.HEAD_TLINE_LINE_PER) (fget total F.HEAD_TTOTAL_TOTAL) then
    let s := (s.putLatched (Reg.HEAD_TLINE m n) line).putLatched (Reg.HEAD_TTOTAL m n) total
    let s := forAll (s.diesOf n) s (fun s d => s.causeOff (Reg.HEAD_TG_FLT_STAT d n) B.HEAD_TG_MODE_REFUSED)
    ((s.deriveHead m n).tEvent m n B.HEAD_TINT_LATCHED).holdEnter m n
  else s.modeRefused n

/-- The written mode comes due (R138). -/
def Dev.modeLatch (s : Dev) (n : Nat) : Dev :=
  let m := s.masterOf n
  s.modeApply n (s.rd (Reg.HEAD_TLINE m n)) (s.rd (Reg.HEAD_TTOTAL m n))

/-- What the master's dusk mark brings to the slave half beside K: the latch, and a new mode with its HOLD phase (R139, R146). -/
def Dev.duskMark (s : Dev) (d n : Nat) : Dev :=
  let m := 1 - d
  let s := if (s.half m n).markHeld then s else (s.setHalf d n { s.half d n with markHeld := false }).duskLatch d n
  let new := s.rdL (Reg.HEAD_TLINE d n) != s.rdL (Reg.HEAD_TLINE m n) || s.rdL (Reg.HEAD_TTOTAL d n) != s.rdL (Reg.HEAD_TTOTAL m n)
  let s := if new then s.takeMode d n else s
  if (s.half m n).hold ∧ !(s.half d n).hold then s.holdEnter d n else s

/-- The SYNC packet of a tile's half (R181, Table 8-2). -/
def Dev.syncPkt (s : Dev) (d n : Nat) (hold : Bool) : Pkt :=
  .sync hold (if hold then 0xFFFF else s.tAct d n) (s.rd (Reg.HEAD_FRAME d n)).toNat (s.tPer d n) (s.tTotal d n) (s.tAct d n)

/-- SYNC packets go to the LOCKED tiles of a half; one of HOLD phase abandons a slice of the lane (Table 14-4). -/
def Dev.sendSync (s : Dev) (d n : Nat) (hold : Bool) : Dev :=
  forAll ((s.tilesOf d n).filter (s.locked d)) s (fun s t =>
    (if hold then s.serve d (laneBlock d t) else s).laneSend d t (s.syncPkt d n hold))

/-- The master's part of a dusk: the rebuild swap (R58), the frame-scoped registers and the mode, but for what HOLD defers (R136 to
R138). The mode of a build that swaps comes due whatever HOLD says (Table 2-7). -/
def Dev.duskMaster (s : Dev) (d n : Nat) (held : Bool) : Dev :=
  let swap := s.rbState d == 3 && (s.rb d).head == n
  let mode := s.buildMode n
  let s := s.rbSwap n held
  let s := if held then (if swap then s.modeApply n mode.1 mode.2 else s) else (s.duskLatch d n).modeLatch n
  s.zoneDusk n held

/-- Dusk of a half (R136 to R138, R146, R195, R254); `marked` says that the master's dusk mark brought the line of a slave half. -/
def Dev.dusk (s : Dev) (d n : Nat) (marked : Bool) : Dev :=
  let s := s.sendSync d n false
  let slave := s.isSlave d n
  let byHold := if slave then marked && (s.half (1 - d) n).markHeld else s.rdF (Reg.HEAD_TCTRL d n) F.HEAD_TCTRL_HOLD == 1
  let s := s.setHalf d n { s.half d n with markHeld := byHold || slave, bands := [] }
  let s := (s.wrF (Reg.HEAD_TSTAT d n) F.HEAD_TSTAT_HELD (b2n byHold)).duskTakes d n marked
  let s := if !slave then s.duskMaster d n byHold else if marked then s.duskMark d n else s
  let s := s.duskSafe d n
  let s := forAll (s.tilesOf d n) s (fun s t => s.calAuto d t)
  s.tEvent d n B.HEAD_TINT_DUSK

/-! ## Line starts -/

/-- Dawn of a half (R108, R132, R138). -/
def Dev.dawn (s : Dev) (d n : Nat) : Dev :=
  let h := s.half d n
  let s := if h.lit0 ∧ s.power = 3 then
      (if s.isMaster d n then s.restartStale d n else s).setHalf d n
        { (if s.isMaster d n then s.restartStale d n else s).half d n with lit0 := false }
    else s
  let s := s.tEvent d n B.HEAD_TINT_DAWN
  if h.newMode then (s.setHalf d n { s.half d n with newMode := false }).tEvent d n B.HEAD_TINT_MODE_DONE else s

/-- Bands and eligible lines of a composing half at the start of line `k` (R63, R85). -/
def Dev.composeAhead (s : Dev) (d n k : Nat) : Dev :=
  let e := (k + 16) % s.tTotal d n
  if !(s.half d n).composing ∨ s.tAct d n ≤ e then s
  else
    let s := if e % 32 = 0 ∧ e ≠ 0 then s.takeBand d n (e / 32) else s
    s.eligible d n e

/-- The start of line `k` of a half: release, timing points, composition ahead and the line buffers (R130, R132, R140); `marked` says
that a mark brought it (R145). -/
def Dev.lineAt (s : Dev) (d n k : Nat) (marked : Bool) : Dev :=
  let act := s.tAct d n
  let total := s.tTotal d n
  let pts := s.rd (Reg.HEAD_TPOINTS d n)
  let tws := fget pts F.HEAD_TPOINTS_TWS
  let s := s.setHalf d n { s.half d n with first := false }
  let s := (s.wrF (Reg.HEAD_TSTAT d n) F.HEAD_TSTAT_LINE k).wrF (Reg.HEAD_TSTAT d n) F.HEAD_TSTAT_PHASE (phaseOf act tws total k)
  let s := if k < act then s.releaseLine d n k else s
  let s := if k = 0 then s.dawn d n else s
  let s := if k = fget pts F.HEAD_TPOINTS_NOON then s.tEvent d n B.HEAD_TINT_NOON else s
  let s := if k = act then s.dusk d n marked else s
  let s := if k = tws then (forAll (s.tilesOf d n) s (fun s t => s.calSlot d t)).tEvent d n B.HEAD_TINT_TWILIGHT else s
  let s := if k + 16 = total then s.midnight d n marked else s
  let s := s.composeAhead d n k
  (forAll (s.tilesOf d n) s (fun s t => s.lineBuffer d n k t)).promote d

/-- The line that the generator starts next. -/
def Dev.nextLine (s : Dev) (d n : Nat) : Nat :=
  if (s.half d n).first then 0 else (s.tLine d n + 1) % s.tTotal d n

/-- A slave half counts lines on its own while no marks reach it (R147, R148). -/
def Dev.runsAlone (s : Dev) (d n : Nat) : Bool :=
  (s.half d n).lost || (s.half (1 - d) n).failed || s.linksUp == 0 || s.pwr.lost.contains (1 - d)

/-- A generator reaches its next line start (R130). During HOLD phase there is none (R138), and a slave half takes its line starts
from the marks while they arrive, which the master sends on VC0 (R145). -/
def Dev.lineStart (s : Dev) (d n : Nat) : Dev :=
  let h := s.half d n
  if !s.usedOn d n ∨ !h.running ∨ h.failed ∨ h.hold ∨ s.tTotal d n = 0 ∨ (s.isSlave d n ∧ !s.runsAlone d n) then s
  else
    let s := s.lineAt d n (s.nextLine d n) false
    if s.isMaster d n ∧ s.spansDies n then s.brgSend d 0 else s

/-- LINE_START. -/
def execLineStart (d : Die) (n : Head) (s : State) : Host.Outcome State Fault Refusal := s.onDev (fun s => s.lineStart d n)

/-- LINE_PACKET_SENT: a line packet ends on its lane, and its slot frees (R135). -/
def execLinePacketSent (d : Die) (t : TileIx) (s : State) : Host.Outcome State Fault Refusal :=
  s.onDev (fun s => s.setLane d t { s.lane d t with sending := false })

/-- UR_HOLD_END: sixteen line times have passed since the last underrun of the die (R143). -/
def execUrHoldEnd (d : Die) (s : State) : Host.Outcome State Fault Refusal :=
  s.onDev (fun s => forAll (List.range 4) s (fun s n => s.setHalf d n { s.half d n with urHold := false }))

/-! ## HOLD phase -/

/-- HOLD_SYNC_SEND: a SYNC point of HOLD phase (R181). -/
def execHoldSyncSend (d : Die) (n : Head) (s : State) : Host.Outcome State Fault Refusal :=
  s.onDev (fun s => if (s.half d n).hold then s.sendSync d n true else s)

/-- HOLD phase ends on one half (R138, R139): a tile still waited for raises RELOCK. -/
def Dev.holdLeave (s : Dev) (d n : Nat) : Dev :=
  let h := s.half d n
  if !h.hold then s
  else
    let s := s.wrF (Reg.HEAD_RELOCK d n) F.HEAD_RELOCK_TIME (min (2 ^ 24 - 1) (s.us - h.holdAt))
    let s := forAll h.awaited s (fun s t =>
      (s.wr (Reg.HEAD_URWHERE d n) (BitVec.ofNat 32 t)).raise (Reg.HEAD_TG_FLT_STAT d n) B.HEAD_TG_RELOCK)
    (s.setHalf d n { s.half d n with hold := false, awaited := [] }).wrF (Reg.HEAD_TSTAT d n) F.HEAD_TSTAT_PHASE 2

/-- HOLD phase of a head ends (R138): 1 µs after the last tile waited for has locked, or at its limit. The new mode's blanking
begins on both halves. A slave half without marks leaves it at its own limit (R148). -/
def Dev.modeHoldEnd (s : Dev) (d n : Nat) : Dev :=
  if !(s.half d n).hold then s
  else if s.isMaster d n then forAll ((s.diesOf n).filter (s.dieWay d)) s (fun s e => s.holdLeave e n)
  else if s.runsAlone d n then s.holdLeave d n
  else s

/-- MODE_HOLD_END. -/
def execModeHoldEnd (d : Die) (n : Head) (s : State) : Host.Outcome State Fault Refusal := s.onDev (fun s => s.modeHoldEnd d n)

/-! ## Spanning heads -/

/-- The slave's skew at a mark (R145, Table 6-7). -/
def Dev.noteSkew (s : Dev) (d n : Nat) (skew : Int) : Dev :=
  let s := s.wrF (Reg.HEAD_SKEW d n) F.HEAD_SKEW_SKEW (unsgn 16 (clampI (-32768) 32767 skew))
  if 200 < skew.natAbs then s.satF (Reg.HEAD_SKEW d n) F.HEAD_SKEW_RESYNC 1 else s

/-- After marks without a gap for a whole frame, a midnight mark takes the slave half back to composition (R147). -/
def Dev.markReturn (s : Dev) (d n : Nat) : Dev :=
  let h := s.half d n
  if h.lost ∧ s.tTotal d n ≤ h.marks ∧ s.tLine (1 - d) n + 16 = s.tTotal (1 - d) n then
    let s := s.setHalf d n { h with lost := false, armed := h.armed || s.power == 3 }
    (s.causeOff (Reg.HEAD_TG_FLT_STAT d n) B.HEAD_TG_MARK_LOST).safeFillHalfEnd d n .markLost
  else s

/-- The slave half has started the midnight line on its own when it returns: it takes up the master's frame, and line 0 becomes
eligible (R63, R147). -/
def Dev.markRejoin (s : Dev) (d n k : Nat) : Dev :=
  let s := s.wr (Reg.HEAD_FRAME d n) (s.rd (Reg.HEAD_FRAME (1 - d) n))
  let s := if s.mayCompose d n then (s.frameStart0 d n).composeAhead d n k else s
  s.midnightRun d n (s.power == 2 || s.power == 3)

/-- The master's mark of a line that the slave half has already started: the dusk mark brings K, the latch and a new mode (R115, R139,
R146), a band's mark its generation and correction (R86, R97), and after a loss the midnight mark the return (R147). -/
def Dev.markLate (s : Dev) (d n k : Nat) (lost : Bool) : Dev :=
  let m := 1 - d
  let s := if k = s.tAct d n ∧ (s.half d n).markHeld then
      (s.setHalf d n { s.half d n with k := (s.half m n).k }).duskMark d n
    else s
  let b := (k + 16) % s.tTotal d n / 32
  if lost then (if (s.half d n).lost then s else s.markRejoin d n k)
  else if (s.half d n).composing ∧ (s.half m n).bands.any (fun x => x.band == b) ∧ !(s.half d n).bands.any (fun x => x.band == b) then
    s.bandMirror d n b
  else s

/-- A VC0 timing mark of the line that the master has started reaches the slave half (R145 to R147): the slave half starts that
line, and takes what the mark carries. -/
def Dev.mark (s : Dev) (n : Nat) (skew : Int) : Dev :=
  let m := s.masterOf n
  let d := 1 - m
  let h := s.half d n
  if !s.isSlave d n ∨ !h.running ∨ h.failed ∨ !(s.half m n).running ∨ (s.half m n).first ∨ !s.dieWay m d ∨ s.tTotal d n = 0 then s
  else
    let k := s.tLine m n
    let same := !h.first && s.tLine d n == k
    let inOrder := s.nextLine d n == k || same
    let s := s.setHalf d n { h with marks := if inOrder then h.marks + 1 else 1 }
    let s := (s.noteSkew d n skew).markReturn d n
    if same then s.markLate d n k h.lost
    else if (s.half d n).hold then s
    else s.lineAt d n k true

/-- TIMING_MARK. -/
def execTimingMark (n : Head) (skew : Int) (s : State) : Host.Outcome State Fault Refusal := s.onDev (fun s => s.mark n skew)

/-- No mark has arrived for 64 line times (R147). -/
def Dev.markLoss (s : Dev) (n : Nat) : Dev :=
  let d := 1 - s.masterOf n
  let h := s.half d n
  if !s.isSlave d n ∨ !h.running ∨ h.lost then s
  else
    let s := s.setHalf d n { h with lost := true, marks := 0 }
    ((s.causeOn (Reg.HEAD_TG_FLT_STAT d n) B.HEAD_TG_MARK_LOST).stopHalf d n).safeFillHalf d n .markLost

/-- MARK_LOST. -/
def execMarkLost (n : Head) (s : State) : Host.Outcome State Fault Refusal := s.onDev (fun s => s.markLoss n)

/-- A generator fails its checker (R148): it is held in reset, and its tiles fall to safe-fill. -/
def Dev.tgLoss (s : Dev) (d n : Nat) : Dev :=
  let h := s.half d n
  if !s.usedOn d n ∨ !h.running ∨ h.failed then s
  else
    let s := s.setHalf d n { h with failed := true, running := false, hold := false, awaited := [] }
    let s := s.snoopStop d n (s.rdF (Reg.HEAD_TSTAT d n) F.HEAD_TSTAT_LINE)
    let s := (s.wrF (Reg.HEAD_TSTAT d n) F.HEAD_TSTAT_PHASE 0).wrF (Reg.HEAD_TSTAT d n) F.HEAD_TSTAT_LINE 0
    ((s.causeOn (Reg.HEAD_TG_FLT_STAT d n) B.HEAD_TG_TG_FAIL).stopHalf d n).safeFillHalf d n .tgFail

/-- TG_FAIL. -/
def execTgFail (d : Die) (n : Head) (s : State) : Host.Outcome State Fault Refusal := s.onDev (fun s => s.tgLoss d n)

end Sys2Proof.Machine
end

