-- ==== Sys2Proof/Machine/Thermal.lean ====
section
/-! DEFINITION. Temperature sensing and throttling (R267 to R291), and the status channels of the power dies (R22, R273, R287). -/

namespace Sys2Proof.Machine

/-! ## Sensors -/

/-- First sensor, number of sensors and columns of an on-package die's grid: 0 CD0, 1 CD1, 2 HV0, 3 HV1 (Table 12-1). -/
def sensGrid (g : Nat) : Nat × Nat × Nat := match g with | 0 => (0, 12, 4) | 1 => (12, 12, 4) | 2 => (24, 18, 6) | _ => (42, 18, 6)

/-- The grid that holds on-package sensor `k`. -/
def gridOf (k : Nat) : Nat := if k < 12 then 0 else if k < 24 then 1 else if k < 42 then 2 else 3

/-- The sensors of the die or tile of sensor `k` (R275). -/
def sensGroup (k : Nat) : List Nat :=
  if k < 60 then List.range' (sensGrid (gridOf k)).1 (sensGrid (gridOf k)).2.1
  else if k < 64 then [60, 61]
  else List.range' (k / 4 * 4) 4

/-- The neighbours of sensor `k` (R269). -/
def sensNeighbours (k : Nat) : List Nat :=
  if k < 60 then
    let (f, n, c) := sensGrid (gridOf k)
    let i := k - f
    ((List.range n).filter (fun j => j != i && natDist (j % c) (i % c) ≤ 1 && natDist (j / c) (i / c) ≤ 1)).map (f + ·)
  else if k < 64 then []
  else (sensGroup k).filter (· != k)

/-- Every sensor ID that a sensor has (Table 12-1). -/
def sensIds : List Nat := List.range 62 ++ List.range' 64 64

/-- WARN, ENF and SHUT of the class of sensor `k`, in 1/16 °C (Table 12-2). -/
def Dev.limits (s : Dev) (k : Nat) : Int × Int × Int :=
  if k < 64 then
    let w := s.rd (Reg.THM_LIMITS 0)
    (16 * (fget w F.THM_LIMITS_WARN : Nat), 16 * (fget w F.THM_LIMITS_ENF : Nat), 16 * (fget w F.THM_LIMITS_SHUT : Nat))
  else
    let w := s.rd (Reg.THM_TLIMITS 0)
    (16 * sgn 8 (fget w F.THM_TLIMITS_TWARN), 16 * sgn 8 (fget w F.THM_TLIMITS_TENF), 16 * sgn 8 (fget w F.THM_TLIMITS_TSHUT))

/-- A sensor takes part: present and not stale. -/
def Dev.senOk (s : Dev) (k : Nat) : Bool := (s.sen k).pres && !(s.sen k).stale

/-- A usable neighbour (R269). -/
def Dev.senUsable (s : Dev) (k : Nat) : Bool := s.senOk k && !(s.sen k).broken

/-- The reading of a sensor in use, its substitute included (R275). -/
def Dev.senValue (s : Dev) (k : Nat) : Option Int := if s.senOk k then some ((s.sen k).sub.getD (s.sen k).raw) else none

/-- A sensor as a round meets it: whether present, whether stale, and a new reading where it is read (R267, R272, R273). `rs` are the
readings of the on-package sensors; a tile's come from its newest STATUS; the vesper mirror gives the one reading of a power die
whose data channels are both down. -/
def Dev.sampleOf (s : Dev) (rs : List (Nat × Int)) (k : Nat) : Bool × Bool × Option Int :=
  if k < 64 then
    if 12 ≤ k ∧ k < 24 ∧ s.pwr.lost.contains 1 then (false, false, none)
    else if 24 ≤ k ∧ k < 60 ∧ !s.linkUp (gridOf k - 2) 0 ∧ !s.linkUp (gridOf k - 2) 1 then
      let x := s.statOf (gridOf k - 2)
      if k = (sensGrid (gridOf k)).1 ∧ !x.stale ∧ x.hot.isSome then (true, false, x.hot) else (false, false, none)
    else ((s.sen k).pres || (rs.lookup k).isSome, false, rs.lookup k)
  else
    let t := (k - 64) / 4
    let d := t / 8
    let h := s.lane d (t % 8)
    let w := if k % 4 < 2 then s.rd (Reg.LANE_TILE_TEMPA d (t % 8)) else s.rd (Reg.LANE_TILE_TEMPB d (t % 8))
    let v := w.toNat / 65536 ^ (k % 2) % 65536
    match h.statusAt with
    | none => (false, false, none)
    | some u =>
      if s.pwr.lost.contains d ∨ v = 0x8000 then (false, false, none)
      else if h.old ∨ 100000 < s.us - u then (true, true, none)
      else (true, false, some (sgn 16 v))

/-! ## The fast set -/

/-- Sensor `k` is in the fast set (R271). -/
def Dev.inFast (s : Dev) (k : Nat) : Bool :=
  sensIds.contains k &&
    (s.rdF (Reg.THM_CFG 0) F.THM_CFG_FORCEFAST == 1 || bitOf (s.rd (Reg.THM_FASTSEL 0 (k / 32))) (k % 32) ||
      (s.rdF (Reg.THM_CFG 0) F.THM_CFG_AUTOFAST == 1 && s.thm.auto.any (fun e => e.1 == k)))

/-- A sensor's last reading lies below a limit less some degrees; a sensor that takes no part does. -/
def Dev.senBelow (s : Dev) (k : Nat) (x : Int) : Bool := match s.senValue k with | none => true | some v => decide (v < x)

/-- A sensor reads below a limit less some degrees; one that takes no part reads nothing. -/
def Dev.senReads (s : Dev) (k : Nat) (x : Int) : Bool := match s.senValue k with | none => false | some v => decide (v < x)

/-- What AUTOFAST leaves in the fast set after a slow round, and puts into it (R271). -/
def Dev.autoFast (s : Dev) (slow : Bool) : Dev :=
  if s.rdF (Reg.THM_CFG 0) F.THM_CFG_AUTOFAST = 0 then { s with thm := { s.thm with auto := [] } }
  else
  let cool := fun k => s.senReads k ((s.limits k).1 - 192)
  let keep := s.thm.auto.filter (fun e =>
    !slow || !(cool e.1 && (s.thm.auto.filter (fun f => f.1 == e.1)).all (fun f => cool f.2)))
  let hot := sensIds.filter (fun k => !s.senBelow k ((s.limits k).1 - 160))
  let new := hot.flatMap (fun k => (k :: (sensNeighbours k).filter (fun j => (s.sen j).pres)).map (fun j => (j, k)))
  { s with thm := { s.thm with auto := keep ++ new.filter (fun e => !keep.contains e) } }

/-- THM_SENSk as it reads (Table 12-5). -/
def Dev.senReg (s : Dev) (k : Nat) : Word :=
  let x := s.sen k
  if !x.pres then 0#32
  else
    let st := if x.stale then 4 else if x.broken then 3 else if 0 < x.susp then 2 else 1
    BitVec.ofNat 32 (unsgn 16 (x.sub.getD x.raw) + 0x10000 * st + 0x80000 * b2n x.sub.isSome + 0x100000 * b2n (s.inFast k) +
      0x1000000 * min 31 (if x.broken then x.rein else x.susp))

/-! ## Cross-check and substitution -/

/-- Numbers in rising order. -/
def insertSorted (x : Int) : List Int → List Int
  | [] => [x]
  | y :: l => if x ≤ y then x :: y :: l else y :: insertSorted x l

/-- Numbers sorted, lowest first. -/
def sortInts (l : List Int) : List Int := l.foldl (fun m x => insertSorted x m) []

/-- The median of R274: of an even count the lower of the two middle values. -/
def lowMedian (l : List Int) : Int := (sortInts l).getD ((l.length - 1) / 2) 0

/-- The median of a sensor's usable neighbours, of which it needs two (R274). -/
def Dev.senMedian (s : Dev) (k : Nat) : Option Int :=
  let l := ((sensNeighbours k).filter s.senUsable).map (fun j => (s.sen j).raw)
  if l.length < 2 then none else some (lowMedian l)

/-- A sensor read in a round is compared with its neighbours' median `med` (R274, R276, R277). -/
def judge (x : SenH) (med : Option Int) (slow hotL : Bool) : SenH :=
  if x.broken then
    if slow then
      let near := match med with | some m => decide ((x.raw - m).natAbs ≤ 64) | none => false
      let n := if near then x.rein + 1 else 0
      if 20 ≤ n then { x with broken := false, rein := 0, susp := 0 } else { x with rein := n }
    else x
  else
    let sus := match med with | some m => decide (192 < (x.raw - m).natAbs) | none => false
    let n := if sus then x.susp + 1 else 0
    let early := sus && (x.early || (n == 1 && hotL && x.top))
    if 3 ≤ n then { x with broken := true, susp := 0, rein := 0, early := false } else { x with susp := n, early := early }

/-- The highest of some readings. -/
def highest : List Int → Option Int
  | [] => none
  | x :: l => some (l.foldl max x)

/-- The substitute of a sensor (R275). -/
def Dev.substitute (s : Dev) (k : Nat) : Int :=
  let raws := fun l => highest ((l.filter (fun j => j != k && s.senUsable j)).map (fun j => (s.sen j).raw))
  match raws (sensNeighbours k) with
  | some v => v + 128
  | none => match raws (sensGroup k) with
    | some v => v + 128
    | none => (s.limits k).2.1

/-- Some reading is replaced by a substitute (R277). -/
def Dev.subsInUse (s : Dev) : Bool := sensIds.any (fun k => s.senOk k && (s.sen k).sub.isSome)

/-- Both data channels of the power die of sensor `k` are down: the mirror gives the die's only reading (R273). -/
def Dev.mirrored (s : Dev) (k : Nat) : Bool :=
  decide (24 ≤ k ∧ k < 60) && !s.linkUp (gridOf k - 2) 0 && !s.linkUp (gridOf k - 2) 1

/-- The readings of a round for the sensors `ids`: presence, cross-check, substitutes and shutdown counts (R272 to R277, R286,
R288). The other sensors of a die whose reading the mirror gives are absent, and that reading is neither cross-checked nor replaced
(R273). -/
def Dev.readRound (s : Dev) (ids : List Nat) (rs : List (Nat × Int)) (slow : Bool) : Dev :=
  let s0 := s
  let off := sensIds.filter (fun k => s.mirrored k && k != (sensGrid (gridOf k)).1 && !ids.contains k)
  let s := forAll (off ++ ids) s (fun s k =>
    let (p, st, v) := s0.sampleOf rs k
    let x := s.sen k
    s.setSen k (if p && !st then { x with pres := true, stale := false, raw := v.getD x.raw }
      else { x with pres := p, stale := st, sub := none, susp := 0, rein := 0, shut := 0, early := false }))
  let read := ids.filter (fun k => s.senOk k && (s0.sampleOf rs k).2.2.isSome)
  let meds := (read.filter (fun k => !s.mirrored k)).map (fun k => (k, s.senMedian k))
  let hotL := decide (0 < s.rdF (Reg.THM_STAT 0) F.THM_STAT_LEVEL)
  let s := forAll meds s (fun s e => s.setSen e.1 (judge (s.sen e.1) e.2 slow hotL))
  let subs := read.map (fun k =>
    (k, if !s.mirrored k && ((s.sen k).broken || (s.sen k).early) then some (s.substitute k) else none))
  let s := forAll subs s (fun s e => s.setSen e.1 { s.sen e.1 with sub := e.2 })
  forAll read s (fun s k =>
    let x := s.sen k
    let hit := !s.senBelow k (s.limits k).2.2 && (64 ≤ k || !x.broken || s.mirrored k)
    s.setSen k { x with shut := if hit then x.shut + 1 else 0 })

/-! ## Tiles -/

/-- The tile's four sensors. -/
def tileSens (g : Nat) : List Nat := List.range' (64 + 4 * g) 4

/-- A tile's temperature is published (R272), and the tile is shut down where a reading stands at TSHUT (R288). -/
def Dev.publish (s : Dev) (g : Nat) : Dev :=
  let a := Reg.THM_TILE 0 g
  let s := match highest ((tileSens g).filterMap s.senValue) with
    | some v => (((s.wrF a F.THM_TILE_TEMP (unsgn 16 v)).wrF a F.THM_TILE_VALID 1).wrF a F.THM_TILE_STALE 0).noTemp
    | none => if (tileSens g).any (fun k => (s.sen k).pres) then s.wrF a F.THM_TILE_STALE 1 else s
  if s.rdF a F.THM_TILE_SHUT = 0 ∧ (tileSens g).any (fun k => decide (2 ≤ (s.sen k).shut)) then
    ((s.wrF a F.THM_TILE_SHUT 1).causeOn (Reg.THM_FLT_STAT 0) B.THM_TILE_SHUT).safeFill (g / 8) (g % 8) .thermal
  else s

/-- TILE_SHUT_END: every reading of a tile in shutdown has stayed below TENF for 1 s (R288). -/
def Dev.tileShutOff (s : Dev) (g : Nat) : Dev :=
  let a := Reg.THM_TILE 0 g
  let vs := (tileSens g).filterMap s.senValue
  if s.rdF a F.THM_TILE_SHUT = 0 ∨ vs.isEmpty ∨ !(tileSens g).all (fun k => s.senBelow k (s.limits k).2.1) then s
  else
    let s := (s.wrF a F.THM_TILE_SHUT 0).safeFillEnd (g / 8) (g % 8) .thermal
    if (List.range 16).any (fun t => s.rdF (Reg.THM_TILE 0 t) F.THM_TILE_SHUT == 1) then s
    else s.causeOff (Reg.THM_FLT_STAT 0) B.THM_TILE_SHUT

/-- TILE_SHUT_END. -/
def execTileShutEnd (t : Fin 16) (s : State) : Host.Outcome State Fault Refusal := s.onDev (fun s => s.tileShutOff t)

/-! ## Shutdown -/

/-- A shutdown-class reading: SHUTDOWN and a SAFE request (R286, R287). -/
def Dev.shutdownOn (s : Dev) : Dev :=
  if s.shutdownPresent then s else (s.causeOn (Reg.THM_FLT_STAT 0) B.THM_SHUTDOWN).requestSafe 3

/-- Every on-package reading lies below ENF. -/
def Dev.packageCool (s : Dev) : Bool := (List.range 62).all (fun k => s.senBelow k (s.limits k).2.1)

/-- SHUTDOWN_END: every on-package reading has stayed below ENF for 1 s (R289). -/
def execShutdownEnd (s : State) : Host.Outcome State Fault Refusal :=
  s.onDev (fun s =>
    if s.shutdownPresent ∧ s.packageCool then (s.causeOff (Reg.THM_FLT_STAT 0) B.THM_SHUTDOWN).safeSourceEnd 3 else s)

/-! ## The throttle level -/

/-- The readings of the DRAM class: M = 4 counts as 115 °C, DRAM_HOT as 120 °C (Table 12-2). -/
def Dev.dramReadings (s : Dev) : List Int :=
  ((List.range 2).filter (fun d => !s.pwr.lost.contains d)).flatMap (fun d =>
    (if (List.range 2).any (fun c => s.rdF (Reg.DRC_CH_STAT d c) F.DRC_CH_STAT_MULT == 2) then [115 * 16] else []) ++
    (if s.rdB (Reg.DRC_FLT_CAUSE d) B.DRC_DRAM_HOT then [120 * 16] else []))

/-- The level that a reading asks for against its WARN limit (R280). -/
def levelFor (r warn : Int) : Nat := if r < warn then 0 else min 7 (1 + ((r - warn) / 32).toNat)

/-- The requested level (R280). -/
def Dev.requestedLevel (s : Dev) : Nat :=
  let a := (sensIds.map (fun k => match s.senValue k with | some v => levelFor v (s.limits k).1 | none => 0)).foldl max 0
  (s.dramReadings.map (fun r => levelFor r (s.limits 0).1)).foldl max a

/-- Some reading is at or above its ENF limit (R283). -/
def Dev.enfNow (s : Dev) : Bool :=
  sensIds.any (fun k => !s.senBelow k (s.limits k).2.1) || s.dramReadings.any (fun r => decide ((s.limits 0).2.1 ≤ r))

/-- The request for level `lr` is met (R282). -/
def Dev.requestMet (s : Dev) (lr : Nat) : Bool :=
  decide (s.demand ≤ allowance (s.rdF (Reg.PHO_BUDGET 0) F.PHO_BUDGET_LIMIT) lr) &&
    (List.range 2).all (fun h => decide (s.outputPower h (s.rdF (Reg.BST_STAT h) F.BST_STAT_VOUT * 50) ≤
      s.rdF (Reg.BST_PCAP h) F.BST_PCAP_PCAP * (8 - lr) / 8 * 1000000))

/-- L in force. -/
def Dev.lr (s : Dev) : Nat := s.rdF (Reg.THM_STAT 0) F.THM_STAT_LR

/-- A request stands (R281). -/
def Dev.reqStands (s : Dev) : Bool := s.rdF (Reg.THM_STAT 0) F.THM_STAT_REQ == 1

/-- The request stands or ends, with WARN, THM_REQ, and the level that the host is asked for: L_r while it stands, else none (R281,
R283). -/
def Dev.setRequest (s : Dev) (on : Bool) : Dev :=
  let s := (s.wrF (Reg.THM_STAT 0) F.THM_STAT_REQ (b2n on)).causeIs (Reg.THM_FLT_STAT 0) B.THM_WARN on
  let s := { s with thm := { s.thm with base := if on then s.lr else 0 } }
  s.wr (Reg.THM_REQ 0) (if on then BitVec.ofNat 32 (s.lr + 8 + 16 * b2n (s.requestMet s.lr)) else 0#32)

/-- L follows the request: a request begins or ends, ENF acts at once, and after GRACE an unmet request is enforced (R281 to R283). -/
def Dev.settleLevel (s : Dev) : Dev :=
  let lr := s.lr
  let s := if s.level < lr ∧ !s.reqStands then
      ({ s with thm := { s.thm with reqAt := s.us, graceOver := false } }).setRequest true
    else s
  let s := if s.enfNow ∧ s.level < lr then s.setLevel lr else s
  let s := if s.reqStands ∧ s.thm.graceOver ∧ s.level < lr ∧ !s.requestMet lr then s.setLevel lr else s
  (s.setRequest (s.reqStands && decide (s.level < lr))).showEnforce

/-- GRACE_EXPIRE: the grace time of the request ends, and a request that is not met is enforced (R282, R283). -/
def execGraceExpire (s : State) : Host.Outcome State Fault Refusal :=
  s.onDev (fun s => if s.reqStands then ({ s with thm := { s.thm with graceOver := true } }).settleLevel else s)

/-- THROTTLE_RELEASE: L_r has stayed below L for REL, and no substitute is in use (R277, R284). -/
def execThrottleRelease (s : State) : Host.Outcome State Fault Refusal :=
  s.onDev (fun s => if s.lr < s.level ∧ !s.subsInUse then (s.setLevel (s.level - 1)).showEnforce else s)

/-- THM_REQ as it reads: GRACE_LEFT in ms while a request stands. -/
def Dev.thmReq (s : Dev) : Word :=
  let g := max 1 (s.rdF (Reg.THM_CFG 0) F.THM_CFG_GRACE) * 10
  let left := if s.reqStands ∧ !s.thm.graceOver then g - (s.us - s.thm.reqAt) / 1000 else 0
  fset (s.rd (Reg.THM_REQ 0)) F.THM_REQ_GRACE_LEFT left

/-- What a round's readings mean for the device: publication, the fast set, L_r, the hottest sensor, and L (R271 to R289). -/
def Dev.afterRound (s : Dev) (ids : List Nat) (slow : Bool) : Dev :=
  let tiles := (List.range 16).filter (fun g => ids.any (fun k => decide (64 ≤ k) && (k - 64) / 4 == g))
  let s := if (List.range 62).any (fun k => decide (2 ≤ (s.sen k).shut)) then s.shutdownOn else s
  let s := forAll tiles s (fun s g => s.publish g)
  let s := s.autoFast slow
  let all : List (Nat × Int) := sensIds.filterMap (fun k => (s.senValue k).map (fun v => (k, v)))
  let top := highest (all.map Prod.snd)
  let s := forAll ids s (fun s k => s.setSen k { s.sen k with top := match top with | some v => s.senValue k == some v | none => false })
  let s := match top with
    | none => s.wr (Reg.THM_HOT 0) 0#32
    | some v =>
      let k := ((all.find? (fun (e : Nat × Int) => e.2 == v)).map Prod.fst).getD 0
      s.wr (Reg.THM_HOT 0) (BitVec.ofNat 32 (unsgn 16 v + 0x10000 * k + 0x800000 * b2n (s.sen k).sub.isSome))
  let st := Reg.THM_STAT 0
  let s := (s.wrF st F.THM_STAT_LR s.requestedLevel).wrF st F.THM_STAT_ENF_NOW (b2n s.enfNow)
  let s := s.wrF st F.THM_STAT_HELD (b2n s.subsInUse)
  let flt := Reg.THM_FLT_STAT 0
  let s := s.causeIs flt B.THM_BROKEN (sensIds.any (fun k => (s.sen k).broken))
  let s := s.causeIs flt B.THM_STALE (sensIds.any (fun k => (s.sen k).pres && (s.sen k).stale))
  let s := s.causeIs flt B.THM_SUB_HOLD s.subsInUse
  let s := s.causeIs flt B.THM_DRAM_HOT ((List.range 2).any (fun d => s.rdB (Reg.DRC_FLT_CAUSE d) B.DRC_DRAM_HOT))
  s.settleLevel

/-- The vesper pair in a slow round (R274): VSP_SPLIT from the third round in which they differ. -/
def Dev.vspSplit (s : Dev) : Dev :=
  if !s.senOk 60 ∨ !s.senOk 61 then s
  else
    let n := if 192 < ((s.sen 60).raw - (s.sen 61).raw).natAbs then s.thm.split + 1 else 0
    ({ s with thm := { s.thm with split := n } }).causeIs (Reg.THM_FLT_STAT 0) B.THM_VSP_SPLIT (decide (3 ≤ n))

/-- The vesper die's own check of its sensors in a slow round (R287). -/
def Dev.vspOwn (s : Dev) (rs : List (Nat × Int)) : Dev :=
  let runs : List (Nat × Nat) := [60, 61].map (fun k =>
    (k, if 2160 ≤ (rs.lookup k).getD 0 then (s.thm.vsp.lookup k).getD 0 + 1 else 0))
  let s := { s with thm := { s.thm with vsp := runs } }
  if runs.any (fun (e : Nat × Nat) => decide (2 ≤ e.2)) then s.shutdownOn else s

/-! ## Compensation -/

/-- The trim words of group `g`: none where its check fails (R248). -/
def Nv.trimWords (v : Nv) (s : Dev) (g : Nat) : List Byte :=
  if s.rdB Reg.VSP_TRIM_STAT g then (v.trims.getD g ⟨[], 0⟩).words else []

/-- T_d of die `d` in whole °C, with the sensor used, 127 for a median; none where no sensor can be read (R290). -/
def Dev.dieTemp (s : Dev) (d : Nat) : Option (Int × Nat) :=
  let f := if d = 0 then 60 else (sensGrid (d - 1)).1
  if s.senUsable f then some ((s.sen f).raw / 16, f)
  else
    let l := ((sensGroup f).filter s.senUsable).map (fun k => (s.sen k).raw)
    if l.isEmpty then none else some (lowMedian l / 16, 127)

/-- The correction of die `d` in a slow round (R290): one step at most, but for the first slow round. -/
def Dev.compensate (s : Dev) (v : Nv) (first : Bool) (d : Nat) : Dev :=
  if 3 ≤ d ∧ !s.linkUp (d - 3) 0 ∧ !s.linkUp (d - 3) 1 then s
  else match s.dieTemp d with
  | none => s
  | some (t, src) =>
    let w := v.trimWords s d
    let code := clampI (-127) 127 ((Config.trimTc w * (t - Config.trimTemp w) + 128) / 256)
    let old := sgn 8 (s.rdF (Reg.THM_COMP 0 d) F.THM_COMP_BG)
    let c := unsgn 8 (if first then code else clampI (old - 1) (old + 1) code)
    s.wr (Reg.THM_COMP 0 d) (BitVec.ofNat 32 (c + 256 * c + 0x10000 * src))

/-! ## Rounds -/

/-- The thermal manager runs (R270). -/
def Dev.thmRuns (s : Dev) : Bool := s.pwr.pll && s.power != 0 && !s.pwr.lost.contains 0

/-- The housekeeping conversions of a slow round (R270). -/
def Dev.housekeep (s : Dev) (supplies : List Nat) : Dev :=
  (forAll (List.range 24) s (fun s k => s.wr (Reg.VSP_HK k) (BitVec.ofNat 32 (min 0xFFFF (supplies.getD k 0))))).addR Reg.VSP_HK_ROUNDS 1

/-- A slow round (R270 to R290). -/
def Dev.slow (s : Dev) (v : Nv) (rs : List (Nat × Int)) (supplies : List Nat) : Dev :=
  if !s.pwr.pll ∨ s.power = 0 then s
  else
    let s := (s.housekeep supplies).vspOwn rs
    if !s.thmRuns then s
    else
      let first := s.rdF (Reg.THM_STAT 0) F.THM_STAT_FIRST == 1
      let s := (s.readRound sensIds rs true).vspSplit
      let s := (s.wrF (Reg.THM_STAT 0) F.THM_STAT_FIRST 0).afterRound sensIds true
      let s := s.setLevel s.level
      forAll (List.range 5) s (fun s d => s.compensate v first d)

/-- SLOW_ROUND. -/
def execSlowRound (readings : List (Nat × Int)) (supplies : List Nat) (s : State) : Host.Outcome State Fault Refusal :=
  s.onDev (fun d => d.slow s.nv readings supplies)

/-- A fast round reads only the fast set (R271). -/
def Dev.fast (s : Dev) (rs : List (Nat × Int)) : Dev :=
  let s := s.autoFast false
  let ids := sensIds.filter s.inFast
  if !s.thmRuns then s else (s.readRound ids rs false).afterRound ids false

/-- FAST_ROUND. -/
def execFastRound (readings : List (Nat × Int)) (s : State) : Host.Outcome State Fault Refusal := s.onDev (fun s => s.fast readings)

/-- SENSOR_STALE: a tile's newest STATUS is more than 100 ms old (R272). -/
def execSensorStale (t : Fin 16) (s : State) : Host.Outcome State Fault Refusal :=
  s.onDev (fun s =>
    let d := t.val / 8
    let n := t.val % 8
    if (s.lane d n).statusAt.isNone then s
    else
      let s := s.setLane d n { s.lane d n with old := true }
      if !s.thmRuns then s
      else
        let ks := (tileSens t).filter (fun k => (s.sen k).pres)
        let s := forAll ks s (fun s k =>
          s.setSen k { s.sen k with stale := true, sub := none, susp := 0, rein := 0, shut := 0, early := false })
        if ks.isEmpty then s
        else (s.wrF (Reg.THM_TILE 0 t) F.THM_TILE_STALE 1).causeOn (Reg.THM_FLT_STAT 0) B.THM_STALE)

/-! ## Status channels -/

/-- The fault status registers of power die `h`. -/
def hvStats (h : Nat) : List Nat := (List.range 8).flatMap (fun k => sum1ClusterStats (8 * h + k))

/-- A status frame of a power die (R22, R273): its fault status, and its hottest reading among the sensors that are not declared
broken; a die of which no reading has been taken yet sends one of which the spec says nothing, a free value (log entry 4). -/
def Dev.sendStatusFrame (s : Dev) (h : Nat) : Dev :=
  let (f, n, _) := sensGrid (2 + h)
  let l := ((List.range' f n).filter s.senUsable).map (fun k => (s.sen k).raw)
  let flt := (hvStats h).map (fun a => (a, s.rd a))
  match highest l with
  | some v => s.emit (.status h v flt)
  | none =>
    let (w, s) := s.free
    s.emit (.status h (sgn 16 w) flt)

/-- STATUS_FRAME_SEND. -/
def execStatusFrameSend (h : Hv) (s : State) : Host.Outcome State Fault Refusal := s.onDev (fun s => s.sendStatusFrame h)

/-- A status frame reaches the vesper die (R22, R287). -/
def Dev.takeStatusFrame (s : Dev) (h : Nat) (f : StatusFrame) : Dev :=
  if !f.valid then s
  else
    let s := forAll (f.flt.filter (fun e => (hvStats h).contains e.1)) s (fun s e => { s with mirror := s.mirror.put (fun _ => 0#32) e.1 e.2 })
    let n := if 2160 ≤ f.hot then (s.statOf h).over135 + 1 else 0
    let s := (s.setStat h { hot := some f.hot, over135 := n, stale := false }).causeOff Reg.VSP_LINK_FLT_STAT h
    if 2 ≤ n then s.shutdownOn else s

/-- STATUS_FRAME_RX. -/
def execStatusFrameRx (h : Hv) (f : StatusFrame) (s : State) : Host.Outcome State Fault Refusal :=
  s.onDev (fun s => s.takeStatusFrame h f)

/-- MIRROR_STALE: no valid status frame has arrived for 1 ms (R22). -/
def execMirrorStale (h : Hv) (s : State) : Host.Outcome State Fault Refusal :=
  s.onDev (fun s => (s.setStat h { s.statOf h with stale := true }).causeOn Reg.VSP_LINK_FLT_STAT h)

end Sys2Proof.Machine
end

