-- ==== Sys2Proof/Machine/Bist.lean ====
section
/-! DEFINITION. Periodic self-test, RETEST, the coverage cycle and start-up self-test (R302, R312 to R319). -/

namespace Sys2Proof.Machine

/-! ## Blocks -/

/-- The blocks that Table 14-4 lists for the engine of die `d`: those of its own die, and the string channels of each power die whose
active data channel is on it. -/
def Dev.listed (s : Dev) (d : Nat) : List Nat :=
  (List.range' 0x10 4 ++ List.range' 0x20 8 ++ List.range' 0x40 64).map (blockId (d + 1) 4) ++ (List.range 10).map (blockId (d + 1) 1) ++
    (List.range 8).map (blockId (d + 1) 6) ++ (List.range 8).map (blockId (d + 1) 0xA) ++ (List.range 2).map (blockId (d + 1) 8) ++
    (List.range 4).map (blockId (d + 1) 0xD) ++
    ((List.range 2).filter (fun h => s.engineDie (3 + h) == d)).flatMap (fun h => (List.range 64).map (blockId (3 + h) 1))

/-- The engine of die `d` tests block `blk` (R312). -/
def Dev.tests (s : Dev) (d blk : Nat) : Bool := (s.listed d).contains blk

/-- A local tile's head is in its night window (Table 6-2). -/
def Dev.inNight (s : Dev) (d t : Nat) : Bool :=
  let n := (s.place d t).head
  let ph := s.rdF (Reg.HEAD_TSTAT d n) F.HEAD_TSTAT_PHASE
  (s.place d t).used && (ph == 2 || ph == 6)

/-- Pipes of die `d` in service other than pipe `p`. -/
def Dev.otherPipes (s : Dev) (d p : Nat) : Nat := ((List.range 4).filter (fun q => q != p && s.pipeOk d q)).length

/-- Bridge links in service other than link `l`. -/
def Dev.otherLinks (s : Dev) (l : Nat) : Nat :=
  ((List.range 4).filter (fun k => k != l && s.rdB (Reg.FAB_BRG_STAT 0) k)).length

/-- String channel of a block of a power die. -/
def chanOf (blk : Nat) : Nat := 64 * (blk / 0x1000 - 3) + blk % 0x100

/-- Block `blk` of die `d` has its opportunity (Table 14-4); a held block only for its RETEST. -/
def Dev.opportunity (s : Dev) (d blk : Nat) (retest : Bool) : Bool :=
  let u := blk / 0x100 % 0x10
  let i := blk % 0x100
  let held := s.isHeld blk
  if blk / 0x1000 = 3 ∨ blk / 0x1000 = 4 then
    (retest && held) || (!held && (s.sinkOff (chanOf blk) || decide ((s.chan (chanOf blk)).duty < 65535)))
  else match u with
  | 4 =>
    if i < 0x20 then
      s.otherPipes d (i - 0x10) == 3 && ((retest && held) || (!held && s.pipeOk d (i - 0x10))) &&
        ((s.pipes d).pipes.getD (i - 0x10) none).isNone
    else if i < 0x28 then s.inNight d (i - 0x20) && ((retest && held) || !held)
    else !(s.runCols d).testBit (i - 0x40) && ((retest && held) || !(s.failCols d).testBit (i - 0x40)) &&
      !(s.rbBusy d && (match (s.rb d).build with | some b => b.cols.testBit (i - 0x40) | none => false))
  | 1 =>
    if i < 8 then (retest && held) || (!held && s.inNight d i && s.locked d i)
    else ((retest && held) || !held) && s.rdF (Reg.LANE_IN_CFG d i) F.LANE_IN_CFG_EN == 0
  | 6 => s.inNight d i && ((retest && held) || !held)
  | 0xA => !s.crcArmed d i && ((retest && held) || !held)
  | 8 => s.chanRuns d i && ((retest && held) || !held)
  | _ => s.otherLinks i == 3 && s.clients.isEmpty && ((retest && held) || s.rdB (Reg.FAB_BRG_STAT 0) i)

/-- The registers that self-test saves before a slice of a block (R302). -/
def Dev.savedRegs (s : Dev) (d blk : Nat) : List (Nat × Word) :=
  if blk / 0x100 % 0x10 = 0xA ∧ blk / 0x1000 < 3 then
    let u := blk % 0x100
    [Reg.CRC_VALUE d u, Reg.CRC_CNT d u, Reg.CRC_EXP d u, Reg.CRC_CTRL d u].map (fun a => (a, s.rd a))
  else []

/-! ## Slices -/

/-- A slice starts (R312, R314): it has priority after eight abandonments of its block, and a RETEST due is run as one. -/
def Dev.sliceStart (s : Dev) (d blk len : Nat) : Dev :=
  let e := s.eng d
  let retest := e.due.contains blk
  let after := match e.safeAt with | some t => decide (t + 1000 ≤ s.us) | none => true
  if (s.power ≠ 2 ∧ s.power ≠ 3 ∧ s.power ≠ 4) ∨ (s.rdF (Reg.BIST_CTRL d) F.BIST_CTRL_EN = 0 ∧ !retest) ∨ e.slice.isSome ∨
      (s.power = 4 ∧ !after) ∨ !s.tests d blk ∨ !s.opportunity d blk retest then s
  else
    let prio := decide (8 ≤ e.aband.get (fun _ => 0) blk)
    let sl : Slice := { block := blk, len := len, prio := prio && !retest, retest := retest, saved := s.savedRegs d blk }
    let s := s.setEng d { e with slice := some sl, due := e.due.filter (· != blk),
                                 tried := if e.tried.contains blk then e.tried else blk :: e.tried }
    let s := s.wr (Reg.BIST_STAT d) (BitVec.ofNat 32 (1 + 2 * b2n sl.prio + 0x10000 * blk))
    (s.maskAssert blk).sliceLink blk false

/-- BIST_SLICE_START. -/
def execBistSliceStart (d : Die) (block : BitVec 16) (len : BitVec 16) (s : State) : Host.Outcome State Fault Refusal :=
  s.onDev (fun s => s.sliceStart d block.toNat len.toNat)

/-- A block leaves service because self-test holds it, with the light it serves (R316, R318). -/
def Dev.holdBlock (s : Dev) (d blk : Nat) (startup : Bool) : Dev :=
  let i := blk % 0x100
  let s := s.addHeld d blk startup
  if blk / 0x1000 = 3 ∨ blk / 0x1000 = 4 then
    (s.setChan (chanOf blk) { s.chan (chanOf blk) with failed := true, ton := 0 }).showChan (chanOf blk)
  else match blk / 0x100 % 0x10 with
  | 4 =>
    if i < 0x10 then s
    else if i < 0x20 then s.pipeLoss d (i - 0x10)
    else if i < 0x28 then s.safeFill d (i - 0x20) .bist
    else (s.columnFail d (i - 0x40)).causeOn (Reg.FAB_FLT_STAT d) B.FAB_COLUMN
  | 1 => if i < 8 then (s.safeFill d i .bist).laneOff d i else if i < 10 then s.laneOff d i else s
  | 6 => if i < 8 then s.safeFill d i .bist else s
  | 8 => s.dramLoss d i
  | 0xD => if s.rdB (Reg.FAB_BRG_STAT 0) i then s.linkRemove i else s
  | _ => s

/-- A slice or RETEST fails (R316). -/
def Dev.sliceFail (s : Dev) (d blk : Nat) : Dev :=
  (s.holdBlock d blk false).causeOn (Reg.BIST_FLT_STAT d) B.BIST_SLICE_FAIL

/-- A tile whose lane, photometric path and line buffer are no longer held leaves safe-fill (R195, R316). -/
def Dev.pathServes (s : Dev) (d t : Nat) : Dev :=
  if s.isHeld (laneBlock d t) || s.isHeld (blockId (d + 1) 6 t) || s.isHeld (lineBlock d t) then s else s.safeFillEnd d t .bist

/-- A held lane comes out of reset: one in use trains (R161, R316). -/
def Dev.laneServes (s : Dev) (d n : Nat) : Dev :=
  if s.laneState d n = 0 then (s.clearRetry d n).startSeq d n true false else s

/-- A held block leaves the held list after a RETEST that passes: it serves again, and its causes go (R316). A failed column is never
used again until a cold start (R55): its failure mark stays. -/
def Dev.releaseBlock (s : Dev) (d blk : Nat) : Dev :=
  let i := blk % 0x100
  let s := s.dropHeld d blk
  let s := if (s.heldList d).any (fun w => fget w F.BIST_HELD_STARTUP == 0) then s
    else s.causeOff (Reg.BIST_FLT_STAT d) B.BIST_SLICE_FAIL
  if blk / 0x1000 = 3 ∨ blk / 0x1000 = 4 then
    (s.setChan (chanOf blk) { s.chan (chanOf blk) with failed := s.hasCause (Reg.CH_FLT_STAT (chanOf blk)) B.CH_SINK }).showChan (chanOf blk)
  else match blk / 0x100 % 0x10 with
  | 4 =>
    if i < 0x20 then
      ((s.wrB (Reg.FAB_PIPE_STAT d) (i - 0x10) true).causeOff (Reg.FAB_PIPE_FLT_STAT d) (i - 0x10)).dispatch d
    else if i < 0x28 then s.pathServes d (i - 0x20)
    else forAll (List.range 4) s (fun s n => s.columnCheck d n)
  | 1 => if i < 8 then (s.pathServes d i).laneServes d i else if i < 10 then s.laneServes d i else s
  | 6 => if i < 8 then s.pathServes d i else s
  | 0xD => if s.rdB (Reg.FAB_BRG_STAT 0) i then s else s.linkServe i
  | _ => s

/-- A set of slices of a block has passed, and the coverage cycle may end (R317). -/
def Dev.cover (s : Dev) (d blk : Nat) : Dev :=
  let e := s.eng d
  let e : BistH := { e with passes := e.passes.put (fun _ => 0) blk (e.passes.get (fun _ => 0) blk + 1) }
  let s := s.setEng d e
  let listed := s.listed d
  let whole := (listed.filter e.tried.contains).all (fun b => decide (Config.sliceCount b ≤ e.passes.get (fun _ => 0) b))
  let cycle := max 1 (s.rdF (Reg.BIST_CTRL d) F.BIST_CTRL_CYCLE) * 100000
  if whole ∧ cycle ≤ s.us - e.cycleAt then
    let s := s.setEng d { e with passes := [], tried := [], cycleAt := s.us }
    let uncov := (listed.filter (fun b => !e.tried.contains b)).length
    let s := s.wr (Reg.BIST_CYC_STAT d) (BitVec.ofNat 32 (min 0xFFFF ((s.us - e.cycleAt) / 100000) + 0x10000 * min 255 uncov))
    s.causeOff (Reg.BIST_FLT_STAT d) B.BIST_CYCLE_LATE
  else s

/-- A slice ends with its count, its completion flag and whether its signature matches (R315, R316). -/
def Dev.sliceEnd (s : Dev) (d count : Nat) (done sigOk : Bool) : Dev :=
  match (s.eng d).slice with
  | none => s
  | some sl =>
    let ok := done && count == sl.len
    let result := if !ok then 2 else if sigOk then 0 else 1
    let why := if count = sl.len then 0 else 2
    let s := (s.setEng d { s.eng d with slice := none }).restore sl.saved
    let s := (s.wrF (Reg.BIST_STAT d) F.BIST_STAT_RUNNING 0).wrF (Reg.BIST_STAT d) F.BIST_STAT_PRIORITY 0
    let s := s.wr (Reg.BIST_RES d)
      (BitVec.ofNat 32 (result + 4 * b2n done + 8 * b2n sigOk + 16 * (if ok then 0 else why) + 0x10000 * sl.block))
    let s := s.wr (Reg.BIST_RESCNT d) (BitVec.ofNat 32 (count + 0x10000 * sl.len))
    let s := if s.isHeld sl.block then s else s.sliceLink sl.block true
    let s := if result = 1 then s else (s.maskRelease sl.block).sliceUnmask sl.block
    if result = 2 then (if why = 2 then s.countAbandon d sl else s)
    else
      let e := s.eng d
      let s := s.setEng d { e with aband := e.aband.put (fun _ => 0) sl.block 0, prioAband := e.prioAband.put (fun _ => 0) sl.block 0 }
      if result = 1 then s.sliceFail d sl.block
      else
        let s := s.setEng d { s.eng d with starved := (s.eng d).starved.filter (· != sl.block) }
        let s := if (s.eng d).starved.isEmpty then s.causeOff (Reg.BIST_FLT_STAT d) B.BIST_STARVED else s
        let s := if sl.retest ∧ s.isHeld sl.block then s.releaseBlock d sl.block else s
        s.cover d sl.block

/-- BIST_SLICE_END. A pipe that is given back takes the oldest eligible span (R63). -/
def execBistSliceEnd (d : Die) (count : BitVec 16) (done : Bool) (sigOk : Bool) (s : State) : Host.Outcome State Fault Refusal :=
  s.onDev (fun s => (s.sliceEnd d count.toNat done sigOk).dispatch d)

/-- BIST_SLICE_ABANDON: a request for normal service reaches the block under test (R313, R314, Table 14-4). -/
def execBistSliceAbandon (d : Die) (s : State) : Host.Outcome State Fault Refusal :=
  s.onDev (fun s =>
    match (s.eng d).slice with
    | none => s
    | some sl =>
      if sliceYields sl.block ∧ ((!sl.prio ∧ !sl.retest) ∨ sl.block / 0x100 % 0x10 = 0xA) then s.abandonSlice d 1 else s)

/-- RETEST of a block (R316): its complete test runs at its next opportunity. -/
def Dev.retestCmd (s : Dev) (d blk : Nat) : Dev :=
  let e := s.eng d
  if s.tests d blk ∧ !e.due.contains blk then s.setEng d { e with due := e.due ++ [blk] } else s

/-- RETEST. -/
def execRetest (d : Die) (block : BitVec 16) (s : State) : Host.Outcome State Fault Refusal :=
  s.onDev (fun s => s.retestCmd d block.toNat)

/-- CYCLE_LATE: the coverage cycle has taken longer than twice CYCLE (R317). -/
def execCycleLate (d : Die) (s : State) : Host.Outcome State Fault Refusal :=
  s.onDev (fun s => s.causeOn (Reg.BIST_FLT_STAT d) B.BIST_CYCLE_LATE)

/-! ## Start-up self-test -/

/-- The sections of the running image, as Config takes them. -/
def Dev.runSecs (s : Dev) : List (Nat × Nat × List Byte) :=
  match s.img.running with | some r => r.secs.map (fun x => (x.typ, x.inst, x.data)) | none => []

/-- The failure of a block bars LIT (R318). -/
def Dev.barsLit (s : Dev) (blk : Nat) : Bool :=
  let u := blk / 0x100 % 0x10
  let i := blk % 0x100
  let cd := decide (blk / 0x1000 = 1 ∨ blk / 0x1000 = 2)
  Config.imageUses s.runSecs blk || (cd && ((u == 4 && (decide (i < 4) || decide (0x10 ≤ i ∧ i < 0x14))) || u == 0xD))

/-- Start-up self-test ends with the blocks that failed it twice (R318, R319). -/
def Dev.startupDone (s : Dev) (failed : List Nat) : Dev :=
  if s.power ≠ 1 ∨ !s.pwr.delivered ∨ s.pwr.tested ∨ !((List.range 2).all (fun d => (s.drc d).trained || s.pwr.lost.contains d)) then s
  else
    let blocks := ((List.range 2).flatMap s.listed) ++ (List.range 2).flatMap (fun d => (List.range 4).map (blockId (d + 1) 4))
    let bad := (failed.filter blocks.contains).dedup
    let groups := (List.range 5).filter (fun g => !s.rdB Reg.VSP_TRIM_STAT g)
    let s := forAll bad s (fun s b =>
      let d := s.engineDie (b / 0x1000)
      ((s.holdBlock d b true).maskAssert b).causeOn (Reg.BIST_FLT_STAT d) B.BIST_STARTUP_FAIL)
    let s := if groups.isEmpty then s else s.causeOn (Reg.BIST_FLT_STAT 0) B.BIST_STARTUP_FAIL
    let bars := bad.any s.barsLit || (List.range 2).any (fun d => decide (4 < colCount (s.failCols d))) ||
      groups.any (fun g => g == 0 || (allBlocks g).any (fun b => Config.imageUses s.runSecs b))
    let s := { s with pwr := { s.pwr with tested := true, barred := bars } }
    if bars then s.causeOn Reg.VSP_PWR_FLT_STAT B.VSP_PWR_SELFTEST else s

/-- STARTUP_SELFTEST_DONE. -/
def execStartupSelftestDone (failed : List (BitVec 16)) (s : State) : Host.Outcome State Fault Refusal :=
  s.onDev (fun s => s.startupDone (failed.map BitVec.toNat))

end Sys2Proof.Machine
end

