-- ==== Sys2Proof/Machine/ImageCmd.lean ====
section
/-! DEFINITION. Boot records and the image loader's commands (R47 to R53). -/

namespace Sys2Proof.Machine

/-! ## Boot records -/

/-- The governing boot record and its copy: the valid one with the higher sequence number (R47). -/
def Nv.governs (nv : Nv) : Option (Nat × BootRec) :=
  match nv.boot.getD 0 none, nv.boot.getD 1 none with
  | some a, some b => if a.seq < b.seq then some (1, b) else some (0, a)
  | some a, none => some (0, a)
  | none, some b => some (1, b)
  | none, none => none

/-- The boot record in force: with neither copy valid, PREF is A and TRIAL and TRIED are 0 (R47). -/
def Nv.bootRec (nv : Nv) : BootRec := (nv.governs.map Prod.snd).getD ⟨0, 0, false, false⟩

/-- A new boot record, into the copy that does not govern, with the next sequence number (R47). DESIGN CHOICE (log entry 199): the
number wraps to 0 after its highest value, and of two equal numbers the first copy governs. -/
def Nv.writeBoot (nv : Nv) (pref : Nat) (trial tried : Bool) : Nv :=
  match nv.governs with
  | none => { nv with boot := nv.boot.set 0 (some ⟨1, pref, trial, tried⟩) }
  | some (c, r) => { nv with boot := nv.boot.set (1 - c) (some ⟨(r.seq + 1) % 2 ^ 32, pref, trial, tried⟩) }

/-- VSP_IMG_BOOTSEL (Table 2-11). -/
def Dev.showBoot (s : Dev) (nv : Nv) : Dev :=
  let r := nv.bootRec
  s.wr Reg.VSP_IMG_BOOTSEL (BitVec.ofNat 32 (r.pref + 2 * b2n r.trial + 4 * b2n r.tried + 0x10000 * (r.seq % 65536)))

/-! ## Commands -/

/-- The target copy: the one not running; while the recovery image runs, the copy other than PREF (R51). DESIGN CHOICE (log entry 200):
while no image runs at all it is the copy other than PREF too. -/
def State.targetCopy (s : State) : Nat :=
  match s.dev.img.running with
  | some r => if r.copy = 2 then 1 - s.nv.bootRec.pref else 1 - r.copy
  | none => 1 - s.nv.bootRec.pref

/-- A field of VSP_IMG_UPD_STAT set. -/
def Dev.updStat (s : Dev) (f : Fld) (v : Nat) : Dev := s.wrF Reg.VSP_IMG_UPD_STAT f v

/-- A command refused: BUSY, or REFUSED for another reason (R51, Table 2-12); the other bit clears at an accepted command only. -/
def Dev.imgRefuse (s : Dev) (busy : Bool) : Dev :=
  s.updStat (if busy then F.VSP_IMG_UPD_STAT_BUSY else F.VSP_IMG_UPD_STAT_REFUSED) 1

/-- A command accepted: BUSY and REFUSED clear. -/
def Dev.imgAccept (s : Dev) : Dev := (s.updStat F.VSP_IMG_UPD_STAT_BUSY 0).updStat F.VSP_IMG_UPD_STAT_REFUSED 0

/-- A command ends: DONE, or FAILED with UPD_FAIL; its message goes on vector 42 (Table 15-4). -/
def Dev.imgEnd (s : Dev) (good : Bool) (step : Nat) : Dev :=
  let s := { s with img := { s.img with job := 0, erasing := false } }
  let s := (s.updStat F.VSP_IMG_UPD_STAT_STATE (if good then 5 else 6)).updStat F.VSP_IMG_UPD_STAT_FAIL_STEP step
  let s := if good then s.updStat F.VSP_IMG_UPD_STAT_PROGRESS 100 else s.raise Reg.VSP_IMG_FLT_STAT B.VSP_IMG_UPD_FAIL
  s.emit (.msix 42)

/-- VERIFY or PROGRAM begins with the verification of the staged image (R51). -/
def State.imgBegin (s : State) (job : Nat) : State :=
  let v := s.dev.imgAccept
  let v := { v with img := { v.img with job := job, erasing := false, keys := s.nv.keys, zero := s.nv.zeroised } }
  let v := ((v.updStat F.VSP_IMG_UPD_STAT_STATE 1).updStat F.VSP_IMG_UPD_STAT_PROGRESS 0).updStat F.VSP_IMG_UPD_STAT_FAIL_STEP 0
  { s with dev := v }

/-- A command of VSP_IMG_UPD_CTRL: 1 VERIFY, 2 PROGRAM, 3 SELECT, 4 CONFIRM (R49, R51, R365). -/
def State.imgCmd (s : State) (cmd : Nat) : State :=
  let v := s.dev
  let t := s.targetCopy
  let r := s.nv.bootRec
  if v.img.job ≠ 0 then { s with dev := v.imgRefuse true }
  else if cmd < 1 ∨ 4 < cmd ∨ (cmd = 3 ∧ !v.img.passed.contains t) ∨ (s.nv.locked ∧ cmd ≠ 4) then
    { s with dev := v.imgRefuse false }
  else if cmd = 1 ∨ cmd = 2 then s.imgBegin cmd
  else
    let nv := if cmd = 3 then s.nv.writeBoot t true false
      else if r.trial then s.nv.writeBoot r.pref false false else s.nv
    let v := if cmd = 4 then { v with img := { v.img with running := v.img.running.map (fun x => { x with trial := false }) } } else v
    { s with nv := nv, dev := (v.imgAccept.imgEnd true 0).showBoot nv }

/-- VERIFY. -/
def execVerify (s : State) : Host.Outcome State Fault Refusal := .next (s.imgCmd 1)

/-- PROGRAM. -/
def execProgram (s : State) : Host.Outcome State Fault Refusal := .next (s.imgCmd 2)

/-- SELECT. -/
def execSelect (s : State) : Host.Outcome State Fault Refusal := .next (s.imgCmd 3)

/-- CONFIRM. -/
def execConfirm (s : State) : Host.Outcome State Fault Refusal := .next (s.imgCmd 4)

/-- Flash offset of an image copy: 0 A, 1 B (R47). -/
def copyOff (c : Nat) : Nat := 0x800000 * c

/-- The copy being programmed loses its header before any other sector (R51). -/
def State.eraseHeader (s : State) : State :=
  let t := s.targetCopy
  { s with mem := s.mem.flashErase (copyOff t) 0x1000,
           dev := { s.dev with img := { s.dev.img with erasing := true, passed := s.dev.img.passed.filter (· != t) } } }

/-- A copy whose programming was broken off before its header sector was programmed: that sector is erased, and nothing is known of
its other bytes (R52). -/
def State.ruinCopy (s : State) : State :=
  let off := copyOff s.targetCopy
  let f := s.dev.fresh
  let junk := (List.range 0x7FF000).map (fun k => BitVec.ofNat 8 (Config.freeValue (f + k)))
  { s with mem := (s.mem.flashErase off 0x1000).flashWrite (off + 0x1000) junk, dev := { s.dev with fresh := f + 0x7FF000 } }

/-- A copy whose programming was broken off during the final read-back of its header sector: every byte has been programmed, and any of
them may differ from what it should be (R52). -/
def State.leaveCopy (s : State) : State :=
  let f := s.dev.fresh
  let bs := (s.stagedTo s.dev.img.len).zipIdx.map (fun e =>
    if Config.freeValue (f + 2 * e.2) % 2 = 0 then e.1 else BitVec.ofNat 8 (Config.freeValue (f + 2 * e.2 + 1)))
  { s with mem := (s.mem.flashErase (copyOff s.targetCopy) 0x800000).flashWrite (copyOff s.targetCopy) bs,
           dev := { s.dev with fresh := f + 0x1000000 } }

/-- PROGRAM is broken off while it works on the target copy; how far it has come is open (R52, log entry 201). -/
def State.breakCopy (s : State) : State :=
  let x := s.dev.free
  let s := { s with dev := x.2 }
  if x.1 % 2 = 0 then s.ruinCopy else s.leaveCopy

/-- Length of the OEM section of an image (Table 2-9). -/
def oemLen (l : List Section) : Nat := (secData l 9).length

/-- The verification of the staged image ends (R51, R53): VERIFY is done, and PROGRAM goes on to erase. -/
def State.imgVerified (s : State) : State :=
  let v := s.dev
  if v.img.job = 0 ∨ v.img.erasing then s
  else
    let img := s.staged
    let nv : Nv := { s.nv with keys := v.img.keys, zeroised := v.img.zero }
    let res := verifyImage nv v.img.running img img.length none []
    let v := v.snoopImage (img.take (imgLen img)) (readWhole res)
    match res with
    | .error k => { s with dev := v.imgEnd false k }
    | .ok l =>
      let v := v.wr Reg.VSP_IMG_OEM_LEN (BitVec.ofNat 32 (oemLen l))
      if v.img.job = 1 then { s with dev := v.imgEnd true 0 }
      else
        let v := { v with img := { v.img with len := imgLen img, digest := Config.sha256 (img.take (imgLen img)) } }
        State.eraseHeader { s with dev := v.updStat F.VSP_IMG_UPD_STAT_STATE 2 }

/-- IMG_VERIFY_DONE. -/
def execImgVerifyDone (s : State) : Host.Outcome State Fault Refusal := .next s.imgVerified

/-- PROGRAM ends: the copy is programmed and reads back as verified, or it does not and is left invalid (R51, R52). -/
def State.imgProgrammed (s : State) (good : Bool) : State :=
  if !s.dev.img.erasing then s
  else
    let t := s.targetCopy
    let img := s.stagedTo s.dev.img.len
    if good ∧ Config.sha256 img = s.dev.img.digest then
      let v := (s.dev.imgEnd true 0)
      { s with mem := (s.mem.flashErase (copyOff t) 0x800000).flashWrite (copyOff t) img,
               dev := { v with img := { v.img with passed := t :: v.img.passed } } }
    else
      let s := s.ruinCopy
      { s with dev := (s.dev.imgEnd false 0).raise Reg.VSP_IMG_FLT_STAT B.VSP_IMG_FLASH_WRITE }

/-- IMG_PROGRAM_DONE. -/
def execImgProgramDone (good : Bool) (s : State) : Host.Outcome State Fault Refusal := .next (s.imgProgrammed good)

/-- An image command in progress is broken off by a warm reset or by entry to SLEEP (R52, R349, Table 16-2). -/
def State.imgAbort (s : State) : State :=
  if s.dev.img.job = 0 then s
  else
    let s := if s.dev.img.erasing then s.breakCopy else s
    { s with dev := s.dev.imgEnd false 0 }

end Sys2Proof.Machine
end

