-- ==== Sys2Proof/Machine/CheckUnits.lean ====
section
/-! DEFINITION. The commands of the check-value units (R294 to R303). -/

namespace Sys2Proof.Machine

/-- INIT: VALUE, CNT, DONE and MATCH, and the MISMATCH cause (R294, R301); a window in progress is skipped while the unit stays
ARMED (R303). -/
def Dev.crcInit (s : Dev) (d u : Nat) : Dev :=
  let s := s.touch d (crcBlock d u)
  let s := if (s.crc d u).inWin then
      (s.satF (Reg.CRC_STAT d u) F.CRC_STAT_SKIPPED 1).setCrc d u
        { inWin := crcOpenAtArm (s.rdF (Reg.CRC_CTRL d u) F.CRC_CTRL_SRC), first := true, missed := false }
    else s
  let s := (s.wrF (Reg.CRC_STAT d u) F.CRC_STAT_DONE 0).wrF (Reg.CRC_STAT d u) F.CRC_STAT_MATCH 0
  (s.crcRestart d u).causeOff (Reg.CRC_FLT_STAT d u) B.CRC_MISMATCH

/-- CRC_INIT. -/
def execCrcInit (d : Die) (u : Fin 8) (s : State) : Host.Outcome State Fault Refusal := s.onDev (fun s => s.crcInit d u)

/-- CHECK (R301). -/
def Dev.crcCheckCmd (s : Dev) (d u : Nat) : Dev := (s.touch d (crcBlock d u)).crcCompare d u

/-- CRC_CHECK. -/
def execCrcCheck (d : Die) (u : Fin 8) (s : State) : Host.Outcome State Fault Refusal := s.onDev (fun s => s.crcCheckCmd d u)

/-- SRC and SEL of a unit name a source that it can snoop (R298, Table 13-2). -/
def Dev.crcSourceOk (s : Dev) (d u : Nat) : Bool :=
  let sel := s.crcSel d u
  match s.rdF (Reg.CRC_CTRL d u) F.CRC_CTRL_SRC with
  | 1 => decide (sel < 8) && s.rdF (Reg.LANE_CFG d sel) F.LANE_CFG_USE == 1
  | 2 => (sel == 8 || sel == 9) && s.rdF (Reg.LANE_CFG d sel) F.LANE_CFG_USE == 2
  | 3 => sel == 2 || sel == 4 || sel == 5 || sel == 6
  | 4 => d == 0
  | 5 => true
  | _ => false

/-- ARM (R298, R300): ignored while ARMED, refused without a source or while self-test holds the unit (R316). -/
def Dev.crcArmCmd (s : Dev) (d u : Nat) : Dev :=
  let s := s.touch d (crcBlock d u)
  if s.crcArmed d u then s.crcIgnore d u
  else if !s.crcSourceOk d u || s.isHeld (crcBlock d u) then s.raise (Reg.CRC_FLT_STAT d u) B.CRC_REFUSED
  else
    (s.wrF (Reg.CRC_STAT d u) F.CRC_STAT_ARMED 1).setCrc d u
      { inWin := crcOpenAtArm (s.rdF (Reg.CRC_CTRL d u) F.CRC_CTRL_SRC), first := true, missed := false }

/-- CRC_ARM. -/
def execCrcArm (d : Die) (u : Fin 8) (s : State) : Host.Outcome State Fault Refusal := s.onDev (fun s => s.crcArmCmd d u)

/-- STOP ends the window without a compare, and ARMED clears (R300). -/
def Dev.crcStopCmd (s : Dev) (d u : Nat) : Dev :=
  ((s.touch d (crcBlock d u)).setCrc d u CrcH.init).wrF (Reg.CRC_STAT d u) F.CRC_STAT_ARMED 0

/-- CRC_STOP. -/
def execCrcStop (d : Die) (u : Fin 8) (s : State) : Host.Outcome State Fault Refusal := s.onDev (fun s => s.crcStopCmd d u)

/-- END closes a DRAM_WR or FLASH window and compares (R298); with another source it is ignored (R303). -/
def Dev.crcEndCmd (s : Dev) (d u : Nat) : Dev :=
  let s := s.touch d (crcBlock d u)
  if s.crcArmed d u && crcOpenAtArm (s.rdF (Reg.CRC_CTRL d u) F.CRC_CTRL_SRC) then s.crcWindowEnd d u true else s

/-- CRC_END. -/
def execCrcEnd (d : Die) (u : Fin 8) (s : State) : Host.Outcome State Fault Refusal := s.onDev (fun s => s.crcEndCmd d u)

/-- A write of a data register feeds its `n` bytes in the order of BYTEORD, or is ignored (R295, R296). -/
def Dev.crcData (s : Dev) (d u n : Nat) (v : Word) : Dev :=
  let s := s.touch d (crcBlock d u)
  if s.rdF (Reg.CRC_CTRL d u) F.CRC_CTRL_SRC = 0 then
    let bs := toLE n v.toNat
    s.crcFeed d u (if s.rdF (Reg.CRC_CTRL d u) F.CRC_CTRL_BYTEORD = 1 then bs.reverse else bs)
  else s.crcIgnore d u

/-- CRC_DATA8. -/
def execCrcData8 (d : Die) (u : Fin 8) (v : Word) (s : State) : Host.Outcome State Fault Refusal :=
  s.onDev (fun s => s.crcData d u 1 v)

/-- CRC_DATA16. -/
def execCrcData16 (d : Die) (u : Fin 8) (v : Word) (s : State) : Host.Outcome State Fault Refusal :=
  s.onDev (fun s => s.crcData d u 2 v)

/-- CRC_DATA32. -/
def execCrcData32 (d : Die) (u : Fin 8) (v : Word) (s : State) : Host.Outcome State Fault Refusal :=
  s.onDev (fun s => s.crcData d u 4 v)

/-- A write of CRC_VALUEu, ignored while ARMED (R296). -/
def Dev.crcSetValue (s : Dev) (d u : Nat) (v : Word) : Dev :=
  let s := s.touch d (crcBlock d u)
  if s.crcArmed d u then s.crcIgnore d u
  else s.wr (Reg.CRC_VALUE d u) (BitVec.ofNat 32 (v.toNat % 2 ^ (s.crcAlgOf d u).w))

/-- CRC_VALUE_WRITE. -/
def execCrcValueWrite (d : Die) (u : Fin 8) (v : Word) (s : State) : Host.Outcome State Fault Refusal :=
  s.onDev (fun s => s.crcSetValue d u v)

/-- A write of CRC_CTRLu, ignored while ARMED (R296). -/
def Dev.crcSetCtrl (s : Dev) (d u : Nat) (v : Word) : Dev :=
  let s := s.touch d (crcBlock d u)
  if s.crcArmed d u then s.crcIgnore d u else s.wr (Reg.CRC_CTRL d u) v

/-- CRC_CTRL_WRITE. -/
def execCrcCtrlWrite (d : Die) (u : Fin 8) (v : Word) (s : State) : Host.Outcome State Fault Refusal :=
  s.onDev (fun s => s.crcSetCtrl d u v)

/-- A TILE_OUT window starts at a dawn of the tile's head, with SAMPLE only in frames of its phase (R298, R300). The windows of
the other sources start inside ARM, VID_RX, OBJ_RX and the loader's reads (Table 13-2). -/
def Dev.crcWindowStart (s : Dev) (d u : Nat) : Dev :=
  if s.crcArmed d u && !(s.crc d u).inWin && s.rdF (Reg.CRC_CTRL d u) F.CRC_CTRL_SRC == 1 then
    let n := (s.place d (s.crcSel d u)).head
    if s.rdF (Reg.CRC_CTRL d u) F.CRC_CTRL_SAMPLE = 1 ∧
        (s.rd (Reg.HEAD_FRAME d n)).toNat % 16 ≠ s.rdF (Reg.CRC_CTRL d u) F.CRC_CTRL_NPH then s
    else s.setCrc d u { inWin := true, first := true, missed := false }
  else s

/-- SNOOP_WINDOW_START. -/
def execSnoopWindowStart (d : Die) (u : Fin 8) (s : State) : Host.Outcome State Fault Refusal :=
  s.onDev (fun s => s.crcWindowStart d u)

/-- A TILE_OUT window ends at the dusk of the tile's head: compared where complete, else skipped (R300). -/
def Dev.crcWindowClose (s : Dev) (d u : Nat) (complete : Bool) : Dev :=
  if s.crcArmed d u && s.rdF (Reg.CRC_CTRL d u) F.CRC_CTRL_SRC == 1 then s.crcWindowEnd d u complete else s

/-- SNOOP_COMPARE. -/
def execSnoopCompare (d : Die) (u : Fin 8) (complete : Bool) (s : State) : Host.Outcome State Fault Refusal :=
  s.onDev (fun s => s.crcWindowClose d u complete)

end Sys2Proof.Machine
end

