-- ==== Sys2Proof/Machine/RegRead.lean ====
section
/-! DEFINITION. Reading a register (R11, R13, R137, R322, R330, R350): the register as held, or what the device computes for it. -/

namespace Sys2Proof.Machine

/-! ## Reach -/

/-- The compositor die of a register address. -/
def dieOf (a : Nat) : Nat := a / 0x1000000 - 1

/-- The power die of a register address. -/
def hvAt (a : Nat) : Nat := (a - 0x3000000) / 0x400000

/-- A BAR0 access to address `a` does not fail (R17, Table 1-1, Table 1-5, R324): a vesper window is reached over CD0's supervisor link,
CD1 over the bridge, and a power die from the compositor die on its active data channel. -/
def Dev.hostReach (s : Dev) (a : Nat) : Bool :=
  if a < 0x1000000 then s.supWay 0
  else if a < 0x3000000 then s.hostWay (dieOf a)
  else if a < 0x3800000 then s.linked (hvAt a) && s.hostWay (s.active (hvAt a))
  else s.supWay 0

/-- A safety SPI access to address `a` does not fail (R17, Table 1-1, R329, R350): the slave is on the vesper die, whose windows
answer while it has VBAT, and in SLEEP the vesper window alone; a compositor die is reached over its supervisor link. -/
def Dev.spiReach (s : Dev) (a : Nat) : Bool :=
  if a < 0x1000000 then s.pwr.vbat != 2
  else if a < 0x3000000 then s.supWay (dieOf a)
  else if a < 0x3800000 then s.linked (hvAt a) && s.supWay (s.active (hvAt a))
  else s.pwr.vbat != 2 && s.power != 0

/-- The host or the safety microcontroller reaches address `a`. -/
def Dev.reach (s : Dev) (a : Nat) : Bool := s.hostReach a || s.spiReach a

/-- A register access from CD0 that goes through CD1 crosses the bridge: its request on VC2, its answer on VC1 (Table 1-2). -/
def Dev.crossWay (s : Dev) (a : Nat) : Dev :=
  if (0x2000000 ≤ a ∧ a < 0x3000000) ∨ (0x3000000 ≤ a ∧ a < 0x3800000 ∧ s.active (hvAt a) = 1) then (s.brgSend 0 2).brgSend 1 1
  else s

/-! ## Blocks reached by a register access -/

/-- The block whose registers hold address `a`, with the die whose engine tests it (R313, Table 14-3). -/
def Dev.regBlock (s : Dev) (a : Nat) : Option (Nat × Nat) :=
  if 0x1000000 ≤ a ∧ a < 0x3000000 then
    let d := dieOf a
    let o := a % 0x1000000
    if 0x10000 ≤ o ∧ o < 0x1A000 then some (d, laneBlock d (o / 0x1000 - 0x10))
    else if 0x60000 ≤ o ∧ o < 0x60100 then some (d, blockId (d + 1) 6 (o % 0x100 / 0x20))
    else if 0x80080 ≤ o ∧ o < 0x800C0 then some (d, blockId (d + 1) 8 ((o - 0x80080) / 0x20))
    else if 0xA0000 ≤ o ∧ o < 0xA0800 then some (d, crcBlock d ((o - 0xA0000) / 0x100))
    else if 0xD0004 ≤ o ∧ o < 0xD0014 then some (d, blockId (d + 1) 0xD ((o - 0xD0004) / 4))
    else none
  else if 0x3000000 ≤ a ∧ a < 0x3800000 ∧ 0x10000 ≤ a % 0x400000 ∧ a % 0x400000 < 0x11000 then
    let h := hvAt a
    some (s.engineDie (3 + h), blockId (3 + h) 1 (a % 0x1000 / 0x40))
  else none

/-- A register access abandons a slice of the block it reaches (R313). -/
def Dev.touchReg (s : Dev) (a : Nat) : Dev :=
  match s.regBlock a with
  | some p => s.touch p.1 p.2
  | none => s

/-! ## Registers whose value is computed -/

/-- A register address as its base and its index, where it is one of `n` registers `stride` bytes apart from `base` on. -/
def idxAt (a base stride n : Nat) : Option Nat :=
  if base ≤ a ∧ (a - base) % stride = 0 ∧ (a - base) / stride < n then some ((a - base) / stride) else none

/-- LANE_RETRYn: WAIT is the time to the next retry in seconds, rounded up, 1 until the retry starts (R166). -/
def Dev.readRetry (s : Dev) (d n : Nat) : Word :=
  fset (s.rd (Reg.LANE_RETRY d n)) F.LANE_RETRY_WAIT
    (match (s.lane d n).retryAt with | none => 0 | some t => max 1 ((t - s.us + 999999) / 1000000))

/-- LANE_Q_STATq: CORE_REF says that the quad's reference drives the core PLL (Tables 7-1 and 7-12, R26). -/
def Dev.readQuad (s : Dev) (d q : Nat) : Word :=
  fset (s.rd (Reg.LANE_Q_STAT d q)) F.LANE_Q_STAT_CORE_REF (b2n (s.pwr.pll && s.rdF (Reg.FAB_DIE_STAT d) F.FAB_DIE_STAT_CORE_REF == q))

/-- LANE_TILE_AGEn: AGE is the time since the last STATUS in ms, saturating, and 0xFF before the first. -/
def Dev.readAge (s : Dev) (d t : Nat) : Word :=
  fset (s.rd (Reg.LANE_TILE_AGE d t)) F.LANE_TILE_AGE_AGE
    (match (s.lane d t).statusAt with | none => 0xFF | some x => min 0xFF ((s.us - x) / 1000))

/-- CAL_IMPL_DATA: the entry that CAL_IMPL_IDX selects (Table 11-9). -/
def Dev.readImpl (s : Dev) (d : Nat) : Word :=
  BitVec.ofNat 32 ((s.cal d (s.rdF (Reg.CAL_IMPL_IDX d) F.CAL_IMPL_IDX_TILE)).impl.getD
    (s.rdF (Reg.CAL_IMPL_IDX d) F.CAL_IMPL_IDX_ENTRY) 0)

/-- HEAD_TSTATn with PENDING and MODE_PEND (Table 6-8). -/
def Dev.readTstat (s : Dev) (d n : Nat) : Word :=
  fset (fset (s.rd (Reg.HEAD_TSTAT d n)) F.HEAD_TSTAT_PENDING (b2n (s.framePending n))) F.HEAD_TSTAT_MODE_PEND
    (b2n (s.timingPending n))

/-- THM_STAT with FASTN, the sensors in the fast set. -/
def Dev.readThmStat (s : Dev) : Word :=
  fset (s.rd (Reg.THM_STAT 0)) F.THM_STAT_FASTN (sensIds.filter s.inFast).length

/-- PZP_SESS_STAT: open client sessions and standing requests. -/
def Dev.sessStat (s : Dev) : Word :=
  BitVec.ofNat 32 ((s.pzp.sess.filter (fun e => e.2.isSome)).length + 0x10000 * s.pzp.reqs.length)

/-- A timing register of head `n` on die `d` (R137, R145): 0 where the die has no tiles of the head, and the master's value in
HEAD_TLINEn, HEAD_TTOTALn and HEAD_TCTRLn of a slave. -/
def Dev.readTiming (s : Dev) (d n o : Nat) : Word :=
  if !s.usedOn d n then 0#32
  else if o = 0x10 then s.readTstat d n
  else if s.isSlave d n ∧ (o = 0 ∨ o = 4 ∨ o = 0xC) then s.rd (Reg.HEAD_TLINE (s.masterOf n) n + o)
  else s.rd (Reg.HEAD_TLINE d n + o)

/-- A warp or correction register of head `n` on die `d`: 0 where the die has no tiles of the head (Table 4-5); HEAD_CORR_CFGn, HEAD_CORR_REFn and HEAD_CORR_LIMITSn of a slave read the
master's written copies (R137). -/
def Dev.readWarp (s : Dev) (d n o : Nat) : Word :=
  if !s.usedOn d n then 0#32
  else if s.isSlave d n ∧ (o = 0x24 ∨ o = 0x28 ∨ o = 0x2C) then s.rd (Reg.HEAD_WARP_BASE (s.masterOf n) n + o)
  else s.rd (Reg.HEAD_WARP_BASE d n + o)

/-- A thermal register, on either die (Table 12-5): CD1 mirrors CD0. -/
def Dev.readThm (s : Dev) (o : Nat) : Word :=
  if o = 4 then s.readThmStat
  else if o = 8 then s.thmReq
  else match idxAt o 0x100 4 128 with
    | some k => s.senReg k
    | none => s.rd (0x10C0000 + o)

/-- A register of compositor die `d`, at offset `o` of its window. -/
def Dev.readCd (s : Dev) (d o : Nat) : Word :=
  let a := Reg.cd d + o
  if 0x10000 ≤ o ∧ o < 0x1C000 then
    let n := (o - 0x10000) / 0x1000
    if o % 0x1000 = 0x24 then s.readRetry d n
    else if o % 0x1000 = 0x124 ∧ n < 8 then s.readAge d n
    else s.rd a
  else if o = 0x1C000 ∨ o = 0x1C100 then s.readQuad d ((o - 0x1C000) / 0x100)
  else if 0x40000 ≤ o ∧ o < 0x40400 then s.readTiming d ((o - 0x40000) / 0x100) (o % 0x100)
  else if 0x4A000 ≤ o ∧ o < 0x4A400 then s.readWarp d ((o - 0x4A000) / 0x100) (o % 0x100)
  else if o = 0x60800 ∧ d = 1 then 0#32
  else if o = 0x60804 ∨ o = 0x60808 then s.rd (Reg.cd 0 + o)
  else if o = 0x61204 then s.readImpl d
  else if 0x80040 ≤ o ∧ o < 0x8005C then s.portStat d ((o - 0x80040) / 4)
  else if 0xA0000 ≤ o ∧ o < 0xA0800 then
    let u := (o - 0xA0000) / 0x100
    if o % 0x100 = 0x14 then BitVec.ofNat 32 (s.crcValue d u)
    else if o % 0x100 = 0x18 then s.crcResult d u
    else s.rd a
  else if 0xC0000 ≤ o ∧ o < 0xC0500 then s.readThm (o - 0xC0000)
  else if o = 0xE0300 ∧ d = 0 then s.sessStat
  else if 0xE2000 ≤ o ∧ o < 0xE4000 ∧ d = 0 then
    fset (s.rd a) F.PZP_ZONE_ERROR (b2n (s.zoneError ((o - 0xE2000) / 4)))
  else s.rd a

/-- The register at address `a` as a read returns it: 0 where there is none or it is write-only, and where the image loads it and has
not been delivered yet (R11 to R13); the vesper window keeps such values through a warm reset. -/
def Dev.readReg (s : Dev) (a : Nat) : Word :=
  if a = Reg.VSP_FLT_SUM0 then s.fltSum0
  else if a = Reg.VSP_FLT_SUM1 then s.fltSum1
  else if a = Reg.VSP_PIN_STAT then s.pinStat
  else match regAt a with
    | none => 0#32
    | some (b, _) =>
      if b.acc = .wo then 0#32
      else if 0x1000000 ≤ a ∧ b.image ∧ !s.pwr.delivered then 0#32
      else if 0x1000000 ≤ a ∧ a < 0x3000000 then s.readCd (dieOf a) (a % 0x1000000)
      else match idxAt a (Reg.CH_STAT 0) 0x40 64, idxAt a (Reg.CH_STAT 64) 0x40 64 with
      | some c, _ => s.readChStat c
      | _, some c => s.readChStat (64 + c)
      | _, _ => s.rd a

/-- A register as the safety SPI slave reads it: power-die fault status from the vesper mirror (R22, R330). -/
def Dev.readSpi (s : Dev) (a : Nat) : Option Word :=
  if s.power ≠ 0 ∧ (hvStats 0 ++ hvStats 1).contains a then some (s.mirror.get (fun _ => 0#32) a)
  else if s.spiReach a then some (s.readReg a)
  else none

end Sys2Proof.Machine
end

