-- ==== Sys2Proof/Machine/Faults.lean ====
section
/-! DEFINITION. The commands of fault reporting (R304 to R311): writes of the status and enable registers, the pins, the end of a
mask, and units with two views. -/

namespace Sys2Proof.Machine

/-- `a` is a fault status register (R15, Table 14-1). -/
def isFltStat (a : Nat) : Bool := (clusterStats (clusterOf a)).contains a

/-- A write that reaches a power die goes out on its active data channel (R226). -/
def Dev.hvWay (s : Dev) (a : Nat) (v : Word) : Dev :=
  if 0x3000000 ≤ a ∧ a < 0x3800000 then s.dcSend (hvAt a) false (.write a v) else s

/-- A W1C write of the fault status register at `a` (R304): a register access like any other (R313). -/
def Dev.fltClear (s : Dev) (a : Nat) (v : Word) : Dev :=
  if isFltStat a ∧ s.reach a then ((s.touchReg a).hvWay a v).clearStat a v else s

/-- FLT_STAT_CLEAR. -/
def execFltStatClear (addr : Nat) (v : Word) (s : State) : Host.Outcome State Fault Refusal :=
  s.onDev (fun s => s.fltClear addr v)

/-- A write of the fault enable register at `a` (R304, R305). -/
def Dev.fltEnable (s : Dev) (a : Nat) (v : Word) : Dev :=
  if 4 ≤ a ∧ isFltStat (a - 4) ∧ s.reach a then ((s.touchReg a).hvWay a v).writeEn (a - 4) v else s

/-- FLT_EN_WRITE. -/
def execFltEnWrite (addr : Nat) (v : Word) (s : State) : Host.Outcome State Fault Refusal :=
  s.onDev (fun s => s.fltEnable addr v)

/-- EVT_PULSE_END: EVT_N stays asserted afterwards while HOLD is 1 (R308). -/
def execEvtPulseEnd (s : State) : Host.Outcome State Fault Refusal :=
  s.onDev (fun s => { s with flt := { s.flt with pulse := false } })

/-- VSP_EVT_HOLD_WRITE (R308). -/
def execVspEvtHoldWrite (v : Word) (s : State) : Host.Outcome State Fault Refusal := s.onDev (fun s => s.wr Reg.VSP_EVT_HOLD v)

/-- MASK_END: 50 µs have passed since the release (R310). -/
def execMaskEnd (watcher : BitVec 16) (s : State) : Host.Outcome State Fault Refusal :=
  s.onDev (fun s => s.maskEnd watcher.toNat)

/-! ## Units with two views -/

/-- Where a unit shows its DISPUTED mark (Table 14-5). -/
def Dev.showDispute (s : Dev) (u : DispUnit) (on : Bool) : Dev :=
  match u with
  | .tile d t => s.wrF (Reg.LANE_TILE_STAT d t) F.LANE_TILE_STAT_DISPUTED (b2n on)
  | .channel c => s.wrB (Reg.VSP_DISP_CH (c.val / 32)) (c.val % 32) on
  | .diag _ _ => s

/-- The two views of a unit differ, as far as the device holds both: a tile's STATE in two consecutive STATUS packets, and a code
that DM11 marked cleared while its summary bit is set (R337), and what a channel was commanded and what CH_STATn returns. -/
def Dev.viewsDiffer (s : Dev) (u : DispUnit) : Bool :=
  match u with
  | .tile d t => decide (2 ≤ (s.lane d t).badViews)
  | .channel c => s.chDiffers c
  | .diag p c => s.flt.cleared.contains (p.val, c.val) && s.clusterLatched c

/-- The two views of a unit agree. -/
def Dev.viewsAgree (s : Dev) (u : DispUnit) : Bool :=
  match u with
  | .tile d t => decide (2 ≤ (s.lane d t).goodViews)
  | .channel c => s.linked (hvOf c) && !s.chDiffers c
  | .diag p c => !(s.flt.cleared.contains (p.val, c.val) && s.clusterLatched c)

/-- The state commanded of a disputed unit goes out again at its cadence, while its views still differ (Table 14-5); SAFE goes to a tile
with each of its STATUS packets instead (R194). -/
def Dev.commandAgain (s : Dev) (u : DispUnit) : Dev :=
  match u with
  | .channel c => if s.chDiffers c then s.chResend c else s
  | _ => s

/-- A unit's views have differed for its settling time (R311). The same time of a unit that is disputed already is its cadence. -/
def Dev.dispute (s : Dev) (u : DispUnit) : Dev :=
  if s.flt.disputed.contains u then s.commandAgain u
  else if !s.viewsDiffer u then s
  else (({ s with flt := { s.flt with disputed := u :: s.flt.disputed } }).showDispute u true).commandAgain u

/-- DISPUTE_TIMEOUT. -/
def execDisputeTimeout (u : DispUnit) (s : State) : Host.Outcome State Fault Refusal := s.onDev (fun s => s.dispute u)

/-- A unit's views have agreed for its settling time (R311). -/
def Dev.disputeOver (s : Dev) (u : DispUnit) : Dev :=
  if !s.flt.disputed.contains u ∨ !s.viewsAgree u then s
  else ({ s with flt := { s.flt with disputed := s.flt.disputed.filter (· != u) } }).showDispute u false

/-- DISPUTE_END. -/
def execDisputeEnd (u : DispUnit) (s : State) : Host.Outcome State Fault Refusal := s.onDev (fun s => s.disputeOver u)

end Sys2Proof.Machine
end

