-- ==== Sys2Proof/Machine/Host.lean ====
section
/-! DEFINITION. The PCI Express function, its BARs and the DMA rings (R321 to R327). -/

namespace Sys2Proof.Machine

/-- The PCI Express endpoint of CD0 is powered and out of reset (R348, R349). -/
def Dev.hostUp (s : Dev) : Bool := s.cdUp 0

/-! ## The function -/

/-- The PCI Express function (R321, Table 15-1): its Device ID, how many functions there are, their header type, the payload sizes
in bytes, the longest read of the device itself, its outstanding DMA reads, its MSI-X vectors, and which optional features it has. -/
structure PcieFn where
  device : Nat
  functions : Nat
  header : Nat
  payload : List Nat
  ownRead : Nat
  dmaReads : Nat
  vectors : Nat
  intPin : Nat
  msi : Bool
  aer : Bool
  extTags : Bool
  relaxed : Bool
  noSnoop : Bool
  aspmL0s : Bool
  aspmL1 : Bool
  l1Sub : Bool
  d1 : Bool
  d2 : Bool
  d3hot : Bool
  flr : Bool
  others : Bool                 -- SR-IOV, ATS, PRI, PASID, ARI, ACS, LTR, PTM, DPC
deriving DecidableEq, Repr

/-- The endpoint of Table 15-1. -/
def pcieFn : PcieFn :=
  { device := 0x7216, functions := 1, header := 0, payload := [128, 256], ownRead := 512, dmaReads := 64, vectors := 64, intPin := 0,
    msi := false, aer := true, extTags := true, relaxed := false, noSnoop := false, aspmL0s := false, aspmL1 := true, l1Sub := false,
    d1 := false, d2 := false, d3hot := true, flr := true, others := false }

/-- Bytes of a BAR (Table 15-2). -/
def barSize : Nat → Nat
  | 0 => 0x4000000
  | 2 => 0x2000000
  | 4 => 0x4000
  | _ => 0

/-- PZP_PCIE_STAT of a link that trains: one of the three speeds, and one of the two widths (Tables 15-1 and 15-12). -/
def pcieWord (x : Nat) : Word := BitVec.ofNat 32 (1 + 2 * (1 + x % 3) + 8 * (1 + x / 3 % 2))

/-! ## BAR0 and BAR2 -/

/-- A BAR0 read of one aligned DWORD: none where it ends with Completer Abort (R324). -/
def Dev.bar0Read (s : Dev) (a : Nat) : Option Word := if s.hostUp ∧ s.hostReach a then some (s.readReg a) else none

/-- The byte that a BAR2 read returns at `off` (R322, R325): the staging slots, the image staging area and the DMA rings hold bytes, and
any other offset reads 0. -/
def State.bar2Byte (s : State) (off : Nat) : Byte :=
  let at_ := fun d a => match s.dev.dieRead s.mem d a 1 with | some (b :: _) => b | _ => 0#8
  if off < 0x80000 then at_ (s.dev.masterOf (off / 0x20000)) (slotAddr (off / 0x20000) (off / 0x10000 % 2) + off % 0x10000)
  else if 0x1000000 ≤ off ∧ off < 0x1800000 then at_ 0 (stageBase + (off - 0x1000000))
  else if 0x1800000 ≤ off ∧ off < 0x1810000 then s.mem.ring.get dramDefault (off - 0x1800000)
  else 0#8

/-- A BAR2 read of `n` bytes at `off`. -/
def State.bar2Read (s : State) (off n : Nat) : List Byte := (List.range n).map (fun k => s.bar2Byte (off + k))

/-- A BAR0 access is dropped and counted (R324). -/
def Dev.barDrop (s : Dev) : Dev := (s.satF Reg.PZP_PCIE_ERR F.PZP_PCIE_ERR_DROPPED 1).raise Reg.PZP_FLT_STAT B.PZP_BAR_ERR

/-- A BAR0 read ends with an error completion (R324). -/
def Dev.barErr (s : Dev) : Dev := (s.satF Reg.PZP_PCIE_ERR F.PZP_PCIE_ERR_ERRCPL 1).raise Reg.PZP_FLT_STAT B.PZP_BAR_ERR

/-- The data of a partial write as the low bits of a word: the lowest enabled byte or pair of bytes (R295); none where the
enabled bytes are no aligned byte or pair. -/
def partialLanes (be : BitVec 4) (v : Word) : Option Word :=
  match be.toNat with
  | 1 => some (v &&& 0xFF#32)
  | 2 => some (v >>> 8 &&& 0xFF#32)
  | 4 => some (v >>> 16 &&& 0xFF#32)
  | 8 => some (v >>> 24 &&& 0xFF#32)
  | 3 => some (v &&& 0xFFFF#32)
  | 12 => some (v >>> 16 &&& 0xFFFF#32)
  | _ => none

/-- The check-value unit and the width in bytes of a CRC_DATA8 or CRC_DATA16 register at `a` (R295). -/
def crcDataAt (a : Nat) : Option (Nat × Nat × Nat) :=
  (List.range 16).findSome? (fun k =>
    if a = Reg.CRC_DATA8 (k / 8) (k % 8) then some (k / 8, k % 8, 1)
    else if a = Reg.CRC_DATA16 (k / 8) (k % 8) then some (k / 8, k % 8, 2)
    else none)

/-- A BAR0 access that is no access of one aligned DWORD, or that failed under Table 1-5 (R324). -/
def Dev.barAccess (s : Dev) (a : Nat) (e : BarError) : Dev :=
  if !s.hostUp then s
  else match e with
  | .partialWrite be v =>
    match crcDataAt a, partialLanes be v with
    | some (d, u, n), some w => if s.hostReach a then (s.crossWay a).crcData d u n w else s.barDrop
    | _, _ => s.barDrop
  | .oddRead => s.barErr
  | .failedRead => s.barErr
  | .failedWrite => s.barDrop

/-- BAR0_ACCESS_ERROR. -/
def execBar0AccessError (addr : Nat) (e : BarError) (s : State) : Host.Outcome State Fault Refusal :=
  s.onDev (fun s => s.barAccess addr e)

/-- The image staging area is being read: by an image command, or by a rebuild LOAD from staging (R325). -/
def Dev.stageBusy (s : Dev) : Bool :=
  s.img.job != 0 || (List.range 2).any (fun d => s.rbState d == 1 && !(s.rb d).fromRunning)

/-- A BAR2 write at offset 0x100_0000 + `off`: the image staging area, or the memory of the DMA rings (R322, R325). -/
def State.stageImage (s : State) (off : Nat) (data : List Byte) : State :=
  let v := s.dev
  if !v.hostUp then s
  else if 0x800000 ≤ off then { s with mem := s.mem.ringWrite (off - 0x800000) (data.take (0x810000 - off)) }
  else if v.stageBusy then { s with dev := v.raise Reg.PZP_FLT_STAT B.PZP_STAGE_BUSY }
  else
    let bs := data.take (0x800000 - off)
    let dev := v.raiseRefused 0 (stageBase + off) bs.length true false
    let mem := v.dieWrite s.mem 0 false (stageBase + off) bs
    { s with dev := dev.snoopWrite mem 0 4 (stageBase + off) bs.length, mem := mem }

/-- IMAGE_STAGING_WRITE. -/
def execImageStagingWrite (off : Nat) (data : List Byte) (s : State) : Host.Outcome State Fault Refusal :=
  .next (s.stageImage off data)

/-! ## DMA rings -/

/-- A write of TAIL hands descriptors to the ring (R326). -/
def Dev.dmaTail (s : Dev) (r : Nat) (v : Word) : Dev :=
  if !s.hostUp then s
  else
    let s := s.wr (Reg.PZP_DMA_TAIL r) v
    let want := (s.rdF (Reg.PZP_DMA_TAIL r) F.PZP_DMA_TAIL_TAIL + 256 - s.rdF (Reg.PZP_DMA_HEAD r) F.PZP_DMA_HEAD_HEAD) % 256
    let q := s.host.dmaQ
    let have_ := (q.filter (· == r)).length
    let q := if have_ ≤ want then q ++ List.replicate (want - have_) r
      else (List.replicate (have_ - want) r).foldl (fun q x => (q.reverse.erase x).reverse) q
    { s with host := { s.host with dmaQ := q } }

/-- DMA_TAIL_WRITE. -/
def execDmaTailWrite (r : Fin 8) (v : Word) (s : State) : Host.Outcome State Fault Refusal := s.onDev (fun s => s.dmaTail r v)

/-- DMA_CTRL_WRITE: EN starts the ring, or stops it at the next descriptor boundary (Table 15-12). -/
def execDmaCtrlWrite (r : Fin 8) (v : Word) (s : State) : Host.Outcome State Fault Refusal :=
  s.onDev (fun s => if s.hostUp then s.wr (Reg.PZP_DMA_CTRL r) v else s)

/-- The ring whose descriptor is done next: of the enabled rings, the one with the oldest unprocessed descriptor (R327). -/
def Dev.dmaNext (s : Dev) : Option Nat := s.host.dmaQ.find? (fun r => s.rdF (Reg.PZP_DMA_CTRL r) F.PZP_DMA_CTRL_EN == 1)

/-- A descriptor (Table 15-3). -/
structure Desc where
  host : Nat
  addr : Nat
  len : Nat
  die : Nat
  toHost : Bool
  irq : Bool
deriving DecidableEq, Repr

/-- The descriptor in 32 bytes. -/
def descOf (b : List Byte) : Desc :=
  let c := leAt b 0x10 4
  { host := leAt b 0 8, addr := leAt b 8 4, len := leAt b 0xC 4, die := c % 2, toHost := c / 2 % 2 == 1, irq := c / 4 % 2 == 1 }

/-- A burst that a descriptor reads has failed (R208, Table 9-7). -/
def Dev.descBad (s : Dev) (x : Desc) : Bool := s.host.bad.any (fun b => b.1 == x.die && decide (x.addr ≤ b.2) && decide (b.2 < x.addr + x.len))

/-- ERR of a descriptor, before any byte moves (R326, Table 15-3): 4 FORMAT, 3 ADDR, 5 DIE, 2 DRAM, 1 HOST. -/
def Dev.descErr (s : Dev) (x : Desc) (hostData : Option (List Byte)) : Nat :=
  if x.addr % 64 ≠ 0 ∨ x.len % 64 ≠ 0 ∨ x.len < 64 ∨ 0x1000000 < x.len then 4
  else if 0x80000000 < x.addr + x.len ∨ (!x.toHost ∧ 0x7FF00000 < x.addr + x.len) ∨
      (s.refusals x.die x.addr x.len (!x.toHost) false).any Option.isSome then 3
  else if s.pwr.lost.contains x.die ∨ s.rdF (Reg.DRC_STAT x.die) F.DRC_STAT_HALTED = 1 ∨ (x.die = 1 ∧ s.linksUp = 0) then 5
  else if s.noDramAt x.die x.addr x.len ∨ (x.toHost ∧ s.descBad x) then 2
  else if !x.toHost ∧ ((hostData.map List.length).getD 0) < x.len then 1
  else 0

/-- The bytes of a descriptor without ERR move. -/
def Dev.descMove (s : Dev) (m : Mems) (x : Desc) (hostData : Option (List Byte)) : Mems :=
  if x.toHost then { m with host := putBytes dramDefault m.host x.host ((s.dieRead m x.die x.addr x.len).getD []) }
  else s.dieWrite m x.die false x.addr ((hostData.getD []).take x.len)

/-- The oldest waiting descriptor, of ring `r`, is complete (R327): STATUS is written, HEAD advances, the counts follow, and the
ring's vector goes out where IRQ is set. -/
def State.dmaDone (s : State) (r : Nat) (hostData : Option (List Byte)) : State :=
  let v := s.dev
  if !v.hostUp ∨ v.dmaNext ≠ some r then s
  else
    let head := v.rdF (Reg.PZP_DMA_HEAD r) F.PZP_DMA_HEAD_HEAD
    let x := descOf (s.mem.ringRead r (32 * head) 32)
    let err := v.descErr x hostData
    let m := if err = 0 then v.descMove s.mem x hostData else s.mem
    let v := if err = 0 ∧ !x.toHost then v.snoopWrite m x.die 4 x.addr x.len else v
    let m := m.ringWrite (8192 * r + 32 * head + 0x18) (toLE 4 (1 + 2 * err))
    let v := if err = 3 then v.raiseRefused x.die x.addr x.len (!x.toHost) false else v
    let v := if x.die = 1 ∧ (err = 0 ∨ err = 2) then v.brgSend 0 (if x.toHost then 2 else 3) else v
    let v := { v with host := { v.host with
      dmaQ := v.host.dmaQ.erase r,
      bad := v.host.bad.filter (fun b => !(b.1 == x.die && decide (x.addr ≤ b.2) && decide (b.2 < x.addr + x.len))) } }
    let v := (v.wrF (Reg.PZP_DMA_HEAD r) F.PZP_DMA_HEAD_HEAD (head + 1)).addF (Reg.PZP_DMA_CNT r) F.PZP_DMA_CNT_DONE 1
    let v := if err = 0 then v
      else (v.satF (Reg.PZP_DMA_CNT r) F.PZP_DMA_CNT_ERRORS 1).raise Reg.PZP_FLT_STAT B.PZP_DMA_ERR
    { s with mem := m, dev := if x.irq then v.emit (.msix (32 + r)) else v }

/-- DMA_DESC_DONE. -/
def execDmaDescDone (r : Fin 8) (hostData : Option (List Byte)) (s : State) : Host.Outcome State Fault Refusal :=
  .next (s.dmaDone r hostData)

/-! ## Resets of the function -/

/-- The DMA rings, the MSI-X table and the configuration space are reset (R323). -/
def State.functionReset (s : State) : State :=
  let v := forAll (List.range 8) s.dev (fun v r =>
    forAll [Reg.PZP_DMA_CTRL r, Reg.PZP_DMA_TAIL r, Reg.PZP_DMA_HEAD r, Reg.PZP_DMA_CNT r] v (fun v a => v.wr a (regReset a)))
  { s with dev := { v with host := HostH.init }, mem := { s.mem with ring := [] } }

/-- An FLR, a D3hot entry, a loss of the link or a hot reset (R323); a lost link shows in PZP_PCIE_STAT. -/
def State.pcieReset (s : State) (k : PcieReset) : State :=
  if !s.dev.hostUp then s
  else
    let s := s.functionReset
    let v := if k = .linkLoss then s.dev.wr Reg.PZP_PCIE_STAT 0#32 else s.dev
    { s with dev := v.raise Reg.PZP_FLT_STAT B.PZP_PCIE_LINK }

/-- PCIE_FUNCTION_RESET. -/
def execPcieFunctionReset (k : PcieReset) (s : State) : Host.Outcome State Fault Refusal := .next (s.pcieReset k)

end Sys2Proof.Machine
end

