-- ==== Sys2Proof/Machine/Pzp.lean ====
section
/-! DEFINITION. The Parouvi Zone Protocol: sessions, messages, requests and rate limits (R341 to R346). -/

namespace Sys2Proof.Machine

/-! ## CAN ports -/

/-- CD0 and its CAN ports run, and ZONES has been delivered (R333, R348). -/
def Dev.canUp (s : Dev) : Bool := s.hostUp && s.pwr.delivered

/-- A port is on its network: not bus-off (R334). -/
def Dev.portUp (s : Dev) (p : Nat) : Bool := s.canUp && s.rdF (Reg.PZP_CAN_STAT p) F.PZP_CAN_STAT_BUSOFF == 0

/-- The port's address claim stands (R333). -/
def Dev.claimed (s : Dev) (p : Nat) : Bool := s.portUp p && s.rdF (Reg.PZP_CAN_STAT p) F.PZP_CAN_STAT_CLAIM == 2

/-- The NAME at an address of a port's network. -/
def Dev.nameAt (s : Dev) (p sa : Nat) : Option Nat := ((s.can p).others.find? (fun e => e.1 == sa)).map Prod.snd

/-- A zone protocol message goes out on a port whose claim stands (R343). -/
def Dev.sendZone (s : Dev) (p dest : Nat) (bytes : List Byte) : Dev :=
  if s.claimed p then (s.addF (Reg.PZP_CAN_CNT p) F.PZP_CAN_CNT_TX 1).emit (.can p (.zone dest bytes)) else s

/-! ## Device messages (Table 15-9) -/

/-- Two bytes. -/
def two (v : Nat) : List Byte := toLE 2 v

/-- OPEN_ACK. -/
def openAck (result sess cls tag : Nat) : List Byte :=
  BitVec.ofNat 8 0x81 :: BitVec.ofNat 8 result :: (two sess ++ BitVec.ofNat 8 cls :: two tag ++ [0xFF#8])

/-- NACK. -/
def nackMsg (code reason sess zone : Nat) : List Byte :=
  BitVec.ofNat 8 0x82 :: BitVec.ofNat 8 code :: BitVec.ofNat 8 reason :: (two sess ++ two zone ++ [0xFF#8])

/-- CLOSED. -/
def closedMsg (sess why : Nat) : List Byte := BitVec.ofNat 8 0x84 :: (two sess ++ BitVec.ofNat 8 why :: List.replicate 4 0xFF#8)

/-- ZSTATE of a zone for the asking session. -/
def Dev.zstateMsg (s : Dev) (sess z : Nat) : List Byte :=
  let w := winner (s.candidates z)
  BitVec.ofNat 8 0x85 :: (two z ++ BitVec.ofNat 8 (s.resolved z) :: BitVec.ofNat 8 ((w.map ZReq.cls).getD 0xFF) ::
    BitVec.ofNat 8 (b2n (w.map ZReq.sess == some sess) + 2 * b2n (s.lossOn z) + 4 * b2n (s.zoneError z)) ::
    two ((w.map ZReq.sess).getD 0xFFFF))

/-- Open client sessions. -/
def Dev.openCount (s : Dev) : Nat := (s.pzp.sess.filter (fun e => e.2.isSome)).length

/-- STATUS (R336): throttle level, request of R281, power state, open sessions and zones in Error. -/
def Dev.statusMsg (s : Dev) : List Byte :=
  let q := s.thmReq
  BitVec.ofNat 8 0x90 :: BitVec.ofNat 8 (s.rdF (Reg.THM_STAT 0) F.THM_STAT_LEVEL) ::
    BitVec.ofNat 8 (fget q F.THM_REQ_LREQ + 8 * fget q F.THM_REQ_STANDING) :: BitVec.ofNat 8 s.power ::
    (two s.openCount ++ two ((s.zonesOf 1 ++ s.zonesOf 2 ++ s.zonesOf 3).filter s.zoneError).length)

/-! ## Requests -/

/-- A session's request on a zone, new or in place of its earlier one (R345); LOSS ends on the zone (R342). -/
def Dev.putReq (s : Dev) (r : ZReq) : Dev :=
  { s with pzp := { s.pzp with reqs := s.pzp.reqs.filter (fun q => !(q.sess == r.sess && q.zone == r.zone)) ++ [r],
                               loss := s.pzp.loss.filter (· != r.zone) } }

/-- The requests that pass `p` are withdrawn; with `lost`, zones left without any request take LOSS (R342). -/
def Dev.dropReqs (s : Dev) (p : ZReq → Bool) (lost : Bool) : Dev :=
  let zs := ((s.pzp.reqs.filter p).map ZReq.zone).dedup
  let rest := s.pzp.reqs.filter (fun r => !p r)
  let gone := zs.filter (fun z => !rest.any (fun r => r.zone == z))
  { s with pzp := { s.pzp with reqs := rest, loss := if lost then s.pzp.loss ++ gone else s.pzp.loss } }

/-- A new request of a session finds room (R344). -/
def Dev.roomFor (s : Dev) (k z : Nat) : Bool :=
  s.pzp.reqs.any (fun r => r.sess == k && r.zone == z) ||
    (decide (s.pzp.reqs.length < 8192) && decide ((s.pzp.reqs.filter (fun r => r.sess == k)).length < 256))

/-- One zone of SET, SETRANGE, PZP_HOST_SET or a lighting command: the REASON of its refusal, or the effect (R343 to R345). -/
def Dev.setZone (s : Dev) (k cls z level : Nat) (withdraw : Bool) : Except Nat Dev :=
  if !s.zoneUsed z then .error 3
  else if !(s.zone z).classes.testBit cls then .error 2
  else if withdraw then .ok (s.dropReqs (fun r => r.sess == k && r.zone == z) false)
  else if !s.roomFor k z then .error 6
  else .ok (s.putReq { sess := k, cls := cls, zone := z, level := level })

/-- A refusal FULL raises PZP_FULL. -/
def Dev.noteFull (s : Dev) (reason : Nat) : Dev := if reason = 6 then s.raise Reg.PZP_FLT_STAT B.PZP_PZP_FULL else s

/-! ## Rate limits (R346) -/

/-- Tokens of a session's bucket. -/
def Dev.tokens (s : Dev) (k : Nat) : Nat := s.pzp.tok.get (fun _ => 20) k

/-- Tokens of a session's bucket set. -/
def Dev.setTokens (s : Dev) (k n : Nat) : Dev := { s with pzp := { s.pzp with tok := s.pzp.tok.put (fun _ => 20) k n } }

/-- Tokens of a port's bucket. -/
def Dev.portTokens (s : Dev) (p : Nat) : Nat := s.pzp.ptok.get (fun _ => 100) p

/-- Tokens of a port's bucket set. -/
def Dev.setPortTokens (s : Dev) (p n : Nat) : Dev := { s with pzp := { s.pzp with ptok := s.pzp.ptok.put (fun _ => 100) p n } }

/-- TOKEN_REFILL: a port's bucket, or a session's, gains a token. -/
def execTokenRefill (port : Option (Fin 2)) (session : Fin 1026) (s : State) : Host.Outcome State Fault Refusal :=
  s.onDev (fun s => match port with
    | some p => s.setPortTokens p (min 100 (s.portTokens p + 1))
    | none => s.setTokens session (min 20 (s.tokens session + 1)))

/-! ## Sessions -/

/-- A NACK to a client, at most one per session in 100 ms (R346). -/
def Dev.nack (s : Dev) (p sa code reason k z : Nat) : Dev :=
  let s := s.noteFull reason
  let hold := match s.pzp.nackAt.get (fun _ => none) k with | none => false | some t => decide (s.us < t + 100000)
  if hold then s.addR Reg.PZP_NACK_SUP 1
  else ({ s with pzp := { s.pzp with nackAt := s.pzp.nackAt.put (fun _ => none) k (some s.us) } }).sendZone p sa (nackMsg code reason k z)

/-- A session closes (R342): WHY 0 CLOSE, 1 timeout, 2 NAME lost, 3 start-up. -/
def Dev.closeSess (s : Dev) (k why : Nat) : Dev :=
  match s.sess k with
  | none => s
  | some x =>
    let s := s.dropReqs (fun r => r.sess == k) (why == 1 || why == 2)
    let s := { (s.setSess k none) with pzp := { (s.setSess k none).pzp with nackAt := s.pzp.nackAt.put (fun _ => none) k none } }
    (s.sendZone x.port x.sa (closedMsg k why)).emit (.msix 40)

/-- OPEN may be granted at a class (R341): convenience, or a client entry that matches the NAME. -/
def Dev.mayOpen (s : Dev) (name cls : Nat) : Bool :=
  cls == 3 || s.cfg.zhead.clients.any (fun e => (name &&& e.2.1) == (e.1 &&& e.2.1) && decide (e.2.2 ≤ cls))

/-- The lowest free session number. -/
def Dev.freeSess (s : Dev) : Option Nat := (List.range 1024).find? (fun k => (s.sess k).isNone)

/-- A message arrives on a port: it counts and takes a token of the port (R346). Whether the bucket held one. -/
def Dev.arrive (s : Dev) (p : Nat) : Bool × Dev :=
  let n := s.portTokens p
  (decide (0 < n), (s.addF (Reg.PZP_CAN_CNT p) F.PZP_CAN_CNT_RX 1).setPortTokens p (n - 1))

/-- OPEN on a port (R341, Table 15-8): RESULT 0 granted, 6 FULL, 7 FORMAT, 9 CLASS. -/
def Dev.pzpOpen (s : Dev) (p : Fin 2) (sa cls timeout tag : Nat) : Dev :=
  if !s.claimed p then s
  else
    let s := (s.arrive p).2
    let refuse := fun (r : Nat) => (s.noteFull r).sendZone p sa (openAck r 0xFFFF cls tag)
    if 3 < cls ∨ timeout < 5 ∨ 100 < timeout then refuse 7
    else match s.nameAt p sa with
    | none => refuse 9
    | some name =>
      if !s.mayOpen name cls then refuse 9
      else if 4 ≤ (s.pzp.sess.filter (fun e => e.2.any (fun x => x.name == name))).length then refuse 6
      else match s.freeSess with
      | none => refuse 6
      | some k =>
        let s := (s.setSess k (some { port := p, name := name, sa := sa, cls := cls, timeout := timeout, tag := tag, lost := false })).setTokens k 20
        (s.sendZone p sa (openAck 0 k cls tag)).emit (.msix 40)

/-- PZP_OPEN. -/
def execPzpOpen (p : Fin 2) (sa cls timeout : Byte) (tag : BitVec 16) (s : State) : Host.Outcome State Fault Refusal :=
  s.onDev (fun s => s.pzpOpen p sa.toNat cls.toNat timeout.toNat tag.toNat)

/-- A message of a session: refused with NO_SESSION or NOT_OWNER, RATE, or BUSY, or handed to `f` (R341, R343, R346). -/
def Dev.inSession (s : Dev) (p sa code k z : Nat) (f : Dev → Sess → Dev) : Dev :=
  if !s.claimed p then s
  else
    let (room, s) := s.arrive p
    if k = 1024 ∨ k = 1025 then s.nack p sa code 8 k z
    else match s.sess k with
    | none => s.nack p sa code 1 k z
    | some x =>
      if x.port.val ≠ p ∨ s.nameAt p sa ≠ some x.name then s.nack p sa code 8 k z
      else if s.tokens k = 0 then s.nack p sa code 4 k z
      else
        let s := s.setTokens k (s.tokens k - 1)
        if !room ∧ 2 ≤ x.cls then s.nack p sa code 5 k z else f s x

/-- PZP_CLOSE. -/
def execPzpClose (p : Fin 2) (sa : Byte) (session : BitVec 11) (s : State) : Host.Outcome State Fault Refusal :=
  s.onDev (fun s => s.inSession p sa.toNat 2 session.toNat 0xFFFF (fun s _ => s.closeSess session.toNat 0))

/-- SET within its session (R343). -/
def Dev.pzpSet (s : Dev) (p sa k z level : Nat) (withdraw : Bool) (x : Sess) : Dev :=
  if 250 < level ∧ !withdraw then s.nack p sa 3 7 k z
  else match s.setZone k x.cls z level withdraw with
  | .ok s => s
  | .error r => s.nack p sa 3 r k z

/-- PZP_SET. -/
def execPzpSet (p : Fin 2) (sa : Byte) (session zone : BitVec 11) (level : Byte) (withdraw : Bool) (s : State) :
    Host.Outcome State Fault Refusal :=
  s.onDev (fun s => s.inSession p sa.toNat 3 session.toNat zone.toNat
    (fun s x => s.pzpSet p sa.toNat session.toNat zone.toNat level.toNat withdraw x))

/-- SETRANGE within its session (R343): the refused zones are skipped, and a NACK names the first of them. -/
def Dev.pzpSetrange (s : Dev) (p sa k z count level : Nat) (withdraw : Bool) (x : Sess) : Dev :=
  if count < 1 ∨ 64 < count ∨ (250 < level ∧ !withdraw) then s.nack p sa 4 7 k z
  else
    let (s, bad) := (List.range' z count).foldl (fun (a : Dev × Option (Nat × Nat)) y =>
      match a.1.setZone k x.cls y level withdraw with
      | .ok v => (v, a.2)
      | .error r => (a.1, a.2.or (some (y, r)))) (s, none)
    match bad with
    | none => s
    | some (y, r) => s.nack p sa 4 r k y

/-- PZP_SETRANGE. -/
def execPzpSetrange (p : Fin 2) (sa : Byte) (session zone : BitVec 11) (count level : Byte) (withdraw : Bool) (s : State) :
    Host.Outcome State Fault Refusal :=
  s.onDev (fun s => s.inSession p sa.toNat 4 session.toNat zone.toNat
    (fun s x => s.pzpSetrange p sa.toNat session.toNat zone.toNat count.toNat level.toNat withdraw x))

/-- PZP_KEEPALIVE: no effect beyond its tokens and the session's timeout. -/
def execPzpKeepalive (p : Fin 2) (sa : Byte) (session : BitVec 11) (s : State) : Host.Outcome State Fault Refusal :=
  s.onDev (fun s => s.inSession p sa.toNat 5 session.toNat 0xFFFF (fun s _ => s))

/-- PZP_QUERY (R343). -/
def execPzpQuery (p : Fin 2) (sa : Byte) (session zone : BitVec 11) (s : State) : Host.Outcome State Fault Refusal :=
  s.onDev (fun s => s.inSession p sa.toNat 6 session.toNat zone.toNat (fun s _ =>
    if s.zoneUsed zone.toNat then s.sendZone p sa.toNat (s.zstateMsg session.toNat zone.toNat)
    else s.nack p sa.toNat 6 3 session.toNat zone.toNat))

/-- SESSION_TIMEOUT: TIMEOUT has passed without a message of the session (R342). -/
def execSessionTimeout (session : Fin 1024) (s : State) : Host.Outcome State Fault Refusal :=
  s.onDev (fun s => s.closeSess session 1)

/-- NAME_LOST: another control function has held the session's address for 250 ms without a claim by its NAME (R342). -/
def execNameLost (session : Fin 1024) (s : State) : Host.Outcome State Fault Refusal :=
  s.onDev (fun s => if (s.sess session).any (fun x => x.lost) then s.closeSess session 2 else s)

/-- A write of PZP_HOST_SET (R341, Table 15-12): session 1,025 at any class up to HOST_CLASS. -/
def Dev.hostSet (s : Dev) (v : Word) : Dev :=
  let cls := fget v F.PZP_HOST_SET_CLASS
  let wd := fget v F.PZP_HOST_SET_WITHDRAW == 1
  let level := fget v F.PZP_HOST_SET_LEVEL
  let answer := fun (s : Dev) (r : Nat) => (s.noteFull r).wrF Reg.PZP_HOST_RES F.PZP_HOST_RES_REASON r
  if !s.hostUp then s
  else if s.tokens 1025 = 0 then answer s 4
  else
    let s := s.setTokens 1025 (s.tokens 1025 - 1)
    if 250 < level ∧ !wd then answer s 7
    else if cls < s.cfg.zhead.hostClass then answer s 2
    else match s.setZone 1025 cls (fget v F.PZP_HOST_SET_ZONE) level wd with
    | .ok s => answer s 0
    | .error r => answer s r

/-- PZP_HOST_SET. -/
def execPzpHostSet (v : Word) (s : State) : Host.Outcome State Fault Refusal := s.onDev (fun s => s.hostSet v)

end Sys2Proof.Machine
end

