-- ==== Sys2Proof/Machine/Isobus.lean ====
section
/-! DEFINITION. The ISOBUS control function: address claim, lighting command and lighting data, diagnostics (R332 to R337). -/

namespace Sys2Proof.Machine

/-! ## Address claim (R333, R334) -/

/-- ADDR of a port. -/
def Dev.canAddr (s : Dev) (p : Nat) : Nat := s.rdF (Reg.PZP_CAN_STAT p) F.PZP_CAN_STAT_ADDR

/-- CLAIM of a port: 0 none, 1 claiming, 2 claimed, 3 cannot-claim. -/
def Dev.canClaim (s : Dev) (p : Nat) : Nat := s.rdF (Reg.PZP_CAN_STAT p) F.PZP_CAN_STAT_CLAIM

/-- A port claims an address. -/
def Dev.claimAddr (s : Dev) (p sa : Nat) : Dev :=
  let s := (s.wrF (Reg.PZP_CAN_STAT p) F.PZP_CAN_STAT_ADDR sa).wrF (Reg.PZP_CAN_STAT p) F.PZP_CAN_STAT_CLAIM 1
  ((s.causeOff Reg.PZP_FLT_STAT B.PZP_CLAIM_FAIL).emit (.can p (.claim sa (s.can p).name))).emit (.msix 41)

/-- A port finds no free address: it sends cannot-claim, from the null address 254. -/
def Dev.cannotClaim (s : Dev) (p : Nat) : Dev :=
  let s := (s.wrF (Reg.PZP_CAN_STAT p) F.PZP_CAN_STAT_ADDR 254).wrF (Reg.PZP_CAN_STAT p) F.PZP_CAN_STAT_CLAIM 3
  ((s.emit (.can p (.cannotClaim (s.can p).name))).causeOn Reg.PZP_FLT_STAT B.PZP_CLAIM_FAIL).emit (.msix 41)

/-- A port has lost its claim: it takes the lowest free address from 128 to 247. -/
def Dev.loseClaim (s : Dev) (p : Nat) : Dev :=
  match (List.range' 128 120).find? (fun a => (s.nameAt p a).isNone) with
  | some a => s.claimAddr p a
  | none => s.cannotClaim p

/-- An address claim of another control function: it holds the address from now on, sessions of its NAME follow it, and sessions
whose address it takes are threatened (R341, R342). -/
def Dev.noteClaim (s : Dev) (p sa name : Nat) : Dev :=
  let c := s.can p
  let rest := c.others.filter (fun e => e.1 != sa && e.2 != name)
  let s := s.setCan p { c with others := if sa = 254 then rest else rest ++ [(sa, name)] }
  forAll (List.range 1024) s (fun s k =>
    match s.sess k with
    | none => s
    | some x =>
      if x.port.val ≠ p ∨ sa = 254 then s
      else if x.name = name then s.setSess k (some { x with sa := sa, lost := false })
      else if x.sa = sa then s.setSess k (some { x with lost := true })
      else s)

/-- An address claim is received (R333): of two claims of one address, the lower NAME prevails. -/
def Dev.claimRx (s : Dev) (p sa name : Nat) : Dev :=
  if !s.portUp p then s
  else
    let s := s.noteClaim p sa name
    let own := (s.can p).name
    if (s.canClaim p = 1 ∨ s.canClaim p = 2) ∧ s.canAddr p = sa ∧ name ≠ own then
      if name < own then s.loseClaim p else s.emit (.can p (.claim sa own))
    else s

/-- ADDRESS_CLAIM_RX. -/
def execAddressClaimRx (p : Fin 2) (sa : Byte) (name : BitVec 64) (s : State) : Host.Outcome State Fault Refusal :=
  s.onDev (fun s => s.claimRx p sa.toNat name.toNat)

/-- ADDRESS_CLAIM_STANDS: 250 ms have passed without a stronger claim. -/
def execAddressClaimStands (p : Fin 2) (s : State) : Host.Outcome State Fault Refusal :=
  s.onDev (fun s =>
    if s.portUp p ∧ s.canClaim p = 1 then (s.wrF (Reg.PZP_CAN_STAT p) F.PZP_CAN_STAT_CLAIM 2).emit (.msix 41) else s)

/-- The BUSOFF fault bit of a port. -/
def busoffBit (p : Nat) : Nat := if p = 0 then B.PZP_BUSOFF0 else B.PZP_BUSOFF1

/-- BUSOFF (R334). -/
def execBusoff (p : Fin 2) (s : State) : Host.Outcome State Fault Refusal :=
  s.onDev (fun s =>
    if s.portUp p then
      let s := (s.wrF (Reg.PZP_CAN_STAT p) F.PZP_CAN_STAT_BUSOFF 1).wrF (Reg.PZP_CAN_STAT p) F.PZP_CAN_STAT_CLAIM 0
      (s.causeOn Reg.PZP_FLT_STAT (busoffBit p)).emit (.msix 41)
    else s)

/-- BUSOFF_RECOVER: the port claims its address again (R334). -/
def execBusoffRecover (p : Fin 2) (s : State) : Host.Outcome State Fault Refusal :=
  s.onDev (fun s =>
    if s.canUp ∧ !s.portUp p then
      let s := (s.wrF (Reg.PZP_CAN_STAT p) F.PZP_CAN_STAT_BUSOFF 0).causeOff Reg.PZP_FLT_STAT (busoffBit p)
      s.claimAddr p (if s.canAddr p = 254 then (s.can p).pref else s.canAddr p)
    else s)

/-! ## Lighting command and lighting data (R335, R336) -/

/-- A lighting command: a function commanded on requests level 250 at road-legal class in session 1,024, off level 0. -/
def Dev.lightingCommand (s : Dev) (p sa : Nat) (l : List (Nat × Fin 4)) : Dev :=
  if !s.claimed p ∨ s.nameAt p sa ≠ some s.cfg.zhead.tecu then s
  else
    let s := s.causeOff Reg.PZP_FLT_STAT B.PZP_TECU_LOST
    let old := s.pzp.reqs
    let s := forAll l s (fun s e =>
      match s.cfg.zhead.lighting.find? (fun m => m.1 == e.1) with
      | none => s
      | some m =>
        if 2 ≤ e.2.val then s
        else match s.setZone 1024 1 m.2 (if e.2 = 1 then 250 else 0) false with
        | .ok s => s
        | .error r => s.noteFull r)
    if s.pzp.reqs = old then s else s.emit (.msix 41)

/-- LIGHTING_COMMAND_RX. -/
def execLightingCommandRx (p : Fin 2) (sa : Byte) (functions : List (Nat × Fin 4)) (s : State) : Host.Outcome State Fault Refusal :=
  s.onDev (fun s => s.lightingCommand p sa.toNat functions)

/-- TECU_LOST: no lighting command for 3 s; session 1,024 is treated as timed out (R335). -/
def execTecuLost (s : State) : Host.Outcome State Fault Refusal :=
  s.onDev (fun s =>
    if s.canUp then (s.dropReqs (fun r => r.sess == 1024) true).causeOn Reg.PZP_FLT_STAT B.PZP_TECU_LOST else s)

/-- The state reported for a zone: 2 Error, 1 On, 0 Off (R336). -/
def Dev.lightState (s : Dev) (z : Nat) : Nat := if s.zoneError z then 2 else if 0 < s.latchedLevel z then 1 else 0

/-- Lighting data: the state of every mapped function; the others read not available. -/
def Dev.lightingMsg (s : Dev) : CanMsg := .lighting (s.cfg.zhead.lighting.map (fun m => (m.1, s.lightState m.2)))

/-- LIGHTING_DATA_SEND: lighting data and STATUS go out on a port whose claim stands (R336). -/
def execLightingDataSend (p : Fin 2) (s : State) : Host.Outcome State Fault Refusal :=
  s.onDev (fun s => if s.claimed p then (s.emit (.can p s.lightingMsg)).sendZone p 0xFF s.statusMsg else s)

/-! ## Diagnostics (R337) -/

/-- SPN of a summary cluster. -/
def spnOf (c : Nat) : Nat := 520192 + c

/-- DM1: every active code, with the mark of a DISPUTED entry. -/
def Dev.dm1Msg (s : Dev) (p : Fin 2) : CanMsg :=
  .dm1 ((List.finRange 64).filterMap (fun (c : Fin 64) =>
    if s.clusterLatched c then some (spnOf c, s.flt.disputed.contains (.diag p c)) else none))

/-- DM2: the codes whose summary bits have cleared. -/
def Dev.dm2Msg (s : Dev) (p : Nat) : CanMsg := .dm2 ((s.flt.dm2.filter (fun e => e.1 == p)).map (fun e => spnOf e.2))

/-- DM1_SEND. -/
def execDm1Send (p : Fin 2) (s : State) : Host.Outcome State Fault Refusal :=
  s.onDev (fun s => if s.claimed p then s.emit (.can p (s.dm1Msg p)) else s)

/-- DM3 clears the DM2 list of the port's network. -/
def Dev.dm3 (s : Dev) (p : Nat) : Dev :=
  if s.portUp p then ({ s with flt := { s.flt with dm2 := s.flt.dm2.filter (fun e => e.1 != p) } }).emit (.msix 41) else s

/-- DM3_RX. -/
def execDm3Rx (p : Fin 2) (s : State) : Host.Outcome State Fault Refusal := s.onDev (fun s => s.dm3 p)

/-- DM11 marks every active code as cleared in the diagnostic entry; no fault status changes. -/
def Dev.dm11 (s : Dev) (p : Nat) : Dev :=
  if s.portUp p then
    ({ s with flt := { s.flt with cleared := s.flt.cleared.filter (fun (e : Nat × Nat) => e.1 != p) ++
        ((List.range 64).filter s.clusterLatched).map (fun c => (p, c)) } }).emit (.msix 41)
  else s

/-- DM11_RX. -/
def execDm11Rx (p : Fin 2) (s : State) : Host.Outcome State Fault Refusal := s.onDev (fun s => s.dm11 p)

/-- A request for a parameter group (R332): the supported groups of Table 15-6 are answered, and another one is answered
negatively where the request was destination-specific. The PGNs are those of ISO 11783 (PRESUMED, log entry 17). -/
def Dev.pgnRequest (s : Dev) (p : Fin 2) (sa pgn : Nat) (specific : Bool) : Dev :=
  if !s.portUp p then s
  else if pgn = 60928 then
    match s.canClaim p with
    | 0 => s
    | 3 => s.emit (.can p (.cannotClaim (s.can p).name))
    | _ => s.emit (.can p (.claim (s.canAddr p) (s.can p).name))
  else if !s.claimed p then s
  else match pgn with
  | 65226 => (s.emit (.can p (s.dm1Msg p))).emit (.msix 41)
  | 65227 => (s.emit (.can p (s.dm2Msg p))).emit (.msix 41)
  | 65228 => s.dm3 p
  | 65235 => s.dm11 p
  | 65242 => (s.emit (.can p (.answer sa pgn))).emit (.msix 41)
  | 64965 => (s.emit (.can p (.answer sa pgn))).emit (.msix 41)
  | 64818 => (s.emit (.can p (.answer sa pgn))).emit (.msix 41)
  | 65089 => s.emit (.can p s.lightingMsg)
  | _ => if specific then s.emit (.can p (.negative sa pgn)) else s

/-- PGN_REQUEST_RX. -/
def execPgnRequestRx (p : Fin 2) (sa : Byte) (pgn : BitVec 18) (specific : Bool) (s : State) : Host.Outcome State Fault Refusal :=
  s.onDev (fun s => s.pgnRequest p sa.toNat pgn.toNat specific)

end Sys2Proof.Machine
end

