-- ==== Sys2Proof/Machine/Boot.lean ====
section
/-! DEFINITION. Start-up: its image is chosen, verified and delivered (R12, R38, R48, R50, R360). -/

namespace Sys2Proof.Machine

/-! ## What an image loads -/

/-- The addresses of the registers of a unit that the image loads (R12). -/
def imageAddrs (base : Nat) (t : List RegBlock) : List Nat :=
  (t.filter (fun b => b.image)).flatMap (fun b => (List.range b.count).map (fun i => base + b.off + b.stride * i))

/-- The image registers of compositor die `d` that belong to no head, but for those that are computed (HEAD_TPOINTS, FAB_LOAD) and
FAB_HMAP. -/
def cdImageAddrs (d : Nat) : List Nat :=
  let w := Reg.cd d
  (List.range 8).flatMap (fun n => imageAddrs (w + 0x10000 + 0x1000 * n) (laneRegs ++ tileLaneRegs)) ++
    (List.range' 8 2).flatMap (fun n => imageAddrs (w + 0x10000 + 0x1000 * n) (laneRegs ++ inLaneRegs)) ++
    (imageAddrs (w + 0x40000) pipesRegs).filter (fun a => a ≠ Reg.FAB_LOAD d) ++ (imageAddrs (w + 0x60000) phoRegs).filter (fun a => d = 0 ∨ a ≠ Reg.PHO_BUDGET d) ++
    imageAddrs (w + 0x80000) drcRegs ++ (if d = 0 then imageAddrs (w + 0xC0000) thmRegs else [])

/-- The image registers of power die `h`. -/
def hvImageAddrs (h : Nat) : List Nat :=
  let w := Reg.hv h
  imageAddrs w bstRegs ++ (List.range 64).flatMap (fun k => imageAddrs (w + 0x10000 + 0x40 * k) chRegs) ++ imageAddrs (w + 0x20000) mxRegs

/-- The image registers of a head half: those that its HEAD section loads, and its columns. -/
def headImageAddrs (d n : Nat) : List Nat := headSecRegs d n ++ [Reg.FAB_HMAP d (2 * n), Reg.FAB_HMAP d (2 * n + 1)]

/-- The value that an image loads into a register: the derate classes are the same on both dies (Table 2-1). -/
def loadWord (secs : List (Nat × Nat × List Byte)) (a : Nat) : Word :=
  BitVec.ofNat 32 (Config.imageReg secs
    (if Reg.PHO_DRT 1 0 ≤ a ∧ a ≤ Reg.PHO_DRT 1 63 then a - 0x1000000 else a))

/-- Registers loaded from the sections of an image. -/
def Dev.loadRegs (s : Dev) (secs : List (Nat × Nat × List Byte)) (l : List Nat) : Dev :=
  forAll l s (fun s a => s.wr a (loadWord secs a))

/-! ## Delivery -/

/-- HEAD_TACT of a half, from TOPOLOGY (Table 6-7): its tiles' rows give ACT, and a head whose tiles lie on both dies spans them;
its master die is the one that TOPOLOGY names. -/
def tactWord (l : List Section) (d n : Nat) : Word :=
  let ts := (tilesUsed l).filter (fun t => t.2.1 == n)
  let rows := ts.foldl (fun m t => max m (t.2.2.1 + 1)) 0
  let on := fun e => ts.any (fun t => t.1 / 8 == e)
  let span := on 0 && on 1
  let named := fget (BitVec.ofNat 32 (Config.imageReg (secArgs l) (Reg.HEAD_TACT 0 n))) F.HEAD_TACT_MASTER == 1
  let master := if span then (if d = 0 then named else !named) else on d
  if on d then
    fset (fset (fset (fset 0#32 F.HEAD_TACT_ACT (512 * rows)) F.HEAD_TACT_USED 1) F.HEAD_TACT_MASTER (b2n master)) F.HEAD_TACT_SPAN (b2n span)
  else 0#32

/-- TOPOLOGY, SAFEFILL and ZONES beside the registers (R88, R191, R338). -/
def imgCfgOf (l : List Section) : ImgCfg :=
  let a := secArgs l
  { ImgCfg.init with
    tiles := (tilesUsed l).foldl (fun m t => m.put (fun _ => ⟨false, 0, 0, 0⟩) t.1 ⟨true, t.2.1, t.2.2.1, t.2.2.2⟩) [],
    safefill := safefillOf (secData l 7),
    zones := (List.range 2048).foldl (fun m z => m.put (fun _ => default) z (zoneOf (Config.imageZone a z))) [],
    zhead := { tecu := Config.imageTecu a, clients := Config.imageClients a, hostClass := (Config.imageZoneHead a).1,
               refhead := (Config.imageZoneHead a).2, lighting := Config.imageLighting a } }

/-- A head half takes its HEAD section into use (Table 2-1, R131, R136): its registers, its columns with the output stage in the
highest of them, its mode, and the views that its first dusk would otherwise take. -/
def Dev.deliverHalf (s : Dev) (secs : List (Nat × Nat × List Byte)) (d n : Nat) : Dev :=
  if !s.usedOn d n then s
  else
    let s := s.loadRegs secs (headImageAddrs d n)
    let s := forAll [Reg.HEAD_TLINE d n, Reg.HEAD_TTOTAL d n, Reg.HEAD_CORR_CFG d n] s (fun s a => s.latch a)
    let cols := s.headCols d n
    let out := ((List.range 64).filter cols.testBit).getLastD 0
    let lp := s.rdF (Reg.HEAD_TLINE d n) F.HEAD_TLINE_LINE_PER
    let mode := (lp, framePeriod lp (s.rdF (Reg.HEAD_TTOTAL d n) F.HEAD_TTOTAL_TOTAL))
    let c : ImgCfg := { s.cfg with outCol := s.cfg.outCol.put (fun _ => 0) (4 * d + n) out }
    let c : ImgCfg := { c with modes := c.modes.put (fun _ => (0, 0)) (2 * n + d) mode }
    let s := { s with cfg := c }
    s.setHalf d n { s.half d n with ceils := s.takeCeils d n, drt := (List.range 64).map (fun k => s.rd (Reg.PHO_DRT d k)) }

/-- STRINGS reaches power die `h` (R20, R236, R244): its channels start to learn from their nominal voltage, and it takes its safe
set points. -/
def Dev.deliverStrings (s : Dev) (secs : List (Nat × Nat × List Byte)) (h : Nat) : Dev :=
  let s := s.loadRegs secs (hvImageAddrs h)
  let s := forAll (List.range 64) s (fun s k =>
    let c := 64 * h + k
    s.setChan c { s.chan c with learn := s.rdF (Reg.CH_CFG c) F.CH_CFG_VF_NOM * 2560 })
  let act := Config.imageActive secs h % 2
  let s := s.setHv h { s.hv h with strings := true, shortDv := Config.imageShortDv secs, defActive := act }
  (s.wrF (Reg.BST_LINK_STAT h) F.BST_LINK_STAT_ACTIVE act).applySafe h

/-- ZONES reaches CD0: each zone stands at its default, and the ports begin to claim their addresses (R333, R338, R339). -/
def Dev.deliverZones (s : Dev) (secs : List (Nat × Nat × List Byte)) : Dev :=
  let s := forAll ((List.range 2048).filter s.zoneUsed) s (fun s z =>
    s.wr (Reg.PZP_ZONE z) (BitVec.ofNat 32 ((s.zone z).dflt + 0x700)))
  forAll [0, 1] s (fun s p =>
    let x := Config.imagePort secs p
    (s.setCan p { s.can p with name := x.1 % 2 ^ 64, pref := x.2 % 256 }).claimAddr p (x.2 % 256))

/-- What has already failed bears on the tiles that now have places: a die that is lost, a half-memory client, a die without DRAM
service (Table 1-9, R222, R224). -/
def Dev.deliverFailed (s : Dev) (d : Nat) : Dev :=
  let s := if s.pwr.lost.contains d then s.stopDie d .dieLost else s
  let s := if s.drcRole d = 1 ∨ s.drcRole d = 3 then s.stopDie d .dram else s
  if s.drcRole d = 1 then s.capHeads d true else s

/-- Every lane in use begins its training (R167, step 5 of Table 16-3). -/
def Dev.startLanes (s : Dev) : Dev :=
  forAll (List.range 20) s (fun s k =>
    if s.pwr.lost.contains (k / 10) then s else s.enableLane (k / 10) (k % 10))

/-- The sections of the chosen image go to their destinations (R50, Table 2-1). -/
def Dev.deliver (s : Dev) (l : List Section) : Dev :=
  let secs := secArgs l
  let s := { s with cfg := imgCfgOf l }
  let s := s.loadRegs secs (Reg.VSP_SPI_CFG :: (cdImageAddrs 0 ++ cdImageAddrs 1))
  let s := forAll (List.range 8) s (fun s k => s.wr (Reg.HEAD_TACT (k / 4) (k % 4)) (tactWord l (k / 4) (k % 4)))
  let s := forAll (List.range 8) s (fun s k => s.deliverHalf secs (k / 4) (k % 4))
  let s := forAll (List.range 8) s (fun s k =>
    let d := k / 4
    let n := k % 4
    if s.isSlave d n then s.takeMode d n else if s.usedOn d n then s.deriveHead d n else s)
  let s := forAll (List.range 8) s (fun s k => if s.usedOn (k / 4) (k % 4) then s.columnCheck (k / 4) (k % 4) else s)
  let s := (((s.showLoad 0).showLoad 1).showFab 0).showFab 1
  let s := s.deliverZones secs
  let s := (s.deliverStrings secs 0).deliverStrings secs 1
  let s := { s with pwr := { s.pwr with delivered := true } }
  let s := (s.deliverFailed 0).deliverFailed 1
  let s := forAll [0, 1] s (fun s d => s.setEng d { s.eng d with cycleAt := s.us })
  s.startLanes

/-! ## Choice of the image -/

/-- The trial step of R48: the boot record to write, and whether a trial is reverted. -/
def BootRec.trialStep (r : BootRec) : BootRec × Bool :=
  if r.trial && r.tried then ({ r with pref := 1 - r.pref, trial := false, tried := false }, true)
  else ({ r with tried := r.trial || r.tried }, false)

/-- NV offset and room of a copy: A, B, or the vendor recovery image (R47, R360). -/
def imageAt (c : Nat) : Nat × Nat := if c = 2 then (0x1010000, 0xF0000) else (copyOff c, 0x800000)

/-- The bytes of a copy that the loader streams: as many as its header gives, within the copy's room (R50). -/
def Mems.imageBytes (m : Mems) (c : Nat) : List Byte :=
  let p := imageAt c
  m.flashRead p.1 (max 128 (min p.2 (imgLen (m.flashRead p.1 128))))

/-- The verification of a copy at start-up, steps 1 to 9 (R53). -/
def State.tryCopy (s : State) (c : Nat) : Except Nat (List Section) :=
  verifyImage s.nv none (s.mem.imageBytes c) (imageAt c).2 none s.badBlocks

/-- The FAIL_STEP register of a copy. -/
def failReg (c : Nat) : Nat := if c = 0 then Reg.VSP_IMG_FAIL_A else if c = 1 then Reg.VSP_IMG_FAIL_B else Reg.VSP_IMG_FAIL_R

/-- The outcome of a copy's verification: its FAIL_STEP, and for A and B the COPY_A_BAD or COPY_B_BAD fault (Table 2-9). -/
def Dev.noteTry (s : Dev) (c : Nat) (r : Except Nat (List Section)) : Dev :=
  let step := match r with | .error k => k | .ok _ => 0
  let s := s.wr (failReg c) (BitVec.ofNat 32 step)
  let s := { s with img := { s.img with passed := if step = 0 then c :: s.img.passed.filter (· != c) else s.img.passed.filter (· != c) } }
  if c = 2 then s else s.causeIs Reg.VSP_IMG_FLT_STAT c (decide (step ≠ 0))

/-- VSP_IMG_STAT as the start-up leaves it, with the FALLBACK and IMAGE causes and the recovery SAFE source (Table 2-10, Table 16-5). -/
def Dev.showImage (s : Dev) (copy : Option Nat) (fallback : Bool) : Dev :=
  let rec_ := copy == some 2
  let s := s.wr Reg.VSP_IMG_STAT (BitVec.ofNat 32
    (b2n (copy == some 1) + 2 * b2n copy.isSome + 4 * b2n fallback + 8 * b2n rec_))
  let s := s.causeIs Reg.VSP_IMG_FLT_STAT B.VSP_IMG_FALLBACK fallback
  let s := s.causeIs Reg.VSP_PWR_FLT_STAT B.VSP_PWR_IMAGE (copy != some 0 && copy != some 1)
  s.wrB Reg.VSP_PWR_STAT 22 rec_

/-- The verified image of copy `c` starts to run (R50). -/
def State.runImage (s : State) (c : Nat) (fallback trial : Bool) (l : List Section) : State :=
  let b := s.mem.imageBytes c
  let run : RunImg :=
    { copy := c, secver := imgSecver b, build := leAt b 0x10 4, slot := imgKey b, digest := baseDigest l, secs := l,
      trial := trial, fallback := fallback }
  let v := { s.dev with img := { s.dev.img with running := some run } }
  let v := ((v.showImage (some c) fallback).wr Reg.VSP_IMG_SECVER (BitVec.ofNat 32 run.secver)).wr Reg.VSP_IMG_BUILD (BitVec.ofNat 32 run.build)
  let v := (v.wr Reg.VSP_IMG_OEM_LEN (BitVec.ofNat 32 (oemLen l))).deliver l
  { s with dev := v.wrF Reg.VSP_PWR_STAT F.VSP_PWR_STAT_STEP (if (List.range 2).all (fun d => (v.drc d).trained) then 7 else 5) }

/-- Neither copy nor the recovery image passes: nothing is delivered, and the device stays in STANDBY (R360). -/
def Dev.noImage (s : Dev) : Dev :=
  let s := (s.showImage none false).wrF Reg.VSP_PWR_STAT F.VSP_PWR_STAT_STEP 0
  let s := (s.wr Reg.VSP_IMG_SECVER 0#32).wr Reg.VSP_IMG_BUILD 0#32
  { s with pwr := { s.pwr with imgFail := true } }

/-- The copies are tried in turn: PREF, the other one, the recovery image (R48, R360). -/
def State.tryAll (s : State) (pref : Nat) (trial : Bool) : List Nat → State
  | [] => { s with dev := s.dev.noImage }
  | c :: l =>
    let r := s.tryCopy c
    let s := { s with dev := s.dev.noteTry c r }
    match r with
    | .error _ => s.tryAll pref trial l
    | .ok secs => s.runImage c (c == 1 - pref) (trial && c == pref) secs

/-- Step 4 of Table 16-3: the trial step, the boot record, the choice, and delivery (R48, R50). -/
def State.imageLoad (s : State) : State :=
  let v := s.dev
  if v.power ≠ 1 ∨ !v.pwr.trims ∨ v.pwr.delivered ∨ v.pwr.imgFail ∨ v.pwr.rstHeld then s
  else
    let p := s.nv.bootRec.trialStep
    let nv := s.nv.writeBoot p.1.pref p.1.trial p.1.tried
    let v := if p.2 then v.raise Reg.VSP_IMG_FLT_STAT B.VSP_IMG_TRIAL_REVERTED else v
    State.tryAll { s with nv := nv, dev := v.showBoot nv } p.1.pref p.1.trial [p.1.pref, 1 - p.1.pref, 2]

/-- IMAGE_LOAD_DONE. -/
def execImageLoadDone (s : State) : Host.Outcome State Fault Refusal := .next s.imageLoad

end Sys2Proof.Machine
end

