-- ==== Sys2Proof/Machine/PacketRx.lean ====
section
/-! DEFINITION. A packet as it arrives on a lane, in code groups (R153, R155, R178, R179). -/

namespace Sys2Proof.Machine

/-- What its good body makes of a packet (Table 8-1): a STATUS, a PHOTO, a VID or an OBJ. -/
def State.packetBody (s : State) (d : Die) (n : LaneIx) (b : List Byte) : State :=
  if h : n.val < 8 then
    let t : TileIx := ⟨n.val, h⟩
    if b.getD 0 0 = 0x81#8 then { s with dev := s.dev.statusRx d t (statusOf b) } else s.photo d t (photoOf b)
  else if b.getD 0 0 = 0x11#8 then s.vidRx d (n.val - 8) (vidOf b)
  else s.objRx d (n.val - 8) (objOf b)

/-- A packet arrives on a LOCKED lane: its symbol errors are counted (R168); one that is marked bad, fails its check word, or has a TYPE or
length that the lane does not accept is dropped and counted, and any other acts (R155, R179). -/
def State.packetRx (s : State) (d : Die) (n : LaneIx) (rx : RxSyms) : State :=
  if !s.dev.locked d n then s
  else
    let l := symsOf rx
    let dev := (s.dev.wr (Reg.LANE_RAW d n) (BitVec.ofNat 32 (rawOf rx))).addR (Reg.LANE_SYMERR d n) (symErrors l)
    match Machine.packetBody l with
    | some b =>
      if bodyOk (decide (n.val < 8)) b then ({ s with dev := dev }).packetBody d n b
      else { s with dev := dev.badPacket d n (packetType l) }
    | none => { s with dev := dev.badPacket d n (packetType l) }

/-- BAD_PACKET_RX. -/
def execBadPacketRx (d : Die) (n : LaneIx) (rx : RxSyms) (s : State) : Host.Outcome State Fault Refusal := .next (s.packetRx d n rx)

end Sys2Proof.Machine
end

