-- ==== Sys2Proof/Machine/Power.lean ====
section
/-! DEFINITION. Power states, start-up, sleep, resets, and the supply and clock monitors (R348 to R360, R366, R371). -/

namespace Sys2Proof.Machine

/-! ## Commands of VSP_PWR_CMD -/

/-- RESULT of VSP_PWR_STAT: 1 ACCEPTED, 2 STATE (Table 16-10). -/
def Dev.pwrResult (s : Dev) (r : Nat) : Dev := s.wrF Reg.VSP_PWR_STAT F.VSP_PWR_STAT_RESULT r

/-- STEP of VSP_PWR_STAT (Table 16-3, Table 16-10). -/
def Dev.setStep (s : Dev) (k : Nat) : Dev := s.wrF Reg.VSP_PWR_STAT F.VSP_PWR_STAT_STEP k

/-- LIT is accepted only in READY while no SAFE request stands (R355, Table 16-8). -/
def Dev.litCmd (s : Dev) : Dev :=
  if s.power = 2 ∧ !s.safeStands then s.enterLit.pwrResult 1 else s.pwrResult 2

/-- PWR_LIT. -/
def execPwrLit (s : State) : Host.Outcome State Fault Refusal := s.onDev Dev.litCmd

/-- READY takes LIT to READY (R355). -/
def Dev.readyCmd (s : Dev) : Dev := if s.power = 3 then s.enterReady.pwrResult 1 else s.pwrResult 2

/-- PWR_READY. -/
def execPwrReady (s : State) : Host.Outcome State Fault Refusal := s.onDev Dev.readyCmd

/-- SAFE raises the software request (R356). -/
def Dev.safeCmd (s : Dev) : Dev := (s.requestSafe 2).pwrResult 1

/-- PWR_SAFE. -/
def execPwrSafe (s : State) : Host.Outcome State Fault Refusal := s.onDev Dev.safeCmd

/-- EXIT withdraws the software request, and leaves SAFE where no other source stands (R358). -/
def Dev.exitCmd (s : Dev) : Dev := ((s.safeSourceEnd 2).leaveSafe).pwrResult 1

/-- PWR_EXIT. -/
def execPwrExit (s : State) : Host.Outcome State Fault Refusal := s.onDev Dev.exitCmd

/-! ## What a reset and the loss of power take -/

/-- A register of the vesper die: the vesper window and the security window, and the fault registers of log entry 14. -/
def vesperReg (a : Nat) : Bool := decide (a < 0x1000000) || decide (0x3C00000 ≤ a)

/-- A register of a power die that stands for what the die goes on holding through a warm reset: its safe set points and what else the
image loaded, which read 0 until it is delivered again (R12, R21, R349), and the causes that are still present (R306). -/
def hvHeldReg (a : Nat) : Bool :=
  decide (0x3000000 ≤ a ∧ a < 0x3800000) &&
    (match regAt a with
     | some (b, _) => b.image
     | none => false) ||
  (List.range 2).any (fun h => a == Reg.BST_FLT_CAUSE h || a == Reg.BST_MX_FLT_CAUSE h || a == Reg.BST_LINK_FLT_CAUSE h) ||
  (List.range 128).any (fun c => a == Reg.CH_FLT_CAUSE c)

/-- The marks of failed columns, which stay until a cold start (R55, log entry 197). -/
def colFailReg (a : Nat) : Bool := (List.range 2).any (fun d => a == Reg.FAB_COLFAIL0 d || a == Reg.FAB_COLFAIL1 d)

/-- The logic side of the device as after a reset: the vesper die keeps its registers, pins and fault state, `regs` says which
registers keep their values. -/
def Dev.logicReset (s : Dev) (regs : Nat → Bool) : Dev :=
  { Dev.reset with
    us := s.us, fresh := s.fresh, out := s.out, regs := s.regs.keep regs,
    flt := { Dev.reset.flt with pulse := s.flt.pulse },
    img := { s.img with running := none },
    stat := s.stat, mirror := s.mirror, spi := s.spi,
    pwr := { PwrH.init with
      wakePin := s.pwr.wakePin, ign := s.pwr.ign, safeN := s.pwr.safeN, vbat := s.pwr.vbat, rc := s.pwr.rc,
      wakeAt := s.pwr.wakeAt, tries := s.pwr.tries, debugFails := s.pwr.debugFails } }

/-- The vesper die's registers that show what no longer is: no image runs, and no channel is disputed. -/
def Dev.vesperAfter (s : Dev) : Dev :=
  let s := (s.wrF Reg.VSP_IMG_STAT F.VSP_IMG_STAT_LOADED 0).wrF Reg.VSP_IMG_STAT F.VSP_IMG_STAT_RECOVERY 0
  forAll (List.range 4) s (fun s i => s.wr (Reg.VSP_DISP_CH i) 0#32)

/-- The contents of the in-package DRAM and of the ring memory are lost (R221, R351). -/
def Mems.drop (m : Mems) : Mems := { m with dram := [], ring := [] }

/-- The logic rails and the power dies lose their supply: step 4 of Table 16-2. The device is in SLEEP. -/
def State.removeRails (s : State) : State :=
  let s := s.imgAbort
  let v := ((s.dev.setPower 0).setStep 0).logicReset vesperReg
  { s with dev := v.vesperAfter, mem := s.mem.drop }

/-! ## Cold start -/

/-- The security registers as the fuses and the key store give them (Table 16-11). -/
def Dev.showSec (s : Dev) (nv : Nv) : Dev :=
  let st := s.rd Reg.SEC_STAT
  let st := fset (fset (fset st F.SEC_STAT_LOCKED (b2n nv.locked)) F.SEC_STAT_ZEROISED (b2n nv.zeroised)) F.SEC_STAT_FLOOR nv.floor
  let slot := fun k => match nv.slots.getD k default with | ⟨h, r⟩ => if r then 2 else if h.isSome then 1 else 0
  let s := (s.wr Reg.SEC_STAT st).wr Reg.SEC_SLOTS
    (BitVec.ofNat 32 ((List.range 8).foldl (fun w k => w + slot k * 4 ^ k) 0))
  let s := s.wr Reg.SEC_KS_STAT
    (BitVec.ofNat 32 ((List.range 16).foldl (fun w k => w + b2n (nv.keys.getD k none).isSome * 2 ^ k) 0))
  let s := (s.wr Reg.SEC_POLICY (BitVec.ofNat 32 nv.policy)).wr Reg.SEC_TAMP_LAST (BitVec.ofNat 32 (nv.tampLast + 0x10000 * nv.tampCount))
  (s.causeIs Reg.SEC_FLT_STAT B.SEC_LOCKED nv.locked).causeIs Reg.SEC_FLT_STAT B.SEC_ERASED nv.zeroised

/-- SEC_NONCE renewed: a random value, free (Table 16-11). -/
def Dev.newNonce (s : Dev) : Dev := let x := s.free; x.2.wr Reg.SEC_NONCE (BitVec.ofNat 32 x.1)

/-- The SAFE sources that survive to a cold start from SLEEP: SAFE_N as its pin stands, the safety microcontroller's request where it
was received in SLEEP, and the software request (R331, R350, R356). -/
def Dev.coldSources (s : Dev) : Nat :=
  b2n s.pwr.safeN + 2 * b2n (s.spi.inSleep && s.safeSource 1) + 4 * b2n (s.safeSource 2)

/-- A cold start begins (R12, R349, R350): every register takes its Reset value, but for those that show what the part holds.
`cause` is the bit of VSP_WAKE_CAUSE: 1 WAKE, 2 IGN, 3 TIMER, 4 POWERUP, 5 VRESET. -/
def State.coldStart (s : State) (cause : Nat) : State :=
  let o := s.dev
  let v := o.logicReset (fun _ => false)
  let v := { v with
    pwr := { v.pwr with vbat := 0, wakeAt := o.us, tries := 0, debugFails := 0 },
    img := Dev.reset.img, stat := [], mirror := [], flt := Dev.reset.flt, spi := { o.spi with inSleep := false } }
  let v := v.wrF Reg.VSP_PWR_STAT F.VSP_PWR_STAT_SAFE_SRC o.coldSources
  let v := v.wrB Reg.VSP_SPI_STAT 0 (o.spi.inSleep && o.safeSource 1)
  let v := (v.setStep 1).wr Reg.VSP_WAKE_CAUSE (BitVec.ofNat 32 (1 + 2 ^ cause))
  let v := if o.power = 1 then v else v.emit (.msix 63)
  let v := v.causeIs Reg.VSP_PWR_FLT_STAT B.VSP_PWR_CLOCK o.pwr.rc
  { s with dev := ((v.showBoot s.nv).showSec s.nv).newNonce, mem := s.mem.drop }

/-- The start-up that follows the first power-up of VBAT begins with it (R349). -/
def State.powerUp (s : State) : State :=
  if s.dev.power = 1 ∧ s.dev.pwr.pen = 0 ∧ s.dev.rd Reg.VSP_WAKE_CAUSE = 0#32 ∧ s.dev.pwr.vbat = 0 then s.coldStart 4 else s

/-! ## Wake sources -/

/-- The bit of VSP_WAKE_CAUSE of a wake source (Table 16-9). -/
def causeOf : WakeSrc → Nat
  | .wakePin => 1
  | .ign => 2
  | .timer => 3
  | .keep => 0

/-- An enabled wake pin is asserted: the bit of VSP_WAKE_CAUSE (R350). -/
def Dev.pinWake (s : Dev) : Option Nat :=
  if s.pwr.wakePin && s.rdF Reg.VSP_PWR_CFG F.VSP_PWR_CFG_WAKE_EN == 1 then some 1
  else if s.pwr.ign && s.rdF Reg.VSP_PWR_CFG F.VSP_PWR_CFG_IGN_EN == 1 then some 2
  else none

/-- An enabled wake source holds the device awake (R350, R351). -/
def Dev.awakeHeld (s : Dev) : Bool := s.pinWake.isSome || s.rdF Reg.VSP_KEEP F.VSP_KEEP_KEEP == 1

/-- A wake source that asserts before step 4 cancels an entry to SLEEP (R351). -/
def Dev.cancelSleep (s : Dev) : Dev := if s.awakeHeld then { s with pwr := { s.pwr with sleep := 0 } } else s

/-- A wake source takes a level, after its filter (R350, R351): in SLEEP an enabled pin that asserts starts a cold start, and awake
it cancels an entry to SLEEP. KEEP counts only while the device is awake. -/
def State.setWake (s : State) (w : WakeSrc) (on : Bool) : State :=
  let v := s.dev
  let v := match w with
    | .wakePin => { v with pwr := { v.pwr with wakePin := on } }
    | .ign => { v with pwr := { v.pwr with ign := on } }
    | .keep => if v.power = 0 ∨ v.pwr.vbat = 2 then v else v.wrF Reg.VSP_KEEP F.VSP_KEEP_KEEP (b2n on)
    | .timer => v
  let s := { s with dev := v }
  if on ∧ v.power = 0 ∧ v.pwr.vbat = 0 ∧ (w = .wakePin ∨ w = .ign) then
    match v.pinWake with
    | some k => s.coldStart k
    | none => s
  else { s with dev := v.cancelSleep }

/-- The wake timer expires in SLEEP (R350): it is enabled and on. -/
def State.timerWake (s : State) : State :=
  let v := s.dev
  if v.power = 0 ∧ v.pwr.vbat = 0 ∧ v.rdF Reg.VSP_PWR_CFG F.VSP_PWR_CFG_TMR_EN = 1 ∧ v.rd Reg.VSP_WAKE_TMR ≠ 0#32 then s.coldStart 3
  else s

/-- WAKE. -/
def execWake (w : WakeSrc) (s : State) : Host.Outcome State Fault Refusal :=
  .next (match w with
    | .timer => s.timerWake
    | w => s.setWake w true)

/-- WAKE_TIMER. -/
def execWakeTimer (s : State) : Host.Outcome State Fault Refusal := .next s.timerWake

/-- WAKE_SOURCE_CHANGE. -/
def execWakeSourceChange (w : WakeSrc) (asserted : Bool) (s : State) : Host.Outcome State Fault Refusal := .next (s.setWake w asserted)

/-! ## Entry to SLEEP -/

/-- The device is held in STANDBY by a start-up failure (R353, R360). -/
def Dev.heldStandby (s : Dev) : Bool := s.power == 1 && !s.pwr.rstHeld && (s.pwr.barred || s.pwr.imgFail)

/-- Steps 1 and 2 of Table 16-2: SLEEP_DLY has passed with every enabled wake source released (R351). -/
def State.sleepEntry (s : State) : State :=
  let v := s.dev
  if v.awakeHeld ∨ v.pwr.sleep ≠ 0 ∨ !(v.power = 2 ∨ v.power = 3 ∨ v.power = 4 ∨ v.heldStandby) then s
  else
    let v := if v.power = 3 then v.enterReady else v
    let v := (v.abandonDie 0 4).abandonDie 1 4
    let s := { s with dev := { v with pwr := { v.pwr with sleep := 1 } } }
    if v.img.job = 2 then s.imgAbort else s

/-- SLEEP_ENTRY. -/
def execSleepEntry (s : State) : Host.Outcome State Fault Refusal := .next s.sleepEntry

/-- A coefficient store is in progress. -/
def Dev.storing (s : Dev) : Bool := (List.range 16).any (fun k => (s.cal (k / 8) (k % 8)).storing.isSome)

/-- Steps 3 and 4 of Table 16-2 (R351). -/
def State.sleepOff (s : State) : State := if s.dev.pwr.sleep = 1 ∧ !s.dev.storing then s.removeRails else s

/-- SLEEP_RAILS_OFF. -/
def execSleepRailsOff (s : State) : Host.Outcome State Fault Refusal := .next s.sleepOff

/-! ## Start-up -/

/-- The next PEN group asserts; after the last group the trims can be read (R371). -/
def Dev.penNext (s : Dev) : Dev :=
  if s.power ≠ 1 ∨ s.pwr.rails then s
  else if s.pwr.pen < 4 then { s with pwr := { s.pwr with pen := s.pwr.pen + 1 } }
  else ({ s with pwr := { s.pwr with rails := true } }).setStep 2

/-- RAIL_GROUP_ENABLE. -/
def execRailGroupEnable (s : State) : Host.Outcome State Fault Refusal := s.powerUp.onDev Dev.penNext

/-- A group misses its window (R371): RAIL, the rails go, and the device is in SLEEP; while an enabled wake source stays asserted
start-up is tried again, up to three times for a wake. -/
def State.railRetry (s : State) : State :=
  let v := s.dev
  if v.power ≠ 1 ∨ v.pwr.rails ∨ v.pwr.pen = 0 then s
  else
    let again := v.awakeHeld && decide (v.pwr.tries < 3)
    let s := State.removeRails { s with dev := v.raise Reg.VSP_PWR_FLT_STAT B.VSP_PWR_RAIL }
    if again then
      let v := { s.dev with pwr := { s.dev.pwr with tries := v.pwr.tries + 1 } }
      { s with dev := (v.setPower 1).setStep 1 }
    else s

/-- RAIL_RETRY. -/
def execRailRetry (s : State) : Host.Outcome State Fault Refusal := .next s.railRetry

/-- Step 3 of Table 16-3 (R26, R352): the core PLLs lock, the links between the dies come up, the PCI Express link trains, and DRAM
training starts. -/
def Dev.pllLock (s : Dev) : Dev :=
  if s.power ≠ 1 ∨ !s.pwr.trims ∨ s.pwr.pll ∨ s.pwr.rstHeld then s
  else
    let s := { s with pwr := { s.pwr with pll := true } }
    let s := forAll ((List.range 2).filter (fun d => !s.pwr.lost.contains d)) s (fun s d =>
      let s := s.wrF (Reg.FAB_DIE_STAT d) F.FAB_DIE_STAT_SUP_UP 1
      forAll [0, 1] s (fun s c => s.wrF (Reg.DRC_CH_STAT d c) F.DRC_CH_STAT_STATE 1))
    let s := if s.pwr.lost.isEmpty then
        forAll [0, 1] s (fun s d => (s.wr (Reg.FAB_BRG_STAT d) 0xF#32).wrF (Reg.FAB_DIE_STAT d) F.FAB_DIE_STAT_PEER_UP 1)
      else s
    if s.pwr.lost.contains 0 then s else s.wr Reg.PZP_PCIE_STAT (pcieWord Config.pcieLink)

/-- CORE_PLL_LOCK. -/
def execCorePllLock (s : State) : Host.Outcome State Fault Refusal := s.onDev Dev.pllLock

/-- DRAM training is done as R353 asks: both dies train, or one is a half-memory client; a lost die takes no part. -/
def Dev.memReady (s : Dev) : Bool :=
  (List.range 2).all (fun d => s.pwr.lost.contains d || ((s.drc d).trained && (s.dramRuns d || s.drcRole d == 1)))

/-- Every lane in use is LOCKED or FAILED (R353). -/
def Dev.lanesDone (s : Dev) : Bool :=
  (List.range 20).all (fun k =>
    s.pwr.lost.contains (k / 10) || s.rdF (Reg.LANE_CFG (k / 10) (k % 10)) F.LANE_CFG_USE == 0 ||
      s.laneState (k / 10) (k % 10) == 3 || s.laneState (k / 10) (k % 10) == 4)

/-- The conditions of R353. -/
def Dev.mayReady (s : Dev) : Bool :=
  s.power == 1 && s.pwr.delivered && s.pwr.tested && !s.pwr.barred && !s.pwr.imgFail && s.memReady &&
    (List.range 2).all (fun d => s.pwr.lost.contains d || s.pwr.coefs.contains d) && s.lanesDone

/-- READY is entered from STANDBY (R353): every generator starts at line 0 of frame 0, and a SAFE request that stands takes effect in
the same clock (R134, R356). -/
def Dev.readyEntry (s : Dev) : Dev :=
  if !s.mayReady then s
  else
    let s := forAll (List.range 8) s (fun s k =>
      let d := k / 4
      let n := k % 4
      if s.usedOn d n ∧ !s.pwr.lost.contains d then s.setHalf d n { s.half d n with running := true, first := true } else s)
    let t := s.us - s.pwr.wakeAt
    let s := (s.wr Reg.VSP_START_TIME (BitVec.ofNat 32 (min 65535 (t / 1000)))).setStep 0
    let s := if 250000 < t then s.raise Reg.VSP_PWR_FLT_STAT B.VSP_PWR_START_LATE else s
    let s := s.setPower 2
    if s.safeStands then s.enterSafe else s

/-- READY_ENTRY. -/
def execReadyEntry (s : State) : Host.Outcome State Fault Refusal := s.onDev Dev.readyEntry

/-! ## Warm reset -/

/-- A warm reset's start-up begins (R349, R352): step 1 is skipped where the rails are up. -/
def Dev.restart (s : Dev) : Dev :=
  let s := { s with pwr := { s.pwr with rstHeld := false, wakeAt := s.us, lost := [], barred := false } }
  let s := (s.safeSourceEnd 4).safeSourceEnd 5
  let s := s.causeOff Reg.VSP_PWR_FLT_STAT B.VSP_PWR_SELFTEST
  s.setStep (if s.pwr.rails then 2 else 1)

/-- The faults of a power die whose causes are present latch anew after a warm reset (R306). -/
def Dev.relatch (s : Dev) (h : Nat) : Dev :=
  forAll (hvStats h) s (fun s a =>
    forAll (bitsOf (s.rd (a + 8))) s (fun s k => if s.standing a k then s.latchFault a k else s))

/-- What a start-up ends (R238), and the trim failures whose cause lasts until a cold start (R319), which latches anew (R306). -/
def Dev.lastingCauses (s : Dev) (trims : Bool) : Dev :=
  let s := forAll [0, 1] s (fun s h => s.causeOff (Reg.BST_FLT_STAT h) B.BST_BOOST_OFF)
  if trims then s.causeOn (Reg.BIST_FLT_STAT 0) B.BIST_STARTUP_FAIL else s

/-- A warm reset (R306, R349): every die but the vesper die is reset. The power dies keep applying safe set points, the sessions
are reported closed, and an image command is abandoned. -/
def State.warm (s : State) : State :=
  let o := s.imgAbort.functionReset
  let v := forAll (List.range 1024) o.dev (fun v k => v.closeSess k 3)
  let v := (v.applySafe 0).applySafe 1
  let p := v.pwr
  let w := v.logicReset (fun a => vesperReg a || hvHeldReg a || colFailReg a)
  let w := { w with
    chans := v.chans, runs := v.runs, groups := v.groups,
    hvs := v.hvs.map (fun (e : Nat × HvH) => (e.1, { e.2 with linkSafe := false, resend := false, held := [] })),
    pwr := { w.pwr with rails := p.rails, pen := p.pen, lost := p.lost } }
  let w := forAll [0, 1] w (fun w h =>
    w.wrF (Reg.BST_LINK_STAT h) F.BST_LINK_STAT_SAFE_HOLD (b2n ((w.hv h).mode == 1)))
  let trims := p.tested && (List.range 5).any (fun g => !v.rdB Reg.VSP_TRIM_STAT g)
  let w := ((((w.vesperAfter.safeSourceEnd 3).lastingCauses trims).relatch 0).relatch 1).setPower 1
  { o with dev := (w.wrF Reg.VSP_WAKE_CAUSE F.VSP_WAKE_CAUSE_COLD 0).setStep 15, mem := o.mem.drop }

/-- RST_N or WARM: in SLEEP, and without VBAT, nothing is in reset (Table 16-8). -/
def State.warmReset (s : State) (held : Bool) : State :=
  if s.dev.power = 0 ∨ s.dev.pwr.vbat = 2 then s
  else
    let s := s.warm
    if held then { s with dev := { s.dev with pwr := { s.dev.pwr with rstHeld := true } } } else { s with dev := s.dev.restart }

/-- The WARM command (R349): refused in SLEEP. -/
def State.warmCmd (s : State) : State :=
  if s.dev.power = 0 then { s with dev := s.dev.pwrResult 2 }
  else
    let s := { s with dev := s.dev.pwrResult 1 }
    if s.dev.pwr.rstHeld then s else s.warmReset false

/-- PWR_WARM. -/
def execPwrWarm (s : State) : Host.Outcome State Fault Refusal := .next s.warmCmd

/-- WARM_RESET: RST_N is asserted, and holds the dies in reset until RESET_RELEASE. -/
def execWarmReset (s : State) : Host.Outcome State Fault Refusal := .next (s.warmReset true)

/-- RESET_RELEASE. -/
def execResetRelease (s : State) : Host.Outcome State Fault Refusal := s.onDev (fun s => if s.pwr.rstHeld then s.restart else s)

/-! ## SAFE_N and the monitors -/

/-- SAFE_N: the pin is asserted, after its filter (R356). -/
def execSafeN (s : State) : Host.Outcome State Fault Refusal :=
  s.onDev (fun s =>
    let s := { s with pwr := { s.pwr with safeN := true } }
    if s.pwr.vbat = 2 then s else s.requestSafe 0)

/-- SAFE_N_RELEASE (R358). -/
def execSafeNRelease (s : State) : Host.Outcome State Fault Refusal :=
  s.onDev (fun s => ({ s with pwr := { s.pwr with safeN := false } }).safeSourceEnd 0)

/-- VBAT is low (Table 16-6): VBAT_LOW, and the rails go without waiting. -/
def State.vbatLow (s : State) : State :=
  let v := s.dev
  if v.pwr.vbat ≠ 0 then s
  else
    let v := { v with pwr := { v.pwr with vbat := 1 } }
    let s := { s with dev := v.causeOn Reg.VSP_PWR_FLT_STAT B.VSP_PWR_VBAT_LOW }
    if v.power = 0 then s else s.removeRails

/-- VBAT_LOW. -/
def execVbatLow (s : State) : Host.Outcome State Fault Refusal := .next s.vbatLow

/-- VBAT is lost (Table 16-6, R25, R52): the vesper die is reset, and nothing keeps a record but what the part holds without power.
Programming under way is broken off. -/
def State.vbatGone (s : State) : State :=
  if s.dev.pwr.vbat = 2 then s
  else
    let s := if s.dev.img.erasing then s.breakCopy else s
    let v := s.dev
    let w := { Dev.reset with
      us := v.us, fresh := v.fresh, out := v.out,
      pwr := { PwrH.init with wakePin := v.pwr.wakePin, ign := v.pwr.ign, safeN := v.pwr.safeN, vbat := 2 } }
    { s with dev := w.wrF Reg.VSP_PWR_STAT F.VSP_PWR_STAT_STATE 0, mem := s.mem.drop }

/-- VBAT_LOST. -/
def execVbatLost (s : State) : Host.Outcome State Fault Refusal := .next s.vbatGone

/-- VBAT has been above 6.0 V for 10 ms (Table 16-6): after a loss a cold start follows, and after VBAT low with an enabled wake source
asserted; with none asserted the device sleeps on, and VBAT is no longer low. -/
def State.vbatBack (s : State) (lost : Bool) : State :=
  let s := s.powerUp
  if s.dev.pwr.vbat = 2 then (if lost then s.coldStart 5 else s)
  else if s.dev.pwr.vbat = 1 ∧ !lost then
    match s.dev.pinWake with
    | some k => s.coldStart k
    | none =>
      let v := s.dev
      { s with dev := ({ v with pwr := { v.pwr with vbat := 0 } }).causeOff Reg.VSP_PWR_FLT_STAT B.VSP_PWR_VBAT_LOW }
  else s

/-- VBAT_RETURN. -/
def execVbatReturn (lost : Bool) (s : State) : Host.Outcome State Fault Refusal := .next (s.vbatBack lost)

/-- The rails of a die's DRAM fail (Table 16-6): in service and in training its DRAM has failed. -/
def Dev.dramRail (s : Dev) (d : Nat) : Dev :=
  if s.chanRuns d 0 then s.dramLoss d 0
  else if s.chanRuns d 1 then s.dramLoss d 1
  else if s.rdF (Reg.DRC_CH_STAT d 0) F.DRC_CH_STAT_STATE = 1 then
    let s := ((s.setDrc d { s.drc d with trained := true }).wrF (Reg.DRC_CH_STAT d 1) F.DRC_CH_STAT_STATE 0).dramStop d 0
    if (s.drc (1 - d)).trained || s.pwr.lost.contains (1 - d) then
      forAll ((List.range 2).filter s.trainFailed) s (fun s e => s.drcRoles e true)
    else s
  else s

/-- A rail is outside its window (Table 16-6). -/
def Dev.railFault (s : Dev) (u : RailUnit) : Dev :=
  if s.power = 0 ∨ !s.pwr.rails then s
  else
    let s := s.raise Reg.VSP_PWR_FLT_STAT B.VSP_PWR_RAIL
    match u with
    | .cd d => s.loseDie d 5
    | .dram d => s.dramRail d

/-- RAIL_FAULT. -/
def execRailFault (u : RailUnit) (s : State) : Host.Outcome State Fault Refusal := s.onDev (fun s => s.railFault u)

/-- CRYSTAL_FAIL: the wake timer runs from the RC oscillator (Table 16-6). -/
def execCrystalFail (s : State) : Host.Outcome State Fault Refusal :=
  s.onDev (fun s =>
    if s.pwr.vbat = 2 then s
    else ({ s with pwr := { s.pwr with rc := true } }).causeOn Reg.VSP_PWR_FLT_STAT B.VSP_PWR_CLOCK)

end Sys2Proof.Machine
end

