-- ==== Sys2Proof/Machine/Security.lean ====
section
/-! DEFINITION. Keys, fuses, the key store and the tamper detectors (R361 to R365). -/

namespace Sys2Proof.Machine

/-- RESULT of SEC_CMD_STAT (Table 16-11): 1 DONE, 2 LOCKED, 3 BAD_SIG, 4 STATE, 5 SLOT; a command that fails raises CMD_FAIL. -/
def Dev.secResult (s : Dev) (r : Nat) : Dev :=
  let s := s.wrF Reg.SEC_CMD_STAT F.SEC_CMD_STAT_RESULT r
  if r = 1 then s else s.raise Reg.SEC_FLT_STAT B.SEC_CMD_FAIL

/-- A security command ends without effect. -/
def State.secFail (s : State) (r : Nat) : State := { s with dev := s.dev.secResult r }

/-- A security command is done: what the part holds has become `nv`. -/
def State.secDone (s : State) (nv : Nv) : State := { s with nv := nv, dev := (s.dev.showSec nv).secResult 1 }

/-- The security unit can be reached (R350, R359): not in SLEEP, nor without VBAT. -/
def Dev.secUp (s : Dev) : Bool := s.spiReach Reg.SEC_CMD

/-- Slot `k` is an OEM slot that is programmed and not revoked (R361). -/
def Nv.oemSlot (nv : Nv) (k : Nat) : Bool := 1 ≤ k && (nv.slots.getD k default).hash.isSome && !(nv.slots.getD k default).revoked

/-- A blob's signature verifies against a programmed OEM slot that is not revoked (R363, R365). -/
def Nv.blobOk (nv : Nv) (b : List Byte) : Bool :=
  let key := Config.blobKey b
  (List.range 8).any (fun k => nv.oemSlot k && (nv.slots.getD k default).hash == some (Config.sha256 key)) &&
    Config.ecdsaVerify key (Config.blobSig b) (Config.sha256 (Config.blobBody b))

/-- ADVANCE (R362). -/
def State.secAdvance (s : State) : State :=
  if !s.dev.secUp then s
  else if s.nv.locked then s.secFail 2
  else match s.dev.img.running with
  | none => s.secFail 4
  | some r =>
    if r.trial ∨ r.fallback ∨ r.copy = 2 then s.secFail 4
    else s.secDone { s.nv with floor := max s.nv.floor (min 64 r.secver) }

/-- ADVANCE. -/
def execAdvance (s : State) : Host.Outcome State Fault Refusal := .next s.secAdvance

/-- PROVISION (R363): the entry is written where the signature verifies and the key unwraps; ZEROISED clears (R365). -/
def State.secProvision (s : State) : State :=
  if !s.dev.secUp then s
  else if s.nv.locked then s.secFail 2
  else
    let b := s.staged
    let w := Config.provisionWrap b
    match (if s.nv.blobOk b then Config.gcmOpen Config.deviceKey w.1 [] w.2.1 w.2.2 else none) with
    | none => s.secFail 3
    | some key => s.secDone { s.nv with keys := s.nv.keys.set (Config.provisionEntry b % 16) (some key), zeroised := false }

/-- PROVISION. -/
def execProvision (s : State) : Host.Outcome State Fault Refusal := .next s.secProvision

/-- UNLOCK (R365): a signed blob with UNLK and the nonce clears LOCKED, and the nonce is renewed. -/
def State.secUnlock (s : State) : State :=
  if !s.dev.secUp then s
  else
    let b := s.staged
    if s.nv.blobOk b ∧ Config.unlockNonce b = some (s.dev.rd Reg.SEC_NONCE).toNat then
      let s := s.secDone { s.nv with locked := false }
      { s with dev := s.dev.newNonce }
    else s.secFail 3

/-- UNLOCK. -/
def execUnlock (s : State) : Host.Outcome State Fault Refusal := .next s.secUnlock

/-- PROGSLOT (R361): in READY, an empty OEM slot takes the key hash of the staging area. -/
def State.secProgslot (s : State) (k : Nat) : State :=
  let x := s.nv.slots.getD k default
  if !s.dev.secUp then s
  else if s.nv.locked then s.secFail 2
  else if s.dev.power ≠ 2 then s.secFail 4
  else if k = 0 ∨ x.hash.isSome ∨ x.revoked then s.secFail 5
  else s.secDone { s.nv with slots := s.nv.slots.set k { x with hash := some (s.staged.take 32) } }

/-- PROGSLOT. -/
def execProgslot (slot : Fin 8) (s : State) : Host.Outcome State Fault Refusal := .next (s.secProgslot slot)

/-- REVOKE (R361): not of slot 0, in READY, and only while the running image was verified under another OEM slot that is not
revoked. -/
def State.secRevoke (s : State) (k : Nat) : State :=
  if !s.dev.secUp then s
  else if k = 0 then s.secFail 5
  else if s.dev.power ≠ 2 then s.secFail 4
  else match s.dev.img.running with
  | none => s.secFail 4
  | some r =>
    if r.slot ≠ k ∧ s.nv.oemSlot r.slot then
      s.secDone { s.nv with slots := s.nv.slots.set k { s.nv.slots.getD k default with revoked := true } }
    else s.secFail 4

/-- REVOKE. -/
def execRevoke (slot : Fin 8) (s : State) : Host.Outcome State Fault Refusal := .next (s.secRevoke slot)

/-! ## Tamper detectors -/

/-- Number of a detector in the order of Table 16-7. -/
def detIdx : Detector → Nat
  | .mesh => 0
  | .vglitch => 1
  | .cglitch => 2
  | .temp => 3
  | .debug => 4

/-- Policy of detector `k`: its two fuses (R365). -/
def Nv.policyOf (nv : Nv) (k : Nat) : Nat := nv.policy / 4 ^ k % 4

/-- A detection is recorded, and its policy acts (R364, R365): 1 LOCK, 2 and 3 ERASE. -/
def Nv.tamper (nv : Nv) (k : Nat) : Nv :=
  let p := nv.policyOf k
  let nv := { nv with tampCount := min 65535 (nv.tampCount + 1), tampLast := k + 16 * p }
  if 2 ≤ p then { nv with keys := List.replicate 16 none, locked := true, zeroised := true }
  else if p = 1 then { nv with locked := true }
  else nv

/-- A detector detects (R364): its bit of SEC_FLT_STAT, the record, and the policy. -/
def State.detect (s : State) (k : Nat) : State :=
  if s.dev.pwr.vbat = 2 then s
  else
    let nv := s.nv.tamper k
    { s with nv := nv, dev := (s.dev.raise Reg.SEC_FLT_STAT k).showSec nv }

/-- TAMPER_DETECT. -/
def execTamperDetect (det : Detector) (s : State) : Host.Outcome State Fault Refusal := .next (s.detect (detIdx det))

/-- A debug unlock attempt (Table 16-7): a failed one is a detection, and the third since a cold start locks the port. -/
def State.debugTry (s : State) (good : Bool) : State :=
  let n := s.dev.pwr.debugFails
  if good ∨ 3 ≤ n ∨ s.dev.pwr.vbat = 2 then s
  else
    let s := s.detect 4
    let v := { s.dev with pwr := { s.dev.pwr with debugFails := n + 1 } }
    { s with dev := if 3 ≤ n + 1 then v.wrF Reg.SEC_STAT F.SEC_STAT_DEBUG_LOCK 1 else v }

/-- DEBUG_UNLOCK_ATTEMPT. -/
def execDebugUnlockAttempt (good : Bool) (s : State) : Host.Outcome State Fault Refusal := .next (s.debugTry good)

end Sys2Proof.Machine
end

