-- ==== Sys2Proof/Machine/RegWrite.lean ====
section
/-! DEFINITION. Writing a register (R11, R13, R136, R137, R324): storing its value, or the action that the write stands for. -/

namespace Sys2Proof.Machine

/-! ## Commands in registers -/

/-- VSP_PWR_CMD (Table 16-9). -/
def State.pwrCmd (s : State) (v : Word) : State :=
  match fget v F.VSP_PWR_CMD_CMD with
  | 1 => { s with dev := s.dev.litCmd }
  | 2 => { s with dev := s.dev.readyCmd }
  | 3 => { s with dev := s.dev.safeCmd }
  | 4 => { s with dev := s.dev.exitCmd }
  | 5 => s.warmCmd
  | _ => s

/-- SEC_CMD (Table 16-11). -/
def State.secCmd (s : State) (v : Word) : State :=
  match fget v F.SEC_CMD_CMD with
  | 1 => s.secAdvance
  | 2 => s.secProvision
  | 3 => s.secUnlock
  | 4 => s.secProgslot (fget v F.SEC_CMD_SLOT)
  | 5 => s.secRevoke (fget v F.SEC_CMD_SLOT)
  | _ => s

/-- VSP_PWR_CFG: while the recovery image runs, a new SAFE_PAT goes to every tile held in SAFE_CMD, and to the others at the end of their
bring-up (R194, R360); a source that is enabled while asserted
cancels an entry to SLEEP (R351). -/
def Dev.pwrCfg (s : Dev) (v : Word) : Dev :=
  let was := s.safePat
  let s := (s.wr Reg.VSP_PWR_CFG v).cancelSleep
  if s.safePat = was then s
  else forAll [0, 1] s (fun s d => forAll (s.usedTiles d) s (fun s t => if s.dstate d t = 3 then s.queueSafe d t else s))

/-- LANE_CMDn (Table 7-10). -/
def Dev.laneCmd (s : Dev) (d n : Nat) (v : Word) : Dev :=
  match fget v ⟨0, 3⟩ with
  | 1 => s.retrainLane d n false
  | 2 => s.retrainLane d n true
  | 3 => (s.touch d (laneBlock d n)).laneOff d n
  | 4 => s.enableLane d n
  | _ => s

/-- LANE_SLIPn: a slip, and the end of manual alignment (R162). -/
def Dev.laneSlip (s : Dev) (d n : Nat) (v : Word) : Dev :=
  let bits := fget v F.LANE_SLIP_SLIP
  let on := fget v F.LANE_SLIP_CONTINUE == 1
  let s := if bits = 0 ∧ on then s else s.slipBits d n bits
  if on then s.alignEnd d n else s

/-- FAB_RB_CTRL (Table 2-14): the lowest command bit written as 1 acts. -/
def State.rbCtrl (s : State) (d : Nat) (v : Word) : State :=
  let a := Reg.FAB_RB_CTRL d
  let put := fun (s : Dev) => (s.wrF a F.FAB_RB_CTRL_HEAD (fget v F.FAB_RB_CTRL_HEAD)).wrF a F.FAB_RB_CTRL_SRC (fget v F.FAB_RB_CTRL_SRC)
  if fget v F.FAB_RB_CTRL_LOAD = 1 then s.rbLoad d (fget v F.FAB_RB_CTRL_HEAD) (fget v F.FAB_RB_CTRL_SRC == 1)
  else
    let w := put s.dev
    { s with dev :=
        if fget v F.FAB_RB_CTRL_ARM = 1 then w.rbArm d
        else if fget v F.FAB_RB_CTRL_CANCEL = 1 then w.rbCancel d
        else if fget v F.FAB_RB_CTRL_REVERT = 1 then w.rbRevert d
        else w }

/-- CAL_CMD (Table 11-9). -/
def State.calCmd (s : State) (d : Nat) (v : Word) : State :=
  let tiles := BitVec.ofNat 8 (fget v F.CAL_CMD_TILES)
  match fget v F.CAL_CMD_CMD with
  | 1 => { s with dev := s.dev.calTrigger d tiles 1 }
  | 2 => { s with dev := s.dev.calTrigger d tiles 2 }
  | 3 => { s with dev := s.dev.calAbortCmd d tiles }
  | 4 => s.calRestoreCmd d tiles (fget v F.CAL_CMD_ROW)
  | 5 => s.refProgCmd d tiles
  | 6 => s.refEraseCmd d tiles
  | _ => s

/-- CRC_CMDu (Table 13-3). -/
def Dev.crcCmd (s : Dev) (d u : Nat) (v : Word) : Dev :=
  match fget v ⟨0, 3⟩ with
  | 1 => s.crcInit d u
  | 2 => s.crcCheckCmd d u
  | 3 => s.crcArmCmd d u
  | 4 => s.crcStopCmd d u
  | 5 => s.crcEndCmd d u
  | _ => s

/-! ## Registers with rules of their own -/

/-- A CAL_SLOT that R255 allows. -/
def calSlotOk (v : Word) : Bool :=
  let dark := fget v F.CAL_SLOT_T_DARK
  let lit := fget v F.CAL_SLOT_T_LIT
  decide (4 ≤ dark) && decide (8 ≤ lit) && fget v F.CAL_SLOT_CODE != 0 && decide (dark + lit ≤ 116)

/-- DRC_QOS_TGTp: TGT is limited to 0.1 µs to 100 µs, and a MINRES that would make the sum over P1 to P6 exceed 112 is ignored. -/
def Dev.writeTgt (s : Dev) (d p : Nat) (v : Word) : Dev :=
  let a := Reg.DRC_QOS_TGT d p
  let others := (((List.range' 1 6).filter (· != p)).map (fun q => s.minres d q)).sum
  let m := fget v F.DRC_QOS_TGT_MINRES
  let s := s.wrF a F.DRC_QOS_TGT_TGT (clampN 10 10000 (fget v F.DRC_QOS_TGT_TGT))
  if p ≠ 0 ∧ 112 < others + m then s else s.wrF a F.DRC_QOS_TGT_MINRES m

/-- A write to a timing register of head `n` on die `d`, at offset `o` of its unit (R137, R145): none where the die has no tiles of
the head, and in a slave none of the registers that its master's stand for. A refusal of the mode ends where the write restores the
mode in use (R138). -/
def Dev.writeTiming (s : Dev) (d n o : Nat) (v : Word) : Dev :=
  let a := Reg.HEAD_TLINE d n + o
  if !s.usedOn d n ∨ (s.isSlave d n ∧ (o = 0 ∨ o = 4 ∨ o = 0xC)) then s
  else if o = 0x20 then s.wr a (s.rd a &&& ~~~ v)
  else (s.wr a v).modeSettled n

/-- A write to a warp or correction register of head `n` on die `d` (R104, R137): none where the die has no tiles of the head. -/
def Dev.writeWarp (s : Dev) (d n o : Nat) (v : Word) : Dev :=
  if !s.usedOn d n then s
  else if o = 0x20 then s.corrHost d n v
  else if s.isSlave d n ∧ (o = 0x24 ∨ o = 0x28 ∨ o = 0x2C) then s
  else s.wr (Reg.HEAD_WARP_BASE d n + o) v

/-- A write to HEAD_RAS_BASEm: a slot that an input lane feeds is the lane's own (R196, R199). -/
def Dev.writeRas (s : Dev) (d m : Nat) (v : Word) : Dev :=
  if (List.range 4).any (fun k => (s.fedSlots (k / 2) (k % 2)).contains m) then s else s.wr (Reg.HEAD_RAS_BASE d m) v

/-- A write to a lane register at offset `o` of the lane. -/
def Dev.writeLane (s : Dev) (d n o : Nat) (v : Word) : Dev :=
  if o = 4 then s.laneCmd d n v
  else if o = 0x34 then s.laneSlip d n v
  else if o = 0x40 then s.loopbackWrite d n v
  else if o = 0x64 then (if bitOf v 0 then s.escanGo d n else s)
  else s.wr (Reg.LANE_CFG d n + o) v

/-- A write to a register of compositor die `d` whose access code lets it be written, at offset `o` of its window. -/
def State.writeCd (s : State) (d o : Nat) (v : Word) : State :=
  let w := s.dev
  let a := Reg.cd d + o
  let up := fun (x : Dev) => { s with dev := x }
  if 0x10000 ≤ o ∧ o < 0x1C000 then up (w.writeLane d ((o - 0x10000) / 0x1000) (o % 0x1000) v)
  else if 0x40000 ≤ o ∧ o < 0x40400 then up (w.writeTiming d ((o - 0x40000) / 0x100) (o % 0x100) v)
  else if 0x48000 ≤ o ∧ o < 0x48400 ∧ o % 0x100 = 0 then up (w.commit d ((o - 0x48000) / 0x100) (fget v ⟨0, 1⟩))
  else if 0x48400 ≤ o ∧ o < 0x48420 then up (w.writeRas d ((o - 0x48400) / 4) v)
  else if 0x4A000 ≤ o ∧ o < 0x4A400 then up (w.writeWarp d ((o - 0x4A000) / 0x100) (o % 0x100) v)
  else if 0x4C040 ≤ o ∧ o < 0x4C0C0 then up (w.imuOpWrite ((o - 0x4C040) / 4) v)
  else if o = 0x4E004 then s.rbCtrl d v
  else if 0x60400 ≤ o ∧ o < 0x60800 then
    let k := (o - 0x60400) / 0x10
    up (w.ceilWrite d k (if o % 0x10 = 0 then .x else if o % 0x10 = 4 then .y else .ctl) v)
  else if o = 0x60800 ∧ d = 1 then s
  else if 0x60000 ≤ o ∧ o < 0x60100 ∧ o % 0x20 = 0 then up (w.writeCalBase d ((o - 0x60000) / 0x20) 0 v)
  else if 0x61030 ≤ o ∧ o < 0x61130 ∧ o % 0x20 = 0x10 then up (w.writeCalBase d ((o - 0x61030) / 0x20) 1 v)
  else if o = 0x61004 then (if calSlotOk v then up (w.wr a v) else s)
  else if o = 0x6100C then s.calCmd d v
  else if o = 0x80004 then up (if bitOf v 0 then w.resume d else w)
  else if o = 0x80014 then up (((w.wr a v).showAllow d 0).showAllow d 1)
  else if 0x80020 ≤ o ∧ o < 0x8003C then up (w.writeTgt d ((o - 0x80020) / 4) v)
  else if 0xA0000 ≤ o ∧ o < 0xA0800 then
    let u := (o - 0xA0000) / 0x100
    up (match o % 0x100 with
      | 0 => w.crcSetCtrl d u v
      | 4 => w.crcCmd d u v
      | 8 => w.crcData d u 1 v
      | 0xC => w.crcData d u 2 v
      | 0x10 => w.crcData d u 4 v
      | 0x14 => w.crcSetValue d u v
      | _ => w.wr a v)
  else if o = 0xB0008 then up (if fget v F.BIST_CMD_CMD = 1 then w.retestCmd d (fget v F.BIST_CMD_BLOCK) else w)
  else if 0xC0000 ≤ o ∧ o < 0xC0500 ∧ d = 1 then s
  else if 0xE0100 ≤ o ∧ o < 0xE0180 ∧ o % 0x10 = 4 then up (w.dmaTail ((o - 0xE0100) / 0x10) v)
  else if o = 0xE0308 then up (w.hostSet v)
  else up (w.wr a v)

/-- A write to a register of the vesper die. -/
def State.writeVsp (s : State) (a : Nat) (v : Word) : State :=
  if a = Reg.VSP_PWR_CMD then s.pwrCmd v
  else if a = Reg.VSP_PWR_CFG then { s with dev := s.dev.pwrCfg v }
  else if a = Reg.VSP_KEEP then { s with dev := (s.dev.wr a v).cancelSleep }
  else if a = Reg.VSP_IMG_UPD_CTRL then s.imgCmd (fget v F.VSP_IMG_UPD_CTRL_CMD)
  else if a = Reg.SEC_CMD then s.secCmd v
  else { s with dev := s.dev.wr a v }

/-! ## A register write -/

/-- A write of `v` to address `a`, which the access can reach (R11, R13): nothing where there is no register or only a read-only one. -/
def State.writeReg (s : State) (a : Nat) (v : Word) : State :=
  if isFltStat a then { s with dev := s.dev.fltClear a v }
  else if 4 ≤ a ∧ isFltStat (a - 4) then { s with dev := s.dev.fltEnable a v }
  else
    let s := { s with dev := s.dev.touchReg a }
    match regAt a with
    | none => s
    | some (b, _) =>
      if b.acc = .ro then s
      else if 0x1000000 ≤ a ∧ a < 0x3000000 then s.writeCd (dieOf a) (a % 0x1000000) v
      else if 0x3000000 ≤ a ∧ a < 0x3800000 then { s with dev := s.dev.writeHv (hvAt a) (a % 0x400000) v }
      else s.writeVsp a v

/-- A BAR0 write of one aligned DWORD (R324): outside BAR0 there is no such write; one that cannot reach its die is dropped. -/
def execRegisterWrite (addr : Nat) (v : Word) (s : State) : Host.Outcome State Fault Refusal :=
  if 0x4000000 ≤ addr then .fault (.outsideBar0 addr)
  else if !s.dev.hostUp then .next s
  else if !s.dev.hostReach addr then s.onDev Dev.barDrop
  else .next ({ s with dev := s.dev.crossWay addr }.writeReg addr v)

end Sys2Proof.Machine
end

