-- ==== Sys2Proof/Machine/Spi.lean ====
section
/-! DEFINITION. The safety SPI slave (R329 to R331). -/

namespace Sys2Proof.Machine

/-- The response that a frame shifts out (R329): STATUS, the power state and FLT as they stand, bytes 1 to 8, and the check. -/
def Dev.spiResponse (s : Dev) : List Byte :=
  let bs := BitVec.ofNat 8 (s.spi.next.1 + 16 * s.power + 128 * b2n s.fltPin) :: s.spi.next.2
  bs ++ toBE 2 (crc16 bs)

/-- A frame of `edges` clock edges shifts the response out, and counts (Table 15-13). -/
def Dev.spiShift (s : Dev) (edges : Nat) : Dev :=
  (s.emit (.spi (s.spiResponse.take (edges / 8)))).addF Reg.VSP_SPI_CNT F.VSP_SPI_CNT_FRAMES 1

/-- SAFE source 1 stands while the microcontroller's request or the watchdog's does (R331). -/
def Dev.spiSource (s : Dev) : Dev :=
  if s.rdB Reg.VSP_SPI_STAT 0 ∨ s.rdB Reg.VSP_SPI_STAT 1 then s.requestSafe 1 else s.safeSourceEnd 1

/-- A valid frame: LASTSEQ, and the end of a watchdog request (R331). -/
def Dev.spiValid (s : Dev) (seq : Nat) : Dev :=
  let s := s.wrF Reg.VSP_SPI_STAT F.VSP_SPI_STAT_LASTSEQ seq
  if s.rdB Reg.VSP_SPI_STAT 1 then (s.wrB Reg.VSP_SPI_STAT 1 false).spiSource else s

/-- Bytes 1 to 8 of a response: SEQ, WADDR and a data word. -/
def spiBytes (seq waddr data : Nat) : List Byte := BitVec.ofNat 8 seq :: (toBE 3 waddr ++ toBE 4 data)

/-- The result of a request becomes the latest one, and the response to the next frame. -/
def Dev.spiResult (s : Dev) (status : Nat) (bytes : List Byte) : Dev :=
  { s with spi := { s.spi with latest := (status, bytes), next := (status, bytes) } }

/-- A result without read data: the spec does not say what its data bytes carry, so they are free. -/
def Dev.spiStatus (s : Dev) (status seq waddr : Nat) : Dev :=
  let x := s.free
  x.2.spiResult status (spiBytes seq waddr x.1)

/-- A frame that is not executed: the next response answers it, and the latest result stays (R329, R330). -/
def Dev.spiReject (s : Dev) (status : Nat) (bytes : List Byte) : Dev := { s with spi := { s.spi with next := (status, bytes) } }

/-- A request begins: its frame shifts the response out. -/
def Dev.spiBegin (s : Dev) (seq : Nat) : Dev := (s.spiShift 88).spiValid seq

/-- NOP (Table 15-5). -/
def Dev.spiNopCmd (s : Dev) (seq : Nat) : Dev :=
  let s := s.spiBegin seq
  { s with spi := { s.spi with next := s.spi.latest } }

/-- READ (Table 15-5): a register access (R313). -/
def Dev.spiReadCmd (s : Dev) (seq waddr : Nat) : Dev :=
  let a := 4 * waddr
  let s := (s.spiBegin seq).touchReg a
  match s.readSpi a with
  | some w =>
    let s := if 0x3000000 ≤ a ∧ a < 0x3800000 ∧ !(hvStats 0 ++ hvStats 1).contains a then
        (s.dcSend (hvAt a) false (.read a)).dcSend (hvAt a) true (.answer w)
      else s
    s.spiResult 0 (spiBytes seq waddr w.toNat)
  | none => s.spiStatus 3 seq waddr

/-- What SPI_RO lets through: fault status registers and VSP_EVT_HOLD (Table 15-5). -/
def Dev.spiMayWrite (s : Dev) (a : Nat) : Bool :=
  s.rdF Reg.VSP_SPI_CFG F.VSP_SPI_CFG_SPI_RO == 0 || isFltStat a || a == Reg.VSP_EVT_HOLD

/-- WRITE (Table 15-5). -/
def State.spiWriteCmd (s : State) (seq waddr : Nat) (data : Word) : State :=
  let s := { s with dev := s.dev.spiBegin seq }
  let a := 4 * waddr
  if !s.dev.spiMayWrite a then { s with dev := s.dev.spiStatus 5 seq waddr }
  else if !s.dev.spiReach a then { s with dev := s.dev.spiStatus 3 seq waddr }
  else
    let s := s.writeReg a data
    { s with dev := s.dev.spiStatus 0 seq waddr }

/-- SAFE_REQ (R331): 0x5AFE asserts the request, 0 withdraws it; one received in SLEEP stands at the next wake (R350). -/
def Dev.safeReqCmd (s : Dev) (seq waddr : Nat) (data : Word) : Dev :=
  let s := s.spiBegin seq
  if data = 0x5AFE#32 then
    let s := { s with spi := { s.spi with inSleep := s.spi.inSleep || s.power == 0 } }
    ((s.wrB Reg.VSP_SPI_STAT 0 true).spiSource).spiStatus 0 seq waddr
  else if data = 0#32 then
    let s := { s with spi := { s.spi with inSleep := false } }
    ((s.wrB Reg.VSP_SPI_STAT 0 false).spiSource).spiStatus 0 seq waddr
  else s.spiStatus 6 seq waddr

/-- The slave is powered (R27, R350). -/
def Dev.spiOn (s : Dev) : Bool := s.pwr.vbat != 2

/-- SPI_NOP. -/
def execSpiNop (seq : Byte) (_waddr : BitVec 24) (_data : Word) (s : State) : Host.Outcome State Fault Refusal :=
  s.onDev (fun s => if s.spiOn then s.spiNopCmd seq.toNat else s)

/-- SPI_READ. -/
def execSpiRead (seq : Byte) (waddr : BitVec 24) (_data : Word) (s : State) : Host.Outcome State Fault Refusal :=
  s.onDev (fun s => if s.spiOn then s.spiReadCmd seq.toNat waddr.toNat else s)

/-- SPI_WRITE. -/
def execSpiWrite (seq : Byte) (waddr : BitVec 24) (data : Word) (s : State) : Host.Outcome State Fault Refusal :=
  .next (if s.dev.spiOn then s.spiWriteCmd seq.toNat waddr.toNat data else s)

/-- SAFE_REQ. -/
def execSafeReq (seq : Byte) (waddr : BitVec 24) (data : Word) (s : State) : Host.Outcome State Fault Refusal :=
  s.onDev (fun s => if s.spiOn then s.safeReqCmd seq.toNat waddr.toNat data else s)

/-- The bits of a frame as received, the first 88 of them; bits not received read 0 (R329). -/
def spiReceived (edges : Nat) (bytes : List Byte) : List Byte :=
  (List.range 11).map (fun k =>
    let b := bytes.getD k 0#8
    let n := min 8 (edges - 8 * k)
    b &&& BitVec.ofNat 8 (0xFF * 2 ^ (8 - n)))

/-- A frame that is refused, counted in CRCERR (Table 15-13). -/
def Dev.spiRefuse (s : Dev) (status : Nat) (bytes : List Byte) : Dev :=
  (s.satF Reg.VSP_SPI_CNT F.VSP_SPI_CNT_CRCERR 1).spiReject status bytes

/-- A frame of the wrong length, with a bad CRC, or with a command that Table 15-5 does not have (R329, R330). One that is none of
these is a request like any other. -/
def State.spiBad (s : State) (edges : Nat) (bytes : List Byte) : State :=
  let f := spiReceived edges bytes
  let v := s.dev.spiShift edges
  let seq := leAt f 1 1
  let waddr := beNat (slice f 2 3)
  if edges ≠ 88 then { s with dev := v.spiRefuse 6 (slice f 1 8) }
  else if crc16 (f.take 9) ≠ beNat (slice f 9 2) then
    let x := v.free
    { s with dev := x.2.spiRefuse 2 (spiBytes seq waddr x.1) }
  else match leAt f 0 1 with
  | 0 => { s with dev := s.dev.spiNopCmd seq }
  | 1 => { s with dev := s.dev.spiReadCmd seq waddr }
  | 2 => s.spiWriteCmd seq waddr (BitVec.ofNat 32 (beNat (slice f 5 4)))
  | 0x10 => { s with dev := s.dev.safeReqCmd seq waddr (BitVec.ofNat 32 (beNat (slice f 5 4))) }
  | _ => { s with dev := (v.spiValid seq).spiStatus 4 seq waddr }

/-- SPI_BAD_FRAME. -/
def execSpiBadFrame (edges : Nat) (bytes : List Byte) (s : State) : Host.Outcome State Fault Refusal :=
  .next (if s.dev.spiOn then s.spiBad edges bytes else s)

/-- WDOG_T has passed in READY or LIT without a valid frame, with WDOG set (R331). -/
def Dev.spiWdog (s : Dev) : Dev :=
  if (s.power = 2 ∨ s.power = 3) ∧ s.rdF Reg.VSP_SPI_CFG F.VSP_SPI_CFG_WDOG = 1 then (s.wrB Reg.VSP_SPI_STAT 1 true).spiSource else s

/-- SPI_WDOG_EXPIRE. -/
def execSpiWdogExpire (s : State) : Host.Outcome State Fault Refusal := s.onDev Dev.spiWdog

end Sys2Proof.Machine
end

