-- ==== Sys2Proof/Machine/Dispatch.lean ====
section
/-! DEFINITION. The meaning of every command: one arm for each, a direct call of its meaning. -/

namespace Sys2Proof.Machine

def exec (i : Instr) (s : State) : Host.Outcome State Fault Refusal :=
  match i with
  | .registerWrite addr v => Sys2Proof.Machine.execRegisterWrite addr v s
  | .dcFrameRx h c up f => Sys2Proof.Machine.execDcFrameRx h c up f s
  | .dcIdleFrame h c up => Sys2Proof.Machine.execDcIdleFrame h c up s
  | .dcRetransmit h c up seq => Sys2Proof.Machine.execDcRetransmit h c up seq s
  | .dcChannelDown h c why => Sys2Proof.Machine.execDcChannelDown h c why s
  | .dcRetry h c => Sys2Proof.Machine.execDcRetry h c s
  | .bothDown h => Sys2Proof.Machine.execBothDown h s
  | .statusFrameSend h => Sys2Proof.Machine.execStatusFrameSend h s
  | .statusFrameRx h f => Sys2Proof.Machine.execStatusFrameRx h f s
  | .mirrorStale h => Sys2Proof.Machine.execMirrorStale h s
  | .supLinkLost d => Sys2Proof.Machine.execSupLinkLost d s
  | .bridgeFlitRx d link vc f => Sys2Proof.Machine.execBridgeFlitRx d link vc f s
  | .bridgeLinkRemove link => Sys2Proof.Machine.execBridgeLinkRemove link s
  | .bridgeLinkRetrain link pass => Sys2Proof.Machine.execBridgeLinkRetrain link pass s
  | .coreRefLoss d second => Sys2Proof.Machine.execCoreRefLoss d second s
  | .imageLoadDone => Sys2Proof.Machine.execImageLoadDone s
  | .verify => Sys2Proof.Machine.execVerify s
  | .program => Sys2Proof.Machine.execProgram s
  | .select => Sys2Proof.Machine.execSelect s
  | .confirm => Sys2Proof.Machine.execConfirm s
  | .imgVerifyDone => Sys2Proof.Machine.execImgVerifyDone s
  | .imgProgramDone good => Sys2Proof.Machine.execImgProgramDone good s
  | .rebuildLoad d head running => Sys2Proof.Machine.execRebuildLoad d head running s
  | .rebuildBuilt d => Sys2Proof.Machine.execRebuildBuilt d s
  | .rebuildArm d => Sys2Proof.Machine.execRebuildArm d s
  | .rebuildRevert d => Sys2Proof.Machine.execRebuildRevert d s
  | .rebuildCancel d => Sys2Proof.Machine.execRebuildCancel d s
  | .columnFail d k => Sys2Proof.Machine.execColumnFail d k s
  | .stagingWrite off data => Sys2Proof.Machine.execStagingWrite off data s
  | .headGenCommit d n slot => Sys2Proof.Machine.execHeadGenCommit d n slot s
  | .commitNotice n => Sys2Proof.Machine.execCommitNotice n s
  | .binningDone n => Sys2Proof.Machine.execBinningDone n s
  | .spanDone d pipe binErr => Sys2Proof.Machine.execSpanDone d pipe binErr s
  | .pipeFail d pipe => Sys2Proof.Machine.execPipeFail d pipe s
  | .lineStart d n => Sys2Proof.Machine.execLineStart d n s
  | .urHoldEnd d => Sys2Proof.Machine.execUrHoldEnd d s
  | .holdSyncSend d n => Sys2Proof.Machine.execHoldSyncSend d n s
  | .modeHoldEnd d n => Sys2Proof.Machine.execModeHoldEnd d n s
  | .timingMark n skew => Sys2Proof.Machine.execTimingMark n skew s
  | .markLost n => Sys2Proof.Machine.execMarkLost n s
  | .tgFail d n => Sys2Proof.Machine.execTgFail d n s
  | .meshCopyDone d n => Sys2Proof.Machine.execMeshCopyDone d n s
  | .headCorrHost d n v => Sys2Proof.Machine.execHeadCorrHost d n v s
  | .imuRun rx => Sys2Proof.Machine.execImuRun rx s
  | .imuOverrun => Sys2Proof.Machine.execImuOverrun s
  | .imuOpWrite k v => Sys2Proof.Machine.execImuOpWrite k v s
  | .corrStale n => Sys2Proof.Machine.execCorrStale n s
  | .budgetUpdate => Sys2Proof.Machine.execBudgetUpdate s
  | .halfSumReport d n => Sys2Proof.Machine.execHalfSumReport d n s
  | .sumLost d n => Sys2Proof.Machine.execSumLost d n s
  | .ceilWrite d k f v => Sys2Proof.Machine.execCeilWrite d k f v s
  | .trainingSetRx d n rx => Sys2Proof.Machine.execTrainingSetRx d n rx s
  | .trainPhaseDone d n cdr => Sys2Proof.Machine.execTrainPhaseDone d n cdr s
  | .trainPhaseTimeout d n => Sys2Proof.Machine.execTrainPhaseTimeout d n s
  | .slip d n bits => Sys2Proof.Machine.execSlip d n bits s
  | .alignContinue d n => Sys2Proof.Machine.execAlignContinue d n s
  | .retrain d n => Sys2Proof.Machine.execRetrain d n s
  | .retrainFull d n => Sys2Proof.Machine.execRetrainFull d n s
  | .laneEnable d n => Sys2Proof.Machine.execLaneEnable d n s
  | .laneDisable d n => Sys2Proof.Machine.execLaneDisable d n s
  | .laneRetry d n => Sys2Proof.Machine.execLaneRetry d n s
  | .lossOfLock d n c => Sys2Proof.Machine.execLossOfLock d n c s
  | .quadPllLoss d q refPresent => Sys2Proof.Machine.execQuadPllLoss d q refPresent s
  | .quadPllRelock d q => Sys2Proof.Machine.execQuadPllRelock d q s
  | .fillerSetRx d n skp f => Sys2Proof.Machine.execFillerSetRx d n skp f s
  | .fillerSend d n => Sys2Proof.Machine.execFillerSend d n s
  | .loopbackModeWrite d n v => Sys2Proof.Machine.execLoopbackModeWrite d n v s
  | .feLoopbackActive d n => Sys2Proof.Machine.execFeLoopbackActive d n s
  | .feLoopbackTimeout d n => Sys2Proof.Machine.execFeLoopbackTimeout d n s
  | .escanGo d n => Sys2Proof.Machine.execEscanGo d n s
  | .escanDone d n tally => Sys2Proof.Machine.execEscanDone d n tally s
  | .packetSend d t => Sys2Proof.Machine.execPacketSend d t s
  | .badPacketRx d n rx => Sys2Proof.Machine.execBadPacketRx d n rx s
  | .statusRx d t p => Sys2Proof.Machine.execStatusRx d t p s
  | .photoRx d t p => Sys2Proof.Machine.execPhotoRx d t p s
  | .cmdRetransmit d t => Sys2Proof.Machine.execCmdRetransmit d t s
  | .bringupTimeout d t => Sys2Proof.Machine.execBringupTimeout d t s
  | .tileSilent d t => Sys2Proof.Machine.execTileSilent d t s
  | .vidRx d inp p => Sys2Proof.Machine.execVidRx d inp p s
  | .objRx d inp p => Sys2Proof.Machine.execObjRx d inp p s
  | .inStale d inp => Sys2Proof.Machine.execInStale d inp s
  | .srcstatPeriodic d inp => Sys2Proof.Machine.execSrcstatPeriodic d inp s
  | .dramRequestAccept d r => Sys2Proof.Machine.execDramRequestAccept d r s
  | .urgencyEscalate d id => Sys2Proof.Machine.execUrgencyEscalate d id s
  | .dramGrant d c => Sys2Proof.Machine.execDramGrant d c s
  | .dramReadReturn d id ecc => Sys2Proof.Machine.execDramReadReturn d id ecc s
  | .refreshDue d c => Sys2Proof.Machine.execRefreshDue d c s
  | .refreshIdleIssue d c => Sys2Proof.Machine.execRefreshIdleIssue d c s
  | .mr4Read d c operand => Sys2Proof.Machine.execMr4Read d c operand s
  | .rhWindowEnd d c => Sys2Proof.Machine.execRhWindowEnd d c s
  | .dramTrainDone d c0 c1 => Sys2Proof.Machine.execDramTrainDone d c0 c1 s
  | .dramFail d c => Sys2Proof.Machine.execDramFail d c s
  | .resume d => Sys2Proof.Machine.execResume d s
  | .pwmPeriodStart c => Sys2Proof.Machine.execPwmPeriodStart c s
  | .bstHoldWrite h v => Sys2Proof.Machine.execBstHoldWrite h v s
  | .headroomSample c x => Sys2Proof.Machine.execHeadroomSample c x s
  | .boostTick h vout vbat => Sys2Proof.Machine.execBoostTick h vout vbat s
  | .stringStarved c => Sys2Proof.Machine.execStringStarved c s
  | .stringRetry c x => Sys2Proof.Machine.execStringRetry c x s
  | .boostOvp h => Sys2Proof.Machine.execBoostOvp h s
  | .boostOcp h active => Sys2Proof.Machine.execBoostOcp h active s
  | .boostUvlo h => Sys2Proof.Machine.execBoostUvlo h s
  | .boostUvloRecover h vbat => Sys2Proof.Machine.execBoostUvloRecover h vbat s
  | .boostPhase h active => Sys2Proof.Machine.execBoostPhase h active s
  | .mxRowSlot h g => Sys2Proof.Machine.execMxRowSlot h g s
  | .mxSwap h v => Sys2Proof.Machine.execMxSwap h v s
  | .mxsyncEdge onTime => Sys2Proof.Machine.execMxsyncEdge onTime s
  | .mxsyncLost h g => Sys2Proof.Machine.execMxsyncLost h g s
  | .trimLoad => Sys2Proof.Machine.execTrimLoad s
  | .coefLoad d => Sys2Proof.Machine.execCoefLoad d s
  | .calStart d tiles => Sys2Proof.Machine.execCalStart d tiles s
  | .calMeasure d tiles => Sys2Proof.Machine.execCalMeasure d tiles s
  | .calAbort d tiles => Sys2Proof.Machine.execCalAbort d tiles s
  | .calRestore d tiles row => Sys2Proof.Machine.execCalRestore d tiles row s
  | .refProg d tiles => Sys2Proof.Machine.execRefProg d tiles s
  | .refErase d tiles => Sys2Proof.Machine.execRefErase d tiles s
  | .calSlotMissed d t => Sys2Proof.Machine.execCalSlotMissed d t s
  | .calEvalDone d t => Sys2Proof.Machine.execCalEvalDone d t s
  | .calHoldoffEnd d t => Sys2Proof.Machine.execCalHoldoffEnd d t s
  | .calStoreStart d t => Sys2Proof.Machine.execCalStoreStart d t s
  | .calStoreDone d t good => Sys2Proof.Machine.execCalStoreDone d t good s
  | .slowRound readings supplies => Sys2Proof.Machine.execSlowRound readings supplies s
  | .fastRound readings => Sys2Proof.Machine.execFastRound readings s
  | .sensorStale t => Sys2Proof.Machine.execSensorStale t s
  | .graceExpire => Sys2Proof.Machine.execGraceExpire s
  | .throttleRelease => Sys2Proof.Machine.execThrottleRelease s
  | .tileShutEnd t => Sys2Proof.Machine.execTileShutEnd t s
  | .shutdownEnd => Sys2Proof.Machine.execShutdownEnd s
  | .crcInit d u => Sys2Proof.Machine.execCrcInit d u s
  | .crcCheck d u => Sys2Proof.Machine.execCrcCheck d u s
  | .crcArm d u => Sys2Proof.Machine.execCrcArm d u s
  | .crcStop d u => Sys2Proof.Machine.execCrcStop d u s
  | .crcEnd d u => Sys2Proof.Machine.execCrcEnd d u s
  | .crcData8 d u v => Sys2Proof.Machine.execCrcData8 d u v s
  | .crcData16 d u v => Sys2Proof.Machine.execCrcData16 d u v s
  | .crcData32 d u v => Sys2Proof.Machine.execCrcData32 d u v s
  | .crcValueWrite d u v => Sys2Proof.Machine.execCrcValueWrite d u v s
  | .crcCtrlWrite d u v => Sys2Proof.Machine.execCrcCtrlWrite d u v s
  | .snoopWindowStart d u => Sys2Proof.Machine.execSnoopWindowStart d u s
  | .snoopCompare d u complete => Sys2Proof.Machine.execSnoopCompare d u complete s
  | .fltStatClear addr v => Sys2Proof.Machine.execFltStatClear addr v s
  | .fltEnWrite addr v => Sys2Proof.Machine.execFltEnWrite addr v s
  | .evtPulseEnd => Sys2Proof.Machine.execEvtPulseEnd s
  | .vspEvtHoldWrite v => Sys2Proof.Machine.execVspEvtHoldWrite v s
  | .maskEnd watcher => Sys2Proof.Machine.execMaskEnd watcher s
  | .disputeTimeout u => Sys2Proof.Machine.execDisputeTimeout u s
  | .disputeEnd u => Sys2Proof.Machine.execDisputeEnd u s
  | .bistSliceStart d block len => Sys2Proof.Machine.execBistSliceStart d block len s
  | .bistSliceEnd d count done sigOk => Sys2Proof.Machine.execBistSliceEnd d count done sigOk s
  | .bistSliceAbandon d => Sys2Proof.Machine.execBistSliceAbandon d s
  | .retest d block => Sys2Proof.Machine.execRetest d block s
  | .cycleLate d => Sys2Proof.Machine.execCycleLate d s
  | .startupSelftestDone failed => Sys2Proof.Machine.execStartupSelftestDone failed s
  | .pcieFunctionReset k => Sys2Proof.Machine.execPcieFunctionReset k s
  | .bar0AccessError addr e => Sys2Proof.Machine.execBar0AccessError addr e s
  | .imageStagingWrite off data => Sys2Proof.Machine.execImageStagingWrite off data s
  | .dmaTailWrite r v => Sys2Proof.Machine.execDmaTailWrite r v s
  | .dmaCtrlWrite r v => Sys2Proof.Machine.execDmaCtrlWrite r v s
  | .dmaDescDone r hostData => Sys2Proof.Machine.execDmaDescDone r hostData s
  | .spiNop seq waddr data => Sys2Proof.Machine.execSpiNop seq waddr data s
  | .spiRead seq waddr data => Sys2Proof.Machine.execSpiRead seq waddr data s
  | .spiWrite seq waddr data => Sys2Proof.Machine.execSpiWrite seq waddr data s
  | .safeReq seq waddr data => Sys2Proof.Machine.execSafeReq seq waddr data s
  | .spiBadFrame edges bytes => Sys2Proof.Machine.execSpiBadFrame edges bytes s
  | .spiWdogExpire => Sys2Proof.Machine.execSpiWdogExpire s
  | .addressClaimRx p sa name => Sys2Proof.Machine.execAddressClaimRx p sa name s
  | .addressClaimStands p => Sys2Proof.Machine.execAddressClaimStands p s
  | .busoff p => Sys2Proof.Machine.execBusoff p s
  | .busoffRecover p => Sys2Proof.Machine.execBusoffRecover p s
  | .lightingCommandRx p sa functions => Sys2Proof.Machine.execLightingCommandRx p sa functions s
  | .tecuLost => Sys2Proof.Machine.execTecuLost s
  | .lightingDataSend p => Sys2Proof.Machine.execLightingDataSend p s
  | .dm1Send p => Sys2Proof.Machine.execDm1Send p s
  | .dm3Rx p => Sys2Proof.Machine.execDm3Rx p s
  | .dm11Rx p => Sys2Proof.Machine.execDm11Rx p s
  | .pgnRequestRx p sa pgn specific => Sys2Proof.Machine.execPgnRequestRx p sa pgn specific s
  | .pzpOpen p sa cls timeout tag => Sys2Proof.Machine.execPzpOpen p sa cls timeout tag s
  | .pzpClose p sa session => Sys2Proof.Machine.execPzpClose p sa session s
  | .pzpSet p sa session zone level withdraw => Sys2Proof.Machine.execPzpSet p sa session zone level withdraw s
  | .pzpSetrange p sa session zone count level withdraw => Sys2Proof.Machine.execPzpSetrange p sa session zone count level withdraw s
  | .pzpKeepalive p sa session => Sys2Proof.Machine.execPzpKeepalive p sa session s
  | .pzpQuery p sa session zone => Sys2Proof.Machine.execPzpQuery p sa session zone s
  | .sessionTimeout session => Sys2Proof.Machine.execSessionTimeout session s
  | .nameLost session => Sys2Proof.Machine.execNameLost session s
  | .zoneLatch => Sys2Proof.Machine.execZoneLatch s
  | .tokenRefill port session => Sys2Proof.Machine.execTokenRefill port session s
  | .pzpHostSet v => Sys2Proof.Machine.execPzpHostSet v s
  | .pwrLit => Sys2Proof.Machine.execPwrLit s
  | .pwrReady => Sys2Proof.Machine.execPwrReady s
  | .pwrSafe => Sys2Proof.Machine.execPwrSafe s
  | .pwrExit => Sys2Proof.Machine.execPwrExit s
  | .pwrWarm => Sys2Proof.Machine.execPwrWarm s
  | .warmReset => Sys2Proof.Machine.execWarmReset s
  | .wake w => Sys2Proof.Machine.execWake w s
  | .sleepEntry => Sys2Proof.Machine.execSleepEntry s
  | .sleepRailsOff => Sys2Proof.Machine.execSleepRailsOff s
  | .railGroupEnable => Sys2Proof.Machine.execRailGroupEnable s
  | .railRetry => Sys2Proof.Machine.execRailRetry s
  | .readyEntry => Sys2Proof.Machine.execReadyEntry s
  | .safeN => Sys2Proof.Machine.execSafeN s
  | .vbatLow => Sys2Proof.Machine.execVbatLow s
  | .vbatLost => Sys2Proof.Machine.execVbatLost s
  | .railFault u => Sys2Proof.Machine.execRailFault u s
  | .crystalFail => Sys2Proof.Machine.execCrystalFail s
  | .wakeTimer => Sys2Proof.Machine.execWakeTimer s
  | .advance => Sys2Proof.Machine.execAdvance s
  | .provision => Sys2Proof.Machine.execProvision s
  | .unlock => Sys2Proof.Machine.execUnlock s
  | .progslot slot => Sys2Proof.Machine.execProgslot slot s
  | .revoke slot => Sys2Proof.Machine.execRevoke slot s
  | .tamperDetect det => Sys2Proof.Machine.execTamperDetect det s
  | .debugUnlockAttempt good => Sys2Proof.Machine.execDebugUnlockAttempt good s
  | .corePllLock => Sys2Proof.Machine.execCorePllLock s
  | .vbatReturn lost => Sys2Proof.Machine.execVbatReturn lost s
  | .safeNRelease => Sys2Proof.Machine.execSafeNRelease s
  | .resetRelease => Sys2Proof.Machine.execResetRelease s
  | .wakeSourceChange w asserted => Sys2Proof.Machine.execWakeSourceChange w asserted s
  | .linePacketSent d t => Sys2Proof.Machine.execLinePacketSent d t s

end Sys2Proof.Machine
end

