-- ==== Sys2Proof/Safety.lean ====
section
/-! DEFINITION. What statements use: the invariants, the DRAM byte that an address of a die reaches, and which commands may change
what. -/

namespace Sys2Proof.Machine

/-- The memories are in canonical form. -/
def Mems.wf (m : Mems) : Bool :=
  m.dram.wf dramDefault && m.flash.wf flashDefault && m.host.wf dramDefault && m.ring.wf dramDefault

/-- The register file is in canonical form. -/
def Dev.regsWf (s : Dev) : Bool := s.regs.wf regReset

/-- The key of the DRAM byte that address `a` of die `d` reaches, where it reaches one (R205, R385). -/
def Dev.dramKey (s : Dev) (d a : Nat) : Option Nat := (s.drcMap d a).toOption.map (fun p => 2147483648 * p.1 + p.2)

/-- Registers `a` that lie in the units given as pairs of base and length keep nothing; every other register reads as before. -/
def Dev.keepsOutside (units : List (Nat × Nat)) (s t : Dev) : Prop :=
  ∀ a : Nat, (∀ u ∈ units, ¬ (u.1 ≤ a ∧ a < u.1 + u.2)) → t.rd a = s.rd a

end Sys2Proof.Machine

namespace Sys2Proof

open Sys2Proof.Machine

/-- Commands that act on the device alone: what the part holds without power, and the memories, they never change. -/
def Instr.deviceOnly : Instr → Bool
  | .imageLoadDone | .verify | .program | .select | .confirm | .imgVerifyDone | .imgProgramDone _ => false
  | .rebuildLoad _ _ _ | .rebuildBuilt _ | .stagingWrite _ _ | .coefLoad _ | .calRestore _ _ _ | .refProg _ _ | .refErase _ _ => false
  | .photoRx _ _ _ | .badPacketRx _ _ _ | .calEvalDone _ _ | .calStoreStart _ _ | .calStoreDone _ _ _ | .dramGrant _ _ | .vidRx _ _ _ | .objRx _ _ _ => false
  | .imageStagingWrite _ _ | .dmaDescDone _ _ | .pcieFunctionReset _ | .registerWrite _ _ | .spiWrite _ _ _ | .spiBadFrame _ _ => false
  | .pwrWarm | .warmReset | .wake _ | .wakeTimer | .wakeSourceChange _ _ | .sleepEntry | .sleepRailsOff => false
  | .railGroupEnable | .railRetry | .vbatLow | .vbatLost | .vbatReturn _ => false
  | .advance | .provision | .unlock | .progslot _ | .revoke _ | .tamperDetect _ | .debugUnlockAttempt _ => false
  | _ => true

/-- Commands that may change the flash: those of the image loader and of calibration, and those that break a PROGRAM off. -/
def Instr.mayChangeFlash : Instr → Bool
  | .imgVerifyDone | .imgProgramDone _ | .refProg _ _ | .refErase _ _ | .calStoreStart _ _ | .calStoreDone _ _ _ => true
  | .registerWrite _ _ | .spiWrite _ _ _ | .spiBadFrame _ _ | .pwrWarm | .warmReset => true
  | .sleepEntry | .sleepRailsOff | .railRetry | .vbatLow | .vbatLost => true
  | _ => false

/-- Commands that may change the memory of the DMA rings: host writes to it, descriptors, and resets. -/
def Instr.mayChangeRings : Instr → Bool
  | .imageStagingWrite _ _ | .dmaDescDone _ _ | .pcieFunctionReset _ | .registerWrite _ _ | .spiWrite _ _ _ | .spiBadFrame _ _ => true
  | .pwrWarm | .warmReset | .wake _ | .wakeTimer | .wakeSourceChange _ _ | .sleepRailsOff => true
  | .railGroupEnable | .railRetry | .vbatLow | .vbatLost | .vbatReturn _ => true
  | _ => false

/-- Commands that a host or the safety processor may send to change the power state: LIT and EXIT, or a write to VSP_PWR_CMD. -/
def Instr.commandsPower (lit : Bool) : Instr → Bool
  | .pwrLit => lit
  | .pwrExit => !lit
  | .registerWrite a _ => a == Reg.VSP_PWR_CMD
  | .spiWrite _ w _ => 4 * w.toNat == Reg.VSP_PWR_CMD
  | .spiBadFrame edges _ => edges == 88
  | _ => false

end Sys2Proof
end

