-- ==== Sys2Proof/Certificates/Slice0/Obligations.lean ====
section
/-! DEFINITION. The statements for the provers. -/

open Sys2Proof Sys2Proof.Machine

/-- A step takes the command at the front of the queue. The queue itself is the model's (log entry 1). (R13). -/
def Obligations.StepTakesTheFrontCommand : Prop :=
  ∀ (c : Instr) (rest : List Instr) (s : State), step { s with pending := c :: rest } = exec c { s with pending := rest }

/-- The idle step is the model's choice (log entry 3) (R6). -/
def Obligations.AnEmptyQueueLetsAMicrosecondPass : Prop :=
  ∀ s : State, s.pending = [] → step s = .next { s with dev := { s.dev with us := s.dev.us + 1 } }

/-- The state after reset; the contents of memories and the rollback floor are the model's choices (log entries 6, 7, 8 and 11)
(R12, R348). -/
def Obligations.ResetLeavesEveryRegisterAtItsResetValue : Prop :=
  (∀ a : Nat, State.reset.dev.rd a = regReset a) ∧ State.reset.pending = [] ∧ State.reset.dev.out = [] ∧
  State.reset.mem = { dram := [], flash := [], host := [], ring := [] } ∧ State.reset.dev.power = 1 ∧
  State.reset.dev.pwr.rails = false ∧ State.reset.nv.floor = 0

/-- Every command answers a next state but a register access outside BAR0 (R322, R324, R383). -/
def Obligations.EveryCommandCompletesInsideBar0 : Prop :=
  (∀ (c : Instr) (s : State), (∀ (a : Nat) (v : Word), c = .registerWrite a v → a < 0x4000000) → ∃ t, exec c s = .next t) ∧
  (∀ (a : Nat) (v : Word) (s : State), 0x4000000 ≤ a → exec (.registerWrite a v) s = .fault (.outsideBar0 a))

/-- Commands on the device alone keep the fuses, the key store, the boot record and every byte of memory (R45, R205, R361,
R363). -/
def Obligations.DeviceCommandsKeepFusesAndMemories : Prop :=
  ∀ (c : Instr) (s t : State), c.deviceOnly = true → exec c s = .next t → t.nv = s.nv ∧ t.mem = s.mem

/-- Every step keeps DRAM, flash, host memory and ring memory in canonical form (R45, R205, R322). -/
def Obligations.MemoriesKeepTheirForm : Prop :=
  ∀ s t : State, s.mem.wf = true → step s = .next t → t.mem.wf = true

/-- The memories of the reset state are in canonical form (R45, R205). -/
def Obligations.ResetMemoriesHaveTheirForm : Prop :=
  State.reset.mem.wf = true ∧ State.reset.dev.regsWf = true

/-- The anti-rollback floor (R362). -/
def Obligations.TheAntiRollbackFloorNeverFalls : Prop :=
  (∀ s t : State, s.nv.floor ≤ 64 → step s = .next t → s.nv.floor ≤ t.nv.floor ∧ t.nv.floor ≤ 64) ∧
  State.reset.nv.floor ≤ 64 ∧
  (∀ (s : State) (r : RunImg), s.dev.secUp = true → s.nv.locked = false → s.dev.img.running = some r →
    (r.trial = false ∧ r.fallback = false ∧ r.copy ≠ 2 →
      ∃ t, exec .advance s = .next t ∧ t.dev.rdF Reg.SEC_CMD_STAT F.SEC_CMD_STAT_RESULT = 1 ∧
        (s.nv.floor ≤ min 64 r.secver → t.nv.floor = min 64 r.secver)) ∧
    (r.trial = true ∨ r.fallback = true ∨ r.copy = 2 →
      ∃ t, exec .advance s = .next t ∧ t.nv = s.nv ∧ t.dev.rdF Reg.SEC_CMD_STAT F.SEC_CMD_STAT_RESULT = 4))

/-- Fuses stay blown: key hashes, revocations, policies, trims, and the count of detections (R361, R364, R365). -/
def Obligations.FusesStayBlown : Prop :=
  ∀ s t : State, s.nv.tampCount ≤ 65535 → step s = .next t →
    t.nv.policy = s.nv.policy ∧ t.nv.trims = s.nv.trims ∧ t.nv.unusable = s.nv.unusable ∧
    t.nv.slots.length = s.nv.slots.length ∧ s.nv.tampCount ≤ t.nv.tampCount ∧ t.nv.tampCount ≤ 65535 ∧
    ∀ k : Nat, ((s.nv.slots.getD k default).revoked = true → (t.nv.slots.getD k default).revoked = true) ∧
      ((s.nv.slots.getD k default).hash.isSome = true → (t.nv.slots.getD k default).hash = (s.nv.slots.getD k default).hash)

/-- A write to a locked staging slot is discarded and raises STAGE_LOCKED; the other slot takes its writes (R80). -/
def Obligations.LockedSlotsDiscardWrites : Prop :=
  ∀ (n : Head) (slot : Bool) (o : Nat) (data : List Byte) (s : State), o < 0x10000 → s.dev.cdUp 0 = true → s.dev.headUsed n = true →
    (s.dev.slotLocked n (b2n slot) = true →
      ∃ t, exec (.stagingWrite (0x20000 * n + 0x10000 * b2n slot + o) data) s = .next t ∧ t.mem = s.mem ∧ t.nv = s.nv ∧
        (s.dev.rdB (Reg.HEAD_CMP_FLT_STAT (s.dev.masterOf n) n + 4) B.HEAD_CMP_STAGE_LOCKED = true →
          t.dev.rdB (Reg.HEAD_CMP_FLT_STAT (s.dev.masterOf n) n) B.HEAD_CMP_STAGE_LOCKED = true)) ∧
    (s.dev.slotLocked n (b2n slot) = false →
      ∃ t, exec (.stagingWrite (0x20000 * n + 0x10000 * b2n slot + o) data) s = .next t ∧
        t.mem = s.dev.slotWrite s.mem 0 n (b2n slot) o data ∧ t.nv = s.nv)

/-- Which commands may change the flash, host memory and the memory of the DMA rings; none changes the queue (R45, R51, R52,
R264, R322, R327). -/
def Obligations.FlashHostRingsAndQueueChangeByTheirCommandsOnly : Prop :=
  ∀ (c : Instr) (s t : State), exec c s = .next t →
    (c.mayChangeFlash = false → t.mem.flash = s.mem.flash) ∧ (c.mayChangeRings = false → t.mem.ring = s.mem.ring) ∧
    ((∀ (r : Fin 8) (h : Option (List Byte)), c ≠ .dmaDescDone r h) → t.mem.host = s.mem.host) ∧ t.pending = s.pending

/-- SAFE is left by EXIT alone, and light returns only through LIT (R358). -/
def Obligations.SafeAndLitAreLeftAndEnteredByCommand : Prop :=
  (∀ s : State, s.dev.power = 4 → ∃ t, exec .pwrExit s = .next t ∧ t.dev.safeSource 2 = false ∧
    ((∀ k : Fin 8, k ≠ 2 → s.dev.safeSource k = false) → t.dev.power = 2 ∧
      ∀ (d : Die) (ti : TileIx), (s.dev.place d ti).used = true → s.dev.dstate d ti = 3 →
        (∀ c ∈ (s.dev.lane d ti).causes, c = .safe) → (t.dev.lane d ti).wantRun = true) ∧
    ((∃ k : Fin 8, k ≠ 2 ∧ s.dev.safeSource k = true) → t.dev.power = 4)) ∧
  (∀ s t : State, step s = .next t →
    (s.dev.power = 4 → t.dev.power = 2 ∨ t.dev.power = 3 → ∃ c, s.pending.head? = some c ∧ c.commandsPower false = true) ∧
    (s.dev.power ≠ 3 → t.dev.power = 3 → ∃ c, s.pending.head? = some c ∧ c.commandsPower true = true))

/-- Each die runs at most one rebuild at a time (R60). -/
def Obligations.ADieRunsOneRebuildAtATime : Prop :=
  ∀ (d : Die) (n : Head) (run : Bool) (s : State), s.dev.isMaster d n = true →
    ((s.dev.diesOf n).any s.dev.rbBusy = true →
      ∃ t, exec (.rebuildLoad d n run) s = .next t ∧ t.dev.rdF (Reg.FAB_RB_STAT d) F.FAB_RB_STAT_ERR = 1 ∧ t.dev.rbs = s.dev.rbs ∧
        (∀ e : Die, t.dev.rbState e = s.dev.rbState e) ∧ t.mem = s.mem ∧ t.nv = s.nv) ∧
    ((s.dev.diesOf n).any s.dev.rbBusy = false → s.nv.locked = false ∨ run = true →
      ∃ t, exec (.rebuildLoad d n run) s = .next t ∧
        (∀ e : Die, s.dev.usedOn e n = true → t.dev.rbState e = 1 ∧ (t.dev.rb e).head = n) ∧ t.mem = s.mem ∧ t.nv = s.nv)

/-- Stores of bulk data, reference sets, stored sets and descriptors change only the bytes they address (R51, R77, R80, R123,
R205, R213, R250, R264, R265, R325, R326, R327). -/
def Obligations.StoresReachOnlyTheirBytes : Prop :=
  ∀ (d : Die) (key : Nat) (off : Nat) (data : List Byte) (ti : TileIx) (c : Fin 2) (row : BitVec 9) (r : Fin 8) (hx : Option (List Byte)) (s : State),
    ((∀ e : Fin 2, (s.dev.diesOf (off / 0x20000)).contains e.val = true → ∀ i : Fin data.length, i.val < 0x10000 - off % 0x10000 →
      s.dev.dramKey e (slotAddr (off / 0x20000) (off / 0x10000 % 2) + off % 0x10000 + i) ≠ some key) → ∃ t, exec (.stagingWrite off
      data) s = .next t ∧ t.mem = { s.mem with dram := t.mem.dram } ∧ t.mem.dram.get dramDefault key = s.mem.dram.get dramDefault
      key) ∧
    ((off < 0x800000 ∧ ∀ i : Fin data.length, i.val < 0x800000 - off → s.dev.dramKey 0 (stageBase + off + i) ≠ some key) → ∃ t,
      exec (.imageStagingWrite off data) s = .next t ∧ t.mem = { s.mem with dram := t.mem.dram } ∧ t.mem.dram.get dramDefault key =
      s.mem.dram.get dramDefault key) ∧
    ((¬ (off ≤ key ∧ key < off + data.length)) → ∃ t, exec (.imageStagingWrite (0x800000 + off) data) s = .next t ∧ t.mem =
      { s.mem with ring := t.mem.ring } ∧ t.mem.ring.get dramDefault key = s.mem.ring.get dramDefault key) ∧
    ((∀ e ∈ (((s.dev.burstTry d c).writeTurn d c).nextGrant d c).toList, e.req.write = true → ¬ (2147483648 * d.val + e.addr ≤ key
      ∧ key < 2147483648 * d.val + e.addr + 64)) → ∃ t, exec (.dramGrant d c) s = .next t ∧ t.mem =
      { s.mem with dram := t.mem.dram } ∧ t.mem.dram.get dramDefault key = s.mem.dram.get dramDefault key) ∧
    ((∀ i : Fin 2112, s.dev.dramKey d ((s.dev.rdL (Reg.PHO_COEF_BASE d ti)).toNat + 2112 * row.toNat + i) ≠ some key) → ∃ t, exec
      (.calRestore d (BitVec.ofNat 8 (2 ^ ti.val)) row) s = .next t ∧ t.mem = { s.mem with dram := t.mem.dram } ∧ t.mem.dram.get
      dramDefault key = s.mem.dram.get dramDefault key) ∧
    ((¬ (refOff (8 * d.val + ti.val) ≤ key ∧ key < refOff (8 * d.val + ti.val) + 0xC2000)) → ∃ t, exec (.refProg d (BitVec.ofNat 8
      (2 ^ ti.val))) s = .next t ∧ t.mem = { s.mem with flash := t.mem.flash } ∧ t.mem.flash.get flashDefault key = s.mem.flash.get
      flashDefault key) ∧
    ((¬ (refOff (8 * d.val + ti.val) ≤ key ∧ key < refOff (8 * d.val + ti.val) + 0xC2000)) → ∃ t, exec (.refErase d (BitVec.ofNat 8
      (2 ^ ti.val))) s = .next t ∧ t.mem = { s.mem with flash := t.mem.flash } ∧ t.mem.flash.get flashDefault key = s.mem.flash.get
      flashDefault key) ∧
    ((∀ k : Fin 2, ¬ (setOff k.val (8 * d.val + ti.val) ≤ key ∧ key < setOff k.val (8 * d.val + ti.val) + 0x104000)) → ∃ t, exec
      (.calStoreStart d ti) s = .next t ∧ t.mem = { s.mem with flash := t.mem.flash } ∧ t.mem.flash.get flashDefault key =
      s.mem.flash.get flashDefault key) ∧
    ((¬ (copyOff s.targetCopy ≤ key ∧ key < copyOff s.targetCopy + 0x800000)) → ∃ t, exec (.imgProgramDone true) s = .next t ∧
      t.mem = { s.mem with flash := t.mem.flash } ∧ t.mem.flash.get flashDefault key = s.mem.flash.get flashDefault key) ∧
    (∃ t, exec (.dmaDescDone r hx) s = .next t ∧ t.mem.flash = s.mem.flash ∧ (¬ (8192 * r.val + 32 * (s.dev.rdF (Reg.PZP_DMA_HEAD
      r) F.PZP_DMA_HEAD_HEAD) + 0x18 ≤ key ∧ key < 8192 * r.val + 32 * (s.dev.rdF (Reg.PZP_DMA_HEAD r) F.PZP_DMA_HEAD_HEAD) + 0x18
      + 4) → t.mem.ring.get dramDefault key = s.mem.ring.get dramDefault key) ∧ (((descOf (s.mem.ringRead r (32 * (s.dev.rdF
      (Reg.PZP_DMA_HEAD r) F.PZP_DMA_HEAD_HEAD)) 32)).toHost = true → ¬ ((descOf (s.mem.ringRead r (32 * (s.dev.rdF
      (Reg.PZP_DMA_HEAD r) F.PZP_DMA_HEAD_HEAD)) 32)).host ≤ key ∧ key < (descOf (s.mem.ringRead r (32 * (s.dev.rdF
      (Reg.PZP_DMA_HEAD r) F.PZP_DMA_HEAD_HEAD)) 32)).host + (descOf (s.mem.ringRead r (32 * (s.dev.rdF (Reg.PZP_DMA_HEAD r)
      F.PZP_DMA_HEAD_HEAD)) 32)).len)) → t.mem.host.get dramDefault key = s.mem.host.get dramDefault key) ∧ ((descOf
      (s.mem.ringRead r (32 * (s.dev.rdF (Reg.PZP_DMA_HEAD r) F.PZP_DMA_HEAD_HEAD)) 32)).toHost = true → t.mem.dram = s.mem.dram))

/-- Data channel frames, loss and return of a data channel (R18, R19, R31, R20, R21). -/
def Obligations.DataChannelsComplete : Prop :=
  ∀ (h : Hv) (c : Fin 2) (up : Bool) (f : DcFrame) (q : Byte) (why : DcDownCause) (s : State),
    ((dcValid f = true ∧ s.dev.linkUp h c = true ∧ (f.kind = .data ∨ f.kind = .idle)) → ∃ t, exec (.dcFrameRx h c up f) s = .next t
      ∧ (t.dev.dc h c).valid = (s.dev.dc h c).valid + 1 ∧ t.dev.out = .dcAck h c (!up) f.seq.toNat :: s.dev.out) ∧
    ((dcValid f = true ∧ s.dev.linkUp h c = true ∧ (s.dev.hv h).resend = false) → ∃ t, exec (.dcFrameRx h c up
      { f with kind := .stateEnd }) s = .next t ∧ (t.dev.dc h c).valid = (s.dev.dc h c).valid + 1 ∧ t.dev.out = .dcAck h c (!up)
      f.seq.toNat :: s.dev.out) ∧
    ((dcValid f = true ∧ s.dev.linkUp h c = true) → ∃ t, exec (.dcFrameRx h c up { f with kind := .ack q }) s = .next t ∧ (t.dev.dc
      h c).valid = (s.dev.dc h c).valid + 1 ∧ (t.dev.dc h c).unack = (s.dev.dc h c).unack.filter (fun e => !(e.up == !up && e.seq
      == q.toNat)) ∧ t.dev.out = s.dev.out) ∧
    ((dcValid f = false) → ∃ t, exec (.dcFrameRx h c up f) s = .next t ∧ t.dev = s.dev.setDc h c { s.dev.dc h c with valid := 0 }) ∧
    (∃ t, exec (.dcIdleFrame h c up) s = .next t ∧ t.dev.out = .dcSend h c up (if up then (s.dev.dc h c).seqUp else (s.dev.dc h
      c).seqDown) .idle :: s.dev.out ∧ (t.dev.dc h c).unack = (s.dev.dc h c).unack ++ [⟨up, (if up then (s.dev.dc h c).seqUp else
      (s.dev.dc h c).seqDown), 0, .idle⟩] ∧ (if up then (t.dev.dc h c).seqUp else (t.dev.dc h c).seqDown) = ((if up then (s.dev.dc
      h c).seqUp else (s.dev.dc h c).seqDown) + 1) % 256) ∧
    ((((s.dev.dc h c).unack.find? (fun e => e.up == up && e.seq == q.toNat)).any (fun e => decide (e.tries < 8)) = true) → ∃ t,
      exec (.dcRetransmit h c up q) s = .next t ∧ t.dev.out = .dcAgain h c up q.toNat :: s.dev.out ∧ t.dev.rdF (dcCnt h c)
      F.BST_LINK_CNT0_RETX = (s.dev.rdF (dcCnt h c) F.BST_LINK_CNT0_RETX + 1) % 2 ^ F.BST_LINK_CNT0_RETX.len) ∧
    ((((s.dev.dc h c).unack.find? (fun e => e.up == up && e.seq == q.toNat)).any (fun e => decide (8 ≤ e.tries)) = true) → ∃ t,
      exec (.dcRetransmit h c up q) s = .next t ∧ t.dev.linkUp h c = false ∧ (t.dev.dc h c).unack = [] ∧ (t.dev.dc h c).valid = 0) ∧
    ((((s.dev.dc h c).unack.find? (fun e => e.up == up && e.seq == q.toNat)).isSome = false) → ∃ t, exec (.dcRetransmit h c up q) s
      = .next t ∧ t = s) ∧
    ((s.dev.linkUp h c = true) → ∃ t, exec (.dcChannelDown h c why) s = .next t ∧ t.dev.linkUp h c = false ∧ (t.dev.dc h c).valid =
      0 ∧ (t.dev.dc h c).unack = [] ∧ t.dev.rdB (Reg.BST_LINK_FLT_CAUSE h) c = true ∧ t.dev.active h = (if s.dev.active h = c ∧
      s.dev.linkUp h (1 - c) = true then 1 - c.val else s.dev.active h)) ∧
    ((s.dev.linkUp h c = false) → ∃ t, exec (.dcChannelDown h c why) s = .next t ∧ t.dev.regs = s.dev.regs ∧ t.dev.out = s.dev.out
      ∧ (t.dev.dc h c).valid = 0 ∧ (t.dev.dc h c).unack = []) ∧
    ((dcValid f = true ∧ s.dev.linkUp h c = false ∧ 99 ≤ (s.dev.dc h c).valid) → ∃ t, exec (.dcFrameRx h c up f) s = .next t ∧
      t.dev.linkUp h c = true ∧ t.dev.rdB (Reg.BST_LINK_FLT_CAUSE h) c = false ∧ t.dev.rdB (Reg.BST_LINK_FLT_CAUSE h)
      B.BST_LINK_BOTH_DOWN = false) ∧
    ((s.dev.linkUp h c = false ∧ s.dev.pwr.lost.contains c.val = false) → ∃ t, exec (.dcRetry h c) s = .next t ∧ t.dev.out =
      .dcSend h c true (s.dev.dc h c).seqUp .idle :: .dcSend h c false (s.dev.dc h c).seqDown .idle :: s.dev.out) ∧
    ((s.dev.linkUp h 0 = false ∧ s.dev.linkUp h 1 = false) → ∃ t, exec (.bothDown h) s = .next t ∧ (t.dev.hv h).linkSafe = true ∧
      t.dev.rdB (Reg.BST_LINK_FLT_CAUSE h) B.BST_LINK_BOTH_DOWN = true)

/-- Bridge flits and links, supervisor links and core references (R23, R24, R31, R17, R26). -/
def Obligations.BridgeAndDieLinksComplete : Prop :=
  ∀ (d : Die) (link : Fin 4) (vc : Fin 4) (f : Flit) (s : State),
    ((s.dev.rdB (Reg.FAB_BRG_STAT d) link = true ∧ crc32c f.body = f.crc.toNat) → ∃ t, exec (.bridgeFlitRx d link vc f) s = .next t
      ∧ (t.dev.brg d).fails.get (fun _ => 0) link = 0 ∧ t.dev.out = s.dev.out ∧ t.dev.regs = s.dev.regs) ∧
    ((s.dev.rdB (Reg.FAB_BRG_STAT d) link = true ∧ crc32c f.body ≠ f.crc.toNat ∧ (s.dev.brg d).fails.get (fun _ => 0) link < 8) → ∃
      t, exec (.bridgeFlitRx d link vc f) s = .next t ∧ (t.dev.brg d).fails.get (fun _ => 0) link = (s.dev.brg d).fails.get (fun _
      => 0) link + 1 ∧ t.dev.out = .replay d link :: s.dev.out ∧ t.dev.rdF (Reg.FAB_BRG_CNT d link) F.FAB_BRG_CNT_REPLAYS =
      (s.dev.rdF (Reg.FAB_BRG_CNT d link) F.FAB_BRG_CNT_REPLAYS + 1) % 2 ^ F.FAB_BRG_CNT_REPLAYS.len) ∧
    ((s.dev.rdB (Reg.FAB_BRG_STAT d) link = true ∧ crc32c f.body ≠ f.crc.toNat ∧ 8 ≤ (s.dev.brg d).fails.get (fun _ => 0) link) → ∃
      t, exec (.bridgeFlitRx d link vc f) s = .next t ∧ (t.dev.brg d).fails.get (fun _ => 0) link = (s.dev.brg d).fails.get (fun _
      => 0) link + 1 ∧ t.dev.out = s.dev.out ∧ t.dev.regs = s.dev.regs) ∧
    ((s.dev.rdB (Reg.FAB_BRG_STAT d) link = false) → ∃ t, exec (.bridgeFlitRx d link vc f) s = .next t ∧ t = s) ∧
    ((s.dev.rdB (Reg.FAB_BRG_STAT 0) link = true ∧ 9 ≤ (s.dev.brg d).fails.get (fun _ => 0) link) → ∃ t, exec (.bridgeLinkRemove
      link) s = .next t ∧ t.dev.rdB (Reg.FAB_BRG_STAT 0) link = false ∧ t.dev.rdB (Reg.FAB_BRG_STAT 1) link = false ∧ t.dev.rdB
      (Reg.FAB_BRG_FLT_CAUSE d) link = true) ∧
    ((s.dev.rdB (Reg.FAB_BRG_STAT 0) link = false ∧ s.dev.pwr.pll = true) → ∃ t, exec (.bridgeLinkRetrain link true) s = .next t ∧
      t.dev.rdB (Reg.FAB_BRG_STAT 0) link = true ∧ t.dev.rdB (Reg.FAB_BRG_STAT 1) link = true ∧ t.dev.rdB (Reg.FAB_BRG_FLT_CAUSE d)
      link = false) ∧
    (∃ t, exec (.bridgeLinkRetrain link false) s = .next t ∧ t = s) ∧
    (∃ t, exec (.supLinkLost d) s = .next t ∧ t.dev.rdF (Reg.FAB_DIE_STAT d) F.FAB_DIE_STAT_SUP_UP = 0 ∧ t.dev.rdB
      (Reg.FAB_DIE_FLT_CAUSE d) B.FAB_DIE_SUP_LINK = true ∧ (if d = 0 then t.dev.safeSource 4 = true else t.dev.pwr.lost.contains 1
      = true)) ∧
    (∃ t, exec (.coreRefLoss d false) s = .next t ∧ t.dev.rdF (Reg.FAB_DIE_STAT d) F.FAB_DIE_STAT_CORE_REF = 1 ∧ t.dev.pwr.lost =
      s.dev.pwr.lost) ∧
    (∃ t, exec (.coreRefLoss d true) s = .next t ∧ t.dev.rdB Reg.VSP_PWR_FLT_CAUSE B.VSP_PWR_CLOCK = true ∧ t.dev.pwr.lost.contains
      d.val = true ∧ (d = 0 ∧ s.dev.pwr.lost.contains 0 = false → t.dev.safeSource 5 = true))

/-- VERIFY, PROGRAM, SELECT and CONFIRM (R48, R49, R51, R365). -/
def Obligations.ImageCommandsComplete : Prop :=
  ∀  (s : State),
    ((s.dev.img.job = 0 ∧ s.nv.locked = false) → ∃ t, exec (.verify) s = .next t ∧ t.dev.img.job = 1 ∧ t.dev.img.erasing = false ∧
      t.dev.rdF Reg.VSP_IMG_UPD_STAT F.VSP_IMG_UPD_STAT_STATE = 1 ∧ t.dev.rdF Reg.VSP_IMG_UPD_STAT F.VSP_IMG_UPD_STAT_PROGRESS = 0
      ∧ t.dev.rdF Reg.VSP_IMG_UPD_STAT F.VSP_IMG_UPD_STAT_BUSY = 0 ∧ t.dev.rdF Reg.VSP_IMG_UPD_STAT F.VSP_IMG_UPD_STAT_REFUSED = 0
      ∧ t.nv = s.nv ∧ t.mem = s.mem) ∧
    ((s.dev.img.job = 0 ∧ s.nv.locked = false) → ∃ t, exec (.program) s = .next t ∧ t.dev.img.job = 2 ∧ t.dev.img.erasing = false ∧
      t.dev.rdF Reg.VSP_IMG_UPD_STAT F.VSP_IMG_UPD_STAT_STATE = 1 ∧ t.dev.rdF Reg.VSP_IMG_UPD_STAT F.VSP_IMG_UPD_STAT_PROGRESS = 0
      ∧ t.dev.rdF Reg.VSP_IMG_UPD_STAT F.VSP_IMG_UPD_STAT_BUSY = 0 ∧ t.dev.rdF Reg.VSP_IMG_UPD_STAT F.VSP_IMG_UPD_STAT_REFUSED = 0
      ∧ t.nv = s.nv ∧ t.mem = s.mem) ∧
    ((s.dev.img.job = 0 ∧ s.nv.locked = false ∧ s.dev.img.passed.contains s.targetCopy = true) → ∃ t, exec (.select) s = .next t ∧
      t.nv = s.nv.writeBoot s.targetCopy true false ∧ t.dev.rdF Reg.VSP_IMG_UPD_STAT F.VSP_IMG_UPD_STAT_STATE = 5 ∧ t.dev.rdF
      Reg.VSP_IMG_UPD_STAT F.VSP_IMG_UPD_STAT_REFUSED = 0 ∧ t.dev.out.head? = some (.msix 42) ∧ t.mem = s.mem) ∧
    ((s.dev.img.job = 0 ∧ s.dev.img.passed.contains s.targetCopy = false) → ∃ t, exec (.select) s = .next t ∧ t.nv = s.nv ∧
      t.dev.rdF Reg.VSP_IMG_UPD_STAT F.VSP_IMG_UPD_STAT_REFUSED = 1 ∧ t.mem = s.mem) ∧
    ((s.dev.img.job = 0 ∧ s.nv.bootRec.trial = true) → ∃ t, exec (.confirm) s = .next t ∧ t.nv = s.nv.writeBoot s.nv.bootRec.pref
      false false ∧ t.dev.rdF Reg.VSP_IMG_UPD_STAT F.VSP_IMG_UPD_STAT_STATE = 5 ∧ t.dev.out.head? = some (.msix 42) ∧
      t.dev.img.running.map RunImg.trial = s.dev.img.running.map (fun _ => false) ∧ t.mem = s.mem) ∧
    ((s.dev.img.job = 0 ∧ s.nv.bootRec.trial = false) → ∃ t, exec (.confirm) s = .next t ∧ t.nv = s.nv ∧ t.dev.rdF
      Reg.VSP_IMG_UPD_STAT F.VSP_IMG_UPD_STAT_STATE = 5 ∧ t.mem = s.mem) ∧
    ((s.dev.img.job ≠ 0) → ∃ t, exec (.verify) s = .next t ∧ t.nv = s.nv ∧ t.dev.rdF Reg.VSP_IMG_UPD_STAT F.VSP_IMG_UPD_STAT_BUSY =
      1 ∧ t.dev.img = s.dev.img ∧ t.mem = s.mem)

/-- Verification and programming of an image end; a start-up chooses its image (R51, R52, R53, R47, R48, R50, R360). -/
def Obligations.ImageChecksAndLoadComplete : Prop :=
  ∀  (s : State),
    ((s.dev.img.job = 1 ∧ s.dev.img.erasing = false) → ∃ t, exec (.imgVerifyDone) s = .next t ∧ t.dev.img.job = 0 ∧ t.dev.rdF
      Reg.VSP_IMG_UPD_STAT F.VSP_IMG_UPD_STAT_STATE = (if (verifyImage
      { s.nv with keys := s.dev.img.keys, zeroised := s.dev.img.zero } s.dev.img.running s.staged s.staged.length none []).isOk
      then 5 else 6) ∧ t.mem = s.mem ∧ t.nv = s.nv) ∧
    ((s.dev.img.job = 2 ∧ s.dev.img.erasing = false) → ∃ t, exec (.imgVerifyDone) s = .next t ∧ t.dev.img.erasing = (verifyImage
      { s.nv with keys := s.dev.img.keys, zeroised := s.dev.img.zero } s.dev.img.running s.staged s.staged.length none []).isOk ∧
      t.nv = s.nv ∧ (∀ k ∈ List.range 4096, (verifyImage { s.nv with keys := s.dev.img.keys, zeroised := s.dev.img.zero }
      s.dev.img.running s.staged s.staged.length none []).isOk = true → t.mem.flash.get flashDefault (copyOff s.targetCopy + k) =
      0xFF#8)) ∧
    ((s.dev.img.erasing = true ∧ Config.sha256 (s.stagedTo s.dev.img.len) = s.dev.img.digest) → ∃ t, exec (.imgProgramDone true) s
      = .next t ∧ t.dev.img.job = 0 ∧ t.dev.rdF Reg.VSP_IMG_UPD_STAT F.VSP_IMG_UPD_STAT_STATE = 5 ∧ t.dev.img.passed.contains
      s.targetCopy = true ∧ t.mem.flashRead (copyOff s.targetCopy) (s.stagedTo s.dev.img.len).length = (s.stagedTo s.dev.img.len) ∧
      t.mem.dram = s.mem.dram ∧ t.nv = s.nv) ∧
    ((s.dev.img.erasing = true) → ∃ t, exec (.imgProgramDone false) s = .next t ∧ t.dev.img.job = 0 ∧ t.dev.rdF
      Reg.VSP_IMG_UPD_STAT F.VSP_IMG_UPD_STAT_STATE = 6 ∧ t.mem.flashRead (copyOff s.targetCopy) 4096 = List.replicate 4096 0xFF#8
      ∧ t.mem.dram = s.mem.dram ∧ t.nv = s.nv) ∧
    ((s.dev.power = 1 ∧ s.dev.pwr.trims = true ∧ s.dev.pwr.delivered = false ∧ s.dev.pwr.imgFail = false ∧ s.dev.pwr.rstHeld =
      false) → ∃ t, exec (.imageLoadDone) s = .next t ∧ t.nv = s.nv.writeBoot s.nv.bootRec.trialStep.1.pref
      s.nv.bootRec.trialStep.1.trial s.nv.bootRec.trialStep.1.tried ∧ t.mem = s.mem ∧ t.dev.img.running.map RunImg.copy =
      ([s.nv.bootRec.trialStep.1.pref, 1 - s.nv.bootRec.trialStep.1.pref, 2].find? (fun c => (s.tryCopy c).isOk)).or
      (s.dev.img.running.map RunImg.copy) ∧ t.dev.pwr.delivered = [s.nv.bootRec.trialStep.1.pref, 1 -
      s.nv.bootRec.trialStep.1.pref, 2].any (fun c => (s.tryCopy c).isOk) ∧ t.dev.pwr.imgFail = !([s.nv.bootRec.trialStep.1.pref, 1
      - s.nv.bootRec.trialStep.1.pref, 2].any (fun c => (s.tryCopy c).isOk)) ∧ t.dev.power = 1 ∧ t.dev.rdB Reg.VSP_PWR_FLT_CAUSE
      B.VSP_PWR_IMAGE = !(([s.nv.bootRec.trialStep.1.pref, 1 - s.nv.bootRec.trialStep.1.pref, 2].take 2).any (fun c => (s.tryCopy
      c).isOk)))

/-- Rebuild commands, builds, and failed columns (R57, R58, R59, R60, R365, R54, R55, R56). -/
def Obligations.RebuildsComplete : Prop :=
  ∀ (d : Die) (n : Head) (run : Bool) (k : Fin 64) (s : State),
    ((s.dev.isMaster d n = true ∧ (s.dev.diesOf n).any s.dev.rbBusy = false ∧ (s.nv.locked = false ∨ run = true)) → ∃ t, exec
      (.rebuildLoad d n run) s = .next t ∧ (∀ e ∈ s.dev.diesOf n, t.dev.rbState e = 1 ∧ (t.dev.rb e).head = n ∧ (t.dev.rb
      e).fromRunning = run ∧ (t.dev.rb e).build = none) ∧ t.mem = s.mem ∧ t.nv = s.nv) ∧
    ((s.dev.isMaster d n = false) → ∃ t, exec (.rebuildLoad d n run) s = .next t ∧ t.dev.rdF (Reg.FAB_RB_STAT d) F.FAB_RB_STAT_ERR
      = 9 ∧ t.dev.rbState d = s.dev.rbState d) ∧
    ((s.dev.isMaster d n = true ∧ (s.dev.diesOf n).any s.dev.rbBusy = true) → ∃ t, exec (.rebuildLoad d n run) s = .next t ∧
      t.dev.rdF (Reg.FAB_RB_STAT d) F.FAB_RB_STAT_ERR = 1 ∧ t.dev.rbState d = s.dev.rbState d) ∧
    ((s.dev.rdF (Reg.FAB_RB_CTRL d) F.FAB_RB_CTRL_HEAD = n ∧ s.dev.isMaster d n = true ∧ (s.dev.rb d).head = n ∧ s.dev.rbState d =
      2) → ∃ t, exec (.rebuildArm d) s = .next t ∧ (∀ e ∈ s.dev.diesOf n, t.dev.rbState e = 3)) ∧
    ((s.dev.rdF (Reg.FAB_RB_CTRL d) F.FAB_RB_CTRL_HEAD = n ∧ s.dev.isMaster d n = true ∧ (s.dev.rb d).head = n ∧ (∀ e ∈
      s.dev.diesOf n, (s.dev.rb e).head = n ∧ s.dev.rbState e = 4 ∧ s.dev.rdF (Reg.FAB_RB_STAT e) F.FAB_RB_STAT_REVERTIBLE = 1)) →
      ∃ t, exec (.rebuildRevert d) s = .next t ∧ (∀ e ∈ s.dev.diesOf n, t.dev.rbState e = 3 ∧ (t.dev.rb e).revert = true)) ∧
    ((s.dev.rdF (Reg.FAB_RB_CTRL d) F.FAB_RB_CTRL_HEAD = n ∧ s.dev.isMaster d n = true ∧ (s.dev.rb d).head = n ∧ s.dev.rbBusy d =
      true) → ∃ t, exec (.rebuildCancel d) s = .next t ∧ (∀ e ∈ s.dev.diesOf n, t.dev.rbState e = 5 ∧ t.dev.rdF (Reg.FAB_RB_STAT e)
      F.FAB_RB_STAT_ERR = 8 ∧ (t.dev.rb e).build = none)) ∧
    ((s.dev.isMaster d n = true ∧ (s.dev.rb d).head = n ∧ s.dev.rbState d = 1 ∧ (s.dev.rb d).fromRunning = true ∧ (∀ e ∈
      s.dev.diesOf n, (s.dev.makeBuild e n none).isSome = true)) → ∃ t, exec (.rebuildBuilt d) s = .next t ∧ (∀ e ∈ s.dev.diesOf n,
      t.dev.rbState e = 2 ∧ (t.dev.rb e).build.isSome = true)) ∧
    ((s.dev.isMaster d n = true ∧ (s.dev.rb d).head = n ∧ s.dev.rbState d = 1 ∧ (s.dev.rb d).fromRunning = true ∧ (s.dev.makeBuild
      d n none).isSome = false) → ∃ t, exec (.rebuildBuilt d) s = .next t ∧ (∀ e ∈ s.dev.diesOf n, t.dev.rbState e = 5 ∧ t.dev.rdF
      (Reg.FAB_RB_STAT e) F.FAB_RB_STAT_ERR = 4 ∧ (t.dev.rb e).build = none)) ∧
    ((s.dev.isMaster d n = true ∧ (s.dev.rb d).head = n ∧ s.dev.rbState d = 1 ∧ (s.dev.rb d).fromRunning = false ∧ (verifyImage
      s.nv s.dev.img.running s.staged s.staged.length (some n) s.badBlocks).isOk = false) → ∃ t, exec (.rebuildBuilt d) s = .next t
      ∧ (∀ e ∈ s.dev.diesOf n, t.dev.rbState e = 5 ∧ (t.dev.rb e).build = none) ∧ t.mem = s.mem ∧ t.nv = s.nv) ∧
    ((s.dev.inSlice d (blockId (d + 1) 4 (0x40 + k)) = false) → ∃ t, exec (.columnFail d k) s = .next t ∧ (t.dev.failCols
      d).testBit k = true ∧ ((s.dev.runCols d).testBit k = true → t.dev.rdB (Reg.FAB_FLT_CAUSE d) B.FAB_COLUMN = true) ∧ (∀ m ∈
      List.range 4, (s.dev.headCols d m).testBit k = true → ∀ q ∈ s.dev.tilesOf d m, (t.dev.lane d q).causes.contains .column =
      true))

/-- Commits of generations and writes to their staging area (R79, R81, R17, R77, R80, R207). -/
def Obligations.GenerationsComplete : Prop :=
  ∀ (d : Die) (n : Head) (slot : Bool) (o : Nat) (data : List Byte) (s : State),
    ((s.dev.commitRefusal d n = none) → ∃ t, exec (.headGenCommit d n slot) s = .next t ∧ t.dev.rdF (Reg.HEAD_GEN_STAT d n)
      F.HEAD_GEN_STAT_BUSY = 1 ∧ t.dev.rdF (Reg.HEAD_GEN_STAT d n) F.HEAD_GEN_STAT_LOCK = 2 ^ b2n slot ∧ (t.dev.half d n).binning =
      some (b2n slot) ∧ t.dev.out = s.dev.out) ∧
    (((s.dev.commitRefusal d n).isSome = true) → ∃ t, exec (.headGenCommit d n slot) s = .next t ∧ t.dev.rdF (Reg.HEAD_GEN_STAT d
      n) F.HEAD_GEN_STAT_RESULT = (s.dev.commitRefusal d n).getD 0 ∧ t.dev.out.head? = some (.msix (8 + 2 * n + d)) ∧ (t.dev.half d
      n).binning = (s.dev.half d n).binning) ∧
    ((s.dev.masterOf n = d.val ∧ s.dev.spansDies n = true ∧ s.dev.dieWay d (1 - d.val) = true ∧ (s.dev.half d n).binning = some
      (b2n slot)) → ∃ t, exec (.commitNotice n) s = .next t ∧ (t.dev.half (1 - d.val) n).binning = some (b2n slot)) ∧
    ((s.dev.isMaster d n = true ∧ s.dev.masterOf n = d.val ∧ (∀ e ∈ s.dev.diesOf n, (s.dev.half e n).binning.isSome = true)) → ∃ t,
      exec (.binningDone n) s = .next t ∧ t.dev.rdF (Reg.HEAD_GEN_STAT d n) F.HEAD_GEN_STAT_BUSY = 0 ∧ t.dev.rdF (Reg.HEAD_GEN_STAT
      d n) F.HEAD_GEN_STAT_LOCK = 0 ∧ (t.dev.half d n).binning = none ∧ t.dev.rdF (Reg.HEAD_GEN_STAT d n) F.HEAD_GEN_STAT_RESULT =
      ((firstRefusal ((s.dev.diesOf n).map (fun e => s.dev.binOn s.mem e n ((s.dev.half d n).binning.getD 0)))).map Prod.fst).getD
      1 ∧ (t.dev.half d n).newest.num = (s.dev.half d n).newest.num + b2n (firstRefusal ((s.dev.diesOf n).map (fun e => s.dev.binOn
      s.mem e n ((s.dev.half d n).binning.getD 0)))).isNone) ∧
    ((s.dev.cdUp 0 = true ∧ s.dev.headUsed n = true ∧ o < 0x10000 ∧ o + data.length ≤ 0x10000 ∧ s.dev.slotLocked n (b2n slot) =
      false ∧ s.dev.drcRole 0 = 0 ∧ s.dev.drcRole 1 = 0) → ∃ t, exec (.stagingWrite ((2 * n + b2n slot) * 0x10000 + o) data) s =
      .next t ∧ (∀ e ∈ s.dev.waysOf 0 n, t.dev.dieRead t.mem e (slotAddr n (b2n slot) + o) data.length = some data) ∧ t.nv = s.nv ∧
      t.mem.flash = s.mem.flash) ∧
    ((s.dev.cdUp 0 = true ∧ s.dev.headUsed n = true ∧ o < 0x10000 ∧ s.dev.slotLocked n (b2n slot) = true) → ∃ t, exec
      (.stagingWrite ((2 * n + b2n slot) * 0x10000 + o) data) s = .next t ∧ t.mem = s.mem ∧ t.nv = s.nv)

/-- Spans, pipes and line starts (R62, R63, R65, R84, R126, R142, R130, R134, R135, R143). -/
def Obligations.CompositionAndLinesComplete : Prop :=
  ∀ (d : Die) (p : Fin 4) (sp : Span) (b : Band) (n : Head) (q : TileIx) (s : State),
    (((s.dev.pipes d).pipes.getD p none = some sp ∧ sp.live = true ∧ (s.dev.half d sp.head).composing = true ∧ (s.dev.half d
      sp.head).bandOf sp.line = some b ∧ b.bg = none ∧ (s.dev.coefRow d sp.tile (sp.line % 512)).isSome = true ∧ ((s.dev.slotsTaken
      d sp.tile).contains sp.line = true ∨ (s.dev.slotsTaken d sp.tile).length + b2n (s.dev.lane d sp.tile).sending < 16)) → ∃ t,
      exec (.spanDone d p false) s = .next t ∧ t.dev.spanCodes d sp.tile sp.line sp.span = some ((s.dev.spanPixels s.mem d sp b
      ((s.dev.coefRow d sp.tile (sp.line % 512)).getD [])).map Prod.snd) ∧ (t.dev.half d sp.head).sumD = (s.dev.half d
      sp.head).sumD + ((s.dev.spanPixels s.mem d sp b ((s.dev.coefRow d sp.tile (sp.line % 512)).getD [])).map Prod.fst).sum ∧
      t.mem = s.mem) ∧
    (((s.dev.pipes d).pipes.getD p none = some sp ∧ sp.live = true ∧ (s.dev.half d sp.head).composing = true ∧ (s.dev.half d
      sp.head).bandOf sp.line = some b) → ∃ t, exec (.spanDone d p true) s = .next t ∧ ∀ e ∈ s.dev.diesOf sp.head, s.dev.dieWay d e
      = true → (t.dev.half e sp.head).badGen = some (s.dev.half e sp.head).newest.num) ∧
    (((s.dev.pipes d).pipes.getD p none = some sp ∧ sp.live = true ∧ (s.dev.half d sp.head).composing = true ∧ ((s.dev.half d
      sp.head).bandOf sp.line).any (fun x => x.bg.any (fun l => decide (l ≤ sp.line))) = true) → ∃ t, exec (.spanDone d p false) s
      = .next t ∧ t.dev.spans = s.dev.spans ∧ t.dev.halves = s.dev.halves) ∧
    ((s.dev.pipeOk d p = true ∧ s.dev.inSlice d (blockId (d + 1) 4 (0x10 + p)) = false ∧ (s.dev.pipeMask d p).isSome = false) → ∃
      t, exec (.pipeFail d p) s = .next t ∧ t.dev.pipeOk d p = false ∧ t.dev.rdB (Reg.FAB_PIPE_FLT_CAUSE d) p = true) ∧
    ((s.dev.usedOn d n = true ∧ (s.dev.half d n).running = true ∧ (s.dev.half d n).failed = false ∧ (s.dev.half d n).hold = false ∧
      s.dev.tTotal d n ≠ 0 ∧ (s.dev.isSlave d n = false ∨ s.dev.runsAlone d n = true) ∧ (s.dev.tAct d n < (s.dev.nextLine d n) ∧
      s.dev.tAct d n ≤ ((s.dev.nextLine d n) + 16) % s.dev.tTotal d n ∧ (s.dev.nextLine d n) ≠ 0 ∧ (s.dev.nextLine d n) ≠ fget
      (s.dev.rd (Reg.HEAD_TPOINTS d n)) F.HEAD_TPOINTS_NOON ∧ (s.dev.nextLine d n) ≠ s.dev.tAct d n ∧ (s.dev.nextLine d n) ≠ fget
      (s.dev.rd (Reg.HEAD_TPOINTS d n)) F.HEAD_TPOINTS_TWS ∧ (s.dev.nextLine d n) + 16 ≠ s.dev.tTotal d n)) → ∃ t, exec (.lineStart
      d n) s = .next t ∧ t.dev.tLine d n = (s.dev.nextLine d n) % 2 ^ F.HEAD_TSTAT_LINE.len ∧ t.dev.rdF (Reg.HEAD_TSTAT d n)
      F.HEAD_TSTAT_PHASE = phaseOf (s.dev.tAct d n) (fget (s.dev.rd (Reg.HEAD_TPOINTS d n)) F.HEAD_TPOINTS_TWS) (s.dev.tTotal d n)
      (s.dev.nextLine d n) ∧ t.dev.out = s.dev.out) ∧
    ((s.dev.usedOn d n = true ∧ (s.dev.half d n).running = true ∧ (s.dev.half d n).failed = false ∧ (s.dev.half d n).hold = false ∧
      s.dev.tTotal d n ≠ 0 ∧ (s.dev.isSlave d n = false ∨ s.dev.runsAlone d n = true) ∧ ((s.dev.nextLine d n) < s.dev.tAct d n ∧
      s.dev.power = 2 ∧ s.dev.halfStopped d n = false ∧ (s.dev.half d n).composing = false ∧ (s.dev.nextLine d n) ≠ 0 ∧
      (s.dev.nextLine d n) ≠ fget (s.dev.rd (Reg.HEAD_TPOINTS d n)) F.HEAD_TPOINTS_NOON ∧ (s.dev.nextLine d n) ≠ s.dev.tAct d n ∧
      (s.dev.nextLine d n) ≠ fget (s.dev.rd (Reg.HEAD_TPOINTS d n)) F.HEAD_TPOINTS_TWS ∧ (s.dev.nextLine d n) + 16 ≠ s.dev.tTotal d
      n)) → ∃ t, exec (.lineStart d n) s = .next t ∧ t.dev.tLine d n = (s.dev.nextLine d n) % 2 ^ F.HEAD_TSTAT_LINE.len ∧ t.dev.rdF
      (Reg.HEAD_TSTAT d n) F.HEAD_TSTAT_PHASE = phaseOf (s.dev.tAct d n) (fget (s.dev.rd (Reg.HEAD_TPOINTS d n))
      F.HEAD_TPOINTS_TWS) (s.dev.tTotal d n) (s.dev.nextLine d n) ∧ (∀ q ∈ (s.dev.tilesOf d n).filter (fun q => (s.dev.place d
      q).row == (s.dev.nextLine d n) / 512), s.dev.locked d q = true → t.dev.out.contains (.lane d q (.line false ((s.dev.nextLine
      d n) % 512) (s.dev.rd (Reg.HEAD_FRAME d n)).toNat (List.replicate 512 0))) = true)) ∧
    ((s.dev.usedOn d n = true ∧ (s.dev.half d n).running = true ∧ (s.dev.half d n).failed = false ∧ (s.dev.half d n).hold = false ∧
      s.dev.tTotal d n ≠ 0 ∧ (s.dev.isSlave d n = false ∨ s.dev.runsAlone d n = true) ∧ ((s.dev.nextLine d n) < s.dev.tAct d n ∧
      s.dev.power = 3 ∧ s.dev.halfStopped d n = false ∧ (s.dev.half d n).composing = true ∧ (s.dev.nextLine d n) ≠ 0 ∧
      (s.dev.nextLine d n) ≠ fget (s.dev.rd (Reg.HEAD_TPOINTS d n)) F.HEAD_TPOINTS_NOON ∧ (s.dev.nextLine d n) ≠ s.dev.tAct d n ∧
      (s.dev.nextLine d n) ≠ fget (s.dev.rd (Reg.HEAD_TPOINTS d n)) F.HEAD_TPOINTS_TWS ∧ (s.dev.nextLine d n) + 16 ≠ s.dev.tTotal d
      n ∧ ((s.dev.tilesOf d n).filter (fun q => (s.dev.place d q).row == (s.dev.nextLine d n) / 512)).contains q.val = true ∧
      s.dev.locked d q = true)) → ∃ t, exec (.lineStart d n) s = .next t ∧ t.dev.out.contains (.lane d q (.line (!(s.dev.missing d
      q (s.dev.nextLine d n)).isEmpty) ((s.dev.nextLine d n) % 512) (s.dev.rd (Reg.HEAD_FRAME d n)).toNat ((List.range 16).flatMap
      (fun j => (s.dev.spanCodes d q (s.dev.nextLine d n) j).getD (List.replicate 32 (s.dev.rdF (Reg.HEAD_BG d n)
      F.HEAD_BG_CODE)))))) = true ∧ t.dev.rd (Reg.HEAD_URCNT d n) = s.dev.rd (Reg.HEAD_URCNT d n) + BitVec.ofNat 32
      ((((s.dev.tilesOf d n).filter (fun q => (s.dev.place d q).row == (s.dev.nextLine d n) / 512)).filter (fun x =>
      !(s.dev.missing d x (s.dev.nextLine d n)).isEmpty)).length))

/-- Correction samples, inertial scripts and mesh copies (R98, R99, R104, R107, R108, R105, R106, R90, R91, R92). -/
def Obligations.CorrectionAndMeshesComplete : Prop :=
  ∀ (d : Die) (n : Head) (v : Word) (rx : List Byte) (k : Fin 32) (base : Nat) (s : State),
    ((s.dev.isMaster d n = true ∧ s.dev.masterOf n = d.val ∧ s.dev.corrSrc n = 1 ∧ ((s.dev.half d n).accepted.all (fun old =>
      (s.dev.half d n).exempt || decide (attDiff ⟨sgn 16 (fget v F.HEAD_CORR_HOST_PITCH), sgn 16 (fget v F.HEAD_CORR_HOST_ROLL),
      s.dev.us⟩ old ≤ s.dev.rdF (Reg.HEAD_CORR_LIMITS d n) F.HEAD_CORR_LIMITS_JUMP)) = true)) → ∃ t, exec (.headCorrHost d n v) s =
      .next t ∧ (t.dev.half d n).accepted = some ⟨sgn 16 (fget v F.HEAD_CORR_HOST_PITCH), sgn 16 (fget v F.HEAD_CORR_HOST_ROLL),
      s.dev.us⟩ ∧ (t.dev.half d n).hist = ⟨sgn 16 (fget v F.HEAD_CORR_HOST_PITCH), sgn 16 (fget v F.HEAD_CORR_HOST_ROLL), s.dev.us⟩
      :: (s.dev.half d n).hist.take 1 ∧ (t.dev.half d n).jumps = [] ∧ (t.dev.half d n).refP = some (refNext (s.dev.half d n).refP
      (sgn 16 (fget v F.HEAD_CORR_HOST_PITCH)) (s.dev.rdLF (Reg.HEAD_CORR_CFG d n) F.HEAD_CORR_CFG_REF_K)) ∧ (t.dev.half d n).refR
      = some (refNext (s.dev.half d n).refR (sgn 16 (fget v F.HEAD_CORR_HOST_ROLL)) (s.dev.rdLF (Reg.HEAD_CORR_CFG d n)
      F.HEAD_CORR_CFG_REF_K)) ∧ (t.dev.half d n).timer = s.dev.us) ∧
    ((s.dev.isMaster d n = true ∧ s.dev.masterOf n = d.val ∧ s.dev.corrSrc n = 1 ∧ ((s.dev.half d n).exempt = false ∧ (s.dev.half d
      n).jumps = [] ∧ (s.dev.half d n).accepted.any (fun old => decide (s.dev.rdF (Reg.HEAD_CORR_LIMITS d n)
      F.HEAD_CORR_LIMITS_JUMP < attDiff ⟨sgn 16 (fget v F.HEAD_CORR_HOST_PITCH), sgn 16 (fget v F.HEAD_CORR_HOST_ROLL), s.dev.us⟩
      old)) = true)) → ∃ t, exec (.headCorrHost d n v) s = .next t ∧ (t.dev.half d n).accepted = (s.dev.half d n).accepted ∧
      (t.dev.half d n).hist = (s.dev.half d n).hist ∧ (t.dev.half d n).jumps = [⟨sgn 16 (fget v F.HEAD_CORR_HOST_PITCH), sgn 16
      (fget v F.HEAD_CORR_HOST_ROLL), s.dev.us⟩] ∧ t.dev.rdF (Reg.HEAD_CORR_CNT d n) F.HEAD_CORR_CNT_JUMPS = min (s.dev.rdF
      (Reg.HEAD_CORR_CNT d n) F.HEAD_CORR_CNT_JUMPS + 1) (2 ^ F.HEAD_CORR_CNT_JUMPS.len - 1)) ∧
    ((s.dev.isMaster d n = true ∧ s.dev.masterOf n = d.val ∧ s.dev.corrSrc n = 1 ∧ ((s.dev.half d n).exempt = false ∧ (s.dev.half d
      n).accepted.any (fun old => decide (s.dev.rdF (Reg.HEAD_CORR_LIMITS d n) F.HEAD_CORR_LIMITS_JUMP < attDiff ⟨sgn 16 (fget v
      F.HEAD_CORR_HOST_PITCH), sgn 16 (fget v F.HEAD_CORR_HOST_ROLL), s.dev.us⟩ old)) = true ∧ 2 ≤ (s.dev.half d n).jumps.length ∧
      (s.dev.half d n).jumps.head?.any (fun b => decide (attDiff ⟨sgn 16 (fget v F.HEAD_CORR_HOST_PITCH), sgn 16 (fget v
      F.HEAD_CORR_HOST_ROLL), s.dev.us⟩ b ≤ s.dev.rdF (Reg.HEAD_CORR_LIMITS d n) F.HEAD_CORR_LIMITS_JUMP)) = true)) → ∃ t, exec
      (.headCorrHost d n v) s = .next t ∧ (t.dev.half d n).accepted = some ⟨sgn 16 (fget v F.HEAD_CORR_HOST_PITCH), sgn 16 (fget v
      F.HEAD_CORR_HOST_ROLL), s.dev.us⟩ ∧ (t.dev.half d n).hist = [⟨sgn 16 (fget v F.HEAD_CORR_HOST_PITCH), sgn 16 (fget v
      F.HEAD_CORR_HOST_ROLL), s.dev.us⟩] ∧ (t.dev.half d n).jumps = []) ∧
    ((s.dev.isMaster d n = true ∧ s.dev.masterOf n = d.val ∧ s.dev.corrSrc n = 1 ∧ ((s.dev.half d n).stale = none)) → ∃ t, exec
      (.corrStale n) s = .next t ∧ (t.dev.half d n).stale = some s.dev.us ∧ (t.dev.half d n).exempt = true ∧ (t.dev.half d n).hist
      = (s.dev.half d n).hist ∧ t.dev.rdB (Reg.HEAD_WARP_FLT_CAUSE d n) B.HEAD_WARP_STALE = true) ∧
    ((s.dev.imuOn = true ∧ s.dev.imu.skip = false ∧ (s.dev.imuScript (BitVec.ofNat 8 (Config.freeValue s.dev.fresh)) rx).script =
      false ∧ (s.dev.imuScript (BitVec.ofNat 8 (Config.freeValue s.dev.fresh)) rx).cmpFail = false ∧ (s.dev.imuScript (BitVec.ofNat
      8 (Config.freeValue s.dev.fresh)) rx).pitch.isSome = true ∧ (s.dev.imuScript (BitVec.ofNat 8 (Config.freeValue s.dev.fresh))
      rx).roll.isSome = true) → ∃ t, exec (.imuRun rx) s = .next t ∧ t.dev.rd Reg.HEAD_IMU_LAST = BitVec.ofNat 32 (unsgn 16
      ((s.dev.imuScript (BitVec.ofNat 8 (Config.freeValue s.dev.fresh)) rx).pitch.getD 0) + 0x10000 * unsgn 16 ((s.dev.imuScript
      (BitVec.ofNat 8 (Config.freeValue s.dev.fresh)) rx).roll.getD 0)) ∧ t.dev.rd Reg.HEAD_IMU_TIME = BitVec.ofNat 32 (unsgn 32
      (s.dev.us - sgn 16 (s.dev.rdF Reg.HEAD_IMU_LAT F.HEAD_IMU_LAT_LAT))) ∧ t.dev.imu.bad = 0 ∧ t.dev.rdB Reg.HEAD_IMU_FLT_CAUSE
      B.HEAD_IMU_SILENT = false ∧ t.mem = s.mem) ∧
    ((s.dev.imuOn = true ∧ s.dev.imu.skip = false ∧ ((s.dev.imuScript (BitVec.ofNat 8 (Config.freeValue s.dev.fresh)) rx).script =
      true ∨ (s.dev.imuScript (BitVec.ofNat 8 (Config.freeValue s.dev.fresh)) rx).cmpFail = true ∨ (s.dev.imuScript (BitVec.ofNat 8
      (Config.freeValue s.dev.fresh)) rx).pitch = none ∨ (s.dev.imuScript (BitVec.ofNat 8 (Config.freeValue s.dev.fresh)) rx).roll
      = none)) → ∃ t, exec (.imuRun rx) s = .next t ∧ t.dev.imu.bad = min 16 (s.dev.imu.bad + 1) ∧ fget (t.dev.rd
      Reg.HEAD_IMU_STAT) ⟨1, 2⟩ = (if (s.dev.imuScript (BitVec.ofNat 8 (Config.freeValue s.dev.fresh)) rx).script then 3 else if
      (s.dev.imuScript (BitVec.ofNat 8 (Config.freeValue s.dev.fresh)) rx).cmpFail then 1 else 2) ∧ t.dev.rd Reg.HEAD_IMU_LAST =
      s.dev.rd Reg.HEAD_IMU_LAST) ∧
    ((s.dev.imuOn = true ∧ s.dev.imu.skip = true) → ∃ t, exec (.imuRun rx) s = .next t ∧ t.dev =
      { s.dev with imu := { s.dev.imu with skip := false } }) ∧
    ((s.dev.imuOn = true) → ∃ t, exec (.imuOverrun) s = .next t ∧ t.dev.imu.skip = true ∧ t.dev.imu.bad = min 16 (s.dev.imu.bad +
      1) ∧ fget (t.dev.rd Reg.HEAD_IMU_STAT) ⟨1, 2⟩ = 3) ∧
    ((s.dev.imuOn = false) → ∃ t, exec (.imuOpWrite k v) s = .next t ∧ t.dev = s.dev.wr (Reg.HEAD_IMU_OP k) v) ∧
    ((s.dev.imuOn = true) → ∃ t, exec (.imuOpWrite k v) s = .next t ∧ t.dev.rd (Reg.HEAD_IMU_OP k) = s.dev.rd (Reg.HEAD_IMU_OP k)) ∧
    (((s.dev.half d n).copy = some base ∧ s.dev.isSlave d n = false ∧ s.dev.drcRole d = 0 ∧ base + 8716 ≤ 0x80000000) → ∃ t, exec
      (.meshCopyDone d n) s = .next t ∧ t.dev.rd (Reg.HEAD_WARP_CRC d n) = BitVec.ofNat 32 (crc32c (((s.dev.dieRead s.mem d base
      8716).getD []).take 8712)) ∧ (t.dev.half d n).copy = none ∧ (t.dev.half d n).mesh = (if ((s.dev.rdLF (Reg.HEAD_WARP_CFG d n)
      F.HEAD_WARP_CFG_CHECK = 1 → crc32c (((s.dev.dieRead s.mem d base 8716).getD []).take 8712) = leAt ((s.dev.dieRead s.mem d
      base 8716).getD []) 8712 4) ∧ meshRangeOk (meshOf ((s.dev.dieRead s.mem d base 8716).getD [])) (s.dev.headW n) (s.dev.headH
      n) [(s.dev.rdLF (Reg.HEAD_WARP_RASDIM d (2 * n + 0)) F.HEAD_WARP_RASDIM_RW, s.dev.rdLF (Reg.HEAD_WARP_RASDIM d (2 * n + 0))
      F.HEAD_WARP_RASDIM_RH), (s.dev.rdLF (Reg.HEAD_WARP_RASDIM d (2 * n + 1)) F.HEAD_WARP_RASDIM_RW, s.dev.rdLF
      (Reg.HEAD_WARP_RASDIM d (2 * n + 1)) F.HEAD_WARP_RASDIM_RH)] = true) then some (meshOf ((s.dev.dieRead s.mem d base
      8716).getD [])) else (s.dev.half d n).mesh) ∧ t.mem = s.mem)

/-- The luminance budget and writes of ceiling entries (R115, R116, R112, R113). -/
def Obligations.BudgetAndCeilingsComplete : Prop :=
  ∀ (d : Die) (n : Head) (sum : Nat) (k : Nat) (q : Fin 64) (f : CeilField) (v : Word) (s : State),
    (∃ t, exec (.budgetUpdate) s = .next t ∧ t.dev.bud.k = (kNext s.dev.bud.k (kTarget (allowance (s.dev.rdF (Reg.PHO_BUDGET 0)
      F.PHO_BUDGET_LIMIT) s.dev.level) s.dev.demand)) ∧ t.dev.rd (Reg.PHO_BUDGET_STAT 0) = BitVec.ofNat 32 ((kNext s.dev.bud.k
      (kTarget (allowance (s.dev.rdF (Reg.PHO_BUDGET 0) F.PHO_BUDGET_LIMIT) s.dev.level) s.dev.demand)) + 0x10000 * s.dev.level +
      0x100000 * b2n (decide ((kNext s.dev.bud.k (kTarget (allowance (s.dev.rdF (Reg.PHO_BUDGET 0) F.PHO_BUDGET_LIMIT) s.dev.level)
      s.dev.demand)) < 4096))) ∧ t.dev.bud.a = s.dev.bud.a ∧ t.dev.bud.out = s.dev.bud.out) ∧
    (((s.dev.half d n).report = some (sum, k) ∧ s.dev.dieWay d 0 = true) → ∃ t, exec (.halfSumReport d n) s = .next t ∧
      t.dev.bud.a.get (fun _ => 0) (4 * d + n) = (if k = 0 then s.dev.bud.a.get (fun _ => 0) (4 * d + n) else sum * 4096 / k) ∧
      t.dev.bud.out.contains (4 * d.val + n.val) = false ∧ (t.dev.half d n).report = none ∧ (t.dev.half d n).sumAt = s.dev.us ∧
      t.dev.bud.k = s.dev.bud.k) ∧
    ((s.dev.usedOn d n = true) → ∃ t, exec (.sumLost d n) s = .next t ∧ t.dev.bud.out.contains (4 * d.val + n.val) = true ∧
      (s.dev.bud.out.contains (4 * d.val + n.val) = false → t.dev.rdB (Reg.PHO_FLT_CAUSE 0) B.PHO_SUM_LOST = true)) ∧
    (((s.dev.ceilAt d q).isRoad = false) → ∃ t, exec (.ceilWrite d q .x v) s = .next t ∧ t.dev.ceilAt d q =
      { s.dev.ceilAt d q with x := v &&& regMask (Reg.PHO_CEIL_X d q) }) ∧
    (((s.dev.ceilAt d q).isRoad = false) → ∃ t, exec (.ceilWrite d q .y v) s = .next t ∧ t.dev.ceilAt d q =
      { s.dev.ceilAt d q with y := v &&& regMask (Reg.PHO_CEIL_Y d q) }) ∧
    (((s.dev.ceilAt d q).isRoad = false ∧ fget v F.PHO_CEIL_CTL_CLASS ≠ 1) → ∃ t, exec (.ceilWrite d q .ctl v) s = .next t ∧
      t.dev.ceilAt d q = { s.dev.ceilAt d q with ctl := v &&& regMask (Reg.PHO_CEIL_CTL d q) }) ∧
    (((s.dev.ceilAt d q).isRoad = true ∨ (f = .ctl ∧ fget v F.PHO_CEIL_CTL_CLASS = 1)) → ∃ t, exec (.ceilWrite d q f v) s = .next t
      ∧ t.dev.ceilAt d q = s.dev.ceilAt d q)

/-- Timing marks, their loss, HOLD phase, a failed generator, and the ends of an underrun and of a line packet (R135, R138,
R143, R145, R147, R148, R181). -/
def Obligations.SpanningHeadsAndHoldComplete : Prop :=
  ∀ (d : Die) (n : Head) (q : TileIx) (skew : Int) (s : State),
    ((s.dev.isSlave (1 - s.dev.masterOf n) n = true ∧ (s.dev.half (1 - s.dev.masterOf n) n).running = true ∧ (s.dev.half (1 -
      s.dev.masterOf n) n).failed = false ∧ (s.dev.half (1 - s.dev.masterOf n) n).lost = false ∧ (s.dev.half (1 - s.dev.masterOf n)
      n).first = false ∧ (s.dev.half (s.dev.masterOf n) n).running = true ∧ (s.dev.half (s.dev.masterOf n) n).first = false ∧
      s.dev.dieWay (s.dev.masterOf n) (1 - s.dev.masterOf n) = true ∧ s.dev.tTotal (1 - s.dev.masterOf n) n ≠ 0 ∧ s.dev.tLine (1 -
      s.dev.masterOf n) n = s.dev.tLine (s.dev.masterOf n) n) → ∃ t, exec (.timingMark n skew) s = .next t ∧ t.dev.rdF
      (Reg.HEAD_SKEW (1 - s.dev.masterOf n) n) F.HEAD_SKEW_SKEW = unsgn 16 (clampI (-32768) 32767 skew) ∧ t.dev.rdF (Reg.HEAD_SKEW
      (1 - s.dev.masterOf n) n) F.HEAD_SKEW_RESYNC = (if 200 < skew.natAbs then min (s.dev.rdF (Reg.HEAD_SKEW (1 - s.dev.masterOf
      n) n) F.HEAD_SKEW_RESYNC + 1) 65535 else s.dev.rdF (Reg.HEAD_SKEW (1 - s.dev.masterOf n) n) F.HEAD_SKEW_RESYNC) ∧ (t.dev.half
      (1 - s.dev.masterOf n) n).marks = (s.dev.half (1 - s.dev.masterOf n) n).marks + 1) ∧
    ((s.dev.isSlave (1 - s.dev.masterOf n) n = true ∧ (s.dev.half (1 - s.dev.masterOf n) n).running = true ∧ (s.dev.half (1 -
      s.dev.masterOf n) n).lost = false) → ∃ t, exec (.markLost n) s = .next t ∧ (t.dev.half (1 - s.dev.masterOf n) n).lost = true
      ∧ (t.dev.half (1 - s.dev.masterOf n) n).composing = false ∧ (t.dev.half (1 - s.dev.masterOf n) n).marks = 0 ∧ t.dev.rdB
      (Reg.HEAD_TG_FLT_CAUSE (1 - s.dev.masterOf n) n) B.HEAD_TG_MARK_LOST = true) ∧
    (((s.dev.half d n).hold = true) → ∃ t, exec (.holdSyncSend d n) s = .next t ∧ ∀ r ∈ s.dev.tilesOf d n, s.dev.locked d r = true
      → t.dev.out.contains (.lane d r (s.dev.syncPkt d n true)) = true) ∧
    ((s.dev.isMaster d n = true ∧ s.dev.dieWay d d = true ∧ (s.dev.half d n).hold = true) → ∃ t, exec (.modeHoldEnd d n) s = .next
      t ∧ (t.dev.half d n).hold = false ∧ (t.dev.half d n).awaited = [] ∧ t.dev.rdF (Reg.HEAD_TSTAT d n) F.HEAD_TSTAT_PHASE = 2) ∧
    ((s.dev.usedOn d n = true ∧ (s.dev.half d n).running = true ∧ (s.dev.half d n).failed = false) → ∃ t, exec (.tgFail d n) s =
      .next t ∧ (t.dev.half d n).failed = true ∧ (t.dev.half d n).running = false ∧ (t.dev.half d n).composing = false ∧
      t.dev.tLine d n = 0 ∧ t.dev.rdB (Reg.HEAD_TG_FLT_CAUSE d n) B.HEAD_TG_TG_FAIL = true) ∧
    (∃ t, exec (.urHoldEnd d) s = .next t ∧ ∀ m ∈ List.range 4, (t.dev.half d m).urHold = false) ∧
    (∃ t, exec (.linePacketSent d q) s = .next t ∧ (t.dev.lane d q).sending = false ∧ t.dev.out = s.dev.out)

/-- Training sets and training phases of a lane (R158, R159, R161, R162, R168, R163, R164, R165). -/
def Obligations.TrainingComplete : Prop :=
  ∀ (d : Die) (n : LaneIx) (rx : RxSyms) (cdr : Bool) (s : State),
    ((s.dev.laneState d n = 2 ∧ s.dev.rdF (Reg.LANE_STAT d n) F.LANE_STAT_PHASE = 0) → ∃ t, exec (.trainingSetRx d n rx) s = .next
      t ∧ (t.dev.lane d n).sets = (if ts1Valid (symsOf rx) = true then min ((s.dev.lane d n).sets + 1) 8 else 0) ∧ t.dev.rdF
      (Reg.LANE_ALIGN_STAT d n) F.LANE_ALIGN_STAT_COMMA_POS = rx.pos ∧ t.dev.laneState d n = 2 ∧ t.dev.rdF (Reg.LANE_STAT d n)
      F.LANE_STAT_PHASE = 0) ∧
    ((s.dev.laneState d n = 2 ∧ s.dev.rdF (Reg.LANE_STAT d n) F.LANE_STAT_PHASE = 1 ∧ ts1Valid (symsOf rx) = true ∧ rx.pos = 0 ∧
      (s.dev.lane d n).sets = 3) → ∃ t, exec (.trainingSetRx d n rx) s = .next t ∧ t.dev.rdF (Reg.LANE_ALIGN_STAT d n)
      F.LANE_ALIGN_STAT_ALIGNED = 1 ∧ (t.dev.lane d n).sets = 4) ∧
    ((s.dev.laneState d n = 2 ∧ s.dev.rdF (Reg.LANE_STAT d n) F.LANE_STAT_PHASE = 1 ∧ rx.pos ≠ 0) → ∃ t, exec (.trainingSetRx d n
      rx) s = .next t ∧ (t.dev.lane d n).sets = 0 ∧ (s.dev.rdF (Reg.LANE_ALIGN_CTRL d n) F.LANE_ALIGN_CTRL_SLIP_MODE = 0 →
      t.dev.rdF (Reg.LANE_ALIGN_STAT d n) F.LANE_ALIGN_STAT_COMMA_HITS = 0)) ∧
    ((s.dev.laneState d n = 2 ∧ 2 ≤ s.dev.rdF (Reg.LANE_STAT d n) F.LANE_STAT_PHASE) → ∃ t, exec (.trainingSetRx d n rx) s = .next
      t ∧ (t.dev.lane d n).tr.rx.errs = (s.dev.lane d n).tr.rx.errs + symErrors (symsOf rx) ∧ t.dev.rdF (Reg.LANE_STAT d n)
      F.LANE_STAT_PHASE = s.dev.rdF (Reg.LANE_STAT d n) F.LANE_STAT_PHASE) ∧
    ((s.dev.laneState d n = 3 ∧ ts1Valid (symsOf rx) = true ∧ (s.dev.lane d n).sets = 1) → ∃ t, exec (.trainingSetRx d n rx) s =
      .next t ∧ t.dev.rdF (Reg.LANE_CAUSE d n) F.LANE_CAUSE_LOSS = 5 ∧ t.dev.laneState d n ≠ 3 ∧ t.dev.rdB (Reg.LANE_FLT_CAUSE d n)
      B.LANE_LOCK_LOST = true) ∧
    ((s.dev.laneState d n = 3 ∧ (s.dev.lane d n).sets = 0) → ∃ t, exec (.trainingSetRx d n rx) s = .next t ∧ (t.dev.lane d n).sets
      = (if ts1Valid (symsOf rx) = true then 1 else 0) ∧ t.dev.rd (Reg.LANE_SYMERR d n) = s.dev.rd (Reg.LANE_SYMERR d n) +
      BitVec.ofNat 32 (symErrors (symsOf rx)) ∧ t.dev.laneState d n = 3) ∧
    ((s.dev.laneState d n = 0 ∨ s.dev.laneState d n = 1) → ∃ t, exec (.trainingSetRx d n rx) s = .next t ∧ t = s) ∧
    ((s.dev.laneState d n = 2 ∧ (s.dev.rdF (Reg.LANE_STAT d n) F.LANE_STAT_PHASE = 0 ∧ cdr = true ∧ 8 ≤ (s.dev.lane d n).sets)) → ∃
      t, exec (.trainPhaseDone d n cdr) s = .next t ∧ t.dev.rdF (Reg.LANE_STAT d n) F.LANE_STAT_PHASE = 1 ∧ t.dev.laneState d n =
      2) ∧
    ((s.dev.laneState d n = 2 ∧ (s.dev.rdF (Reg.LANE_STAT d n) F.LANE_STAT_PHASE = 1 ∧ s.dev.rdF (Reg.LANE_ALIGN_STAT d n)
      F.LANE_ALIGN_STAT_ALIGNED = 1 ∧ s.dev.rdF (Reg.LANE_ALIGN_CTRL d n) F.LANE_ALIGN_CTRL_SLIP_MODE = 0)) → ∃ t, exec
      (.trainPhaseDone d n cdr) s = .next t ∧ t.dev.rdF (Reg.LANE_STAT d n) F.LANE_STAT_PHASE = (if s.dev.rdF (Reg.LANE_STAT d n)
      F.LANE_STAT_FAST = 1 then 4 else 2) ∧ t.dev.laneState d n = 2) ∧
    ((s.dev.laneState d n = 2 ∧ (s.dev.rdF (Reg.LANE_STAT d n) F.LANE_STAT_PHASE = 2 ∧ 16 ≤ (s.dev.lane d n).tr.results.length ∧
      (chooseCtle ((s.dev.lane d n).tr.results.map Prod.fst) (s.dev.rdF (Reg.LANE_CFG d n) F.LANE_CFG_CTLE0)).isSome = true)) → ∃
      t, exec (.trainPhaseDone d n cdr) s = .next t ∧ t.dev.rdF (Reg.LANE_STAT d n) F.LANE_STAT_PHASE = 3 ∧ t.dev.rdF (Reg.LANE_EQ
      d n) F.LANE_EQ_CTLE = (chooseCtle ((s.dev.lane d n).tr.results.map Prod.fst) (s.dev.rdF (Reg.LANE_CFG d n)
      F.LANE_CFG_CTLE0)).getD 0) ∧
    ((s.dev.laneState d n = 2 ∧ (s.dev.rdF (Reg.LANE_STAT d n) F.LANE_STAT_PHASE = 3 ∧ 8 ≤ (s.dev.lane d n).tr.results.length ∧
      (choosePreset (s.dev.lane d n).tr.results (s.dev.rdF (Reg.LANE_CFG d n) F.LANE_CFG_TXPRE0)).isSome = true)) → ∃ t, exec
      (.trainPhaseDone d n cdr) s = .next t ∧ t.dev.rdF (Reg.LANE_STAT d n) F.LANE_STAT_PHASE = 4 ∧ t.dev.rdF (Reg.LANE_EQ d n)
      F.LANE_EQ_TXPRE = ((choosePreset (s.dev.lane d n).tr.results (s.dev.rdF (Reg.LANE_CFG d n) F.LANE_CFG_TXPRE0)).getD (0, 0)).1
      ∧ t.dev.rdF (Reg.LANE_EQ d n) F.LANE_EQ_FOM = ((choosePreset (s.dev.lane d n).tr.results (s.dev.rdF (Reg.LANE_CFG d n)
      F.LANE_CFG_TXPRE0)).getD (0, 0)).2 / 64 % 2 ^ F.LANE_EQ_FOM.len) ∧
    ((s.dev.laneState d n = 2 ∧ (s.dev.rdF (Reg.LANE_STAT d n) F.LANE_STAT_PHASE = 4 ∧ 1024 ≤ (s.dev.lane d n).tr.blk)) → ∃ t, exec
      (.trainPhaseDone d n cdr) s = .next t ∧ t.dev.rdF (Reg.LANE_STAT d n) F.LANE_STAT_PHASE = 5 ∧ t.dev.laneState d n = 2) ∧
    ((s.dev.laneState d n = 2 ∧ (s.dev.rdF (Reg.LANE_STAT d n) F.LANE_STAT_PHASE = 5)) → ∃ t, exec (.trainPhaseDone d n cdr) s =
      .next t ∧ t.dev.laneState d n = 3 ∧ (t.dev.lane d n).everLocked = true ∧ t.dev.rdF (Reg.LANE_RETRY d n) F.LANE_RETRY_COUNT =
      0 ∧ (n.val < 8 → t.dev.dstate d n = 1)) ∧
    ((s.dev.laneState d n = 2 ∧ ((s.dev.lane d n).attempt = 1 ∧ (s.dev.rdF (Reg.LANE_STAT d n) F.LANE_STAT_PHASE = 1 → s.dev.rdF
      (Reg.LANE_ALIGN_CTRL d n) F.LANE_ALIGN_CTRL_SLIP_MODE = 0))) → ∃ t, exec (.trainPhaseTimeout d n) s = .next t ∧ t.dev.rdF
      (Reg.LANE_CAUSE d n) F.LANE_CAUSE_FAIL = min (s.dev.rdF (Reg.LANE_STAT d n) F.LANE_STAT_PHASE + 1) 5 ∧ (t.dev.lane d
      n).attempt = 2 ∧ t.dev.laneState d n = 2 ∧ t.dev.rdF (Reg.LANE_STAT d n) F.LANE_STAT_PHASE = 0) ∧
    ((s.dev.laneState d n = 2 ∧ ((s.dev.lane d n).attempt = 3 ∧ (s.dev.rdF (Reg.LANE_STAT d n) F.LANE_STAT_PHASE = 1 → s.dev.rdF
      (Reg.LANE_ALIGN_CTRL d n) F.LANE_ALIGN_CTRL_SLIP_MODE = 0))) → ∃ t, exec (.trainPhaseTimeout d n) s = .next t ∧ t.dev.rdF
      (Reg.LANE_CAUSE d n) F.LANE_CAUSE_FAIL = min (s.dev.rdF (Reg.LANE_STAT d n) F.LANE_STAT_PHASE + 1) 5 ∧ t.dev.laneState d n =
      4 ∧ t.dev.rdB (Reg.LANE_FLT_CAUSE d n) B.LANE_TRAIN_FAIL = true)

/-- The commands of a lane: slips, CONTINUE, retraining, ENABLE and DISABLE (R151, R162, R165, R166, R176). -/
def Obligations.LaneCommandsComplete : Prop :=
  ∀ (d : Die) (n : LaneIx) (b : Fin 16) (s : State),
    s.dev.inSlice d (laneBlock d n) = false →
    ((s.dev.laneState d n = 2 ∧ s.dev.rdF (Reg.LANE_STAT d n) F.LANE_STAT_PHASE = 1 ∧ s.dev.rdF (Reg.LANE_ALIGN_CTRL d n)
      F.LANE_ALIGN_CTRL_SLIP_MODE = 1 ∧ b.val ≤ 9) → ∃ t, exec (.slip d n b) s = .next t ∧ t.dev.rdF (Reg.LANE_ALIGN_STAT d n)
      F.LANE_ALIGN_STAT_COMMA_HITS = 0 ∧ t.dev.rdF (Reg.LANE_ALIGN_STAT d n) F.LANE_ALIGN_STAT_ALIGNED = 0 ∧ (t.dev.lane d n).sets
      = 0) ∧
    ((s.dev.laneState d n = 2 ∧ s.dev.rdF (Reg.LANE_STAT d n) F.LANE_STAT_PHASE = 1 ∧ s.dev.rdF (Reg.LANE_ALIGN_CTRL d n)
      F.LANE_ALIGN_CTRL_SLIP_MODE = 1 ∧ s.dev.rdF (Reg.LANE_ALIGN_STAT d n) F.LANE_ALIGN_STAT_ALIGNED = 1) → ∃ t, exec
      (.alignContinue d n) s = .next t ∧ t.dev.rdF (Reg.LANE_STAT d n) F.LANE_STAT_PHASE = (if s.dev.rdF (Reg.LANE_STAT d n)
      F.LANE_STAT_FAST = 1 then 4 else 2) ∧ t.dev.laneState d n = 2) ∧
    (((s.dev.laneState d n = 2 ∨ s.dev.laneState d n = 3 ∨ s.dev.laneState d n = 4) ∧ s.dev.rdF (Reg.LANE_Q_STAT d (quadOf n))
      F.LANE_Q_STAT_PLL_LOCK = 1 ∧ s.dev.rdF (Reg.LANE_CFG d n) F.LANE_CFG_USE ≠ 0 ∧ (s.dev.lane d n).everLocked = true) → ∃ t,
      exec (.retrain d n) s = .next t ∧ t.dev.laneState d n = 2 ∧ t.dev.rdF (Reg.LANE_STAT d n) F.LANE_STAT_PHASE = 0 ∧ t.dev.rdF
      (Reg.LANE_STAT d n) F.LANE_STAT_FAST = 1 ∧ (t.dev.lane d n).attempt = 1 ∧ t.dev.rdF (Reg.LANE_RETRY d n) F.LANE_RETRY_COUNT =
      0) ∧
    (((s.dev.laneState d n = 2 ∨ s.dev.laneState d n = 3 ∨ s.dev.laneState d n = 4) ∧ s.dev.rdF (Reg.LANE_Q_STAT d (quadOf n))
      F.LANE_Q_STAT_PLL_LOCK = 1 ∧ s.dev.rdF (Reg.LANE_CFG d n) F.LANE_CFG_USE ≠ 0) → ∃ t, exec (.retrainFull d n) s = .next t ∧
      t.dev.laneState d n = 2 ∧ t.dev.rdF (Reg.LANE_STAT d n) F.LANE_STAT_PHASE = 0 ∧ t.dev.rdF (Reg.LANE_STAT d n)
      F.LANE_STAT_FAST = 0 ∧ (t.dev.lane d n).attempt = 2 ∧ t.dev.rdF (Reg.LANE_RETRY d n) F.LANE_RETRY_COUNT = 0) ∧
    ((s.dev.rdF (Reg.LANE_CFG d n) F.LANE_CFG_USE ≠ 0 ∧ (s.dev.laneState d n = 0 ∨ s.dev.laneState d n = 4) ∧ s.dev.isHeld
      (laneBlock d n) = false ∧ s.dev.rdF (Reg.LANE_Q_STAT d (quadOf n)) F.LANE_Q_STAT_PLL_LOCK = 1) → ∃ t, exec (.laneEnable d n)
      s = .next t ∧ t.dev.laneState d n = 2 ∧ t.dev.rdF (Reg.LANE_STAT d n) F.LANE_STAT_PHASE = 0 ∧ (t.dev.lane d n).attempt = 2) ∧
    (∃ t, exec (.laneDisable d n) s = .next t ∧ t.dev.rd (Reg.LANE_STAT d n) = 0#32 ∧ (t.dev.lane d n).everLocked = false ∧
      t.dev.rdB (Reg.LANE_FLT_CAUSE d n) B.LANE_LOCK_LOST = false ∧ t.dev.rdB (Reg.LANE_FLT_CAUSE d n) B.LANE_TRAIN_FAIL = false ∧
      t.dev.rdB (Reg.LANE_FLT_CAUSE d n) B.LANE_PARKED = false)

/-- Loss of lock, quad PLLs, filler sets and rate matching (R151, R165, R166, R168, R170, R173, R156, R157, R159, R163, R171).
-/
def Obligations.LockAndRatesComplete : Prop :=
  ∀ (d : Die) (n : LaneIx) (c : LossCause) (also : List LossCause) (q : Fin 3) (ref : Bool) (k : Fin 9) (drift : Int) (rx : RxSyms) (mism : Bool) (s : State),
    ((s.dev.laneState d n = 3 ∧ s.dev.rdF (Reg.LANE_Q_STAT d (quadOf n)) F.LANE_Q_STAT_PLL_LOCK = 1 ∧ s.dev.rdF (Reg.LANE_CFG d n)
      F.LANE_CFG_USE ≠ 0) → ∃ t, exec (.lossOfLock d n ⟨c, also⟩) s = .next t ∧ t.dev.rdF (Reg.LANE_CAUSE d n) F.LANE_CAUSE_LOSS =
      also.foldl (fun k x => min k (lossCode x)) (lossCode c) ∧ t.dev.rdF (Reg.LANE_LOSSCNT d n) F.LANE_LOSSCNT_LOSSES = min
      (s.dev.rdF (Reg.LANE_LOSSCNT d n) F.LANE_LOSSCNT_LOSSES + 1) (2 ^ F.LANE_LOSSCNT_LOSSES.len - 1) ∧ t.dev.rdB
      (Reg.LANE_FLT_CAUSE d n) B.LANE_LOCK_LOST = true ∧ t.dev.rd (Reg.LANE_SYMERR d n) = s.dev.rd (Reg.LANE_SYMERR d n) +
      BitVec.ofNat 32 (((c :: also).map lossErrors).sum) ∧ t.dev.laneState d n = 2) ∧
    ((s.dev.laneState d n = 5) → ∃ t, exec (.lossOfLock d n ⟨c, also⟩) s = .next t ∧ t.dev.rdF (Reg.LANE_CAUSE d n)
      F.LANE_CAUSE_LOSS = also.foldl (fun k x => min k (lossCode x)) (lossCode c) ∧ t.dev.rd (Reg.LANE_LB_STAT d n) = 8#32 ∧
      t.dev.rdF (Reg.LANE_LB_CTRL d n) F.LANE_LB_CTRL_MODE = 0 ∧ t.dev.laneState d n ≠ 5) ∧
    ((s.dev.laneState d n ≠ 3 ∧ s.dev.laneState d n ≠ 5) → ∃ t, exec (.lossOfLock d n ⟨c, also⟩) s = .next t ∧ t = s) ∧
    ((s.dev.laneState d n = 4 ∧ (s.dev.lane d n).retryAt.isSome = true ∧ s.dev.rdF (Reg.LANE_Q_STAT d (quadOf n))
      F.LANE_Q_STAT_PLL_LOCK = 1 ∧ s.dev.rdF (Reg.LANE_CFG d n) F.LANE_CFG_USE ≠ 0) → ∃ t, exec (.laneRetry d n) s = .next t ∧
      t.dev.laneState d n = 2 ∧ (t.dev.lane d n).attempt = 2 ∧ (t.dev.lane d n).auto = true) ∧
    (∃ t, exec (.quadPllLoss d q ref) s = .next t ∧ t.dev.rdF (Reg.LANE_Q_STAT d q) F.LANE_Q_STAT_PLL_LOCK = 0 ∧ t.dev.rdF
      (Reg.LANE_Q_STAT d q) F.LANE_Q_STAT_REF_PRESENT = b2n ref ∧ (t.dev.rd (Reg.LANE_Q_UNLOCK d q)).toNat = min ((s.dev.rd
      (Reg.LANE_Q_UNLOCK d q)).toNat + 1) (2 ^ 32 - 1) ∧ (∀ m ∈ lanesOfQuad q, t.dev.laneState d m = (if s.dev.laneState d m = 0 ∨
      s.dev.rdF (Reg.LANE_CFG d m) F.LANE_CFG_USE = 0 then 0 else 1))) ∧
    (∃ t, exec (.quadPllRelock d q) s = .next t ∧ t.dev.rdF (Reg.LANE_Q_STAT d q) F.LANE_Q_STAT_PLL_LOCK = 1 ∧ t.dev.rdF
      (Reg.LANE_Q_STAT d q) F.LANE_Q_STAT_REF_PRESENT = 1 ∧ (∀ m ∈ lanesOfQuad q, t.dev.laneState d m = (if s.dev.laneState d m = 1
      then (if s.dev.rdF (Reg.LANE_CFG d m) F.LANE_CFG_USE = 0 then 0 else 2) else s.dev.laneState d m))) ∧
    ((2 ≤ s.dev.laneState d n ∧ ¬(s.dev.laneState d n = 2 ∧ s.dev.rdF (Reg.LANE_STAT d n) F.LANE_STAT_PHASE = 4) ∧ k ≠ 0 ∧ 0 ≤
      ((s.dev.lane d n).fill : Int) + drift ∧ ((s.dev.lane d n).fill : Int) + drift ≤ 32) → ∃ t, exec (.fillerSetRx d n k ⟨drift,
      rx, mism⟩) s = .next t ∧ ((t.dev.lane d n).fill : Int) = (if 17 < ((s.dev.lane d n).fill : Int) + drift ∧ 2 ≤ k.val then
      ((s.dev.lane d n).fill : Int) + drift - 1 else if ((s.dev.lane d n).fill : Int) + drift < 15 then ((s.dev.lane d n).fill :
      Int) + drift + 1 else ((s.dev.lane d n).fill : Int) + drift) ∧ t.dev.rdF (Reg.LANE_RMCNT d n) F.LANE_RMCNT_DELETED =
      (s.dev.rdF (Reg.LANE_RMCNT d n) F.LANE_RMCNT_DELETED + (if 17 < ((s.dev.lane d n).fill : Int) + drift ∧ 2 ≤ k.val then 1 else
      0)) % 2 ^ F.LANE_RMCNT_DELETED.len ∧ t.dev.rdF (Reg.LANE_RMCNT d n) F.LANE_RMCNT_INSERTED = (s.dev.rdF (Reg.LANE_RMCNT d n)
      F.LANE_RMCNT_INSERTED + (if ((s.dev.lane d n).fill : Int) + drift < 15 then 1 else 0)) % 2 ^ F.LANE_RMCNT_INSERTED.len) ∧
    ((s.dev.laneState d n = 3 ∧ k ≠ 0 ∧ 0 ≤ ((s.dev.lane d n).fill : Int) + drift ∧ ((s.dev.lane d n).fill : Int) + drift ≤ 32) → ∃
      t, exec (.fillerSetRx d n k ⟨drift, rx, mism⟩) s = .next t ∧ t.dev.rd (Reg.LANE_SYMERR d n) = s.dev.rd (Reg.LANE_SYMERR d n)
      + BitVec.ofNat 32 (symErrors (symsOf rx)) ∧ t.dev.laneState d n = 3) ∧
    ((s.dev.laneState d n = 2 ∧ s.dev.rdF (Reg.LANE_STAT d n) F.LANE_STAT_PHASE = 2 ∧ (s.dev.lane d n).tr.results.length < 16 ∧
      (s.dev.lane d n).tr.blk < 79 ∧ k ≠ 0 ∧ 0 ≤ ((s.dev.lane d n).fill : Int) + drift ∧ ((s.dev.lane d n).fill : Int) + drift ≤
      32) → ∃ t, exec (.fillerSetRx d n k ⟨drift, rx, mism⟩) s = .next t ∧ (t.dev.lane d n).tr.blk = (s.dev.lane d n).tr.blk + 1 ∧
      (t.dev.lane d n).tr.rx.errs = 0 ∧ t.dev.rdF (Reg.LANE_STAT d n) F.LANE_STAT_PHASE = 2) ∧
    ((s.dev.laneState d n = 3 ∧ k ≠ 0 ∧ (((s.dev.lane d n).fill : Int) + drift < 0 ∨ 32 < ((s.dev.lane d n).fill : Int) + drift)) →
      ∃ t, exec (.fillerSetRx d n k ⟨drift, rx, mism⟩) s = .next t ∧ t.dev.rdF (Reg.LANE_CAUSE d n) F.LANE_CAUSE_LOSS = 3 ∧
      t.dev.laneState d n ≠ 3) ∧
    ((s.dev.laneState d n < 2 ∨ k = 0) → ∃ t, exec (.fillerSetRx d n k ⟨drift, rx, mism⟩) s = .next t ∧ t = s) ∧
    ((s.dev.laneState d n = 2 ∨ (s.dev.laneState d n = 3 ∧ (s.dev.lane d n).sending = false) ∨ (s.dev.laneState d n = 5 ∧
      (s.dev.lane d n).lb = 3)) → ∃ t, exec (.fillerSend d n) s = .next t ∧ t.dev.out.head? = some (.lane d n .filler)) ∧
    (((s.dev.laneState d n = 3 ∧ (s.dev.lane d n).sending = true) ∨ (s.dev.laneState d n = 5 ∧ (s.dev.lane d n).lb ≠ 3) ∨
      s.dev.laneState d n < 2 ∨ s.dev.laneState d n = 4) → ∃ t, exec (.fillerSend d n) s = .next t ∧ t.dev.out = s.dev.out)

/-- Loopbacks and eye scans (R171, R172, R173, R174, R175). -/
def Obligations.LoopbacksAndScansComplete : Prop :=
  ∀ (d : Die) (n : LaneIx) (v : Word) (w : Word) (y : EyeTally) (s : State),
    s.dev.inSlice d (laneBlock d n) = false →
    ((s.dev.laneState d n ≠ 1 ∧ (fget v F.LANE_LB_CTRL_MODE = 1 ∨ fget v F.LANE_LB_CTRL_MODE = 2)) → ∃ t, exec (.loopbackModeWrite
      d n v) s = .next t ∧ t.dev.laneState d n = 5 ∧ (t.dev.lane d n).lb = fget v F.LANE_LB_CTRL_MODE ∧ t.dev.rd (Reg.LANE_LB_STAT
      d n) = 0#32 ∧ t.dev.rd (Reg.LANE_LB_ERR d n) = 0#32 ∧ t.dev.rdF (Reg.LANE_LB_CTRL d n) F.LANE_LB_CTRL_MODE = fget v
      F.LANE_LB_CTRL_MODE) ∧
    ((s.dev.laneState d n = 3 ∧ fget w F.LANE_LB_CTRL_MODE = 3) → ∃ t, exec (.loopbackModeWrite d n w) s = .next t ∧
      t.dev.laneState d n = 5 ∧ (t.dev.lane d n).lb = 3 ∧ t.dev.rd (Reg.LANE_LB_STAT d n) = 0#32 ∧ t.dev.out.head?.any (fun m =>
      match m with | .lane e k (.training x 64) => e == d.val && k == n.val && x.loopback && !x.ts2 | _ => false) = true) ∧
    ((s.dev.laneState d n ≠ 3 ∧ fget w F.LANE_LB_CTRL_MODE = 3) → ∃ t, exec (.loopbackModeWrite d n w) s = .next t ∧
      t.dev.laneState d n = s.dev.laneState d n ∧ t.dev.rdF (Reg.LANE_LB_CTRL d n) F.LANE_LB_CTRL_MODE = 0) ∧
    ((s.dev.laneState d n = 5 ∧ s.dev.rdF (Reg.LANE_Q_STAT d (quadOf n)) F.LANE_Q_STAT_PLL_LOCK = 1 ∧ s.dev.rdF (Reg.LANE_CFG d n)
      F.LANE_CFG_USE ≠ 0) → ∃ t, exec (.loopbackModeWrite d n (w &&& 0xFFFFFFFC#32)) s = .next t ∧ t.dev.laneState d n = 2 ∧
      t.dev.rd (Reg.LANE_LB_STAT d n) = 0#32 ∧ t.dev.rdF (Reg.LANE_LB_CTRL d n) F.LANE_LB_CTRL_MODE = 0 ∧ t.dev.rdF (Reg.LANE_RETRY
      d n) F.LANE_RETRY_COUNT = 0) ∧
    ((s.dev.laneState d n = 5 ∧ (s.dev.lane d n).lb = 3) → ∃ t, exec (.feLoopbackActive d n) s = .next t ∧ t.dev.rdF
      (Reg.LANE_LB_STAT d n) F.LANE_LB_STAT_ACTIVE = 1 ∧ t.dev.laneState d n = 5) ∧
    ((s.dev.laneState d n = 5 ∧ (s.dev.lane d n).lb = 3 ∧ s.dev.rdF (Reg.LANE_LB_STAT d n) F.LANE_LB_STAT_ACTIVE = 0 ∧ s.dev.rdF
      (Reg.LANE_Q_STAT d (quadOf n)) F.LANE_Q_STAT_PLL_LOCK = 1 ∧ s.dev.rdF (Reg.LANE_CFG d n) F.LANE_CFG_USE ≠ 0) → ∃ t, exec
      (.feLoopbackTimeout d n) s = .next t ∧ t.dev.rd (Reg.LANE_LB_STAT d n) = 4#32 ∧ t.dev.laneState d n = 2 ∧ t.dev.rdF
      (Reg.LANE_LB_CTRL d n) F.LANE_LB_CTRL_MODE = 0) ∧
    ((s.dev.locked d n = true) → ∃ t, exec (.escanGo d n) s = .next t ∧ t.dev.rd (Reg.LANE_ESCAN_STAT d n) = 1#32 ∧ t.dev.rd
      (Reg.LANE_ESCAN_ERR d n) = 0#32 ∧ t.dev.rd (Reg.LANE_ESCAN_BITS d n) = 0#32) ∧
    ((s.dev.locked d n = false) → ∃ t, exec (.escanGo d n) s = .next t ∧ t.dev.rd (Reg.LANE_ESCAN_STAT d n) = 6#32) ∧
    ((s.dev.rdF (Reg.LANE_ESCAN_STAT d n) F.LANE_ESCAN_STAT_BUSY = 1 ∧ 2 ^ (20 + min 12 (fget (s.dev.rd (Reg.LANE_ESCAN_CTRL d n))
      F.LANE_ESCAN_CTRL_DWELL)) ≤ (eyeCount (sgn 7 (fget (s.dev.rd (Reg.LANE_ESCAN_CTRL d n)) F.LANE_ESCAN_CTRL_Y)) y).1) → ∃ t,
      exec (.escanDone d n y) s = .next t ∧ t.dev.rd (Reg.LANE_ESCAN_STAT d n) = 2#32 ∧ t.dev.rd (Reg.LANE_ESCAN_ERR d n) =
      BitVec.ofNat 32 (min (eyeCount (sgn 7 (fget (s.dev.rd (Reg.LANE_ESCAN_CTRL d n)) F.LANE_ESCAN_CTRL_Y)) y).2 (2 ^ 32 - 1)) ∧
      t.dev.rd (Reg.LANE_ESCAN_BITS d n) = BitVec.ofNat 32 (2 ^ (20 + min 12 (fget (s.dev.rd (Reg.LANE_ESCAN_CTRL d n))
      F.LANE_ESCAN_CTRL_DWELL)) / 1024)) ∧
    ((s.dev.rdF (Reg.LANE_ESCAN_STAT d n) F.LANE_ESCAN_STAT_BUSY = 1 ∧ (eyeCount (sgn 7 (fget (s.dev.rd (Reg.LANE_ESCAN_CTRL d n))
      F.LANE_ESCAN_CTRL_Y)) y).1 < 2 ^ (20 + min 12 (fget (s.dev.rd (Reg.LANE_ESCAN_CTRL d n)) F.LANE_ESCAN_CTRL_DWELL))) → ∃ t,
      exec (.escanDone d n y) s = .next t ∧ t.dev.rd (Reg.LANE_ESCAN_STAT d n) = s.dev.rd (Reg.LANE_ESCAN_STAT d n) ∧ t.dev.rd
      (Reg.LANE_ESCAN_ERR d n) = BitVec.ofNat 32 (min (eyeCount (sgn 7 (fget (s.dev.rd (Reg.LANE_ESCAN_CTRL d n))
      F.LANE_ESCAN_CTRL_Y)) y).2 (2 ^ 32 - 1)) ∧ t.dev.rd (Reg.LANE_ESCAN_BITS d n) = BitVec.ofNat 32 ((eyeCount (sgn 7 (fget
      (s.dev.rd (Reg.LANE_ESCAN_CTRL d n)) F.LANE_ESCAN_CTRL_Y)) y).1 / 1024))

/-- Packets to a tile, its commands, and its STATUS packets (R181, R192, R193, R194, R183). -/
def Obligations.TilesComplete : Prop :=
  ∀ (d : Die) (q : TileIx) (o : Outstanding) (p : StatusPkt) (s : State),
    ((s.dev.locked d q = true ∧ s.dev.inSlice d (laneBlock d q) = false ∧ (nextPacket (s.dev.lane d q)).isSome = true ∧
      ((nextPacket (s.dev.lane d q)).getD .filler).isCalib = true) → ∃ t, exec (.packetSend d q) s = .next t ∧ t.dev.out = .lane d
      q ((nextPacket (s.dev.lane d q)).getD .filler) :: s.dev.out ∧ (t.dev.lane d q).queue = dropFirst ((nextPacket (s.dev.lane d
      q)).getD .filler) (s.dev.lane d q).queue ∧ (t.dev.lane d q).out = (s.dev.lane d q).out) ∧
    ((s.dev.locked d q = true ∧ s.dev.inSlice d (laneBlock d q) = false ∧ (nextPacket (s.dev.lane d q)).isSome = true ∧
      ((nextPacket (s.dev.lane d q)).getD .filler).isCalib = false) → ∃ t, exec (.packetSend d q) s = .next t ∧ t.dev.out = .lane d
      q (((nextPacket (s.dev.lane d q)).getD .filler).withSeq (((s.dev.lane d q).seq + 1) % 65536)) :: s.dev.out ∧ (t.dev.lane d
      q).queue = dropFirst ((nextPacket (s.dev.lane d q)).getD .filler) (s.dev.lane d q).queue ∧ (t.dev.lane d q).out = some
      ⟨((nextPacket (s.dev.lane d q)).getD .filler).withSeq (((s.dev.lane d q).seq + 1) % 65536), ((s.dev.lane d q).seq + 1) %
      65536, 0⟩ ∧ (t.dev.lane d q).seq = ((s.dev.lane d q).seq + 1) % 65536) ∧
    ((s.dev.locked d q = false ∨ (nextPacket (s.dev.lane d q)).isNone = true) → ∃ t, exec (.packetSend d q) s = .next t ∧ t = s) ∧
    (((s.dev.lane d q).out = some o ∧ o.repeats < 8) → ∃ t, exec (.cmdRetransmit d q) s = .next t ∧ t.dev.out = .lane d q o.pkt ::
      s.dev.out ∧ (t.dev.lane d q).out = some { o with repeats := o.repeats + 1 } ∧ t.dev.rdF (Reg.LANE_TILE_CMDCNT d q)
      F.LANE_TILE_CMDCNT_REPEATS = (s.dev.rdF (Reg.LANE_TILE_CMDCNT d q) F.LANE_TILE_CMDCNT_REPEATS + 1) % 2 ^
      F.LANE_TILE_CMDCNT_REPEATS.len) ∧
    (((s.dev.lane d q).out = some { o with repeats := 8 }) → ∃ t, exec (.cmdRetransmit d q) s = .next t ∧ t.dev.dstate d q = 4 ∧
      (t.dev.lane d q).out = none ∧ (t.dev.lane d q).queue = []) ∧
    ((s.dev.dstate d q = 1 ∧ (s.dev.lane d q).waitStatus = true) → ∃ t, exec (.bringupTimeout d q) s = .next t ∧ t.dev.dstate d q =
      4 ∧ (t.dev.lane d q).out = none ∧ (t.dev.lane d q).queue = []) ∧
    ((s.dev.locked d q = true) → ∃ t, exec (.tileSilent d q) s = .next t ∧ t.dev.rdB (Reg.LANE_TILE_FLT_CAUSE d q)
      B.LANE_TILE_SILENT = true) ∧
    ((s.dev.locked d q = true ∧ p.openMap.length = 64 ∧ p.shortMap.length = 64) → ∃ t, exec (.statusRx d q p) s = .next t ∧
      t.dev.rdF (Reg.LANE_TILE_STAT d q) F.LANE_TILE_STAT_TSTATE = p.state.toNat ∧ t.dev.rdF (Reg.LANE_TILE_STAT d q)
      F.LANE_TILE_STAT_TCAUSE = p.cause.toNat ∧ t.dev.rdF (Reg.LANE_TILE_STAT d q) F.LANE_TILE_STAT_LOCK = b2n p.lock ∧ t.dev.rd
      (Reg.LANE_TILE_ID d q) = BitVec.ofNat 32 (p.vendor.toNat + 0x10000 * p.model.toNat) ∧ t.dev.rd (Reg.LANE_TILE_RXERR d q) =
      p.rxErr ∧ (t.dev.lane d q).statusAt = some s.dev.us ∧ t.dev.rdB (Reg.LANE_TILE_FLT_CAUSE d q) B.LANE_TILE_SILENT = false) ∧
    ((s.dev.locked d q = true ∧ p.openMap.length = 64 ∧ p.shortMap.length = 64 ∧ p.ackRes ≠ 4#8 ∧ (s.dev.lane d q).out.all (fun o
      => p.ackSeq.toNat == o.seq) = true) → ∃ t, exec (.statusRx d q p) s = .next t ∧ (t.dev.lane d q).out = none) ∧
    ((s.dev.locked d q = false) → ∃ t, exec (.statusRx d q p) s = .next t ∧ t = s)

/-- Video and object packets, faults and reports of an input lane (R153, R155, R168, R179, R198, R199, R201, R202, R196, R197,
R200). -/
def Obligations.InputLanesComplete : Prop :=
  ∀ (d : Die) (q : TileIx) (i : Fin 2) (rx : RxSyms) (line : BitVec 16) (x0 : BitVec 16) (fr : BitVec 16) (data : List Byte) (n : Head) (slot : Bool) (batch : BitVec 16) (off : BitVec 16) (s : State),
    ((s.dev.locked d q = true ∧ (Machine.packetBody (symsOf rx)).all (fun b => !bodyOk true b) = true) → ∃ t, exec (.badPacketRx d
      ⟨q.val, by omega⟩ rx) s = .next t ∧ t.dev.rd (Reg.LANE_TILE_UPERR d q) = s.dev.rd (Reg.LANE_TILE_UPERR d q) + 1#32 ∧ t.dev.rd
      (Reg.LANE_SYMERR d q) = s.dev.rd (Reg.LANE_SYMERR d q) + BitVec.ofNat 32 (symErrors (symsOf rx)) ∧ t.dev.out = s.dev.out) ∧
    ((s.dev.locked d q = true ∧ (Machine.packetBody (symsOf rx)).any (fun b => bodyOk true b && b.getD 0 0 == 0x81#8) = true) → ∃
      t, exec (.badPacketRx d ⟨q.val, by omega⟩ rx) s = .next t ∧ exec (.statusRx d q (statusOf ((Machine.packetBody (symsOf
      rx)).getD [])))
      { s with dev := (s.dev.wr (Reg.LANE_RAW d q) (BitVec.ofNat 32 (rawOf rx))).addR (Reg.LANE_SYMERR d q) (symErrors (symsOf rx)) }
      = .next t) ∧
    ((s.dev.locked d (8 + i) = true ∧ (Machine.packetBody (symsOf rx)).any (fun b => bodyOk false b && b.getD 0 0 == 0x11#8) =
      true) → ∃ t, exec (.badPacketRx d ⟨8 + i.val, by omega⟩ rx) s = .next t ∧ exec (.vidRx d i (vidOf ((Machine.packetBody
      (symsOf rx)).getD [])))
      { s with dev := (s.dev.wr (Reg.LANE_RAW d (8 + i)) (BitVec.ofNat 32 (rawOf rx))).addR (Reg.LANE_SYMERR d (8 + i)) (symErrors (symsOf rx)) }
      = .next t) ∧
    ((s.dev.locked d (8 + i) = true ∧ (Machine.packetBody (symsOf rx)).all (fun b => !bodyOk false b) = true ∧ packetType (symsOf
      rx) = 0x11 ∧ (s.dev.inp d i).inFrame = true) → ∃ t, exec (.badPacketRx d ⟨8 + i.val, by omega⟩ rx) s = .next t ∧ (t.dev.inp d
      i).inFrame = false ∧ (t.dev.inp d i).lastBad = (s.dev.inp d i).frame ∧ t.dev.rdF (Reg.LANE_IN_FRMCNT d (8 + i))
      F.LANE_IN_FRMCNT_DROPPED = (s.dev.rdF (Reg.LANE_IN_FRMCNT d (8 + i)) F.LANE_IN_FRMCNT_DROPPED + 1) % 2 ^
      F.LANE_IN_FRMCNT_DROPPED.len ∧ t.dev.rdF (Reg.LANE_IN_STAT d (8 + i)) F.LANE_IN_STAT_WHY = 2) ∧
    ((s.dev.locked d (8 + i) = true ∧ (Machine.packetBody (symsOf rx)).all (fun b => !bodyOk false b) = true ∧ packetType (symsOf
      rx) = 0x12 ∧ (s.dev.inp d i).inBatch = true) → ∃ t, exec (.badPacketRx d ⟨8 + i.val, by omega⟩ rx) s = .next t ∧ (t.dev.inp d
      i).inBatch = false ∧ (t.dev.inp d i).bres = 8 ∧ t.dev.rdF (Reg.LANE_IN_SUPER d (8 + i)) F.LANE_IN_SUPER_BATCH_FAIL =
      (s.dev.rdF (Reg.LANE_IN_SUPER d (8 + i)) F.LANE_IN_SUPER_BATCH_FAIL + 1) % 2 ^ F.LANE_IN_SUPER_BATCH_FAIL.len) ∧
    ((s.dev.locked d (8 + i) = false) → ∃ t, exec (.badPacketRx d ⟨8 + i.val, by omega⟩ rx) s = .next t ∧ t = s) ∧
    ((s.dev.rdF (Reg.LANE_IN_CFG d (8 + i)) F.LANE_IN_CFG_STALE_T ≠ 0) → ∃ t, exec (.inStale d i) s = .next t ∧ t.dev.rdB
      (Reg.LANE_IN_FLT_CAUSE d (8 + i)) B.LANE_IN_IN_STALE = true) ∧
    ((s.dev.locked d (8 + i) = true) → ∃ t, exec (.srcstatPeriodic d i) s = .next t ∧ t.dev.out = .lane d (8 + i) (s.dev.srcstat d
      i) :: s.dev.out) ∧
    (((s.dev.inp d i).inFrame = true ∧ 2 ≤ data.length ∧ data.length ≤ 1024 ∧ data.length % 2 = 0 ∧ line.toNat < fget (s.dev.rd
      (Reg.LANE_IN_GEOM d (8 + i))) F.LANE_IN_GEOM_H ∧ x0.toNat + data.length / 2 ≤ fget (s.dev.rd (Reg.LANE_IN_GEOM d (8 + i)))
      F.LANE_IN_GEOM_W ∧ s.dev.inputFails d (s.dev.fedHeads d i) (s.dev.vidAddr d i line.toNat x0.toNat) data.length = false ∧
      (s.dev.vidAddr d i line.toNat x0.toNat) + data.length ≤ 0x7FF00000 ∧ s.dev.drcRole 0 = 0 ∧ s.dev.drcRole 1 = 0 ∧ s.dev.locked
      d (8 + i) = true) → ∃ t, exec (.vidRx d i ⟨false, false, line, x0, fr, data, true⟩) s = .next t ∧ (∀ e ∈ (s.dev.fedHeads d
      i).flatMap s.dev.diesOf, t.dev.dieRead t.mem e (s.dev.vidAddr d i line.toNat x0.toNat) data.length = some data) ∧ (t.dev.inp
      d i).written = (s.dev.inp d i).written + data.length ∧ (t.dev.inp d i).inFrame = true ∧ t.nv = s.nv ∧ t.mem.flash =
      s.mem.flash) ∧
    (((s.dev.inp d i).inFrame = true ∧ 2 ≤ data.length ∧ data.length ≤ 1024 ∧ data.length % 2 = 0 ∧ line.toNat < fget (s.dev.rd
      (Reg.LANE_IN_GEOM d (8 + i))) F.LANE_IN_GEOM_H ∧ x0.toNat + data.length / 2 ≤ fget (s.dev.rd (Reg.LANE_IN_GEOM d (8 + i)))
      F.LANE_IN_GEOM_W ∧ s.dev.inputFails d (s.dev.fedHeads d i) (s.dev.vidAddr d i line.toNat x0.toNat) data.length = false ∧
      (s.dev.vidAddr d i line.toNat x0.toNat) + data.length ≤ 0x7FF00000 ∧ s.dev.drcRole 0 = 0 ∧ s.dev.drcRole 1 = 0 ∧ s.dev.locked
      d (8 + i) = true ∧ (s.dev.inp d i).written + data.length = fget (s.dev.rd (Reg.LANE_IN_GEOM d (8 + i))) F.LANE_IN_GEOM_W *
      fget (s.dev.rd (Reg.LANE_IN_GEOM d (8 + i))) F.LANE_IN_GEOM_H * 2) → ∃ t, exec (.vidRx d i ⟨false, true, line, x0, fr, data,
      true⟩) s = .next t ∧ (t.dev.inp d i).inFrame = false ∧ (t.dev.inp d i).lastOk = (s.dev.inp d i).frame ∧ t.dev.rdF
      (Reg.LANE_IN_STAT d (8 + i)) F.LANE_IN_STAT_NEWEST = s.dev.rdF (Reg.LANE_IN_STAT d (8 + i)) F.LANE_IN_STAT_WRITING ∧
      t.dev.rdF (Reg.LANE_IN_FRMCNT d (8 + i)) F.LANE_IN_FRMCNT_ACCEPTED = (s.dev.rdF (Reg.LANE_IN_FRMCNT d (8 + i))
      F.LANE_IN_FRMCNT_ACCEPTED + 1) % 2 ^ F.LANE_IN_FRMCNT_ACCEPTED.len ∧ t.dev.rdB (Reg.LANE_IN_FLT_CAUSE d (8 + i))
      B.LANE_IN_IN_STALE = false) ∧
    (((s.dev.inp d i).inFrame = true ∧ 2 ≤ data.length ∧ data.length ≤ 1024 ∧ data.length % 2 = 0 ∧ (fget (s.dev.rd
      (Reg.LANE_IN_GEOM d (8 + i))) F.LANE_IN_GEOM_H ≤ line.toNat ∨ fget (s.dev.rd (Reg.LANE_IN_GEOM d (8 + i))) F.LANE_IN_GEOM_W <
      x0.toNat + data.length / 2) ∧ s.dev.locked d (8 + i) = true) → ∃ t, exec (.vidRx d i ⟨false, false, line, x0, fr, data,
      true⟩) s = .next t ∧ (t.dev.inp d i).inFrame = false ∧ (t.dev.inp d i).lastBad = (s.dev.inp d i).frame ∧ t.dev.rdF
      (Reg.LANE_IN_STAT d (8 + i)) F.LANE_IN_STAT_WHY = 3 ∧ t.mem = s.mem) ∧
    (((s.dev.inp d i).inFrame = true ∧ 2 ≤ data.length ∧ data.length ≤ 1024 ∧ data.length % 2 = 0 ∧ s.dev.locked d (8 + i) = true)
      → ∃ t, exec (.vidRx d i ⟨false, false, line, x0, fr, data, false⟩) s = .next t ∧ (t.dev.inp d i).inFrame = false ∧ (t.dev.inp
      d i).lastBad = (s.dev.inp d i).frame ∧ t.dev.rdF (Reg.LANE_IN_STAT d (8 + i)) F.LANE_IN_STAT_WHY = 1 ∧ t.mem = s.mem) ∧
    ((off.toNat % 4 = 0 ∧ off.toNat + data.length ≤ 0x9300 ∧ data.length ≤ 1024 ∧ data.length % 4 = 0 ∧ s.dev.locked d (8 + i) =
      true ∧ bitOf (s.dev.rd (Reg.LANE_IN_MAP d (8 + i))) (8 + n.val) = true ∧ s.dev.slotLocked n (b2n slot) = false ∧
      s.dev.drcRole 0 = 0 ∧ s.dev.drcRole 1 = 0 ∧ s.dev.inputFails d [n.val] (slotAddr n (b2n slot) + off.toNat) data.length =
      false) → ∃ t, exec (.objRx d i ⟨n, slot, true, false, batch, off, data, true⟩) s = .next t ∧ (∀ e ∈ s.dev.diesOf n,
      t.dev.dieRead t.mem e (slotAddr n (b2n slot) + off.toNat) data.length = some data) ∧ t.nv = s.nv ∧ t.mem.flash = s.mem.flash
      ∧ (t.dev.inp d i).inBatch = true ∧ (t.dev.inp d i).batch = batch.toNat) ∧
    ((off.toNat % 4 = 0 ∧ off.toNat + data.length ≤ 0x9300 ∧ data.length ≤ 1024 ∧ data.length % 4 = 0 ∧ s.dev.locked d (8 + i) =
      true ∧ bitOf (s.dev.rd (Reg.LANE_IN_MAP d (8 + i))) (8 + n.val) = true ∧ s.dev.slotLocked n (b2n slot) = false ∧
      s.dev.drcRole 0 = 0 ∧ s.dev.drcRole 1 = 0 ∧ s.dev.inputFails d [n.val] (slotAddr n (b2n slot) + off.toNat) data.length =
      false ∧ (s.dev.inp d i).inBatch = true ∧ (s.dev.inp d i).head = n.val ∧ (s.dev.inp d i).slot = b2n slot ∧ (s.dev.inp d
      i).batch = batch.toNat) → ∃ t, exec (.objRx d i ⟨n, slot, false, true, batch, off, data, true⟩) s = .next t ∧ (∀ e ∈
      s.dev.diesOf n, t.dev.dieRead t.mem e (slotAddr n (b2n slot) + off.toNat) data.length = some data) ∧ t.nv = s.nv ∧
      t.mem.flash = s.mem.flash ∧ (t.dev.inp d i).inBatch = false ∧ (s.dev.commitRefusal (s.dev.masterOf n) n = none → (t.dev.half
      (s.dev.masterOf n) n).binning = some (b2n slot))) ∧
    ((s.dev.locked d (8 + i) = true ∧ data.length ≤ 1024 ∧ data.length % 4 = 0 ∧ (s.dev.inp d i).inBatch = true ∧ 0x9300 <
      off.toNat + data.length) → ∃ t, exec (.objRx d i ⟨n, slot, false, false, batch, off, data, true⟩) s = .next t ∧ (t.dev.inp d
      i).inBatch = false ∧ (t.dev.inp d i).batchDead = true ∧ (t.dev.inp d i).bres = 8 ∧ t.mem = s.mem)

/-- Requests to the DRAM: acceptance, escalation, grants and returning reads (R208, R211, R212, R213). -/
def Obligations.DramRequestsComplete : Prop :=
  ∀ (d : Die) (c : Fin 2) (r : DramReq) (e : DrcEntry) (s : State),
    ((r.port ≠ 6 ∧ s.dev.drcRole d = 0 ∧ s.dev.dramRuns d = true ∧ s.dev.mayAccept d r.port = true ∧ s.dev.slotFree d r = true ∧
      s.dev.reqRefusal d { r with addr := r.addr / 64 * 64 } = none) → ∃ t, exec (.dramRequestAccept d r) s = .next t ∧ (t.dev.drc
      d).next = (s.dev.drc d).next + 1 ∧ (t.dev.drc d).table.map (fun f => (f.id, f.addr)) = (s.dev.drc d).table.map (fun f =>
      (f.id, f.addr)) ++ [((s.dev.drc d).next, r.addr / 64 * 64)] ∧ t.mem = s.mem) ∧
    (∃ t, exec (.urgencyEscalate d e.id) s = .next t ∧ (t.dev.drc d).table.map (fun f => (f.id, f.esc)) = (s.dev.drc d).table.map
      (fun f => (f.id, if f.id = e.id then min 3 (f.esc + 1) else f.esc)) ∧ t.mem = s.mem) ∧
    ((s.dev.chanRuns d c = true ∧ ((s.dev.burstTry d c).writeTurn d c).nextGrant d c = some e ∧ e.req.write = true ∧ e.id <
      (s.dev.drc d).next) → ∃ t, exec (.dramGrant d c) s = .next t ∧ t.mem = s.mem.dramWrite d e.addr (e.req.data.take 64) ∧
      (t.dev.drc d).table.any (fun f => f.id == e.id) = false) ∧
    ((s.dev.chanRuns d c = true ∧ ((s.dev.burstTry d c).writeTurn d c).nextGrant d c = some e ∧ e.req.write = false) → ∃ t, exec
      (.dramGrant d c) s = .next t ∧ t.mem = s.mem ∧ (t.dev.drc d).table.any (fun f => f.id == e.id && f.granted && f.got ==
      s.mem.dramRead d e.addr 64) = true) ∧
    (((s.dev.drc d).table.find? (fun f => f.id == e.id && f.granted) = some e ∧ e.id < (s.dev.drc d).next) → ∃ t, exec
      (.dramReadReturn d e.id .ok) s = .next t ∧ (t.dev.drc d).table.any (fun f => f.id == e.id) = false ∧ t.mem = s.mem) ∧
    (((s.dev.drc d).table.find? (fun f => f.id == e.id && f.granted) = some e ∧ e.id < (s.dev.drc d).next) → ∃ t, exec
      (.dramReadReturn d e.id .corrected) s = .next t ∧ (t.dev.drc d).table.any (fun f => f.id == e.id) = false ∧ t.dev.rdF
      (Reg.DRC_ECC_CNT d (dramChan e.addr)) F.DRC_ECC_CNT_CORR = min (s.dev.rdF (Reg.DRC_ECC_CNT d (dramChan e.addr))
      F.DRC_ECC_CNT_CORR + 1) (2 ^ F.DRC_ECC_CNT_CORR.len - 1)) ∧
    (((s.dev.drc d).table.find? (fun f => f.id == e.id && f.granted) = some e ∧ e.id < (s.dev.drc d).next) → ∃ t, exec
      (.dramReadReturn d e.id .uncorrectable) s = .next t ∧ (t.dev.drc d).table.any (fun f => f.id == e.id) = false ∧ t.dev.rdF
      (Reg.DRC_ECC_CNT d (dramChan e.addr)) F.DRC_ECC_CNT_UNCORR = min (s.dev.rdF (Reg.DRC_ECC_CNT d (dramChan e.addr))
      F.DRC_ECC_CNT_UNCORR + 1) (2 ^ F.DRC_ECC_CNT_UNCORR.len - 1))

/-- Refresh, row protection, training and failure of the DRAM (R217, R218, R219, R222, R220, R221, R224). -/
def Obligations.DramCareComplete : Prop :=
  ∀ (d : Die) (c : Fin 2) (v : Byte) (a : Fin 4) (b : Fin 4) (k : Fin 7) (j : Fin 7) (s : State),
    ((s.dev.chanRuns d c = true ∧ s.dev.debt d c < s.dev.refAllow d c ∧ (s.dev.drcCh d c).burst = false) → ∃ t, exec (.refreshDue d
      c) s = .next t ∧ t.dev.rdF (Reg.DRC_CH_STAT d c) F.DRC_CH_STAT_DEBT = (s.dev.debt d c + 1) % 2 ^ F.DRC_CH_STAT_DEBT.len ∧
      t.dev.rdF (Reg.DRC_REF_CNT d c) F.DRC_REF_CNT_ISSUED = s.dev.rdF (Reg.DRC_REF_CNT d c) F.DRC_REF_CNT_ISSUED) ∧
    ((s.dev.chanRuns d c = true ∧ s.dev.refAllow d c < s.dev.debt d c + 1 ∧ (s.dev.drcCh d c).burst = false) → ∃ t, exec
      (.refreshDue d c) s = .next t ∧ t.dev.rdF (Reg.DRC_CH_STAT d c) F.DRC_CH_STAT_DEBT = s.dev.debt d c ∧ t.dev.rdF
      (Reg.DRC_REF_CNT d c) F.DRC_REF_CNT_ISSUED = (s.dev.rdF (Reg.DRC_REF_CNT d c) F.DRC_REF_CNT_ISSUED + 1) % 2 ^
      F.DRC_REF_CNT_ISSUED.len ∧ t.dev.rdF (Reg.DRC_REF_CNT d c) F.DRC_REF_CNT_FORCED = min (s.dev.rdF (Reg.DRC_REF_CNT d c)
      F.DRC_REF_CNT_FORCED + 1) (2 ^ F.DRC_REF_CNT_FORCED.len - 1)) ∧
    ((s.dev.chanRuns d c = true ∧ s.dev.debt d c ≠ 0 ∧ s.dev.urgentOn d c (max 1 (s.dev.rdF (Reg.DRC_REF_CFG d)
      F.DRC_REF_CFG_DEFER_URG)) = false) → ∃ t, exec (.refreshIdleIssue d c) s = .next t ∧ t.dev.rdF (Reg.DRC_CH_STAT d c)
      F.DRC_CH_STAT_DEBT = 0 ∧ t.dev.rdF (Reg.DRC_REF_CNT d c) F.DRC_REF_CNT_ISSUED = (s.dev.rdF (Reg.DRC_REF_CNT d c)
      F.DRC_REF_CNT_ISSUED + s.dev.debt d c) % 2 ^ F.DRC_REF_CNT_ISSUED.len) ∧
    ((s.dev.chanRuns d c = true) → ∃ t, exec (.mr4Read d c (some v)) s = .next t ∧ t.dev.rdF (Reg.DRC_CH_STAT d c)
      F.DRC_CH_STAT_MR4 = v.toNat ∧ (∀ k ∈ List.range 3, mr4Rate v.toNat = some (some k) → t.dev.rdF (Reg.DRC_CH_STAT d c)
      F.DRC_CH_STAT_MULT = k) ∧ (mr4Rate v.toNat = some none → t.dev.rdF (Reg.DRC_CH_STAT d c) F.DRC_CH_STAT_MULT = 2 ∧ t.dev.rdB
      (Reg.DRC_FLT_CAUSE d) B.DRC_DRAM_HOT = true) ∧ (t.dev.drcCh d c).mr4Bad = 0) ∧
    ((s.dev.chanRuns d c = true ∧ (s.dev.drcCh d c).mr4Bad = 0) → ∃ t, exec (.mr4Read d c none) s = .next t ∧ (t.dev.drcCh d
      c).mr4Bad = 1 ∧ t.dev.rdF (Reg.DRC_CH_STAT d c) F.DRC_CH_STAT_STATE = 2) ∧
    ((8192 ≤ (s.dev.drcCh d c).win) → ∃ t, exec (.rhWindowEnd d c) s = .next t ∧ (t.dev.drcCh d c).win = (s.dev.drcCh d c).win -
      8192 ∧ ∀ b ∈ List.range 16, ((t.dev.drcCh d c).banks.get (fun _ => ⟨none, []⟩) b).acts = []) ∧
    ((s.dev.power = 1 ∧ s.dev.rdF (Reg.DRC_CH_STAT d 0) F.DRC_CH_STAT_STATE = 1 ∧ s.dev.rdF (Reg.DRC_CH_STAT d 1)
      F.DRC_CH_STAT_STATE = 1) → ∃ t, exec (.dramTrainDone d ⟨false, k, a⟩ ⟨false, j, b⟩) s = .next t ∧ t.dev.chanRuns d 0 = true ∧
      t.dev.chanRuns d 1 = true ∧ (t.dev.drc d).trained = true ∧ t.dev.rdF (Reg.DRC_STAT d) F.DRC_STAT_FIRSTWIN = 1 ∧ t.dev.rdF
      (Reg.DRC_TRAIN_STAT d 0) F.DRC_TRAIN_STAT_ATTEMPTS = a.val ∧ t.dev.rdF (Reg.DRC_TRAIN_STAT d 1) F.DRC_TRAIN_STAT_ATTEMPTS =
      b.val ∧ t.dev.rdF (Reg.DRC_TRAIN_STAT d 0) F.DRC_TRAIN_STAT_STEP = k.val ∧ t.dev.rdF (Reg.DRC_TRAIN_STAT d 1)
      F.DRC_TRAIN_STAT_STEP = j.val) ∧
    ((s.dev.power = 1 ∧ s.dev.rdF (Reg.DRC_CH_STAT d 0) F.DRC_CH_STAT_STATE = 1 ∧ s.dev.rdF (Reg.DRC_CH_STAT d 1)
      F.DRC_CH_STAT_STATE = 1) → ∃ t, exec (.dramTrainDone d ⟨true, k, a⟩ ⟨false, j, b⟩) s = .next t ∧ t.dev.rdF (Reg.DRC_CH_STAT d
      0) F.DRC_CH_STAT_STATE = 3 ∧ t.dev.rdF (Reg.DRC_TRAIN_STAT d 0) F.DRC_TRAIN_STAT_STEP = k.val ∧ t.dev.rdB (Reg.DRC_FLT_CAUSE
      d) B.DRC_TRAIN_FAIL = true ∧ t.dev.rdB (Reg.DRC_FLT_CAUSE d) B.DRC_DRAM_FAIL = true ∧ (t.dev.drc d).trained = true) ∧
    ((s.dev.chanRuns d c = true) → ∃ t, exec (.dramFail d c) s = .next t ∧ t.dev.rdF (Reg.DRC_CH_STAT d c) F.DRC_CH_STAT_STATE = 3
      ∧ t.dev.rdB (Reg.DRC_FLT_CAUSE d) B.DRC_DRAM_FAIL = true ∧ (t.dev.drc d).table = [] ∧ t.dev.drcRole d ≠ 0) ∧
    ((s.dev.drcRole d = 1 ∧ s.dev.rdF (Reg.DRC_STAT d) F.DRC_STAT_HALTED ≠ 0 ∧ 2 ≤ s.dev.linksUp) → ∃ t, exec (.resume d) s = .next
      t ∧ t.dev.rdF (Reg.DRC_STAT d) F.DRC_STAT_HALTED = 0 ∧ (∀ n ∈ List.range 4, s.dev.power = 3 ∧ s.dev.usedOn d n = true →
      (t.dev.half d n).armed = true))

/-- PWM periods, HOLD, headroom samples, starvation and retries of a string channel (R229, R230, R233, R236, R237). -/
def Obligations.StringChannelsComplete : Prop :=
  ∀ (c : Chan) (h : Hv) (v : Word) (x : Sample) (s : State),
    ((s.dev.chUse c = 1 ∧ ¬ (s.dev.rdF (Reg.BST_CTRL (hvOf c)) F.BST_CTRL_HOLD = 1 ∧ (s.dev.hv (hvOf c)).mode = 2)) → ∃ t, exec
      (.pwmPeriodStart c) s = .next t ∧ (t.dev.chan c).iset = (s.dev.setPoint c).1 ∧ (t.dev.chan c).duty = (s.dev.setPoint c).2 ∧
      (t.dev.chan c).per = s.dev.pwmPer c ∧ (t.dev.chan c).tonU = onTime (s.dev.setPoint c).2 (s.dev.pwmPer c) ∧ (s.dev.sinkOff c =
      true → (t.dev.chan c).ton = 0) ∧ (s.dev.sinkOff c = false ∧ 128 ≤ s.dev.scaled c (onTime (s.dev.setPoint c).2 (s.dev.pwmPer
      c)) → (t.dev.chan c).ton = s.dev.scaled c (onTime (s.dev.setPoint c).2 (s.dev.pwmPer c)))) ∧
    ((s.dev.chUse c = 1 ∧ (s.dev.rdF (Reg.BST_CTRL (hvOf c)) F.BST_CTRL_HOLD = 1 ∧ (s.dev.hv (hvOf c)).mode = 2)) → ∃ t, exec
      (.pwmPeriodStart c) s = .next t ∧ (t.dev.chan c).iset = (s.dev.chan c).iset ∧ (t.dev.chan c).duty = (s.dev.chan c).duty ∧
      (t.dev.chan c).per = (s.dev.chan c).per) ∧
    ((s.dev.linked h = true ∧ (s.dev.hv h).resend = false) → ∃ t, exec (.bstHoldWrite h v) s = .next t ∧ t.dev.rd (Reg.BST_CTRL h)
      = (s.dev.wr (Reg.BST_CTRL h) v).rd (Reg.BST_CTRL h) ∧ t.dev.rdF (Reg.BST_CTRL h) F.BST_CTRL_HOLD = fget v F.BST_CTRL_HOLD ∧
      t.dev.chans = s.dev.chans) ∧
    ((s.dev.linked h = true ∧ (s.dev.hv h).resend = true) → ∃ t, exec (.bstHoldWrite h v) s = .next t ∧ (t.dev.hv h).held =
      (s.dev.hv h).held ++ [(0, v)] ∧ t.dev.rd (Reg.BST_CTRL h) = s.dev.rd (Reg.BST_CTRL h) ∧ t.dev.chans = s.dev.chans) ∧
    ((s.dev.chUse c ≠ 0 ∧ (s.dev.chan c).iset ≠ 0 ∧ s.dev.sinkOff c = false ∧ 128 ≤ (s.dev.chan c).ton) → ∃ t, exec
      (.headroomSample c x) s = .next t ∧ t.dev.rdF (Reg.CH_STAT c) F.CH_STAT_HEAD = min 255 (x.vpin / 25) ∧ t.dev.rdF (Reg.CH_MEAS
      c) F.CH_MEAS_IMEAS = min 4095 x.imeas ∧ (t.dev.chan c).last.map (fun y => (y.vpin, y.vout, y.suspect)) = some (x.vpin,
      x.vout, decide (x.vpin < 150))) ∧
    ((s.dev.chUse c ≠ 0 ∧ (s.dev.chan c).iset ≠ 0 ∧ s.dev.sinkOff c = false ∧ 128 ≤ (s.dev.chan c).ton ∧ 7 ≤ (s.dev.chan c).sink ∧
      300 ≤ x.vpin ∧ sinkBad (s.dev.chan c).iset x.imeas = true) → ∃ t, exec (.headroomSample c x) s = .next t ∧ (t.dev.chan
      c).failed = true ∧ (t.dev.chan c).ton = 0 ∧ t.dev.rdB (Reg.CH_FLT_CAUSE c) B.CH_SINK = true) ∧
    ((s.dev.chUse c ≠ 0 ∧ s.dev.outOfReach (hvOf c) = true) → ∃ t, exec (.stringStarved c) s = .next t ∧ t.dev.rdB
      (Reg.CH_FLT_CAUSE (s.dev.leaderOf c)) B.CH_STARVED = true) ∧
    ((s.dev.faultOff (s.dev.leaderOf c) = true ∧ 150 ≤ x.vpin ∧ x.vpin + 1500 ≤ x.vout) → ∃ t, exec (.stringRetry c x) s = .next t
      ∧ t.dev.rdB (Reg.CH_FLT_CAUSE (s.dev.leaderOf c)) B.CH_OPEN = false ∧ t.dev.rdB (Reg.CH_FLT_CAUSE (s.dev.leaderOf c))
      B.CH_SHORT_FULL = false)

/-- The boosts and the matrix groups of the power dies (R232, R234, R235, R238, R240, R241, R242). -/
def Obligations.BoostsAndMatricesComplete : Prop :=
  ∀ (h : Hv) (vout : Nat) (vbat : Nat) (act : Bool) (m : Fin 8) (v : Word) (r : Fin 8) (s : State),
    (∃ t, exec (.boostTick h vout vbat) s = .next t ∧ t.dev.rdF (Reg.BST_STAT h) F.BST_STAT_VOUT = vout / 50 % 2 ^
      F.BST_STAT_VOUT.len ∧ t.dev.rdF (Reg.BST_VIN h) F.BST_VIN_VBAT = vbat / 50 % 2 ^ F.BST_VIN_VBAT.len ∧ t.dev.scale h =
      s.dev.nextScale h vout) ∧
    ((s.dev.boost h = 2 ∧ s.dev.hasCause (Reg.BST_FLT_STAT h) B.BST_OCP = false) → ∃ t, exec (.boostTick h vout vbat) s = .next t ∧
      t.dev.rdF (Reg.BST_STAT h) F.BST_STAT_VREF = (clampI (s.dev.vmin h) (s.dev.vmax h) ((s.dev.vref h : Int) + (boostRule
      (!((s.dev.countedChans h).filter (fun c => (s.dev.validSample c).any (fun v => v.suspect))).isEmpty) (((s.dev.countedChans
      h).filter (fun c => (s.dev.validSample c).any (fun v => v.suspect))).any (fun c => (s.dev.validSample c).any (fun v =>
      !v.stepped))) ((s.dev.hmin h vout).map (·.1)) (s.dev.rdF (Reg.BST_CFG h) F.BST_CFG_HR_TGT * 10 : Nat)).2)).toNat / 50 % 2 ^
      F.BST_STAT_VREF.len ∧ t.dev.boost h = 2) ∧
    (∃ t, exec (.boostOvp h) s = .next t ∧ t.dev.rdB (Reg.BST_FLT_CAUSE h) B.BST_OVP = true ∧ (t.dev.hv h).ovps.head? = some
      s.dev.us ∧ (15 ≤ ((s.dev.hv h).ovps.filter (fun y => decide (s.dev.us ≤ y + 1000000))).length → t.dev.boost h = 3 ∧ t.dev.rdB
      (Reg.BST_FLT_CAUSE h) B.BST_BOOST_OFF = true)) ∧
    (∃ t, exec (.boostOcp h act) s = .next t ∧ t.dev.rdB (Reg.BST_FLT_CAUSE h) B.BST_OCP = act) ∧
    (∃ t, exec (.boostPhase h act) s = .next t ∧ t.dev.rdB (Reg.BST_FLT_CAUSE h) B.BST_PHASE = act) ∧
    (∃ t, exec (.boostUvlo h) s = .next t ∧ t.dev.rdB (Reg.BST_FLT_CAUSE h) B.BST_UVLO = true ∧ t.dev.boost h = (if s.dev.boost h =
      3 then 3 else 0)) ∧
    ((6000 < vbat) → ∃ t, exec (.boostUvloRecover h vbat) s = .next t ∧ t.dev.rdB (Reg.BST_FLT_CAUSE h) B.BST_UVLO = false ∧
      ((s.dev.hv h).mode ≠ 0 ∧ s.dev.boost h ≠ 3 → t.dev.boost h = 1)) ∧
    ((s.dev.rdF (Reg.BST_MX_CFG h m) F.BST_MX_CFG_NCOL ≠ 0 ∧ (s.dev.group h m).row = some r.val ∧ r.val + 1 < s.dev.nrow h m) → ∃
      t, exec (.mxRowSlot h m) s = .next t ∧ (t.dev.group h m).row = some (r + 1) ∧ t.dev.rdF (Reg.BST_MX_STAT h m)
      F.BST_MX_STAT_ROW = (r + 1) % 2 ^ F.BST_MX_STAT_ROW.len ∧ (t.dev.hv h).front = (s.dev.hv h).front) ∧
    ((s.dev.rdF (Reg.BST_MX_CFG h m) F.BST_MX_CFG_NCOL ≠ 0 ∧ s.dev.rdF (Reg.BST_MX_SYNC h m) F.BST_MX_SYNC_MODE = 0 ∧ (s.dev.group
      h m).row = some r.val ∧ r.val + 1 = s.dev.nrow h m ∧ (s.dev.group h m).pend = true ∧ (s.dev.hv h).mode ≠ 1) → ∃ t, exec
      (.mxRowSlot h m) s = .next t ∧ (t.dev.group h m).row = some 0 ∧ (t.dev.group h m).pend = false ∧ (∀ y ∈ List.range'
      (s.dev.row0 h m) (s.dev.nrow h m), ∀ x ∈ s.dev.columns h m, (t.dev.hv h).front.get (fun _ => 0#32) (y * 64 + x % 64) =
      s.dev.rd (Reg.BST_MX_BACK h (y * 64 + x % 64)))) ∧
    ((bitOf v m = true ∧ s.dev.rdF (Reg.BST_MX_CFG h m) F.BST_MX_CFG_NCOL ≠ 0 ∧ (s.dev.hv h).mode ≠ 1 ∧ s.dev.linked h = true ∧
      (s.dev.hv h).resend = false) → ∃ t, exec (.mxSwap h v) s = .next t ∧ (s.dev.rdF (Reg.BST_MX_SYNC h m) F.BST_MX_SYNC_MODE = 0
      → (t.dev.group h m).pend = true) ∧ (s.dev.rdF (Reg.BST_MX_SYNC h m) F.BST_MX_SYNC_MODE ≠ 0 → t.dev.rdF (Reg.BST_MX_STAT h m)
      F.BST_MX_STAT_ARMED = 1) ∧ (t.dev.hv h).front = (s.dev.hv h).front) ∧
    ((s.dev.rdF (Reg.BST_MX_CFG h m) F.BST_MX_CFG_NCOL ≠ 0 ∧ s.dev.rdF (Reg.BST_MX_SYNC h m) F.BST_MX_SYNC_MODE = 2 ∧ (s.dev.hv
      h).mode ≠ 1 ∧ s.dev.linked h = true ∧ 1 ≤ (s.dev.group h m).edges) → ∃ t, exec (.mxsyncEdge true) s = .next t ∧ (t.dev.group
      h m).row = some 0 ∧ (t.dev.group h m).edges = (s.dev.group h m).edges + 1 ∧ t.dev.rdF (Reg.BST_MX_STAT h m)
      F.BST_MX_STAT_LOCKED = 1) ∧
    ((s.dev.rdF (Reg.BST_MX_CFG h m) F.BST_MX_CFG_NCOL ≠ 0 ∧ s.dev.rdF (Reg.BST_MX_SYNC h m) F.BST_MX_SYNC_MODE = 2) → ∃ t, exec
      (.mxsyncLost h m) s = .next t ∧ (t.dev.group h m).edges = 0 ∧ t.dev.rdF (Reg.BST_MX_STAT h m) F.BST_MX_STAT_LOCKED = 0 ∧
      t.dev.rdB (Reg.BST_MX_FLT_CAUSE h) m = true)

/-- START, MEASURE and ABORT; trims; missed slots; the hold-off of AUTO runs (R247, R254, R257, R262, R266). -/
def Obligations.CalibrationCommandsComplete : Prop :=
  ∀ (d : Die) (q : TileIx) (tiles : BitVec 8) (s : State),
    ((tiles.getLsbD q.val = true ∧ s.dev.inRun d q = false) → ∃ t, exec (.calStart d tiles) s = .next t ∧ (t.dev.cal d q).want =
      wantToo (s.dev.cal d q).want 1 ∧ (t.dev.cal d q).fails = 0 ∧ t.dev.rdF (Reg.CAL_TSTAT d q) F.CAL_TSTAT_STATE = 1 ∧ t.dev.rdF
      (Reg.CAL_TSTAT d q) F.CAL_TSTAT_STOPPED = 0 ∧ (t.dev.rdF (Reg.CAL_CMD_STAT d) F.CAL_CMD_STAT_RESULT = 1 ∨ t.dev.rdF
      (Reg.CAL_CMD_STAT d) F.CAL_CMD_STAT_RESULT = 3)) ∧
    ((tiles.getLsbD q.val = true ∧ s.dev.inRun d q = false) → ∃ t, exec (.calMeasure d tiles) s = .next t ∧ (t.dev.cal d q).want =
      wantToo (s.dev.cal d q).want 2 ∧ (t.dev.cal d q).fails = (s.dev.cal d q).fails ∧ t.dev.rdF (Reg.CAL_TSTAT d q)
      F.CAL_TSTAT_STATE = 1 ∧ (t.dev.rdF (Reg.CAL_CMD_STAT d) F.CAL_CMD_STAT_RESULT = 1 ∨ t.dev.rdF (Reg.CAL_CMD_STAT d)
      F.CAL_CMD_STAT_RESULT = 3)) ∧
    ((tiles.getLsbD q.val = true ∧ s.dev.inRun d q = true) → ∃ t, exec (.calAbort d tiles) s = .next t ∧ (t.dev.cal d q).kind = 0 ∧
      (t.dev.cal d q).want = 0 ∧ (t.dev.cal d q).fails = (s.dev.cal d q).fails ∧ t.dev.rdF (Reg.CAL_TSTAT d q) F.CAL_TSTAT_LAST = 3
      ∧ t.dev.rdF (Reg.CAL_TSTAT d q) F.CAL_TSTAT_WHY = 4 ∧ t.dev.rdF (Reg.CAL_CMD_STAT d) F.CAL_CMD_STAT_RESULT = 1) ∧
    (((s.dev.cal d q).await = true ∧ s.dev.inRun d q = true ∧ (s.dev.cal d q).missed < 7) → ∃ t, exec (.calSlotMissed d q) s =
      .next t ∧ (t.dev.cal d q).missed = (s.dev.cal d q).missed + 1 ∧ (t.dev.cal d q).await = false ∧ (t.dev.cal d q).kind =
      (s.dev.cal d q).kind) ∧
    (((s.dev.cal d q).await = true ∧ s.dev.inRun d q = true ∧ 7 ≤ (s.dev.cal d q).missed) → ∃ t, exec (.calSlotMissed d q) s =
      .next t ∧ (t.dev.cal d q).kind = 0 ∧ t.dev.rdF (Reg.CAL_TSTAT d q) F.CAL_TSTAT_LAST = 3 ∧ t.dev.rdF (Reg.CAL_TSTAT d q)
      F.CAL_TSTAT_WHY = 7 ∧ (t.dev.cal d q).fails = (s.dev.cal d q).fails + 1 ∧ (t.dev.cal d q).holdoff = true ∧ (s.dev.rdB
      (Reg.CAL_FLT_STAT d + 4) B.CAL_NO_PHOTO = true → t.dev.rdB (Reg.CAL_FLT_STAT d) B.CAL_NO_PHOTO = true)) ∧
    (∃ t, exec (.calHoldoffEnd d q) s = .next t ∧ (t.dev.cal d q).holdoff = false ∧ (t.dev.cal d q).fails = (s.dev.cal d q).fails ∧
      t.dev.regs = s.dev.regs) ∧
    ((s.dev.power = 1 ∧ 4 ≤ s.dev.pwr.pen ∧ s.dev.pwr.trims = false ∧ s.dev.pwr.rstHeld = false) → ∃ t, exec (.trimLoad) s = .next
      t ∧ (∀ e ∈ (s.nv.trims.take 5).zipIdx, t.dev.rdB Reg.VSP_TRIM_STAT e.2 = e.1.good ∧ t.dev.rdB Reg.VSP_TRIM_FLT_CAUSE e.2 =
      !e.1.good) ∧ t.dev.pwr.trims = true ∧ t.dev.rdF Reg.VSP_PWR_STAT F.VSP_PWR_STAT_STEP = 4)

/-- Stored sets and reference sets: COEF_LOAD, RESTORE, REF_PROG and REF_ERASE (R250, R253, R265). -/
def Obligations.CalibrationSetsComplete : Prop :=
  ∀ (d : Die) (q : TileIx) (row : BitVec 9) (c : Fin 2) (s : State),
    ((s.dev.coefDue d = true ∧ s.dev.recovery = false ∧ (s.dev.place d q).used = true) → ∃ t, exec (.coefLoad d) s = .next t ∧
      d.val ∈ t.dev.pwr.coefs ∧ t.mem.flash = s.mem.flash ∧ t.nv = s.nv ∧ t.dev.rdF (Reg.CAL_TSTAT d q) F.CAL_TSTAT_REF_OK = b2n
      (refValid s.mem (8 * d + q)) ∧ (governOrder s.mem (8 * d + q) = [] → t.dev.rdF (Reg.CAL_TSTAT d q) F.CAL_TSTAT_SET = 0 ∧
      (t.dev.cal d q).want = wantToo (s.dev.cal d q).want 1 ∧ t.dev.rdF (Reg.PHO_TILE_CFG d q) F.PHO_TILE_CFG_FLAT = 1)) ∧
    (((s.dev.cal d q).govern = some c.val ∧ s.dev.inRun d q = false ∧ s.dev.rdF (Reg.CAL_TSTAT d q) F.CAL_TSTAT_SET ≠ 2) → ∃ t,
      exec (.calRestore d (1#8 <<< q.val) row) s = .next t ∧ t.mem = ((setRow s.mem c (8 * d + q) row.toNat).map (fun bs =>
      s.dev.dieWrite s.mem d false ((s.dev.rdL (Reg.PHO_COEF_BASE d q)).toNat + 2112 * row.toNat) (taggedRow (8 * d + q) row.toNat
      bs))).getD s.mem ∧ t.dev.rdF (Reg.CAL_CMD_STAT d) F.CAL_CMD_STAT_RESULT = (if (setRow s.mem c (8 * d + q) row.toNat).isSome
      then 1 else 6)) ∧
    ((s.dev.power = 2 ∧ s.dev.inRun d q = false ∧ refValid s.mem (8 * d + q) = false) → ∃ t, exec (.refProg d (1#8 <<< q.val)) s =
      .next t ∧ t.mem = ((s.dev.dieRead s.mem d (s.dev.rd (Reg.CAL_REFSRC d)).toNat 0xC2000).map (fun bs => s.mem.flashWrite
      (refOff (8 * d + q)) bs)).getD s.mem ∧ t.dev.rdF (Reg.CAL_CMD_STAT d) F.CAL_CMD_STAT_RESULT = (if (s.dev.dieRead s.mem d
      (s.dev.rd (Reg.CAL_REFSRC d)).toNat 0xC2000).isSome then 1 else 6)) ∧
    ((s.dev.power ≠ 2) → ∃ t, exec (.refProg d (1#8 <<< q.val)) s = .next t ∧ t.mem = s.mem ∧ t.dev.rdF (Reg.CAL_CMD_STAT d)
      F.CAL_CMD_STAT_RESULT = 5) ∧
    ((s.dev.power = 2 ∧ s.dev.inRun d q = false) → ∃ t, exec (.refErase d (1#8 <<< q.val)) s = .next t ∧ t.mem = s.mem.flashErase
      (refOff (8 * d + q)) 0xC2000 ∧ t.dev.rdF (Reg.CAL_TSTAT d q) F.CAL_TSTAT_REF_OK = 0 ∧ t.dev.rdF (Reg.CAL_CMD_STAT d)
      F.CAL_CMD_STAT_RESULT = 1) ∧
    ((s.dev.power ≠ 2) → ∃ t, exec (.refErase d (1#8 <<< q.val)) s = .next t ∧ t.mem = s.mem ∧ t.dev.rdF (Reg.CAL_CMD_STAT d)
      F.CAL_CMD_STAT_RESULT = 5)

/-- PHOTO packets, evaluation and storing of a calibration run (R257, R258, R259, R260, R261, R264). -/
def Obligations.CalibrationRunsComplete : Prop :=
  ∀ (d : Die) (q : TileIx) (p : PhotoPkt) (r : Fin 4) (i : Fin 64) (s : State),
    ((s.dev.locked d q = true ∧ s.dev.photoDue d q p = true ∧ p.dark.length = 256 ∧ p.lit.length = 256) → ∃ t, exec (.photoRx d q
      p) s = .next t ∧ (t.dev.cal d q).slot = (s.dev.cal d q).slot + 1 ∧ (t.dev.cal d q).missed = 0 ∧ (t.dev.cal d q).await = false
      ∧ (t.dev.cal d q).meas.get (fun _ => 0) (512 * (s.photoPx d q p r (s.photoRow d q p r) i).1 + (s.photoPx d q p r (s.photoRow
      d q p r) i).2.1) = (s.photoPx d q p r (s.photoRow d q p r) i).2.2.2 ∧ t.mem.flash = s.mem.flash ∧ t.nv = s.nv) ∧
    ((s.dev.locked d q = false ∨ (s.dev.photoDue d q p = false ∧ p.dark.length = 256 ∧ p.lit.length = 256)) → ∃ t, exec (.photoRx d
      q p) s = .next t ∧ t = s) ∧
    ((((s.dev.cal d q).kind = 1 ∨ (s.dev.cal d q).kind = 2) ∧ 1024 ≤ (s.dev.cal d q).slot) → ∃ t, exec (.calEvalDone d q) s = .next
      t ∧ (t.dev.cal d q).kind = 0 ∧ t.dev.rdF (Reg.CAL_TSTAT d q) F.CAL_TSTAT_LAST = (if (s.dev.cal d q).kind = 2 then 4 else if
      (s.rejectWhy d q) ≠ 0 then 2 else 1) ∧ ((s.dev.cal d q).kind = 1 ∧ (s.rejectWhy d q) = 0 → t.dev.rd (Reg.PHO_COEF_BASE d q) =
      s.dev.rd (Reg.CAL_ALTBASE d q) &&& regMask (Reg.PHO_COEF_BASE d q) ∧ (t.dev.cal d q).storeDue = true ∧ t.dev.rdF
      (Reg.CAL_TSTAT d q) F.CAL_TSTAT_SET = 2) ∧ ((s.dev.cal d q).kind = 1 ∧ (s.rejectWhy d q) ≠ 0 → t.dev.rdF (Reg.CAL_TSTAT d q)
      F.CAL_TSTAT_WHY = (s.rejectWhy d q) ∧ t.mem = s.mem) ∧ ((s.dev.cal d q).kind = 2 → t.mem = s.mem)) ∧
    (((s.dev.cal d q).storeDue = true ∧ (s.dev.cal d q).storing = none) → ∃ t, exec (.calStoreStart d q) s = .next t ∧ (t.dev.cal d
      q).storing.map (fun x => x.copy) = some (if (s.dev.cal d q).govern = some 0 then 1 else 0) ∧ (t.dev.cal d q).storeDue = false
      ∧ t.mem = s.mem.flashErase (setOff (if (s.dev.cal d q).govern = some 0 then 1 else 0) (8 * d + q)) 0x104000) ∧
    (((s.dev.cal d q).storing.isSome = true) → ∃ t, exec (.calStoreDone d q true) s = .next t ∧ (t.dev.cal d q).storing = none ∧
      (t.dev.cal d q).govern = (s.dev.cal d q).storing.map (fun x => x.copy) ∧ (t.dev.cal d q).storeDue = (s.dev.cal d q).storeDue
      ∧ t.mem.dram = s.mem.dram) ∧
    (((s.dev.cal d q).storing.isSome = true) → ∃ t, exec (.calStoreDone d q false) s = .next t ∧ (t.dev.cal d q).storing = none ∧
      (t.dev.cal d q).govern = (s.dev.cal d q).govern ∧ t.mem = s.mem ∧ (t.dev.cal d q).storeDue = ((s.dev.cal d q).storeDue ||
      (s.dev.cal d q).storeTry == 0) ∧ (s.dev.rdB (Reg.CAL_FLT_STAT d + 4) B.CAL_STORE_FAIL = true → t.dev.rdB (Reg.CAL_FLT_STAT d)
      B.CAL_STORE_FAIL = true))

/-- Rounds, status frames of the power dies, stale readings, throttling and the ends of shutdowns (R22, R287, R270, R271, R272,
R280, R283, R277, R284, R288, R289). -/
def Obligations.ThermalManagementComplete : Prop :=
  ∀ (h : Hv) (f : StatusFrame) (k : Fin 18) (k2 : Fin 12) (rs : List (Nat × Int)) (sup : List Nat) (j : Fin 24) (q : Fin 16) (s : State),
    ((s.dev.senUsable (24 + 18 * h + k) = true) → ∃ t, exec (.statusFrameSend h) s = .next t ∧ t.dev.out = .status h ((highest
      (((List.range' (24 + 18 * h) 18).filter s.dev.senUsable).map (fun j => (s.dev.sen j).raw))).getD 0) ((hvStats h).map (fun x
      => (x, s.dev.rd x))) :: s.dev.out) ∧
    ((f.valid = true) → ∃ t, exec (.statusFrameRx h f) s = .next t ∧ (t.dev.statOf h).hot = some f.hot ∧ (t.dev.statOf h).stale =
      false ∧ t.dev.rdB (Reg.VSP_LINK_FLT_CAUSE) h = false ∧ (2160 ≤ f.hot ∧ 1 ≤ (s.dev.statOf h).over135 → t.dev.shutdownPresent =
      true ∧ (s.dev.shutdownPresent = false ∧ (s.dev.power = 2 ∨ s.dev.power = 3) → t.dev.power = 4 ∧ t.dev.safeSource 3 = true))) ∧
    ((f.valid = false) → ∃ t, exec (.statusFrameRx h f) s = .next t ∧ t = s) ∧
    (∃ t, exec (.mirrorStale h) s = .next t ∧ (t.dev.statOf h).stale = true ∧ t.dev.rdB (Reg.VSP_LINK_FLT_CAUSE) h = true ∧
      t.dev.mirror = s.dev.mirror) ∧
    ((s.dev.thmRuns = true) → ∃ t, exec (.slowRound rs sup) s = .next t ∧ (t.dev.sen k2).raw = (rs.lookup k2.val).getD (s.dev.sen
      k2).raw ∧ (t.dev.sen k2).pres = ((s.dev.sen k2).pres || (rs.lookup k2.val).isSome) ∧ t.dev.rd (Reg.VSP_HK j) = BitVec.ofNat
      32 (min 0xFFFF (sup.getD j 0)) &&& regMask (Reg.VSP_HK j) ∧ t.dev.rd Reg.VSP_HK_ROUNDS = s.dev.rd Reg.VSP_HK_ROUNDS + 1#32 ∧
      t.dev.rdF (Reg.THM_STAT 0) F.THM_STAT_LR = t.dev.requestedLevel ∧ t.dev.rdF (Reg.THM_STAT 0) F.THM_STAT_HELD = b2n
      t.dev.subsInUse ∧ (t.dev.enfNow = true → t.dev.lr ≤ t.dev.level)) ∧
    ((s.dev.thmRuns = true) → ∃ t, exec (.fastRound rs) s = .next t ∧ ((s.dev.autoFast false).inFast k2 = false → (t.dev.sen
      k2).raw = (s.dev.sen k2).raw ∧ (t.dev.sen k2).sub = (s.dev.sen k2).sub) ∧ t.dev.rd (Reg.VSP_HK j) = s.dev.rd (Reg.VSP_HK j) ∧
      t.dev.rd Reg.VSP_HK_ROUNDS = s.dev.rd Reg.VSP_HK_ROUNDS ∧ t.dev.rdF (Reg.THM_STAT 0) F.THM_STAT_LR = t.dev.requestedLevel ∧
      t.dev.rdF (Reg.THM_STAT 0) F.THM_STAT_HELD = b2n t.dev.subsInUse ∧ (t.dev.enfNow = true → t.dev.lr ≤ t.dev.level)) ∧
    ((s.dev.thmRuns = true ∧ (s.dev.lane (q / 8) (q % 8)).statusAt.isSome = true) → ∃ t, exec (.sensorStale q) s = .next t ∧
      (t.dev.lane (q / 8) (q % 8)).old = true ∧ (∀ y ∈ tileSens q, (s.dev.sen y).pres = true → (t.dev.sen y).stale = true ∧
      (t.dev.sen y).sub = none ∧ t.dev.rdF (Reg.THM_TILE 0 q) F.THM_TILE_STALE = 1 ∧ t.dev.rdB (Reg.THM_FLT_CAUSE 0) B.THM_STALE =
      true)) ∧
    ((s.dev.reqStands = true) → ∃ t, exec (.graceExpire) s = .next t ∧ t.dev.thm.graceOver = true ∧ (s.dev.level < s.dev.lr ∧
      s.dev.requestMet s.dev.lr = false → t.dev.level = s.dev.lr ∧ t.dev.reqStands = false)) ∧
    ((s.dev.lr < s.dev.level ∧ s.dev.subsInUse = false) → ∃ t, exec (.throttleRelease) s = .next t ∧ t.dev.level = s.dev.level - 1) ∧
    ((s.dev.subsInUse = true ∨ s.dev.level ≤ s.dev.lr) → ∃ t, exec (.throttleRelease) s = .next t ∧ t = s) ∧
    ((s.dev.rdF (Reg.THM_TILE 0 q) F.THM_TILE_SHUT = 1 ∧ (∃ y ∈ tileSens q, (s.dev.senValue y).isSome = true) ∧ (∀ y ∈ tileSens q,
      s.dev.senBelow y (s.dev.limits y).2.1 = true)) → ∃ t, exec (.tileShutEnd q) s = .next t ∧ t.dev.rdF (Reg.THM_TILE 0 q)
      F.THM_TILE_SHUT = 0) ∧
    ((s.dev.shutdownPresent = true ∧ s.dev.packageCool = true) → ∃ t, exec (.shutdownEnd) s = .next t ∧ t.dev.shutdownPresent =
      false ∧ t.dev.safeSource 3 = false ∧ t.dev.power = s.dev.power)

/-- Check-value units: commands, data and snoop windows (R294, R296, R300, R301, R292, R295, R298). -/
def Obligations.CrcUnitsComplete : Prop :=
  ∀ (d : Die) (u : Fin 8) (v : Word) (s : State),
    ((s.dev.inSlice d (crcBlock d u) = false) → ∃ t, exec (.crcInit d u) s = .next t ∧ t.dev.rd (Reg.CRC_VALUE d u) = BitVec.ofNat
      32 (s.dev.crcAlgOf d u).init ∧ t.dev.rd (Reg.CRC_CNT d u) = 0#32 ∧ t.dev.rdF (Reg.CRC_STAT d u) F.CRC_STAT_DONE = 0 ∧
      t.dev.rdF (Reg.CRC_STAT d u) F.CRC_STAT_MATCH = 0 ∧ t.dev.rdB (Reg.CRC_FLT_CAUSE d u) B.CRC_MISMATCH = false) ∧
    ((s.dev.inSlice d (crcBlock d u) = false) → ∃ t, exec (.crcCheck d u) s = .next t ∧ t.dev.rdF (Reg.CRC_STAT d u)
      F.CRC_STAT_DONE = 1 ∧ t.dev.rdF (Reg.CRC_STAT d u) F.CRC_STAT_MATCH = b2n (s.dev.crcResult d u == s.dev.rd (Reg.CRC_EXP d u))
      ∧ t.dev.rdB (Reg.CRC_FLT_CAUSE d u) B.CRC_MISMATCH = (s.dev.crcResult d u != s.dev.rd (Reg.CRC_EXP d u))) ∧
    ((s.dev.inSlice d (crcBlock d u) = false) → ∃ t, exec (.crcStop d u) s = .next t ∧ t.dev.rdF (Reg.CRC_STAT d u)
      F.CRC_STAT_ARMED = 0 ∧ (t.dev.crc d u).inWin = false ∧ t.dev.rd (Reg.CRC_VALUE d u) = s.dev.rd (Reg.CRC_VALUE d u)) ∧
    ((s.dev.inSlice d (crcBlock d u) = false ∧ (s.dev.crcArmed d u = false)) → ∃ t, exec (.crcValueWrite d u v) s = .next t ∧
      t.dev.rd (Reg.CRC_VALUE d u) = BitVec.ofNat 32 (v.toNat % 2 ^ (s.dev.crcAlgOf d u).w)) ∧
    ((s.dev.inSlice d (crcBlock d u) = false ∧ (s.dev.crcArmed d u = false)) → ∃ t, exec (.crcCtrlWrite d u v) s = .next t ∧
      t.dev.rd (Reg.CRC_CTRL d u) = v &&& regMask (Reg.CRC_CTRL d u)) ∧
    ((s.dev.inSlice d (crcBlock d u) = false ∧ (s.dev.rdF (Reg.CRC_CTRL d u) F.CRC_CTRL_SRC = 0)) → ∃ t, exec (.crcData8 d u v) s =
      .next t ∧ t.dev.rd (Reg.CRC_VALUE d u) = BitVec.ofNat 32 (crcBytes (s.dev.crcAlgOf d u) (s.dev.crcValue d u) (if s.dev.rdF
      (Reg.CRC_CTRL d u) F.CRC_CTRL_BYTEORD = 1 then (toLE 1 v.toNat).reverse else toLE 1 v.toNat)) ∧ t.dev.rd (Reg.CRC_CNT d u) =
      s.dev.rd (Reg.CRC_CNT d u) + 1#32) ∧
    ((s.dev.inSlice d (crcBlock d u) = false ∧ (s.dev.rdF (Reg.CRC_CTRL d u) F.CRC_CTRL_SRC = 0)) → ∃ t, exec (.crcData16 d u v) s
      = .next t ∧ t.dev.rd (Reg.CRC_VALUE d u) = BitVec.ofNat 32 (crcBytes (s.dev.crcAlgOf d u) (s.dev.crcValue d u) (if s.dev.rdF
      (Reg.CRC_CTRL d u) F.CRC_CTRL_BYTEORD = 1 then (toLE 2 v.toNat).reverse else toLE 2 v.toNat)) ∧ t.dev.rd (Reg.CRC_CNT d u) =
      s.dev.rd (Reg.CRC_CNT d u) + 2#32) ∧
    ((s.dev.inSlice d (crcBlock d u) = false ∧ (s.dev.rdF (Reg.CRC_CTRL d u) F.CRC_CTRL_SRC = 0)) → ∃ t, exec (.crcData32 d u v) s
      = .next t ∧ t.dev.rd (Reg.CRC_VALUE d u) = BitVec.ofNat 32 (crcBytes (s.dev.crcAlgOf d u) (s.dev.crcValue d u) (if s.dev.rdF
      (Reg.CRC_CTRL d u) F.CRC_CTRL_BYTEORD = 1 then (toLE 4 v.toNat).reverse else toLE 4 v.toNat)) ∧ t.dev.rd (Reg.CRC_CNT d u) =
      s.dev.rd (Reg.CRC_CNT d u) + 4#32) ∧
    ((s.dev.inSlice d (crcBlock d u) = false ∧ (s.dev.crcArmed d u = false ∧ s.dev.crcSourceOk d u = true ∧ s.dev.isHeld (crcBlock
      d u) = false)) → ∃ t, exec (.crcArm d u) s = .next t ∧ t.dev.rdF (Reg.CRC_STAT d u) F.CRC_STAT_ARMED = 1 ∧ (t.dev.crc d
      u).inWin = crcOpenAtArm (s.dev.rdF (Reg.CRC_CTRL d u) F.CRC_CTRL_SRC)) ∧
    ((s.dev.inSlice d (crcBlock d u) = false ∧ (s.dev.crcArmed d u = true ∧ crcOpenAtArm (s.dev.rdF (Reg.CRC_CTRL d u)
      F.CRC_CTRL_SRC) = true ∧ (s.dev.crc d u).inWin = true ∧ (s.dev.crc d u).missed = false)) → ∃ t, exec (.crcEnd d u) s = .next
      t ∧ t.dev.rdF (Reg.CRC_STAT d u) F.CRC_STAT_DONE = 1 ∧ t.dev.rdF (Reg.CRC_STAT d u) F.CRC_STAT_MATCH = b2n (s.dev.crcResult d
      u == s.dev.rd (Reg.CRC_EXP d u)) ∧ t.dev.rdF (Reg.CRC_STAT d u) F.CRC_STAT_ARMED = b2n (s.dev.rdF (Reg.CRC_CTRL d u)
      F.CRC_CTRL_AUTO == 1)) ∧
    ((s.dev.inSlice d (crcBlock d u) = false ∧ (s.dev.crcArmed d u = true ∧ (s.dev.crc d u).inWin = false ∧ s.dev.rdF (Reg.CRC_CTRL
      d u) F.CRC_CTRL_SRC = 1 ∧ (s.dev.rdF (Reg.CRC_CTRL d u) F.CRC_CTRL_SAMPLE = 0 ∨ (s.dev.rd (Reg.HEAD_FRAME d (s.dev.place d
      (s.dev.crcSel d u)).head)).toNat % 16 = s.dev.rdF (Reg.CRC_CTRL d u) F.CRC_CTRL_NPH))) → ∃ t, exec (.snoopWindowStart d u) s
      = .next t ∧ (t.dev.crc d u).inWin = true ∧ (t.dev.crc d u).first = true) ∧
    ((s.dev.inSlice d (crcBlock d u) = false ∧ (s.dev.crcArmed d u = true ∧ s.dev.rdF (Reg.CRC_CTRL d u) F.CRC_CTRL_SRC = 1 ∧
      (s.dev.crc d u).inWin = true ∧ (s.dev.crc d u).missed = false)) → ∃ t, exec (.snoopCompare d u true) s = .next t ∧ t.dev.rdF
      (Reg.CRC_STAT d u) F.CRC_STAT_DONE = 1 ∧ t.dev.rdF (Reg.CRC_STAT d u) F.CRC_STAT_MATCH = b2n (s.dev.crcResult d u == s.dev.rd
      (Reg.CRC_EXP d u))) ∧
    ((s.dev.inSlice d (crcBlock d u) = false ∧ (s.dev.crcArmed d u = true ∧ s.dev.rdF (Reg.CRC_CTRL d u) F.CRC_CTRL_SRC = 1 ∧
      (s.dev.crc d u).inWin = true)) → ∃ t, exec (.snoopCompare d u false) s = .next t ∧ t.dev.rdF (Reg.CRC_STAT d u)
      F.CRC_STAT_SKIPPED = min (s.dev.rdF (Reg.CRC_STAT d u) F.CRC_STAT_SKIPPED + 1) 65535)

/-- Writes to fault status and enable registers; EVT_N; the end of a mask; disputes (R304, R305, R308, R310, R311). -/
def Obligations.FaultRegistersComplete : Prop :=
  ∀ (a : Nat) (k : Fin 32) (v : Word) (w : BitVec 16) (u : DispUnit) (s : State),
    ((isFltStat a = true ∧ s.dev.reach a = true ∧ ((s.dev.regBlock a).all (fun p => !(s.dev.inSlice p.1 p.2))) = true) → ∃ t, exec
      (.fltStatClear a v) s = .next t ∧ ((bitOf v k = true ∧ s.dev.standing a k = false) → t.dev.rdB a k = false) ∧ ((bitOf v k =
      false ∨ s.dev.standing a k = true) ∧ bitOf (regMask a) k = true → t.dev.rdB a k = s.dev.rdB a k) ∧ (a < 0x3000000 → t.dev.out
      = s.dev.out)) ∧
    ((isFltStat a = false) → ∃ t, exec (.fltStatClear a v) s = .next t ∧ t = s) ∧
    ((isFltStat a = true ∧ s.dev.reach a = true ∧ ((s.dev.regBlock (a + 4)).all (fun p => !(s.dev.inSlice p.1 p.2))) = true) → ∃ t,
      exec (.fltEnWrite (a + 4) v) s = .next t ∧ t.dev.rd (a + 4) = v &&& regMask (a + 4) ∧ ((s.dev.rdB (a + 8) k = true ∧
      t.dev.rdB (a + 4) k = true ∧ bitOf (regMask a) k = true ∧ (watcherOf a k = none)) → t.dev.rdB a k = true)) ∧
    (∃ t, exec (.evtPulseEnd) s = .next t ∧ t.dev.flt.pulse = false ∧ t.dev.regs = s.dev.regs ∧ t.dev.evtPin = (s.dev.power != 0 &&
      s.dev.rdF Reg.VSP_EVT_HOLD F.VSP_EVT_HOLD_HOLD == 1)) ∧
    (∃ t, exec (.vspEvtHoldWrite v) s = .next t ∧ t.dev.rd Reg.VSP_EVT_HOLD = v &&& regMask Reg.VSP_EVT_HOLD) ∧
    (((∀ m ∈ s.dev.maskOn w.toNat, m.released = true) ∧ s.dev.inSlice (s.dev.engineDie (w.toNat / 0x1000)) w.toNat = false) → ∃ t,
      exec (.maskEnd w) s = .next t ∧ t.dev.maskOn w.toNat = none) ∧
    ((s.dev.flt.disputed.contains u = false ∧ s.dev.viewsDiffer u = true) → ∃ t, exec (.disputeTimeout u) s = .next t ∧
      t.dev.flt.disputed = u :: s.dev.flt.disputed ∧ t.dev.fltPin = (s.dev.power != 0)) ∧
    ((s.dev.flt.disputed.contains u = true ∧ s.dev.viewsAgree u = true) → ∃ t, exec (.disputeEnd u) s = .next t ∧
      t.dev.flt.disputed.contains u = false)

/-- Periodic and start-up self-test (R312, R313, R315, R316, R317, R318, R319). -/
def Obligations.SelfTestComplete : Prop :=
  ∀ (d : Die) (blk : BitVec 16) (len : BitVec 16) (sl : Slice) (failed : List (BitVec 16)) (k : Fin 4) (s : State),
    (((s.dev.power = 2 ∨ s.dev.power = 3) ∧ (s.dev.rdF (Reg.BIST_CTRL d) F.BIST_CTRL_EN ≠ 0 ∨ blk.toNat ∈ (s.dev.eng d).due) ∧
      (s.dev.eng d).slice = none ∧ s.dev.tests d blk.toNat = true ∧ s.dev.opportunity d blk.toNat ((s.dev.eng d).due.contains
      blk.toNat) = true) → ∃ t, exec (.bistSliceStart d blk len) s = .next t ∧ ((t.dev.eng d).slice.map (fun x => (x.block,
      x.len))) = some (blk.toNat, len.toNat) ∧ t.dev.rdF (Reg.BIST_STAT d) F.BIST_STAT_RUNNING = 1 ∧ t.dev.rdF (Reg.BIST_STAT d)
      F.BIST_STAT_BLOCK = blk.toNat ∧ blk.toNat ∉ (t.dev.eng d).due) ∧
    (((s.dev.power ≠ 2 ∧ s.dev.power ≠ 3 ∧ s.dev.power ≠ 4) ∨ (s.dev.eng d).slice.isSome = true ∨ s.dev.tests d blk.toNat = false)
      → ∃ t, exec (.bistSliceStart d blk len) s = .next t ∧ t = s) ∧
    (((s.dev.eng d).slice = some sl ∧ sl.len < 65536 ∧ sl.block < 65536 ∧ sl.retest = false) → ∃ t, exec (.bistSliceEnd d
      (BitVec.ofNat 16 sl.len) true true) s = .next t ∧ (t.dev.eng d).slice = none ∧ t.dev.rdF (Reg.BIST_RES d) F.BIST_RES_RESULT =
      0 ∧ t.dev.rdF (Reg.BIST_RES d) F.BIST_RES_DONE = 1 ∧ t.dev.rdF (Reg.BIST_RES d) F.BIST_RES_SIGOK = 1 ∧ t.dev.rdF
      (Reg.BIST_RES d) F.BIST_RES_BLOCK = sl.block) ∧
    (((s.dev.eng d).slice = some sl ∧ sl.len < 65536 ∧ sl.block < 65536 ∧ sl.saved = []) → ∃ t, exec (.bistSliceEnd d (BitVec.ofNat
      16 sl.len) true false) s = .next t ∧ t.dev.rdF (Reg.BIST_RES d) F.BIST_RES_RESULT = 1 ∧ t.dev.rdF (Reg.BIST_RES d)
      F.BIST_RES_SIGOK = 0 ∧ t.dev.rdF (Reg.BIST_RES d) F.BIST_RES_BLOCK = sl.block ∧ t.dev.rdB (Reg.BIST_FLT_STAT d + 8)
      B.BIST_SLICE_FAIL = true ∧ ((s.dev.heldList d).length < 16 → ((t.dev.heldList d).any (fun x => fget x F.BIST_HELD_BLOCK ==
      sl.block)) = true)) ∧
    (((s.dev.eng d).slice = some sl ∧ sl.block < 65536) → ∃ t, exec (.bistSliceEnd d len false true) s = .next t ∧ (t.dev.eng
      d).slice = none ∧ t.dev.rdF (Reg.BIST_RES d) F.BIST_RES_RESULT = 2 ∧ t.dev.rdF (Reg.BIST_RES d) F.BIST_RES_DONE = 0 ∧
      t.dev.rdF (Reg.BIST_RES d) F.BIST_RES_BLOCK = sl.block) ∧
    (((s.dev.eng d).slice = some sl ∧ sl.block < 65536 ∧ sliceYields sl.block = true ∧ ((sl.prio = false ∧ sl.retest = false) ∨
      sl.block / 0x100 % 0x10 = 0xA)) → ∃ t, exec (.bistSliceAbandon d) s = .next t ∧ (t.dev.eng d).slice = none ∧ t.dev.rdF
      (Reg.BIST_RES d) F.BIST_RES_RESULT = 2 ∧ t.dev.rdF (Reg.BIST_RES d) F.BIST_RES_REASON = 1 ∧ t.dev.rdF (Reg.BIST_RES d)
      F.BIST_RES_BLOCK = sl.block) ∧
    ((s.dev.tests d blk.toNat = true) → ∃ t, exec (.retest d blk) s = .next t ∧ blk.toNat ∈ (t.dev.eng d).due ∧ (t.dev.eng d).slice
      = (s.dev.eng d).slice) ∧
    (∃ t, exec (.cycleLate d) s = .next t ∧ t.dev.rdB (Reg.BIST_FLT_STAT d + 8) B.BIST_CYCLE_LATE = true) ∧
    ((s.dev.power = 1 ∧ s.dev.pwr.delivered = true ∧ s.dev.pwr.tested = false ∧ (∀ e ∈ List.range 2, (s.dev.drc e).trained = true))
      → ∃ t, exec (.startupSelftestDone failed) s = .next t ∧ t.dev.pwr.tested = true ∧ t.dev.power = 1 ∧ (blockId (d + 1) 4 k ∈
      failed.map BitVec.toNat → t.dev.pwr.barred = true ∧ t.dev.rdB (Reg.BIST_FLT_STAT d + 8) B.BIST_STARTUP_FAIL = true) ∧
      (t.dev.pwr.barred = true → t.dev.rdB Reg.VSP_PWR_FLT_CAUSE B.VSP_PWR_SELFTEST = true))

/-- BAR accesses, staging, resets of the function, and DMA rings (R295, R322, R323, R324, R325, R326, R327). -/
def Obligations.HostInterfaceComplete : Prop :=
  ∀ (off : Nat) (data : List Byte) (v : Word) (r : Fin 8) (k : PcieReset) (hd : Option (List Byte)) (s : State),
    ((s.dev.hostUp = true) → ∃ t, exec (.bar0AccessError off .oddRead) s = .next t ∧ t.dev.rdF Reg.PZP_PCIE_ERR
      F.PZP_PCIE_ERR_ERRCPL = satAdd 16 (s.dev.rdF Reg.PZP_PCIE_ERR F.PZP_PCIE_ERR_ERRCPL) 1 ∧ t.dev.rdF Reg.PZP_PCIE_ERR
      F.PZP_PCIE_ERR_DROPPED = s.dev.rdF Reg.PZP_PCIE_ERR F.PZP_PCIE_ERR_DROPPED) ∧
    ((s.dev.hostUp = true) → ∃ t, exec (.bar0AccessError off .failedWrite) s = .next t ∧ t.dev.rdF Reg.PZP_PCIE_ERR
      F.PZP_PCIE_ERR_DROPPED = satAdd 16 (s.dev.rdF Reg.PZP_PCIE_ERR F.PZP_PCIE_ERR_DROPPED) 1) ∧
    ((s.dev.hostUp = true) → ∃ t, exec (.bar0AccessError (Reg.CRC_DATA8 0 r) (.partialWrite 1#4 v)) s = .next t ∧ t.dev =
      s.dev.crcData 0 r 1 (v &&& 0xFF#32)) ∧
    ((s.dev.hostUp = true ∧ s.dev.stageBusy = false ∧ off + data.length ≤ 0x800000 ∧ off < 0x800000) → ∃ t, exec
      (.imageStagingWrite off data) s = .next t ∧ t.mem = s.dev.dieWrite s.mem 0 false (stageBase + off) data ∧ t.nv = s.nv) ∧
    ((s.dev.hostUp = true ∧ s.dev.stageBusy = true ∧ off < 0x800000) → ∃ t, exec (.imageStagingWrite off data) s = .next t ∧ t.mem
      = s.mem) ∧
    ((s.dev.hostUp = true ∧ off + data.length ≤ 0x10000) → ∃ t, exec (.imageStagingWrite (0x800000 + off) data) s = .next t ∧ t.mem
      = s.mem.ringWrite off data ∧ t.dev = s.dev) ∧
    ((s.dev.hostUp = true) → ∃ t, exec (.pcieFunctionReset k) s = .next t ∧ t.mem.ring = [] ∧ t.mem.dram = s.mem.dram ∧ t.dev.host
      = HostH.init ∧ t.dev.rd (Reg.PZP_DMA_CTRL r) = 0#32 ∧ t.dev.rd (Reg.PZP_DMA_TAIL r) = 0#32 ∧ t.dev.rd (Reg.PZP_DMA_HEAD r) =
      0#32 ∧ t.dev.rd (Reg.PZP_DMA_CNT r) = 0#32 ∧ (k = .linkLoss → t.dev.rd Reg.PZP_PCIE_STAT = 0#32)) ∧
    ((s.dev.hostUp = false) → ∃ t, exec (.pcieFunctionReset k) s = .next t ∧ t = s) ∧
    ((s.dev.hostUp = true) → ∃ t, exec (.dmaTailWrite r v) s = .next t ∧ (t.dev.host.dmaQ.filter (· == r.val)).length = ((v.toNat %
      256) + 256 - s.dev.rdF (Reg.PZP_DMA_HEAD r) F.PZP_DMA_HEAD_HEAD) % 256 ∧ t.dev.host.dmaQ.filter (· != r.val) =
      s.dev.host.dmaQ.filter (· != r.val) ∧ t.dev.rdF (Reg.PZP_DMA_TAIL r) F.PZP_DMA_TAIL_TAIL = v.toNat % 256) ∧
    ((s.dev.hostUp = true) → ∃ t, exec (.dmaCtrlWrite r v) s = .next t ∧ t.dev.rdF (Reg.PZP_DMA_CTRL r) F.PZP_DMA_CTRL_EN = v.toNat
      % 2 ∧ t.dev.host = s.dev.host) ∧
    ((s.dev.hostUp = true ∧ s.dev.dmaNext = some r.val) → ∃ t, exec (.dmaDescDone r hd) s = .next t ∧ t.dev.rdF (Reg.PZP_DMA_HEAD
      r) F.PZP_DMA_HEAD_HEAD = ((s.dev.rdF (Reg.PZP_DMA_HEAD r) F.PZP_DMA_HEAD_HEAD) + 1) % 256 ∧ t.dev.rdF (Reg.PZP_DMA_CNT r)
      F.PZP_DMA_CNT_DONE = (s.dev.rdF (Reg.PZP_DMA_CNT r) F.PZP_DMA_CNT_DONE + 1) % 65536 ∧ t.mem.ringRead r (32 * (s.dev.rdF
      (Reg.PZP_DMA_HEAD r) F.PZP_DMA_HEAD_HEAD) + 0x18) 4 = toLE 4 (1 + 2 * (s.dev.descErr (descOf (s.mem.ringRead r (32 *
      (s.dev.rdF (Reg.PZP_DMA_HEAD r) F.PZP_DMA_HEAD_HEAD)) 32)) hd)) ∧ t.mem.dram = (if (s.dev.descErr (descOf (s.mem.ringRead r
      (32 * (s.dev.rdF (Reg.PZP_DMA_HEAD r) F.PZP_DMA_HEAD_HEAD)) 32)) hd) = 0 then s.dev.descMove s.mem (descOf (s.mem.ringRead r
      (32 * (s.dev.rdF (Reg.PZP_DMA_HEAD r) F.PZP_DMA_HEAD_HEAD)) 32)) hd else s.mem).dram ∧ t.mem.host = (if (s.dev.descErr
      (descOf (s.mem.ringRead r (32 * (s.dev.rdF (Reg.PZP_DMA_HEAD r) F.PZP_DMA_HEAD_HEAD)) 32)) hd) = 0 then s.dev.descMove s.mem
      (descOf (s.mem.ringRead r (32 * (s.dev.rdF (Reg.PZP_DMA_HEAD r) F.PZP_DMA_HEAD_HEAD)) 32)) hd else s.mem).host ∧ t.mem.flash
      = s.mem.flash ∧ ((s.dev.descErr (descOf (s.mem.ringRead r (32 * (s.dev.rdF (Reg.PZP_DMA_HEAD r) F.PZP_DMA_HEAD_HEAD)) 32))
      hd) ≠ 0 → t.dev.rdF (Reg.PZP_DMA_CNT r) F.PZP_DMA_CNT_ERRORS = satAdd 16 (s.dev.rdF (Reg.PZP_DMA_CNT r) F.PZP_DMA_CNT_ERRORS)
      1) ∧ ((descOf (s.mem.ringRead r (32 * (s.dev.rdF (Reg.PZP_DMA_HEAD r) F.PZP_DMA_HEAD_HEAD)) 32)).irq = true → t.dev.out.head?
      = some (.msix (32 + r))) ∧ t.dev.host.dmaQ = s.dev.host.dmaQ.erase r.val) ∧
    ((s.dev.dmaNext ≠ some r.val ∨ s.dev.hostUp = false) → ∃ t, exec (.dmaDescDone r hd) s = .next t ∧ t = s)

/-- The safety SPI: NOP, READ, WRITE, SAFE_REQ, bad frames and the watchdog (R329, R330, R331). -/
def Obligations.SafetySpiComplete : Prop :=
  ∀ (q : Byte) (a : BitVec 24) (v : Word) (e : Nat) (bs : List Byte) (s : State),
    ((s.dev.spiOn = true) → ∃ t, exec (.spiNop q a v) s = .next t ∧ t.dev.rdF Reg.VSP_SPI_STAT F.VSP_SPI_STAT_LASTSEQ = q.toNat ∧
      .spi (s.dev.spiResponse.take 11) ∈ t.dev.out ∧ t.dev.spi.next = s.dev.spi.latest ∧ t.dev.spi.latest = s.dev.spi.latest) ∧
    ((s.dev.spiOn = true) → ∃ t, exec (.spiRead q a v) s = .next t ∧ t.dev.rdF Reg.VSP_SPI_STAT F.VSP_SPI_STAT_LASTSEQ = q.toNat ∧
      .spi (s.dev.spiResponse.take 11) ∈ t.dev.out ∧ ((((s.dev.spiBegin q.toNat).touchReg (4 * a.toNat)).readSpi (4 *
      a.toNat)).isSome = true → t.dev.spi.next = (0, spiBytes q.toNat a.toNat ((((s.dev.spiBegin q.toNat).touchReg (4 *
      a.toNat)).readSpi (4 * a.toNat)).getD 0#32).toNat)) ∧ ((((s.dev.spiBegin q.toNat).touchReg (4 * a.toNat)).readSpi (4 *
      a.toNat)) = none → t.dev.spi.next.1 = 3) ∧ t.dev.spi.latest = t.dev.spi.next ∧ t.mem = s.mem ∧ t.nv = s.nv) ∧
    ((s.dev.spiOn = true ∧ s.dev.rdF Reg.VSP_SPI_CFG F.VSP_SPI_CFG_SPI_RO = 1 ∧ isFltStat (4 * a.toNat) = false ∧ 4 * a.toNat ≠
      Reg.VSP_EVT_HOLD) → ∃ t, exec (.spiWrite q a v) s = .next t ∧ t.dev.rdF Reg.VSP_SPI_STAT F.VSP_SPI_STAT_LASTSEQ = q.toNat ∧
      t.dev.spi.next.1 = 5 ∧ t.mem = s.mem ∧ t.nv = s.nv) ∧
    ((s.dev.spiOn = true) → ∃ t, exec (.spiWrite q (BitVec.ofNat 24 (Reg.VSP_EVT_HOLD / 4)) v) s = .next t ∧ t.dev.rdF
      Reg.VSP_SPI_STAT F.VSP_SPI_STAT_LASTSEQ = q.toNat ∧ t.dev.spi.next.1 = 0 ∧ t.dev.rd Reg.VSP_EVT_HOLD = v &&& regMask
      Reg.VSP_EVT_HOLD ∧ t.mem = s.mem) ∧
    ((s.dev.spiOn = true) → ∃ t, exec (.safeReq q a 0x5AFE#32) s = .next t ∧ t.dev.rdF Reg.VSP_SPI_STAT F.VSP_SPI_STAT_LASTSEQ =
      q.toNat ∧ t.dev.spi.next.1 = 0 ∧ t.dev.safeSource 1 = true ∧ t.dev.rdB Reg.VSP_SPI_STAT 0 = true ∧ (s.dev.power = 2 ∨
      s.dev.power = 3 → t.dev.power = 4)) ∧
    ((s.dev.spiOn = true) → ∃ t, exec (.safeReq q a 0#32) s = .next t ∧ t.dev.rdF Reg.VSP_SPI_STAT F.VSP_SPI_STAT_LASTSEQ = q.toNat
      ∧ t.dev.spi.next.1 = 0 ∧ t.dev.safeSource 1 = false ∧ t.dev.rdB Reg.VSP_SPI_STAT 0 = false) ∧
    ((s.dev.spiOn = true ∧ v ≠ 0x5AFE#32 ∧ v ≠ 0#32) → ∃ t, exec (.safeReq q a v) s = .next t ∧ t.dev.rdF Reg.VSP_SPI_STAT
      F.VSP_SPI_STAT_LASTSEQ = q.toNat ∧ t.dev.spi.next.1 = 6) ∧
    ((s.dev.spiOn = true ∧ e ≠ 88) → ∃ t, exec (.spiBadFrame e bs) s = .next t ∧ t.dev.spi.next.1 = 6 ∧ t.dev.spi.latest =
      s.dev.spi.latest ∧ t.dev.rdF Reg.VSP_SPI_CNT F.VSP_SPI_CNT_CRCERR = satAdd 16 (s.dev.rdF Reg.VSP_SPI_CNT
      F.VSP_SPI_CNT_CRCERR) 1 ∧ t.mem = s.mem ∧ t.nv = s.nv) ∧
    ((s.dev.spiOn = true ∧ crc16 ((spiReceived 88 bs).take 9) ≠ beNat (slice (spiReceived 88 bs) 9 2)) → ∃ t, exec (.spiBadFrame 88
      bs) s = .next t ∧ t.dev.spi.next.1 = 2 ∧ t.dev.spi.latest = s.dev.spi.latest ∧ t.dev.rdF Reg.VSP_SPI_CNT F.VSP_SPI_CNT_CRCERR
      = satAdd 16 (s.dev.rdF Reg.VSP_SPI_CNT F.VSP_SPI_CNT_CRCERR) 1 ∧ t.mem = s.mem ∧ t.nv = s.nv) ∧
    (((s.dev.power = 2 ∨ s.dev.power = 3) ∧ s.dev.rdF Reg.VSP_SPI_CFG F.VSP_SPI_CFG_WDOG = 1) → ∃ t, exec (.spiWdogExpire) s =
      .next t ∧ t.dev.power = 4 ∧ t.dev.safeSource 1 = true ∧ t.dev.rdB Reg.VSP_SPI_STAT 1 = true) ∧
    (((s.dev.power ≠ 2 ∧ s.dev.power ≠ 3) ∨ s.dev.rdF Reg.VSP_SPI_CFG F.VSP_SPI_CFG_WDOG = 0) → ∃ t, exec (.spiWdogExpire) s =
      .next t ∧ t = s)

/-- Address claims, bus-off, lighting messages and diagnostics of the CAN ports (R333, R334, R332, R335, R336, R337). -/
def Obligations.IsobusComplete : Prop :=
  ∀ (p : Fin 2) (sa : Byte) (nm : BitVec 64) (fn : Nat) (z : Fin 2048) (pgn : BitVec 18) (c : Fin 64) (s : State),
    ((s.dev.portUp p = true ∧ (s.dev.rdF (Reg.PZP_CAN_STAT p) F.PZP_CAN_STAT_CLAIM = 1 ∨ s.dev.rdF (Reg.PZP_CAN_STAT p)
      F.PZP_CAN_STAT_CLAIM = 2) ∧ s.dev.rdF (Reg.PZP_CAN_STAT p) F.PZP_CAN_STAT_ADDR = sa.toNat ∧ sa ≠ 254#8 ∧ nm.toNat <
      (s.dev.can p).name) → ∃ t, exec (.addressClaimRx p sa nm) s = .next t ∧ ((t.dev.rdF (Reg.PZP_CAN_STAT p) F.PZP_CAN_STAT_CLAIM
      = 1 ∧ 128 ≤ t.dev.rdF (Reg.PZP_CAN_STAT p) F.PZP_CAN_STAT_ADDR ∧ t.dev.rdF (Reg.PZP_CAN_STAT p) F.PZP_CAN_STAT_ADDR < 248 ∧
      t.dev.rdF (Reg.PZP_CAN_STAT p) F.PZP_CAN_STAT_ADDR ≠ sa.toNat) ∨ (t.dev.rdF (Reg.PZP_CAN_STAT p) F.PZP_CAN_STAT_CLAIM = 3 ∧
      t.dev.rdF (Reg.PZP_CAN_STAT p) F.PZP_CAN_STAT_ADDR = 254))) ∧
    ((s.dev.portUp p = true ∧ (s.dev.rdF (Reg.PZP_CAN_STAT p) F.PZP_CAN_STAT_CLAIM = 1 ∨ s.dev.rdF (Reg.PZP_CAN_STAT p)
      F.PZP_CAN_STAT_CLAIM = 2) ∧ s.dev.rdF (Reg.PZP_CAN_STAT p) F.PZP_CAN_STAT_ADDR = sa.toNat ∧ (s.dev.can p).name < nm.toNat) →
      ∃ t, exec (.addressClaimRx p sa nm) s = .next t ∧ t.dev.out.head? = some (.can p (.claim sa.toNat (s.dev.can p).name)) ∧
      t.dev.rdF (Reg.PZP_CAN_STAT p) F.PZP_CAN_STAT_CLAIM = s.dev.rdF (Reg.PZP_CAN_STAT p) F.PZP_CAN_STAT_CLAIM ∧ t.dev.rdF
      (Reg.PZP_CAN_STAT p) F.PZP_CAN_STAT_ADDR = s.dev.rdF (Reg.PZP_CAN_STAT p) F.PZP_CAN_STAT_ADDR) ∧
    ((s.dev.portUp p = true ∧ s.dev.rdF (Reg.PZP_CAN_STAT p) F.PZP_CAN_STAT_ADDR ≠ sa.toNat ∧ sa ≠ 254#8) → ∃ t, exec
      (.addressClaimRx p sa nm) s = .next t ∧ t.dev.nameAt p sa.toNat = some nm.toNat ∧ t.dev.regs = s.dev.regs) ∧
    ((s.dev.portUp p = true ∧ s.dev.rdF (Reg.PZP_CAN_STAT p) F.PZP_CAN_STAT_CLAIM = 1) → ∃ t, exec (.addressClaimStands p) s =
      .next t ∧ t.dev.rdF (Reg.PZP_CAN_STAT p) F.PZP_CAN_STAT_CLAIM = 2 ∧ t.dev.rdF (Reg.PZP_CAN_STAT p) F.PZP_CAN_STAT_ADDR =
      s.dev.rdF (Reg.PZP_CAN_STAT p) F.PZP_CAN_STAT_ADDR ∧ t.dev.out.head? = some (.msix 41)) ∧
    ((s.dev.portUp p = true) → ∃ t, exec (.busoff p) s = .next t ∧ t.dev.rdF (Reg.PZP_CAN_STAT p) F.PZP_CAN_STAT_BUSOFF = 1 ∧
      t.dev.rdF (Reg.PZP_CAN_STAT p) F.PZP_CAN_STAT_CLAIM = 0 ∧ t.dev.rdB (Reg.PZP_FLT_STAT + 8) (busoffBit p) = true) ∧
    ((s.dev.canUp = true ∧ s.dev.portUp p = false) → ∃ t, exec (.busoffRecover p) s = .next t ∧ t.dev.rdF (Reg.PZP_CAN_STAT p)
      F.PZP_CAN_STAT_BUSOFF = 0 ∧ t.dev.rdF (Reg.PZP_CAN_STAT p) F.PZP_CAN_STAT_CLAIM = 1 ∧ t.dev.rdB (Reg.PZP_FLT_STAT + 8)
      (busoffBit p) = false) ∧
    ((s.dev.claimed p = true ∧ s.dev.nameAt p sa.toNat = some s.dev.cfg.zhead.tecu ∧ s.dev.cfg.zhead.lighting.find? (fun m => m.1
      == fn) = some (fn, z.val) ∧ s.dev.zoneUsed z = true ∧ (s.dev.zone z).classes.testBit 1 = true ∧ s.dev.roomFor 1024 z = true)
      → ∃ t, exec (.lightingCommandRx p sa [(fn, 1)]) s = .next t ∧ (∃ y ∈ t.dev.pzp.reqs, y.sess = 1024 ∧ y.zone = z.val ∧ y.level
      = 250) ∧ t.dev.rdB (Reg.PZP_FLT_STAT + 8) B.PZP_TECU_LOST = false) ∧
    ((s.dev.claimed p = false ∨ s.dev.nameAt p sa.toNat ≠ some s.dev.cfg.zhead.tecu) → ∃ t, exec (.lightingCommandRx p sa [(fn,
      1)]) s = .next t ∧ t = s) ∧
    ((s.dev.canUp = true) → ∃ t, exec (.tecuLost) s = .next t ∧ t.dev.pzp.reqs = s.dev.pzp.reqs.filter (fun y => y.sess != 1024) ∧
      t.dev.rdB (Reg.PZP_FLT_STAT + 8) B.PZP_TECU_LOST = true) ∧
    ((s.dev.claimed p = true) → ∃ t, exec (.lightingDataSend p) s = .next t ∧ .can p s.dev.lightingMsg ∈ t.dev.out ∧ t.dev.rdF
      (Reg.PZP_CAN_CNT p) F.PZP_CAN_CNT_TX = (s.dev.rdF (Reg.PZP_CAN_CNT p) F.PZP_CAN_CNT_TX + 1) % 65536) ∧
    ((s.dev.claimed p = true) → ∃ t, exec (.dm1Send p) s = .next t ∧ t.dev.out = .can p (s.dev.dm1Msg p) :: s.dev.out) ∧
    ((s.dev.portUp p = true) → ∃ t, exec (.dm3Rx p) s = .next t ∧ t.dev.flt.dm2 = s.dev.flt.dm2.filter (fun y => y.1 != p.val) ∧
      t.dev.regs = s.dev.regs) ∧
    ((s.dev.portUp p = true) → ∃ t, exec (.dm11Rx p) s = .next t ∧ (s.dev.clusterLatched c = true → (p.val, c.val) ∈
      t.dev.flt.cleared) ∧ t.dev.regs = s.dev.regs) ∧
    ((s.dev.claimed p = true) → ∃ t, exec (.pgnRequestRx p sa 65226#18 false) s = .next t ∧ .can p (s.dev.dm1Msg p) ∈ t.dev.out ∧
      t.dev.regs = s.dev.regs) ∧
    ((s.dev.claimed p = true ∧ pgn.toNat ∉ [60928, 65226, 65227, 65228, 65235, 65242, 64965, 64818, 65089]) → ∃ t, exec
      (.pgnRequestRx p sa pgn true) s = .next t ∧ t.dev.out = .can p (.negative sa.toNat pgn.toNat) :: s.dev.out)

/-- Sessions of the zone protocol: OPEN, CLOSE, KEEPALIVE, timeouts, lost NAMEs, tokens (R341, R342, R346). -/
def Obligations.ZoneSessionsComplete : Prop :=
  ∀ (p : Fin 2) (sa : Byte) (k : Fin 1024) (x : Sess) (cls : Byte) (tmo : Byte) (tag : BitVec 16) (s : State),
    ((s.dev.claimed p = true ∧ cls.toNat ≤ 3 ∧ 5 ≤ tmo.toNat ∧ tmo.toNat ≤ 100 ∧ (s.dev.nameAt p sa.toNat).isSome = true ∧
      s.dev.mayOpen ((s.dev.nameAt p sa.toNat).getD 0) cls.toNat = true ∧ (s.dev.pzp.sess.filter (fun y => y.2.any (fun u => u.name
      == (s.dev.nameAt p sa.toNat).getD 0))).length < 4 ∧ s.dev.freeSess = some k.val) → ∃ t, exec (.pzpOpen p sa cls tmo tag) s =
      .next t ∧ (t.dev.sess k = some
      { port := p, name := ((s.dev.nameAt p sa.toNat).getD 0), sa := sa.toNat, cls := cls.toNat, timeout := tmo.toNat, tag := tag.toNat, lost := false }
      ∧ t.dev.tokens k = 20 ∧ .can p (.zone sa.toNat (openAck 0 k cls.toNat tag.toNat)) ∈ t.dev.out)) ∧
    ((s.dev.claimed p = true ∧ (3 < cls.toNat ∨ tmo.toNat < 5 ∨ 100 < tmo.toNat)) → ∃ t, exec (.pzpOpen p sa cls tmo tag) s = .next
      t ∧ t.dev.pzp.sess = s.dev.pzp.sess ∧ .can p (.zone sa.toNat (openAck 7 0xFFFF cls.toNat tag.toNat)) ∈ t.dev.out) ∧
    ((s.dev.claimed p = true ∧ s.dev.sess k = some x ∧ x.port = p ∧ s.dev.nameAt p sa.toNat = some x.name ∧ 0 < s.dev.tokens k ∧ 0
      < s.dev.portTokens p) → ∃ t, exec (.pzpClose p sa (BitVec.ofNat 11 k)) s = .next t ∧ t.dev.sess k = none ∧ (∀ y ∈
      t.dev.pzp.reqs, y.sess ≠ k.val) ∧ .can p (.zone x.sa (closedMsg k 0)) ∈ t.dev.out) ∧
    ((s.dev.claimed p = true ∧ s.dev.sess k = some x ∧ x.port = p ∧ s.dev.nameAt p sa.toNat = some x.name ∧ 0 < s.dev.tokens k ∧ 0
      < s.dev.portTokens p) → ∃ t, exec (.pzpKeepalive p sa (BitVec.ofNat 11 k)) s = .next t ∧ (t.dev.tokens k = s.dev.tokens k - 1
      ∧ t.dev.portTokens p = s.dev.portTokens p - 1) ∧ t.dev.pzp.sess = s.dev.pzp.sess ∧ t.dev.pzp.reqs = s.dev.pzp.reqs) ∧
    ((s.dev.claimed p = true ∧ s.dev.sess k = none) → ∃ t, exec (.pzpKeepalive p sa (BitVec.ofNat 11 k)) s = .next t ∧
      t.dev.pzp.sess = s.dev.pzp.sess ∧ t.dev.pzp.reqs = s.dev.pzp.reqs ∧ t.dev.tokens k = s.dev.tokens k ∧ (s.dev.pzp.nackAt.get
      (fun _ => none) k = none → .can p (.zone sa.toNat (nackMsg 5 1 k 0xFFFF)) ∈ t.dev.out)) ∧
    ((s.dev.sess k = some x) → ∃ t, exec (.sessionTimeout k) s = .next t ∧ t.dev.sess k = none ∧ (∀ y ∈ t.dev.pzp.reqs, y.sess ≠
      k.val) ∧ t.dev.out.head? = some (.msix 40)) ∧
    ((s.dev.sess k = some x ∧ x.lost = true) → ∃ t, exec (.nameLost k) s = .next t ∧ t.dev.sess k = none ∧ (∀ y ∈ t.dev.pzp.reqs,
      y.sess ≠ k.val)) ∧
    (((s.dev.sess k).any (fun y => y.lost) = false) → ∃ t, exec (.nameLost k) s = .next t ∧ t = s) ∧
    (∃ t, exec (.tokenRefill none ⟨k, by omega⟩) s = .next t ∧ t.dev.tokens k = min 20 (s.dev.tokens k + 1) ∧ t.dev.regs =
      s.dev.regs) ∧
    (∃ t, exec (.tokenRefill (some p) 0) s = .next t ∧ t.dev.portTokens p = min 100 (s.dev.portTokens p + 1) ∧ t.dev.regs =
      s.dev.regs)

/-- Requests of the zone protocol: SET, SETRANGE, QUERY, PZP_HOST_SET and the latch of zones (R339, R341, R343, R344, R345). -/
def Obligations.ZoneRequestsComplete : Prop :=
  ∀ (p : Fin 2) (sa : Byte) (k : Fin 1024) (x : Sess) (z : Fin 2048) (lv : Byte) (n : Fin 8) (v : Word) (s : State),
    ((s.dev.claimed p = true ∧ s.dev.sess k = some x ∧ x.port = p ∧ s.dev.nameAt p sa.toNat = some x.name ∧ 0 < s.dev.tokens k ∧ 0
      < s.dev.portTokens p ∧ (s.dev.zoneUsed z = true ∧ (s.dev.zone z).classes.testBit x.cls = true) ∧ s.dev.roomFor k z = true ∧
      lv.toNat ≤ 250) → ∃ t, exec (.pzpSet p sa (BitVec.ofNat 11 k) (BitVec.ofNat 11 z) lv false) s = .next t ∧ (∃ y ∈
      t.dev.pzp.reqs, y.sess = k.val ∧ y.cls = x.cls ∧ y.zone = z.val ∧ y.level = lv.toNat) ∧ (t.dev.tokens k = s.dev.tokens k - 1
      ∧ t.dev.portTokens p = s.dev.portTokens p - 1)) ∧
    ((s.dev.claimed p = true ∧ s.dev.sess k = some x ∧ x.port = p ∧ s.dev.nameAt p sa.toNat = some x.name ∧ 0 < s.dev.tokens k ∧ 0
      < s.dev.portTokens p ∧ (s.dev.zoneUsed z = true ∧ (s.dev.zone z).classes.testBit x.cls = true)) → ∃ t, exec (.pzpSet p sa
      (BitVec.ofNat 11 k) (BitVec.ofNat 11 z) lv true) s = .next t ∧ ∀ y ∈ t.dev.pzp.reqs, y.sess = k.val → y.zone ≠ z.val) ∧
    ((s.dev.claimed p = true ∧ s.dev.sess k = some x ∧ x.port = p ∧ s.dev.nameAt p sa.toNat = some x.name ∧ 0 < s.dev.tokens k ∧ 0
      < s.dev.portTokens p ∧ 250 < lv.toNat) → ∃ t, exec (.pzpSet p sa (BitVec.ofNat 11 k) (BitVec.ofNat 11 z) lv false) s = .next
      t ∧ t.dev.pzp.reqs = s.dev.pzp.reqs) ∧
    ((s.dev.claimed p = true ∧ s.dev.sess k = some x ∧ x.port = p ∧ s.dev.nameAt p sa.toNat = some x.name ∧ 0 < s.dev.tokens k ∧ 0
      < s.dev.portTokens p ∧ lv.toNat ≤ 250 ∧ s.dev.pzp.reqs.length + 9 ≤ 8192 ∧ (s.dev.pzp.reqs.filter (fun y => y.sess ==
      k.val)).length + 9 ≤ 256) → ∃ t, exec (.pzpSetrange p sa (BitVec.ofNat 11 k) (BitVec.ofNat 11 z) (BitVec.ofNat 8 (n + 1)) lv
      false) s = .next t ∧ ∀ i : Fin 8, i ≤ n → (s.dev.zoneUsed (z + i) && (s.dev.zone (z + i)).classes.testBit x.cls) = true →
      t.dev.pzp.reqs.any (fun y => y == { sess := k, cls := x.cls, zone := z + i, level := lv.toNat }) = true) ∧
    ((s.dev.claimed p = true ∧ s.dev.sess k = some x ∧ x.port = p ∧ s.dev.nameAt p sa.toNat = some x.name ∧ 0 < s.dev.tokens k ∧ 0
      < s.dev.portTokens p ∧ s.dev.zoneUsed z = true) → ∃ t, exec (.pzpQuery p sa (BitVec.ofNat 11 k) (BitVec.ofNat 11 z)) s =
      .next t ∧ ∃ m ∈ t.dev.out, m = .can p (.zone sa.toNat (s.dev.zstateMsg k z))) ∧
    ((s.dev.hostUp = true ∧ 0 < s.dev.tokens 1025 ∧ fget v F.PZP_HOST_SET_LEVEL ≤ 250 ∧ fget v F.PZP_HOST_SET_WITHDRAW = 0 ∧ fget v
      F.PZP_HOST_SET_ZONE = z.val ∧ s.dev.cfg.zhead.hostClass ≤ fget v F.PZP_HOST_SET_CLASS ∧ s.dev.zoneUsed z = true ∧ (s.dev.zone
      z).classes.testBit (fget v F.PZP_HOST_SET_CLASS) = true ∧ s.dev.roomFor 1025 z = true) → ∃ t, exec (.pzpHostSet v) s = .next
      t ∧ t.dev.rdF Reg.PZP_HOST_RES F.PZP_HOST_RES_REASON = 0 ∧ (∃ y ∈ t.dev.pzp.reqs, y.sess = 1025 ∧ y.zone = z.val ∧ y.level =
      fget v F.PZP_HOST_SET_LEVEL)) ∧
    ((s.dev.hostUp = true ∧ 0 < s.dev.tokens 1025 ∧ fget v F.PZP_HOST_SET_LEVEL ≤ 250 ∧ fget v F.PZP_HOST_SET_CLASS <
      s.dev.cfg.zhead.hostClass) → ∃ t, exec (.pzpHostSet v) s = .next t ∧ t.dev.rdF Reg.PZP_HOST_RES F.PZP_HOST_RES_REASON = 2 ∧
      t.dev.pzp.reqs = s.dev.pzp.reqs) ∧
    ((s.dev.cfg.zhead.refhead = 0xFF ∧ s.dev.pwr.delivered = true ∧ s.dev.power ≠ 0) → ∃ t, exec (.zoneLatch) s = .next t ∧ z.val ∈
      s.dev.zonesOf 2 → t.dev.rd (Reg.PZP_ZONE z) = s.dev.zoneWord z &&& regMask (Reg.PZP_ZONE z)) ∧
    ((s.dev.cfg.zhead.refhead ≠ 0xFF ∨ s.dev.pwr.delivered = false ∨ s.dev.power = 0) → ∃ t, exec (.zoneLatch) s = .next t ∧ t = s)

/-- LIT, READY, SAFE, EXIT, SAFE_N and READY entry (R353, R355, R356, R358). -/
def Obligations.PowerStateCommandsComplete : Prop :=
  ∀ (d : Die) (n : Head) (s : State),
    ((s.dev.power = 2 ∧ s.dev.safeStands = false) → ∃ t, exec (.pwrLit) s = .next t ∧ t.dev.power = 3 ∧ t.dev.rdF Reg.VSP_PWR_STAT
      F.VSP_PWR_STAT_RESULT = 1 ∧ (s.dev.usedOn d n = true → (t.dev.half d n).armed = true)) ∧
    ((s.dev.power ≠ 2 ∨ s.dev.safeStands = true) → ∃ t, exec (.pwrLit) s = .next t ∧ t.dev.power = s.dev.power ∧ t.dev.rdF
      Reg.VSP_PWR_STAT F.VSP_PWR_STAT_RESULT = 2 ∧ t.dev.halves = s.dev.halves) ∧
    ((s.dev.power = 3) → ∃ t, exec (.pwrReady) s = .next t ∧ t.dev.power = 2 ∧ t.dev.rdF Reg.VSP_PWR_STAT F.VSP_PWR_STAT_RESULT = 1
      ∧ (s.dev.usedOn d n = true → (t.dev.half d n).composing = false ∧ (t.dev.half d n).armed = false)) ∧
    ((s.dev.power ≠ 3) → ∃ t, exec (.pwrReady) s = .next t ∧ t.dev.power = s.dev.power ∧ t.dev.rdF Reg.VSP_PWR_STAT
      F.VSP_PWR_STAT_RESULT = 2 ∧ t.dev.halves = s.dev.halves) ∧
    (∃ t, exec (.pwrSafe) s = .next t ∧ t.dev.power = (if s.dev.power = 2 ∨ s.dev.power = 3 then 4 else s.dev.power) ∧
      t.dev.safeSource 2 = true ∧ t.dev.rdF Reg.VSP_PWR_STAT F.VSP_PWR_STAT_RESULT = 1) ∧
    (∃ t, exec (.pwrExit) s = .next t ∧ t.dev.power = (if s.dev.power = 4 ∧ (s.dev.safeSourceEnd 2).safeStands = false then 2 else
      s.dev.power) ∧ t.dev.safeSource 2 = false ∧ t.dev.rdF Reg.VSP_PWR_STAT F.VSP_PWR_STAT_RESULT = 1) ∧
    (∃ t, exec (.safeN) s = .next t ∧ t.dev.pwr.safeN = true ∧ (s.dev.pwr.vbat ≠ 2 → t.dev.safeSource 0 = true ∧ t.dev.power = (if
      s.dev.power = 2 ∨ s.dev.power = 3 then 4 else s.dev.power))) ∧
    (∃ t, exec (.safeNRelease) s = .next t ∧ t.dev.pwr.safeN = false ∧ t.dev.safeSource 0 = false ∧ t.dev.power = s.dev.power) ∧
    ((s.dev.mayReady = true) → ∃ t, exec (.readyEntry) s = .next t ∧ t.dev.power = (if s.dev.safeStands then 4 else 2) ∧
      (s.dev.usedOn d n = true ∧ d.val ∉ s.dev.pwr.lost → (t.dev.half d n).running = true)) ∧
    ((s.dev.mayReady = false) → ∃ t, exec (.readyEntry) s = .next t ∧ t = s)

/-- Wake sources, warm reset and its release, and the return of VBAT (R349, R350, R359). -/
def Obligations.WakeAndResetComplete : Prop :=
  ∀ (a : Nat) (w : WakeSrc) (s : State),
    ((s.dev.power = 0 ∧ s.dev.pwr.vbat = 0 ∧ s.dev.rdF Reg.VSP_PWR_CFG F.VSP_PWR_CFG_WAKE_EN = 1) → ∃ t, exec (.wake .wakePin) s =
      .next t ∧ t.dev.power = 1 ∧ t.dev.rd Reg.VSP_WAKE_CAUSE = 3#32 ∧ t.mem = s.mem.drop ∧ t.nv = s.nv ∧ (0x1000000 ≤ a ∧ a <
      0x3000000 → t.dev.rd a = regReset a) ∧ t.dev.us = s.dev.us ∧ t.dev.pwr.wakePin = true) ∧
    ((s.dev.power = 0 ∧ s.dev.pwr.vbat = 0 ∧ s.dev.rdF Reg.VSP_PWR_CFG F.VSP_PWR_CFG_TMR_EN = 1 ∧ s.dev.rd Reg.VSP_WAKE_TMR ≠ 0#32)
      → ∃ t, exec (.wake .timer) s = .next t ∧ t.dev.power = 1 ∧ t.dev.rd Reg.VSP_WAKE_CAUSE = 9#32 ∧ t.mem = s.mem.drop ∧ t.nv =
      s.nv ∧ (0x1000000 ≤ a ∧ a < 0x3000000 → t.dev.rd a = regReset a) ∧ t.dev.us = s.dev.us) ∧
    ((s.dev.power = 0 ∧ s.dev.pwr.vbat = 0 ∧ s.dev.rdF Reg.VSP_PWR_CFG F.VSP_PWR_CFG_TMR_EN = 1 ∧ s.dev.rd Reg.VSP_WAKE_TMR ≠ 0#32)
      → ∃ t, exec (.wakeTimer) s = .next t ∧ t.dev.power = 1 ∧ t.dev.rd Reg.VSP_WAKE_CAUSE = 9#32 ∧ t.mem = s.mem.drop ∧ t.nv =
      s.nv ∧ (0x1000000 ≤ a ∧ a < 0x3000000 → t.dev.rd a = regReset a) ∧ t.dev.us = s.dev.us) ∧
    ((s.dev.power ≠ 0 ∨ s.dev.rdF Reg.VSP_PWR_CFG F.VSP_PWR_CFG_TMR_EN = 0) → ∃ t, exec (.wakeTimer) s = .next t ∧ t = s) ∧
    (∃ t, exec (.wakeSourceChange w false) s = .next t ∧ t.dev.power = s.dev.power ∧ t.mem = s.mem ∧ t.nv = s.nv ∧ (w = .wakePin →
      t.dev.pwr.wakePin = false) ∧ (w = .ign → t.dev.pwr.ign = false)) ∧
    ((s.dev.power = 0 ∧ s.dev.pwr.vbat = 0 ∧ s.dev.pwr.wakePin = false ∧ s.dev.rdF Reg.VSP_PWR_CFG F.VSP_PWR_CFG_IGN_EN = 1) → ∃ t,
      exec (.wakeSourceChange .ign true) s = .next t ∧ t.dev.power = 1 ∧ t.dev.rd Reg.VSP_WAKE_CAUSE = 5#32 ∧ t.mem = s.mem.drop ∧
      t.nv = s.nv ∧ (0x1000000 ≤ a ∧ a < 0x3000000 → t.dev.rd a = regReset a) ∧ t.dev.us = s.dev.us) ∧
    ((s.dev.power ≠ 0 ∧ s.dev.pwr.vbat ≠ 2) → ∃ t, exec (.warmReset) s = .next t ∧ t.dev.power = 1 ∧ t.dev.pwr.rstHeld = true ∧
      t.mem.dram = [] ∧ (∀ k : Fin 64, t.dev.sess k = none) ∧ (0x1000000 ≤ a ∧ a < 0x3000000 → t.dev.rd a = regReset a) ∧ t.dev.rd
      Reg.VSP_PWR_CFG = s.dev.rd Reg.VSP_PWR_CFG) ∧
    ((s.dev.power = 0 ∨ s.dev.pwr.vbat = 2) → ∃ t, exec (.warmReset) s = .next t ∧ t = s) ∧
    ((s.dev.power ≠ 0 ∧ s.dev.pwr.vbat ≠ 2 ∧ s.dev.pwr.rstHeld = false) → ∃ t, exec (.pwrWarm) s = .next t ∧ t.dev.power = 1 ∧
      t.dev.pwr.rstHeld = false ∧ t.mem.dram = [] ∧ (∀ k : Fin 64, t.dev.sess k = none) ∧ (0x1000000 ≤ a ∧ a < 0x3000000 → t.dev.rd
      a = regReset a) ∧ t.dev.rdF Reg.VSP_PWR_STAT F.VSP_PWR_STAT_RESULT = 1 ∧ t.dev.rd Reg.VSP_PWR_CFG = s.dev.rd Reg.VSP_PWR_CFG) ∧
    ((s.dev.pwr.rstHeld = true) → ∃ t, exec (.resetRelease) s = .next t ∧ t.dev.pwr.rstHeld = false ∧ t.dev.pwr.lost = [] ∧
      t.dev.rdF Reg.VSP_PWR_STAT F.VSP_PWR_STAT_STEP = (if s.dev.pwr.rails then 2 else 1) ∧ t.dev.power = s.dev.power) ∧
    ((s.dev.pwr.vbat = 2) → ∃ t, exec (.vbatReturn true) s = .next t ∧ t.dev.power = 1 ∧ t.dev.rd Reg.VSP_WAKE_CAUSE = 33#32 ∧
      t.mem = s.mem.drop ∧ t.nv = s.nv ∧ (0x1000000 ≤ a ∧ a < 0x3000000 → t.dev.rd a = regReset a) ∧ t.dev.us = s.dev.us ∧
      t.dev.pwr.vbat = 0)

/-- Entry to SLEEP, rails, clocks and supplies (R351, R352, R359, R371). -/
def Obligations.SleepAndSuppliesComplete : Prop :=
  ∀ (d : Die) (q : RailUnit) (s : State),
    ((s.dev.awakeHeld = false ∧ s.dev.pwr.sleep = 0 ∧ (s.dev.power = 2 ∨ s.dev.power = 3 ∨ s.dev.power = 4) ∧ s.dev.img.job = 0) →
      ∃ t, exec (.sleepEntry) s = .next t ∧ t.dev.pwr.sleep = 1 ∧ t.dev.power = (if s.dev.power = 3 then 2 else s.dev.power) ∧ t.nv
      = s.nv) ∧
    ((s.dev.awakeHeld = true ∨ s.dev.pwr.sleep ≠ 0) → ∃ t, exec (.sleepEntry) s = .next t ∧ t = s) ∧
    ((s.dev.pwr.sleep = 1 ∧ s.dev.storing = false) → ∃ t, exec (.sleepRailsOff) s = .next t ∧ t.dev.power = 0 ∧ t.mem.dram = [] ∧
      t.dev.pwr.rails = false ∧ t.dev.pwr.sleep = 0 ∧ t.nv.floor = s.nv.floor ∧ t.nv.keys = s.nv.keys) ∧
    ((s.dev.pwr.sleep = 0) → ∃ t, exec (.sleepRailsOff) s = .next t ∧ t = s) ∧
    ((s.dev.pwr.vbat = 0) → ∃ t, exec (.vbatLow) s = .next t ∧ t.dev.pwr.vbat = 1 ∧ t.dev.power = 0 ∧ (s.dev.power ≠ 0 → t.mem.dram
      = [])) ∧
    ((s.dev.pwr.vbat ≠ 2) → ∃ t, exec (.vbatLost) s = .next t ∧ t.dev.pwr.vbat = 2 ∧ t.dev.power = 0 ∧ t.mem.dram = [] ∧ t.nv.floor
      = s.nv.floor ∧ t.nv.keys = s.nv.keys ∧ t.dev.rd Reg.VSP_KEEP = regReset Reg.VSP_KEEP) ∧
    ((s.dev.power = 1 ∧ s.dev.pwr.rails = false ∧ 1 ≤ s.dev.pwr.pen ∧ s.dev.pwr.pen < 4) → ∃ t, exec (.railGroupEnable) s = .next t
      ∧ t.dev.pwr.pen = s.dev.pwr.pen + 1 ∧ t.dev.power = 1 ∧ t.mem = s.mem) ∧
    ((s.dev.power = 1 ∧ s.dev.pwr.rails = false ∧ 1 ≤ s.dev.pwr.pen) → ∃ t, exec (.railRetry) s = .next t ∧ t.dev.pwr.pen = 0 ∧
      t.dev.pwr.rails = false ∧ t.dev.power = (if s.dev.awakeHeld ∧ s.dev.pwr.tries < 3 then 1 else 0)) ∧
    ((s.dev.power = 1 ∧ s.dev.pwr.trims = true ∧ s.dev.pwr.pll = false ∧ s.dev.pwr.rstHeld = false) → ∃ t, exec (.corePllLock) s =
      .next t ∧ t.dev.pwr.pll = true ∧ (d.val ∉ s.dev.pwr.lost → t.dev.rdF (Reg.FAB_DIE_STAT d) F.FAB_DIE_STAT_SUP_UP = 1 ∧
      t.dev.rdF (Reg.DRC_CH_STAT d 0) F.DRC_CH_STAT_STATE = 1)) ∧
    ((s.dev.power ≠ 0 ∧ s.dev.pwr.rails = true) → ∃ t, exec (.railFault (.cd d)) s = .next t ∧ d.val ∈ t.dev.pwr.lost ∧ (s.dev.rdB
      (Reg.VSP_PWR_FLT_STAT + 4) B.VSP_PWR_RAIL = true → t.dev.rdB Reg.VSP_PWR_FLT_STAT B.VSP_PWR_RAIL = true)) ∧
    ((s.dev.power ≠ 0 ∧ s.dev.pwr.rails = true ∧ s.dev.chanRuns d 0 = true) → ∃ t, exec (.railFault (.dram d)) s = .next t ∧
      t.dev.chanRuns d 0 = false) ∧
    ((s.dev.power = 0 ∨ s.dev.pwr.rails = false) → ∃ t, exec (.railFault q) s = .next t ∧ t = s) ∧
    ((s.dev.pwr.vbat ≠ 2) → ∃ t, exec (.crystalFail) s = .next t ∧ t.dev.pwr.rc = true ∧ t.dev.rdB (Reg.VSP_PWR_FLT_STAT + 8)
      B.VSP_PWR_CLOCK = true)

/-- ADVANCE, PROVISION, UNLOCK, PROGSLOT, REVOKE, tamper detection and debug attempts (R361, R362, R363, R364, R365). -/
def Obligations.SecurityCommandsComplete : Prop :=
  ∀ (k : Fin 8) (det : Detector) (ri : RunImg) (s : State),
    ((s.dev.secUp = true ∧ s.nv.locked = false ∧ s.dev.img.running = some ri ∧ ri.trial = false ∧ ri.fallback = false ∧ ri.copy ≠
      2) → ∃ t, exec (.advance) s = .next t ∧ t.nv = { s.nv with floor := max s.nv.floor (min 64 ri.secver) } ∧ t.dev.rdF
      Reg.SEC_CMD_STAT F.SEC_CMD_STAT_RESULT = 1) ∧
    ((s.dev.secUp = true ∧ (s.nv.locked = true ∨ s.dev.img.running = none)) → ∃ t, exec (.advance) s = .next t ∧ t.nv = s.nv ∧
      t.dev.rdF Reg.SEC_CMD_STAT F.SEC_CMD_STAT_RESULT = (if s.nv.locked then 2 else 4)) ∧
    ((s.dev.secUp = true ∧ s.nv.locked = false) → ∃ t, exec (.provision) s = .next t ∧ t.nv.keys = ((if s.nv.blobOk s.staged then
      Config.gcmOpen Config.deviceKey (Config.provisionWrap s.staged).1 [] (Config.provisionWrap s.staged).2.1
      (Config.provisionWrap s.staged).2.2 else none).map (fun y => s.nv.keys.set (Config.provisionEntry s.staged % 16) (some
      y))).getD s.nv.keys ∧ t.dev.rdF Reg.SEC_CMD_STAT F.SEC_CMD_STAT_RESULT = (if (if s.nv.blobOk s.staged then Config.gcmOpen
      Config.deviceKey (Config.provisionWrap s.staged).1 [] (Config.provisionWrap s.staged).2.1 (Config.provisionWrap s.staged).2.2
      else none).isSome then 1 else 3) ∧ t.nv.floor = s.nv.floor ∧ t.nv.slots = s.nv.slots) ∧
    ((s.dev.secUp = true ∧ s.nv.locked = true) → ∃ t, exec (.provision) s = .next t ∧ t.nv = s.nv ∧ t.dev.rdF Reg.SEC_CMD_STAT
      F.SEC_CMD_STAT_RESULT = 2) ∧
    ((s.dev.secUp = true) → ∃ t, exec (.unlock) s = .next t ∧ t.nv = (if (s.nv.blobOk s.staged = true ∧ Config.unlockNonce s.staged
      = some (s.dev.rd Reg.SEC_NONCE).toNat) then { s.nv with locked := false } else s.nv) ∧ t.dev.rdF Reg.SEC_CMD_STAT
      F.SEC_CMD_STAT_RESULT = (if (s.nv.blobOk s.staged = true ∧ Config.unlockNonce s.staged = some (s.dev.rd Reg.SEC_NONCE).toNat)
      then 1 else 3)) ∧
    ((s.dev.secUp = true ∧ s.nv.locked = false ∧ s.dev.power = 2 ∧ k ≠ 0 ∧ k.val < s.nv.slots.length ∧ (s.nv.slots.getD k
      default).hash = none ∧ (s.nv.slots.getD k default).revoked = false) → ∃ t, exec (.progslot k) s = .next t ∧ (t.nv.slots.getD
      k default).hash = some (s.staged.take 32) ∧ (t.nv.slots.getD k default).revoked = false ∧ t.dev.rdF Reg.SEC_CMD_STAT
      F.SEC_CMD_STAT_RESULT = 1 ∧ t.nv.floor = s.nv.floor ∧ t.nv.keys = s.nv.keys) ∧
    ((s.dev.secUp = true ∧ (s.nv.locked = true ∨ s.dev.power ≠ 2 ∨ k = 0 ∨ (s.nv.slots.getD k default).hash.isSome = true ∨
      (s.nv.slots.getD k default).revoked = true)) → ∃ t, exec (.progslot k) s = .next t ∧ t.nv = s.nv ∧ t.dev.rdF Reg.SEC_CMD_STAT
      F.SEC_CMD_STAT_RESULT = (if s.nv.locked then 2 else if s.dev.power ≠ 2 then 4 else 5)) ∧
    ((s.dev.secUp = true ∧ k ≠ 0 ∧ s.dev.power = 2 ∧ s.dev.img.running = some ri ∧ ri.slot ≠ k.val ∧ s.nv.oemSlot ri.slot = true ∧
      k.val < s.nv.slots.length) → ∃ t, exec (.revoke k) s = .next t ∧ (t.nv.slots.getD k default).revoked = true ∧
      (t.nv.slots.getD k default).hash = (s.nv.slots.getD k default).hash ∧ t.dev.rdF Reg.SEC_CMD_STAT F.SEC_CMD_STAT_RESULT = 1 ∧
      t.nv.floor = s.nv.floor) ∧
    ((s.dev.secUp = true ∧ (k = 0 ∨ s.dev.power ≠ 2 ∨ s.dev.img.running = none ∨ (s.dev.img.running = some ri ∧ (ri.slot = k.val ∨
      s.nv.oemSlot ri.slot = false)))) → ∃ t, exec (.revoke k) s = .next t ∧ t.nv = s.nv ∧ t.dev.rdF Reg.SEC_CMD_STAT
      F.SEC_CMD_STAT_RESULT = (if k = 0 then 5 else 4)) ∧
    ((s.dev.pwr.vbat ≠ 2) → ∃ t, exec (.tamperDetect det) s = .next t ∧ t.nv.tampCount = min 65535 (s.nv.tampCount + 1) ∧
      t.nv.tampLast = detIdx det + 16 * s.nv.policyOf (detIdx det) ∧ t.nv.locked = (s.nv.locked || decide (1 ≤ s.nv.policyOf
      (detIdx det))) ∧ t.nv.keys = (if 2 ≤ s.nv.policyOf (detIdx det) then List.replicate 16 none else s.nv.keys) ∧ t.nv.floor =
      s.nv.floor) ∧
    ((s.dev.pwr.vbat ≠ 2 ∧ s.dev.pwr.debugFails < 3) → ∃ t, exec (.debugUnlockAttempt false) s = .next t ∧ t.nv = s.nv.tamper 4 ∧
      t.dev.pwr.debugFails = s.dev.pwr.debugFails + 1 ∧ (s.dev.pwr.debugFails = 2 → t.dev.rdF Reg.SEC_STAT F.SEC_STAT_DEBUG_LOCK =
      1)) ∧
    (∃ t, exec (.debugUnlockAttempt true) s = .next t ∧ t = s)

/-- Register writes: plain registers, commands in registers, read-only and missing registers, and the ends of BAR0 (R11, R13,
R17, R304, R313, R324). -/
def Obligations.RegisterWritesComplete : Prop :=
  ∀ (a : Nat) (v : Word) (d : Die) (u : Fin 8) (s : State),
    ((s.dev.hostUp = true ∧ s.dev.hostReach a = true ∧ a < 0x1000000 ∧ a ∉ [Reg.VSP_PWR_CMD, Reg.VSP_PWR_CFG, Reg.VSP_KEEP,
      Reg.VSP_IMG_UPD_CTRL, Reg.SEC_CMD] ∧ (regAt a).isSome = true ∧ (∀ y ∈ (regAt a).map Prod.fst, y.acc ≠ .ro) ∧ isFltStat a =
      false ∧ isFltStat (a - 4) = false) → ∃ t, exec (.registerWrite a v) s = .next t ∧ t.dev.rd a = v &&& regMask a ∧ t.mem =
      s.mem ∧ t.nv = s.nv ∧ t.dev.out = s.dev.out) ∧
    ((s.dev.hostUp = true ∧ s.dev.hostReach a = true ∧ 0x1000000 ≤ a ∧ a < 0x3000000 ∧ a % 0x1000000 < 0x40000 ∧ a % 0x1000 ∉ [4,
      0x34, 0x40, 0x64] ∧ (regAt a).isSome = true ∧ (∀ y ∈ (regAt a).map Prod.fst, y.acc ≠ .ro) ∧ isFltStat a = false ∧ isFltStat
      (a - 4) = false ∧ ((s.dev.regBlock a).all (fun y => !(s.dev.inSlice y.1 y.2))) = true) → ∃ t, exec (.registerWrite a v) s =
      .next t ∧ t.dev.rd a = v &&& regMask a ∧ t.mem = s.mem ∧ t.nv = s.nv) ∧
    ((s.dev.hostUp = true ∧ s.dev.hostReach (Reg.CAL_LIMITS d) = true) → ∃ t, exec (.registerWrite (Reg.CAL_LIMITS d) v) s = .next
      t ∧ t.dev.rd (Reg.CAL_LIMITS d) = v &&& regMask (Reg.CAL_LIMITS d) ∧ t.mem = s.mem ∧ t.nv = s.nv) ∧
    ((s.dev.hostUp = true ∧ s.dev.hostWay 0 = true) → ∃ t, exec (.registerWrite (Reg.THM_CFG 0) v) s = .next t ∧ t.dev.rd
      (Reg.THM_CFG 0) = v &&& regMask (Reg.THM_CFG 0) ∧ t.mem = s.mem ∧ t.nv = s.nv) ∧
    ((s.dev.hostUp = true ∧ s.dev.hostWay 0 = true) → ∃ t, exec (.registerWrite (Reg.PHO_BUDGET 0) v) s = .next t ∧ t.dev.rd
      (Reg.PHO_BUDGET 0) = v &&& regMask (Reg.PHO_BUDGET 0) ∧ t.mem = s.mem ∧ t.nv = s.nv) ∧
    ((s.dev.hostUp = true ∧ s.dev.hostReach a = true ∧ 0x3000000 ≤ a ∧ a < 0x3800000 ∧ a % 0x400000 ≠ 0x20100 ∧ ¬ (0x40 ≤ a %
      0x400000 ∧ a % 0x400000 < 0x50) ∧ (s.dev.hv (hvAt a)).resend = false ∧ ¬ (0x10000 ≤ a % 0x400000 ∧ a % 0x400000 < 0x11000) ∧
      (regAt a).isSome = true ∧ (∀ y ∈ (regAt a).map Prod.fst, y.acc ≠ .ro) ∧ isFltStat a = false ∧ isFltStat (a - 4) = false) → ∃
      t, exec (.registerWrite a v) s = .next t ∧ t.dev.rd a = v &&& regMask a ∧ t.mem = s.mem ∧ t.nv = s.nv) ∧
    ((s.dev.hostUp = true ∧ s.dev.hostReach Reg.VSP_PWR_CMD = true ∧ fget v F.VSP_PWR_CMD_CMD = 1) → ∃ t, exec (.registerWrite
      Reg.VSP_PWR_CMD v) s = .next t ∧ exec .pwrLit s = .next t) ∧
    ((s.dev.hostUp = true ∧ s.dev.hostReach Reg.SEC_CMD = true ∧ fget v F.SEC_CMD_CMD = 1) → ∃ t, exec (.registerWrite
      (Reg.SEC_CMD) v) s = .next t ∧ exec .advance s = .next t) ∧
    ((s.dev.hostUp = true ∧ s.dev.hostWay 0 = true ∧ fget v F.CAL_CMD_CMD = 1) → ∃ t, exec (.registerWrite (Reg.CAL_CMD 0) v) s =
      .next t ∧ exec (.calStart 0 (BitVec.ofNat 8 (fget v F.CAL_CMD_TILES))) s = .next t) ∧
    ((s.dev.hostUp = true ∧ s.dev.hostWay 0 = true ∧ fget v ⟨0, 3⟩ = 1 ∧ s.dev.inSlice 0 (crcBlock 0 u) = false) → ∃ t, exec
      (.registerWrite (Reg.CRC_CMD 0 u) v) s = .next t ∧ exec (.crcInit 0 u) s = .next t) ∧
    ((s.dev.hostUp = true ∧ s.dev.hostReach a = true ∧ isFltStat a = true ∧ a < 0x2000000) → ∃ t, exec (.registerWrite a v) s =
      .next t ∧ exec (.fltStatClear a v) s = .next t) ∧
    ((s.dev.hostUp = true ∧ s.dev.hostReach a = true ∧ a < 0x4000000 ∧ ((s.dev.regBlock a).all (fun y => !(s.dev.inSlice y.1 y.2)))
      = true ∧ isFltStat a = false ∧ isFltStat (a - 4) = false ∧ (∀ y ∈ (regAt a).map Prod.fst, y.acc = .ro)) → ∃ t, exec
      (.registerWrite a v) s = .next t ∧ t.dev.regs = s.dev.regs ∧ t.mem = s.mem ∧ t.nv = s.nv) ∧
    ((s.dev.hostUp = true ∧ a < 0x4000000 ∧ s.dev.hostReach a = false) → ∃ t, exec (.registerWrite a v) s = .next t ∧ t.dev.rdF
      Reg.PZP_PCIE_ERR F.PZP_PCIE_ERR_DROPPED = satAdd 16 (s.dev.rdF Reg.PZP_PCIE_ERR F.PZP_PCIE_ERR_DROPPED) 1 ∧ t.mem = s.mem ∧
      t.nv = s.nv) ∧
    ((s.dev.hostUp = false ∧ a < 0x4000000) → ∃ t, exec (.registerWrite a v) s = .next t ∧ t = s)

/-- Commands of a check-value unit touch that unit alone (R294, R296, R298, R300, R301, R305). -/
def Obligations.CheckUnitCommandsKeepOtherState : Prop :=
  ∀ (d : Die) (u : Fin 8) (v : Word) (bb : Bool) (c : Instr) (s t : State),
    c ∈ [.crcInit d u, .crcCheck d u, .crcArm d u, .crcStop d u, .crcEnd d u, .crcData8 d u v, .crcData16 d u v, .crcData32
      d u v, .crcValueWrite d u v, .crcCtrlWrite d u v, .snoopWindowStart d u, .snoopCompare d u bb] →
    s.dev.inSlice d (crcBlock d u) = false →
    exec c s = .next t →
      t.nv = s.nv ∧ t.mem = s.mem ∧ t.dev =
        { s.dev with regs := t.dev.regs, out := t.dev.out, flt := t.dev.flt, crcs := t.dev.crcs, dcs := t.dev.dcs, brgs := t.dev.brgs }
        ∧ s.dev.keepsOutside [(Reg.CRC_CTRL d u, 0x100), (Reg.VSP_EVT_HOLD, 4)] t.dev

/-- Correction, luminance and measurement commands touch their own units alone (R92, R104, R105, R108, R112, R115, R257, R305).
-/
def Obligations.CorrectionLuminanceAndCalibrationKeepOtherState : Prop :=
  ∀ (d : Die) (n : Head) (v : Word) (ti : TileIx) (rx : List Byte) (k : Fin 32) (k2 : Fin 64) (f : CeilField) (tiles : BitVec 8) (c : Instr) (s t : State),
    c ∈ [.headCorrHost d n v, .corrStale n, .imuRun rx, .imuOverrun, .imuOpWrite k v, .meshCopyDone d n, .budgetUpdate,
      .halfSumReport d n, .sumLost d n, .ceilWrite d k2 f v, .calStart d tiles, .calMeasure d tiles, .calAbort d tiles,
      .calSlotMissed d ti, .calHoldoffEnd d ti] →
    exec c s = .next t →
      t.nv = s.nv ∧ t.mem = s.mem ∧ t.dev =
        { s.dev with regs := t.dev.regs, out := t.dev.out, flt := t.dev.flt, halves := t.dev.halves, imu := t.dev.imu, bud := t.dev.bud, fresh := t.dev.fresh, cals := t.dev.cals, dcs := t.dev.dcs, brgs := t.dev.brgs }
        ∧ s.dev.keepsOutside [(0x104A000, 0x3000), (0x204A000, 0x3000), (0x1060000, 0x2000), (0x2060000, 0x2000),
        (0x1080000, 0x1000), (0x2080000, 0x1000), (Reg.VSP_EVT_HOLD, 4)] t.dev

/-- Commands of strings, boosts and matrix groups touch the power dies alone (R227, R232, R236, R240, R305, R310). -/
def Obligations.PowerDieCommandsKeepOtherState : Prop :=
  ∀ (ch : Chan) (h : Hv) (v : Word) (x : Sample) (vo : Nat) (vb : Nat) (bb : Bool) (gr : Fin 8) (c : Instr) (s t : State),
    c ∈ [.pwmPeriodStart ch, .bstHoldWrite h v, .headroomSample ch x, .boostTick h vo vb, .stringStarved ch, .stringRetry
      ch x, .boostOvp h, .boostOcp h bb, .boostUvlo h, .boostUvloRecover h vb, .boostPhase h bb, .mxRowSlot h gr, .mxSwap h
      v, .mxsyncEdge bb, .mxsyncLost h gr] →
    exec c s = .next t →
      t.nv = s.nv ∧ t.mem = s.mem ∧ t.dev =
        { s.dev with regs := t.dev.regs, out := t.dev.out, flt := t.dev.flt, chans := t.dev.chans, runs := t.dev.runs, groups := t.dev.groups, hvs := t.dev.hvs, dcs := t.dev.dcs, brgs := t.dev.brgs }
        ∧ s.dev.keepsOutside [(0x3000000, 0xC00000), (0x10B0000, 0x10000), (0x20B0000, 0x10000), (Reg.VSP_EVT_HOLD, 4)]
        t.dev

/-- Messages of the CAN ports and of zone sessions touch the host interface unit alone (R305, R333, R334, R335, R337, R341,
R342, R346). -/
def Obligations.CanCommandsKeepOtherState : Prop :=
  ∀ (p : Fin 2) (sa : Byte) (se : BitVec 11) (z : BitVec 11) (nm : BitVec 64) (fs : List (Nat × Fin 4)) (pgn : BitVec 18) (bb : Bool) (b : Byte) (b2 : Byte) (tg : BitVec 16) (sx : Fin 1024) (op : Option (Fin 2)) (sy : Fin 1026) (v : Word) (c : Instr) (s t : State),
    c ∈ [.addressClaimRx p sa nm, .addressClaimStands p, .busoff p, .busoffRecover p, .lightingCommandRx p sa fs,
      .tecuLost, .lightingDataSend p, .dm1Send p, .dm3Rx p, .dm11Rx p, .pgnRequestRx p sa pgn bb, .pzpOpen p sa b b2 tg,
      .pzpClose p sa se, .pzpSet p sa se z b bb, .pzpSetrange p sa se z b b2 bb, .pzpKeepalive p sa se, .pzpQuery p sa se
      z, .sessionTimeout sx, .nameLost sx, .tokenRefill op sy, .pzpHostSet v] →
    exec c s = .next t →
      t.nv = s.nv ∧ t.mem = s.mem ∧ t.dev =
        { s.dev with regs := t.dev.regs, out := t.dev.out, flt := t.dev.flt, pzp := t.dev.pzp, cans := t.dev.cans, dcs := t.dev.dcs, brgs := t.dev.brgs }
        ∧ s.dev.keepsOutside [(0x10E0000, 0x10000), (Reg.VSP_EVT_HOLD, 4)] t.dev

/-- Commands of the security unit and tamper detections touch that unit alone (R305, R361, R362, R363, R364, R365). -/
def Obligations.SecurityCommandsKeepOtherState : Prop :=
  ∀ (k : Fin 8) (det : Detector) (bb : Bool) (c : Instr) (s t : State),
    c ∈ [.advance, .provision, .unlock, .progslot k, .revoke k, .tamperDetect det, .debugUnlockAttempt bb] →
    exec c s = .next t →
      t.mem = s.mem ∧ t.dev =
        { s.dev with regs := t.dev.regs, out := t.dev.out, flt := t.dev.flt, fresh := t.dev.fresh, pwr := t.dev.pwr, dcs := t.dev.dcs, brgs := t.dev.brgs }
        ∧ s.dev.keepsOutside [(0x3C00000, 0x1000), (Reg.VSP_EVT_HOLD, 4)] t.dev

/-- Urgency, refresh and row protection touch the DRAM controller alone (R212, R216, R217, R218, R305). -/
def Obligations.DramCareKeepsOtherState : Prop :=
  ∀ (d : Die) (c2 : Fin 2) (id : Nat) (op : Option Byte) (c : Instr) (s t : State),
    c ∈ [.urgencyEscalate d id, .refreshDue d c2, .refreshIdleIssue d c2, .mr4Read d c2 op, .rhWindowEnd d c2] →
    (op = none → (s.dev.drcCh d c2).mr4Bad = 0) →
    exec c s = .next t →
      t.nv = s.nv ∧ t.mem = s.mem ∧ t.dev =
        { s.dev with regs := t.dev.regs, out := t.dev.out, flt := t.dev.flt, drcs := t.dev.drcs, drcChs := t.dev.drcChs, dcs := t.dev.dcs, brgs := t.dev.brgs }
        ∧ s.dev.keepsOutside [(Reg.DRC_STAT d, 0x10000), (Reg.VSP_EVT_HOLD, 4)] t.dev

/-- Writes of fault status and enable registers touch one triple alone (R304, R305, R308). -/
def Obligations.FaultWritesKeepOtherState : Prop :=
  ∀ (ad : Nat) (v : Word) (c : Instr) (s t : State),
    c ∈ [.fltStatClear ad v, .fltEnWrite ad v, .fltEnWrite (ad + 4) v, .evtPulseEnd, .vspEvtHoldWrite v] →
    (s.dev.eng 0).slice = none ∧ (s.dev.eng 1).slice = none →
    exec c s = .next t →
      t.nv = s.nv ∧ t.mem = s.mem ∧ t.dev =
        { s.dev with regs := t.dev.regs, out := t.dev.out, flt := t.dev.flt, dcs := t.dev.dcs, brgs := t.dev.brgs } ∧
        s.dev.keepsOutside [(ad - 4, 12), (Reg.VSP_EVT_HOLD, 4)] t.dev

/-- Lane commands touch the lanes of their die and what those carried (R157, R161, R165, R166, R168, R170, R171, R174, R203,
R300, R305, R310). -/
def Obligations.LaneCommandsKeepOtherState : Prop :=
  ∀ (d : Die) (n : LaneIx) (rx : RxSyms) (bits : Fin 16) (lc : LossCause) (q : Fin 3) (bb : Bool) (skp : Fin 9) (drift : Int) (v : Word) (mm : EyeTally) (al : List LossCause) (c : Instr) (s t : State),
    c ∈ [.trainingSetRx d n rx, .trainPhaseDone d n bb, .trainPhaseTimeout d n, .slip d n bits, .alignContinue d n,
      .retrain d n, .retrainFull d n, .laneEnable d n, .laneDisable d n, .laneRetry d n, .lossOfLock d n ⟨lc, al⟩,
      .quadPllLoss d q bb, .quadPllRelock d q, .fillerSetRx d n skp ⟨drift, rx, bb⟩, .fillerSend d n, .loopbackModeWrite d
      n v, .feLoopbackActive d n, .feLoopbackTimeout d n, .escanGo d n, .escanDone d n mm] →
    (s.dev.eng d).slice = none →
    exec c s = .next t →
      t.nv = s.nv ∧ t.mem = s.mem ∧ t.dev =
        { s.dev with regs := t.dev.regs, out := t.dev.out, flt := t.dev.flt, lanes := t.dev.lanes, ins := t.dev.ins, halves := t.dev.halves, crcs := t.dev.crcs, fresh := t.dev.fresh, dcs := t.dev.dcs, brgs := t.dev.brgs }
        ∧ s.dev.keepsOutside [(0x1010000 + 0x1000000 * d.val, 0x10000), (0x10A0000 + 0x1000000 * d.val, 0x10000),
        (0x10B0000 + 0x1000000 * d.val, 0x10000), (Reg.VSP_EVT_HOLD, 4)] t.dev

/-- Packets of tiles and inputs touch their lanes and what those carry (R181, R187, R192, R194, R198, R199, R202, R203, R305,
R311). -/
def Obligations.TileAndInputCommandsKeepOtherState : Prop :=
  ∀ (d : Die) (ti : TileIx) (n : LaneIx) (i : Fin 2) (p : StatusPkt) (rx : RxSyms) (c : Instr) (s t : State),
    c ∈ [.packetSend d ti, .cmdRetransmit d ti, .bringupTimeout d ti, .tileSilent d ti, .statusRx d ti p, .badPacketRx d n
      rx, .inStale d i, .srcstatPeriodic d i] →
    (s.dev.eng d).slice = none ∧ (Machine.packetBody (symsOf rx)).all (fun b => !bodyOk (decide (n.val < 8)) b) = true →
    exec c s = .next t →
      t.nv = s.nv ∧ t.mem = s.mem ∧ t.dev =
        { s.dev with regs := t.dev.regs, out := t.dev.out, flt := t.dev.flt, lanes := t.dev.lanes, ins := t.dev.ins, halves := t.dev.halves, crcs := t.dev.crcs, dcs := t.dev.dcs, brgs := t.dev.brgs }
        ∧ s.dev.keepsOutside [(0x1010000 + 0x1000000 * d.val, 0x10000), (0x1061000 + 0x1000000 * d.val, 0x1000), (0x10A0000
        + 0x1000000 * d.val, 0x10000), (0x10B0000 + 0x1000000 * d.val, 0x10000), (Reg.VSP_EVT_HOLD, 4)] t.dev
end

