-- ==== Sys2Proof/Laws/SMap.lean ====
section
/-! SUPPORT. Laws of sparse maps: what a map reads after a write, and that every operation keeps the canonical form. -/

namespace Sys2Proof.Machine

theorem SMap.get_put_same {α : Type} [DecidableEq α] (df : Nat → α) (m : SMap α) (k : Nat) (v : α) :
    (SMap.put df m k v).get df k = v := by
  induction m with
  | nil => by_cases h : v = df k <;> simp [SMap.put, SMap.get, h]
  | cons e m ih =>
    obtain ⟨j, w⟩ := e
    by_cases hj : k = j
    · by_cases h : v = df k
      · simpa [SMap.put, hj, h] using by simpa [hj, h] using ih
      · simp [SMap.put, SMap.get, hj, hj ▸ h]
    · by_cases hl : k < j ∧ v ≠ df k
      · simp [SMap.put, SMap.get, hj, hl]
      · simp [SMap.put, SMap.get, hj, hl, ih]

theorem SMap.get_put_other {α : Type} [DecidableEq α] (df : Nat → α) (m : SMap α) (k j : Nat) (v : α) (h : j ≠ k) :
    (SMap.put df m k v).get df j = m.get df j := by
  induction m with
  | nil => by_cases hv : v = df k <;> simp [SMap.put, SMap.get, hv, h]
  | cons e m ih =>
    obtain ⟨i, w⟩ := e
    by_cases hi : k = i
    · subst hi
      by_cases hv : v = df k
      · have hp : SMap.put df ((k, w) :: m) k v = SMap.put df m k v := by simp [SMap.put, hv]
        rw [hp, ih]; simp [SMap.get, h]
      · simp [SMap.put, SMap.get, hv, h]
    · by_cases hl : k < i ∧ v ≠ df k
      · simp [SMap.put, SMap.get, hi, hl, h]
      · simp [SMap.put, SMap.get, hi, hl, ih]

theorem SMap.get_put {α : Type} [DecidableEq α] (df : Nat → α) (m : SMap α) (k j : Nat) (v : α) :
    (SMap.put df m k v).get df j = if j = k then v else m.get df j := by
  by_cases h : j = k
  · subst h; simp [SMap.get_put_same]
  · simp [h, SMap.get_put_other]

theorem SMap.wfFrom_mono {α : Type} [DecidableEq α] (df : Nat → α) (m : SMap α) (a b : Nat) (h : a ≤ b)
    (w : SMap.wfFrom df b m = true) : SMap.wfFrom df a m = true := by
  cases m with
  | nil => rfl
  | cons e m =>
    obtain ⟨j, v⟩ := e
    simp only [SMap.wfFrom, Bool.and_eq_true, decide_eq_true_eq] at w ⊢
    exact ⟨⟨by omega, w.1.2⟩, w.2⟩

theorem SMap.wfFrom_put {α : Type} [DecidableEq α] (df : Nat → α) (m : SMap α) (lo k : Nat) (v : α) (h : lo ≤ k)
    (w : SMap.wfFrom df lo m = true) : SMap.wfFrom df lo (SMap.put df m k v) = true := by
  induction m generalizing lo with
  | nil => by_cases hv : v = df k <;> simp [SMap.put, SMap.wfFrom, hv, h]
  | cons e m ih =>
    obtain ⟨j, u⟩ := e
    simp only [SMap.wfFrom, Bool.and_eq_true, decide_eq_true_eq] at w
    obtain ⟨⟨hj, hu⟩, hm⟩ := w
    by_cases hk : k = j
    · subst hk
      by_cases hv : v = df k
      · have hp : SMap.put df ((k, u) :: m) k v = SMap.put df m k v := by simp [SMap.put, hv]
        rw [hp]
        exact ih lo h (SMap.wfFrom_mono df m lo (k + 1) (by omega) hm)
      · simp [SMap.put, SMap.wfFrom, hv, h, hm]
    · by_cases hl : k < j ∧ v ≠ df k
      · have hkj : k + 1 ≤ j := by omega
        simp [SMap.put, SMap.wfFrom, hk, hl, h, hu, hm, hkj]
      · by_cases hlt : k < j
        · have hv : v = df k := by
            by_contra hne; exact hl ⟨hlt, hne⟩
          have key : ∀ (l : SMap α) (b : Nat), k < b → SMap.wfFrom df b l = true → SMap.put df l k v = l := by
            intro l
            induction l with
            | nil => intro b _ _; simp [SMap.put, hv]
            | cons f l ihl =>
              intro b hb hw
              obtain ⟨i, x⟩ := f
              simp only [SMap.wfFrom, Bool.and_eq_true, decide_eq_true_eq] at hw
              have hi : k ≠ i := by omega
              simp [SMap.put, hi, hv]
              have := ihl (i + 1) (by omega) hw.2
              rwa [hv] at this
          have := key m (j + 1) (by omega) hm
          simp only [SMap.put, hk, hl, if_false, this]
          simp [SMap.wfFrom, hj, hu, hm]
        · simp only [SMap.put, hk, hl, if_false]
          have := ih (j + 1) (by omega) hm
          simp [SMap.wfFrom, hj, hu, this]

theorem SMap.wf_put {α : Type} [DecidableEq α] (df : Nat → α) (m : SMap α) (k : Nat) (v : α) (w : m.wf df = true) :
    (SMap.put df m k v).wf df = true := SMap.wfFrom_put df m 0 k v (Nat.zero_le k) w

theorem SMap.wfFrom_keep {α : Type} [DecidableEq α] (df : Nat → α) (p : Nat → Bool) (m : SMap α) (lo : Nat)
    (w : SMap.wfFrom df lo m = true) : SMap.wfFrom df lo (m.keep p) = true := by
  induction m generalizing lo with
  | nil => rfl
  | cons e m ih =>
    obtain ⟨j, v⟩ := e
    simp only [SMap.wfFrom, Bool.and_eq_true, decide_eq_true_eq] at w
    obtain ⟨⟨hj, hv⟩, hm⟩ := w
    by_cases hp : p j = true
    · have := ih (j + 1) hm
      simp only [SMap.keep] at this
      simp [SMap.keep, hp, SMap.wfFrom, hj, hv, this]
    · have := ih lo (SMap.wfFrom_mono df m lo (j + 1) (by omega) hm)
      simp only [SMap.keep] at this
      simp [SMap.keep, hp, this]

theorem SMap.wf_keep {α : Type} [DecidableEq α] (df : Nat → α) (p : Nat → Bool) (m : SMap α) (w : m.wf df = true) :
    (m.keep p).wf df = true := SMap.wfFrom_keep df p m 0 w

theorem SMap.get_keep {α : Type} (df : Nat → α) (p : Nat → Bool) (m : SMap α) (k : Nat) (h : p k = true) :
    (m.keep p).get df k = m.get df k := by
  induction m with
  | nil => rfl
  | cons e m ih =>
    obtain ⟨j, v⟩ := e
    simp only [SMap.keep] at ih
    by_cases hp : p j = true
    · simp [SMap.keep, hp, SMap.get, ih]
    · have hkj : k ≠ j := fun e => hp (e ▸ h)
      simp [SMap.keep, hp, SMap.get, ih, hkj]

theorem SMap.get_keep_not {α : Type} (df : Nat → α) (p : Nat → Bool) (m : SMap α) (k : Nat) (h : p k = false) :
    (m.keep p).get df k = df k := by
  induction m with
  | nil => rfl
  | cons e m ih =>
    obtain ⟨j, v⟩ := e
    simp only [SMap.keep] at ih
    by_cases hp : p j = true
    · have hkj : k ≠ j := fun e => by rw [e] at h; simp [h] at hp
      simp [SMap.keep, hp, SMap.get, ih, hkj]
    · simp [SMap.keep, hp, ih]

end Sys2Proof.Machine
end

