-- ==== Sys2Proof/Laws/Mems.lean ====
section
/-! SUPPORT. Laws of the memories: every operation keeps the canonical form, what a byte reads as after a store, and which memories
an operation leaves alone. -/

namespace Sys2Proof.Machine

/-! ## Bytes stored in a row -/

theorem putBytes_wf (df : Nat → Byte) (m : SMap Byte) (k : Nat) (bs : List Byte) (w : m.wf df = true) :
    (putBytes df m k bs).wf df = true := by
  induction bs generalizing m k with
  | nil => exact w
  | cons b bs ih => exact ih _ _ (SMap.wf_put df m k b w)

/-- A key outside the stored bytes reads as before. -/
theorem putBytes_get_outside (df : Nat → Byte) (m : SMap Byte) (k j : Nat) (bs : List Byte) (h : j < k ∨ k + bs.length ≤ j) :
    (putBytes df m k bs).get df j = m.get df j := by
  induction bs generalizing m k with
  | nil => rfl
  | cons b bs ih =>
    simp only [List.length_cons] at h
    rw [putBytes, ih _ _ (by omega), SMap.get_put_other _ _ _ _ _ (by omega)]

/-- A key inside the stored bytes reads as its byte. -/
theorem putBytes_get_inside (df : Nat → Byte) (m : SMap Byte) (k i : Nat) (bs : List Byte) (h : i < bs.length) :
    (putBytes df m k bs).get df (k + i) = bs.getD i 0#8 := by
  induction bs generalizing m k i with
  | nil => simp at h
  | cons b bs ih =>
    cases i with
    | zero => rw [putBytes, putBytes_get_outside _ _ _ _ _ (by omega)]; simp [SMap.get_put_same]
    | succ i =>
      have hi : i < bs.length := by simpa using h
      rw [putBytes, show k + (i + 1) = (k + 1) + i by omega, ih _ _ _ hi]; simp

/-! ## The four memories -/

/-- Canonical form, one memory at a time. -/
theorem Mems.wf_iff (m : Mems) : m.wf = true ↔
    m.dram.wf dramDefault = true ∧ m.flash.wf flashDefault = true ∧ m.host.wf dramDefault = true ∧ m.ring.wf dramDefault = true := by
  simp [Mems.wf, and_assoc]

theorem Mems.dramWrite_wf (m : Mems) (d a : Nat) (bs : List Byte) (w : m.wf = true) : (m.dramWrite d a bs).wf = true := by
  rw [Mems.wf_iff] at w ⊢
  exact ⟨putBytes_wf _ _ _ _ w.1, w.2⟩

theorem Mems.ringWrite_wf (m : Mems) (k : Nat) (bs : List Byte) (w : m.wf = true) : (m.ringWrite k bs).wf = true := by
  rw [Mems.wf_iff] at w ⊢
  exact ⟨w.1, w.2.1, w.2.2.1, putBytes_wf _ _ _ _ w.2.2.2⟩

theorem Mems.flashWrite_wf (m : Mems) (a : Nat) (bs : List Byte) (w : m.wf = true) : (m.flashWrite a bs).wf = true := by
  rw [Mems.wf_iff] at w ⊢
  exact ⟨w.1, putBytes_wf _ _ _ _ w.2.1, w.2.2⟩

theorem Mems.flashErase_wf (m : Mems) (a n : Nat) (w : m.wf = true) : (m.flashErase a n).wf = true := by
  rw [Mems.wf_iff] at w ⊢
  exact ⟨w.1, SMap.wf_keep _ (fun k => !(a ≤ k && k < a + n)) _ w.2.1, w.2.2⟩

theorem Mems.dropRing_wf (m : Mems) (w : m.wf = true) : ({ m with ring := [] } : Mems).wf = true := by
  rw [Mems.wf_iff] at w ⊢
  exact ⟨w.1, w.2.1, w.2.2.1, rfl⟩

theorem Mems.drop_eq_wf (m : Mems) (w : m.wf = true) : ({ m with dram := [], ring := [] } : Mems).wf = true := by
  rw [Mems.wf_iff] at w ⊢
  exact ⟨rfl, w.2.1, w.2.2.1, rfl⟩

theorem Mems.hostPut_wf (m : Mems) (k : Nat) (bs : List Byte) (w : m.wf = true) :
    ({ m with host := putBytes dramDefault m.host k bs } : Mems).wf = true := by
  rw [Mems.wf_iff] at w ⊢
  exact ⟨w.1, w.2.1, putBytes_wf _ _ _ _ w.2.2.1, w.2.2.2⟩

/-! ## Writes of a die -/

theorem Dev.dieWrite_wf (s : Dev) (m : Mems) (d : Nat) (st : Bool) (a : Nat) (bs : List Byte) (w : m.wf = true) :
    (s.dieWrite m d st a bs).wf = true := by
  induction bs generalizing m a with
  | nil => exact w
  | cons b bs ih =>
    rw [Dev.dieWrite]
    split
    · split
      · exact ih _ _ w
      · exact ih _ _ (Mems.dramWrite_wf _ _ _ _ w)
    · exact ih _ _ w

/-- A write of a die reaches no memory but the DRAM. -/
theorem Dev.dieWrite_others (s : Dev) (m : Mems) (d : Nat) (st : Bool) (a : Nat) (bs : List Byte) :
    s.dieWrite m d st a bs = { m with dram := (s.dieWrite m d st a bs).dram } := by
  induction bs generalizing m a with
  | nil => rfl
  | cons b bs ih =>
    rw [Dev.dieWrite]
    split
    · split
      · exact ih _ _
      · rw [ih]; rfl
    · exact ih _ _

/-- A key of the DRAM that no byte of the write maps to reads as before. -/
theorem Dev.dieWrite_outside (s : Dev) (m : Mems) (d : Nat) (st : Bool) (a : Nat) (bs : List Byte) (key : Nat)
    (h : ∀ i, i < bs.length → ∀ p, s.drcMap d (a + i) = .ok p → 2147483648 * p.1 + p.2 ≠ key) :
    (s.dieWrite m d st a bs).dram.get dramDefault key = m.dram.get dramDefault key := by
  induction bs generalizing m a with
  | nil => rfl
  | cons b bs ih =>
    have ht : ∀ i, i < bs.length → ∀ p, s.drcMap d (a + 1 + i) = .ok p → 2147483648 * p.1 + p.2 ≠ key := fun i hi p hp =>
      h (i + 1) (by simpa using hi) p (by rw [show a + (i + 1) = a + 1 + i by omega]; exact hp)
    rw [Dev.dieWrite]
    split
    · next e k hk =>
      have := h 0 (by simp) (e, k) (by simpa using hk)
      rw [ih _ _ ht]
      split
      · rfl
      · simp only [Mems.dramWrite, putBytes]
        exact SMap.get_put_other _ _ _ _ _ (fun c => this c.symm)
    · exact ih _ _ ht

theorem Dev.dieWrites_wf {α : Type} (s : Dev) (st : Bool) (f : α → Nat × Nat × List Byte) (l : List α) (m : Mems) (w : m.wf = true) :
    (l.foldl (fun m x => s.dieWrite m (f x).1 st (f x).2.1 (f x).2.2) m).wf = true := by
  induction l generalizing m with
  | nil => exact w
  | cons x l ih => exact ih _ (Dev.dieWrite_wf _ _ _ _ _ _ w)

/-- A row of writes of dies reaches no memory but the DRAM. -/
theorem Dev.dieWrites_others {α : Type} (s : Dev) (st : Bool) (f : α → Nat × Nat × List Byte) (l : List α) (m : Mems) :
    l.foldl (fun m x => s.dieWrite m (f x).1 st (f x).2.1 (f x).2.2) m =
      { m with dram := (l.foldl (fun m x => s.dieWrite m (f x).1 st (f x).2.1 (f x).2.2) m).dram } := by
  induction l generalizing m with
  | nil => rfl
  | cons x l ih =>
    rw [List.foldl_cons, ih, Dev.dieWrite_others s m]

theorem Dev.slotWrite_wf (s : Dev) (m : Mems) (e n slot off : Nat) (bs : List Byte) (w : m.wf = true) :
    (s.slotWrite m e n slot off bs).wf = true :=
  Dev.dieWrites_wf s true (fun d => (d, slotAddr n slot + off, bs.take (0x10000 - off))) (s.waysOf e n) m w

theorem Dev.slotWrite_others (s : Dev) (m : Mems) (e n slot off : Nat) (bs : List Byte) :
    s.slotWrite m e n slot off bs = { m with dram := (s.slotWrite m e n slot off bs).dram } :=
  Dev.dieWrites_others s true (fun d => (d, slotAddr n slot + off, bs.take (0x10000 - off))) (s.waysOf e n) m

theorem Dev.loadRows_wf (s : Dev) (m : Mems) (d g base : Nat) (rows : List (List Byte)) (w : m.wf = true) :
    (s.loadRows m d g base rows).wf = true := by
  unfold Dev.loadRows
  generalize (List.range 512).zip rows = l
  exact Dev.dieWrites_wf s false (fun e => (d, base + 2112 * e.1, taggedRow g e.1 e.2)) l m w

/-! ## A command on the device alone -/

/-- A command on the device answers a next state that keeps the queue, what the part holds, and the memories. -/
theorem State.onDev_keeps (s t : State) (f : Dev → Dev) (h : s.onDev f = .next t) :
    t.pending = s.pending ∧ t.nv = s.nv ∧ t.mem = s.mem := by
  have : { s with dev := f s.dev } = t := by simpa [State.onDev] using h
  subst this
  exact ⟨rfl, rfl, rfl⟩

end Sys2Proof.Machine
end

