-- ==== Sys2Proof/Laws/State.lean ====
section
/-! SUPPORT. One law for each field and each named update of the device: an update changes the field that it is for, and no other. -/

namespace Sys2Proof.Machine

@[simp] theorem Dev.wr_us (s : Dev) (a : Nat) (v : Word) : (s.wr a v).us = s.us := rfl
@[simp] theorem Dev.wr_fresh (s : Dev) (a : Nat) (v : Word) : (s.wr a v).fresh = s.fresh := rfl
@[simp] theorem Dev.wr_latched (s : Dev) (a : Nat) (v : Word) : (s.wr a v).latched = s.latched := rfl
@[simp] theorem Dev.wr_out (s : Dev) (a : Nat) (v : Word) : (s.wr a v).out = s.out := rfl
@[simp] theorem Dev.wr_flt (s : Dev) (a : Nat) (v : Word) : (s.wr a v).flt = s.flt := rfl
@[simp] theorem Dev.wr_crcs (s : Dev) (a : Nat) (v : Word) : (s.wr a v).crcs = s.crcs := rfl
@[simp] theorem Dev.wr_cfg (s : Dev) (a : Nat) (v : Word) : (s.wr a v).cfg = s.cfg := rfl
@[simp] theorem Dev.wr_lanes (s : Dev) (a : Nat) (v : Word) : (s.wr a v).lanes = s.lanes := rfl
@[simp] theorem Dev.wr_ins (s : Dev) (a : Nat) (v : Word) : (s.wr a v).ins = s.ins := rfl
@[simp] theorem Dev.wr_halves (s : Dev) (a : Nat) (v : Word) : (s.wr a v).halves = s.halves := rfl
@[simp] theorem Dev.wr_dies (s : Dev) (a : Nat) (v : Word) : (s.wr a v).dies = s.dies := rfl
@[simp] theorem Dev.wr_drcs (s : Dev) (a : Nat) (v : Word) : (s.wr a v).drcs = s.drcs := rfl
@[simp] theorem Dev.wr_drcChs (s : Dev) (a : Nat) (v : Word) : (s.wr a v).drcChs = s.drcChs := rfl
@[simp] theorem Dev.wr_spans (s : Dev) (a : Nat) (v : Word) : (s.wr a v).spans = s.spans := rfl
@[simp] theorem Dev.wr_coefs (s : Dev) (a : Nat) (v : Word) : (s.wr a v).coefs = s.coefs := rfl
@[simp] theorem Dev.wr_rows (s : Dev) (a : Nat) (v : Word) : (s.wr a v).rows = s.rows := rfl
@[simp] theorem Dev.wr_rasPoison (s : Dev) (a : Nat) (v : Word) : (s.wr a v).rasPoison = s.rasPoison := rfl
@[simp] theorem Dev.wr_ttemps (s : Dev) (a : Nat) (v : Word) : (s.wr a v).ttemps = s.ttemps := rfl
@[simp] theorem Dev.wr_imu (s : Dev) (a : Nat) (v : Word) : (s.wr a v).imu = s.imu := rfl
@[simp] theorem Dev.wr_bud (s : Dev) (a : Nat) (v : Word) : (s.wr a v).bud = s.bud := rfl
@[simp] theorem Dev.wr_bist (s : Dev) (a : Nat) (v : Word) : (s.wr a v).bist = s.bist := rfl
@[simp] theorem Dev.wr_cals (s : Dev) (a : Nat) (v : Word) : (s.wr a v).cals = s.cals := rfl
@[simp] theorem Dev.wr_chans (s : Dev) (a : Nat) (v : Word) : (s.wr a v).chans = s.chans := rfl
@[simp] theorem Dev.wr_runs (s : Dev) (a : Nat) (v : Word) : (s.wr a v).runs = s.runs := rfl
@[simp] theorem Dev.wr_groups (s : Dev) (a : Nat) (v : Word) : (s.wr a v).groups = s.groups := rfl
@[simp] theorem Dev.wr_hvs (s : Dev) (a : Nat) (v : Word) : (s.wr a v).hvs = s.hvs := rfl
@[simp] theorem Dev.wr_img (s : Dev) (a : Nat) (v : Word) : (s.wr a v).img = s.img := rfl
@[simp] theorem Dev.wr_rbs (s : Dev) (a : Nat) (v : Word) : (s.wr a v).rbs = s.rbs := rfl
@[simp] theorem Dev.wr_dcs (s : Dev) (a : Nat) (v : Word) : (s.wr a v).dcs = s.dcs := rfl
@[simp] theorem Dev.wr_brgs (s : Dev) (a : Nat) (v : Word) : (s.wr a v).brgs = s.brgs := rfl
@[simp] theorem Dev.wr_thm (s : Dev) (a : Nat) (v : Word) : (s.wr a v).thm = s.thm := rfl
@[simp] theorem Dev.wr_stat (s : Dev) (a : Nat) (v : Word) : (s.wr a v).stat = s.stat := rfl
@[simp] theorem Dev.wr_mirror (s : Dev) (a : Nat) (v : Word) : (s.wr a v).mirror = s.mirror := rfl
@[simp] theorem Dev.wr_host (s : Dev) (a : Nat) (v : Word) : (s.wr a v).host = s.host := rfl
@[simp] theorem Dev.wr_spi (s : Dev) (a : Nat) (v : Word) : (s.wr a v).spi = s.spi := rfl
@[simp] theorem Dev.wr_cans (s : Dev) (a : Nat) (v : Word) : (s.wr a v).cans = s.cans := rfl
@[simp] theorem Dev.wr_pzp (s : Dev) (a : Nat) (v : Word) : (s.wr a v).pzp = s.pzp := rfl
@[simp] theorem Dev.wr_pwr (s : Dev) (a : Nat) (v : Word) : (s.wr a v).pwr = s.pwr := rfl

@[simp] theorem Dev.latch_us (s : Dev) (a : Nat) : (s.latch a).us = s.us := rfl
@[simp] theorem Dev.latch_fresh (s : Dev) (a : Nat) : (s.latch a).fresh = s.fresh := rfl
@[simp] theorem Dev.latch_regs (s : Dev) (a : Nat) : (s.latch a).regs = s.regs := rfl
@[simp] theorem Dev.latch_out (s : Dev) (a : Nat) : (s.latch a).out = s.out := rfl
@[simp] theorem Dev.latch_flt (s : Dev) (a : Nat) : (s.latch a).flt = s.flt := rfl
@[simp] theorem Dev.latch_crcs (s : Dev) (a : Nat) : (s.latch a).crcs = s.crcs := rfl
@[simp] theorem Dev.latch_cfg (s : Dev) (a : Nat) : (s.latch a).cfg = s.cfg := rfl
@[simp] theorem Dev.latch_lanes (s : Dev) (a : Nat) : (s.latch a).lanes = s.lanes := rfl
@[simp] theorem Dev.latch_ins (s : Dev) (a : Nat) : (s.latch a).ins = s.ins := rfl
@[simp] theorem Dev.latch_halves (s : Dev) (a : Nat) : (s.latch a).halves = s.halves := rfl
@[simp] theorem Dev.latch_dies (s : Dev) (a : Nat) : (s.latch a).dies = s.dies := rfl
@[simp] theorem Dev.latch_drcs (s : Dev) (a : Nat) : (s.latch a).drcs = s.drcs := rfl
@[simp] theorem Dev.latch_drcChs (s : Dev) (a : Nat) : (s.latch a).drcChs = s.drcChs := rfl
@[simp] theorem Dev.latch_spans (s : Dev) (a : Nat) : (s.latch a).spans = s.spans := rfl
@[simp] theorem Dev.latch_coefs (s : Dev) (a : Nat) : (s.latch a).coefs = s.coefs := rfl
@[simp] theorem Dev.latch_rows (s : Dev) (a : Nat) : (s.latch a).rows = s.rows := rfl
@[simp] theorem Dev.latch_rasPoison (s : Dev) (a : Nat) : (s.latch a).rasPoison = s.rasPoison := rfl
@[simp] theorem Dev.latch_ttemps (s : Dev) (a : Nat) : (s.latch a).ttemps = s.ttemps := rfl
@[simp] theorem Dev.latch_imu (s : Dev) (a : Nat) : (s.latch a).imu = s.imu := rfl
@[simp] theorem Dev.latch_bud (s : Dev) (a : Nat) : (s.latch a).bud = s.bud := rfl
@[simp] theorem Dev.latch_bist (s : Dev) (a : Nat) : (s.latch a).bist = s.bist := rfl
@[simp] theorem Dev.latch_cals (s : Dev) (a : Nat) : (s.latch a).cals = s.cals := rfl
@[simp] theorem Dev.latch_chans (s : Dev) (a : Nat) : (s.latch a).chans = s.chans := rfl
@[simp] theorem Dev.latch_runs (s : Dev) (a : Nat) : (s.latch a).runs = s.runs := rfl
@[simp] theorem Dev.latch_groups (s : Dev) (a : Nat) : (s.latch a).groups = s.groups := rfl
@[simp] theorem Dev.latch_hvs (s : Dev) (a : Nat) : (s.latch a).hvs = s.hvs := rfl
@[simp] theorem Dev.latch_img (s : Dev) (a : Nat) : (s.latch a).img = s.img := rfl
@[simp] theorem Dev.latch_rbs (s : Dev) (a : Nat) : (s.latch a).rbs = s.rbs := rfl
@[simp] theorem Dev.latch_dcs (s : Dev) (a : Nat) : (s.latch a).dcs = s.dcs := rfl
@[simp] theorem Dev.latch_brgs (s : Dev) (a : Nat) : (s.latch a).brgs = s.brgs := rfl
@[simp] theorem Dev.latch_thm (s : Dev) (a : Nat) : (s.latch a).thm = s.thm := rfl
@[simp] theorem Dev.latch_stat (s : Dev) (a : Nat) : (s.latch a).stat = s.stat := rfl
@[simp] theorem Dev.latch_mirror (s : Dev) (a : Nat) : (s.latch a).mirror = s.mirror := rfl
@[simp] theorem Dev.latch_host (s : Dev) (a : Nat) : (s.latch a).host = s.host := rfl
@[simp] theorem Dev.latch_spi (s : Dev) (a : Nat) : (s.latch a).spi = s.spi := rfl
@[simp] theorem Dev.latch_cans (s : Dev) (a : Nat) : (s.latch a).cans = s.cans := rfl
@[simp] theorem Dev.latch_pzp (s : Dev) (a : Nat) : (s.latch a).pzp = s.pzp := rfl
@[simp] theorem Dev.latch_pwr (s : Dev) (a : Nat) : (s.latch a).pwr = s.pwr := rfl

@[simp] theorem Dev.emit_us (s : Dev) (m : OutMsg) : (s.emit m).us = s.us := rfl
@[simp] theorem Dev.emit_fresh (s : Dev) (m : OutMsg) : (s.emit m).fresh = s.fresh := rfl
@[simp] theorem Dev.emit_regs (s : Dev) (m : OutMsg) : (s.emit m).regs = s.regs := rfl
@[simp] theorem Dev.emit_latched (s : Dev) (m : OutMsg) : (s.emit m).latched = s.latched := rfl
@[simp] theorem Dev.emit_flt (s : Dev) (m : OutMsg) : (s.emit m).flt = s.flt := rfl
@[simp] theorem Dev.emit_crcs (s : Dev) (m : OutMsg) : (s.emit m).crcs = s.crcs := rfl
@[simp] theorem Dev.emit_cfg (s : Dev) (m : OutMsg) : (s.emit m).cfg = s.cfg := rfl
@[simp] theorem Dev.emit_lanes (s : Dev) (m : OutMsg) : (s.emit m).lanes = s.lanes := rfl
@[simp] theorem Dev.emit_ins (s : Dev) (m : OutMsg) : (s.emit m).ins = s.ins := rfl
@[simp] theorem Dev.emit_halves (s : Dev) (m : OutMsg) : (s.emit m).halves = s.halves := rfl
@[simp] theorem Dev.emit_dies (s : Dev) (m : OutMsg) : (s.emit m).dies = s.dies := rfl
@[simp] theorem Dev.emit_drcs (s : Dev) (m : OutMsg) : (s.emit m).drcs = s.drcs := rfl
@[simp] theorem Dev.emit_drcChs (s : Dev) (m : OutMsg) : (s.emit m).drcChs = s.drcChs := rfl
@[simp] theorem Dev.emit_spans (s : Dev) (m : OutMsg) : (s.emit m).spans = s.spans := rfl
@[simp] theorem Dev.emit_coefs (s : Dev) (m : OutMsg) : (s.emit m).coefs = s.coefs := rfl
@[simp] theorem Dev.emit_rows (s : Dev) (m : OutMsg) : (s.emit m).rows = s.rows := rfl
@[simp] theorem Dev.emit_rasPoison (s : Dev) (m : OutMsg) : (s.emit m).rasPoison = s.rasPoison := rfl
@[simp] theorem Dev.emit_ttemps (s : Dev) (m : OutMsg) : (s.emit m).ttemps = s.ttemps := rfl
@[simp] theorem Dev.emit_imu (s : Dev) (m : OutMsg) : (s.emit m).imu = s.imu := rfl
@[simp] theorem Dev.emit_bud (s : Dev) (m : OutMsg) : (s.emit m).bud = s.bud := rfl
@[simp] theorem Dev.emit_bist (s : Dev) (m : OutMsg) : (s.emit m).bist = s.bist := rfl
@[simp] theorem Dev.emit_cals (s : Dev) (m : OutMsg) : (s.emit m).cals = s.cals := rfl
@[simp] theorem Dev.emit_chans (s : Dev) (m : OutMsg) : (s.emit m).chans = s.chans := rfl
@[simp] theorem Dev.emit_runs (s : Dev) (m : OutMsg) : (s.emit m).runs = s.runs := rfl
@[simp] theorem Dev.emit_groups (s : Dev) (m : OutMsg) : (s.emit m).groups = s.groups := rfl
@[simp] theorem Dev.emit_hvs (s : Dev) (m : OutMsg) : (s.emit m).hvs = s.hvs := rfl
@[simp] theorem Dev.emit_img (s : Dev) (m : OutMsg) : (s.emit m).img = s.img := rfl
@[simp] theorem Dev.emit_rbs (s : Dev) (m : OutMsg) : (s.emit m).rbs = s.rbs := rfl
@[simp] theorem Dev.emit_dcs (s : Dev) (m : OutMsg) : (s.emit m).dcs = s.dcs := rfl
@[simp] theorem Dev.emit_brgs (s : Dev) (m : OutMsg) : (s.emit m).brgs = s.brgs := rfl
@[simp] theorem Dev.emit_thm (s : Dev) (m : OutMsg) : (s.emit m).thm = s.thm := rfl
@[simp] theorem Dev.emit_stat (s : Dev) (m : OutMsg) : (s.emit m).stat = s.stat := rfl
@[simp] theorem Dev.emit_mirror (s : Dev) (m : OutMsg) : (s.emit m).mirror = s.mirror := rfl
@[simp] theorem Dev.emit_host (s : Dev) (m : OutMsg) : (s.emit m).host = s.host := rfl
@[simp] theorem Dev.emit_spi (s : Dev) (m : OutMsg) : (s.emit m).spi = s.spi := rfl
@[simp] theorem Dev.emit_cans (s : Dev) (m : OutMsg) : (s.emit m).cans = s.cans := rfl
@[simp] theorem Dev.emit_pzp (s : Dev) (m : OutMsg) : (s.emit m).pzp = s.pzp := rfl
@[simp] theorem Dev.emit_pwr (s : Dev) (m : OutMsg) : (s.emit m).pwr = s.pwr := rfl

@[simp] theorem Dev.setLane_us (s : Dev) (d n : Nat) (x : LaneH) : (s.setLane d n x).us = s.us := rfl
@[simp] theorem Dev.setLane_fresh (s : Dev) (d n : Nat) (x : LaneH) : (s.setLane d n x).fresh = s.fresh := rfl
@[simp] theorem Dev.setLane_regs (s : Dev) (d n : Nat) (x : LaneH) : (s.setLane d n x).regs = s.regs := rfl
@[simp] theorem Dev.setLane_latched (s : Dev) (d n : Nat) (x : LaneH) : (s.setLane d n x).latched = s.latched := rfl
@[simp] theorem Dev.setLane_out (s : Dev) (d n : Nat) (x : LaneH) : (s.setLane d n x).out = s.out := rfl
@[simp] theorem Dev.setLane_flt (s : Dev) (d n : Nat) (x : LaneH) : (s.setLane d n x).flt = s.flt := rfl
@[simp] theorem Dev.setLane_crcs (s : Dev) (d n : Nat) (x : LaneH) : (s.setLane d n x).crcs = s.crcs := rfl
@[simp] theorem Dev.setLane_cfg (s : Dev) (d n : Nat) (x : LaneH) : (s.setLane d n x).cfg = s.cfg := rfl
@[simp] theorem Dev.setLane_ins (s : Dev) (d n : Nat) (x : LaneH) : (s.setLane d n x).ins = s.ins := rfl
@[simp] theorem Dev.setLane_halves (s : Dev) (d n : Nat) (x : LaneH) : (s.setLane d n x).halves = s.halves := rfl
@[simp] theorem Dev.setLane_dies (s : Dev) (d n : Nat) (x : LaneH) : (s.setLane d n x).dies = s.dies := rfl
@[simp] theorem Dev.setLane_drcs (s : Dev) (d n : Nat) (x : LaneH) : (s.setLane d n x).drcs = s.drcs := rfl
@[simp] theorem Dev.setLane_drcChs (s : Dev) (d n : Nat) (x : LaneH) : (s.setLane d n x).drcChs = s.drcChs := rfl
@[simp] theorem Dev.setLane_spans (s : Dev) (d n : Nat) (x : LaneH) : (s.setLane d n x).spans = s.spans := rfl
@[simp] theorem Dev.setLane_coefs (s : Dev) (d n : Nat) (x : LaneH) : (s.setLane d n x).coefs = s.coefs := rfl
@[simp] theorem Dev.setLane_rows (s : Dev) (d n : Nat) (x : LaneH) : (s.setLane d n x).rows = s.rows := rfl
@[simp] theorem Dev.setLane_rasPoison (s : Dev) (d n : Nat) (x : LaneH) : (s.setLane d n x).rasPoison = s.rasPoison := rfl
@[simp] theorem Dev.setLane_ttemps (s : Dev) (d n : Nat) (x : LaneH) : (s.setLane d n x).ttemps = s.ttemps := rfl
@[simp] theorem Dev.setLane_imu (s : Dev) (d n : Nat) (x : LaneH) : (s.setLane d n x).imu = s.imu := rfl
@[simp] theorem Dev.setLane_bud (s : Dev) (d n : Nat) (x : LaneH) : (s.setLane d n x).bud = s.bud := rfl
@[simp] theorem Dev.setLane_bist (s : Dev) (d n : Nat) (x : LaneH) : (s.setLane d n x).bist = s.bist := rfl
@[simp] theorem Dev.setLane_cals (s : Dev) (d n : Nat) (x : LaneH) : (s.setLane d n x).cals = s.cals := rfl
@[simp] theorem Dev.setLane_chans (s : Dev) (d n : Nat) (x : LaneH) : (s.setLane d n x).chans = s.chans := rfl
@[simp] theorem Dev.setLane_runs (s : Dev) (d n : Nat) (x : LaneH) : (s.setLane d n x).runs = s.runs := rfl
@[simp] theorem Dev.setLane_groups (s : Dev) (d n : Nat) (x : LaneH) : (s.setLane d n x).groups = s.groups := rfl
@[simp] theorem Dev.setLane_hvs (s : Dev) (d n : Nat) (x : LaneH) : (s.setLane d n x).hvs = s.hvs := rfl
@[simp] theorem Dev.setLane_img (s : Dev) (d n : Nat) (x : LaneH) : (s.setLane d n x).img = s.img := rfl
@[simp] theorem Dev.setLane_rbs (s : Dev) (d n : Nat) (x : LaneH) : (s.setLane d n x).rbs = s.rbs := rfl
@[simp] theorem Dev.setLane_dcs (s : Dev) (d n : Nat) (x : LaneH) : (s.setLane d n x).dcs = s.dcs := rfl
@[simp] theorem Dev.setLane_brgs (s : Dev) (d n : Nat) (x : LaneH) : (s.setLane d n x).brgs = s.brgs := rfl
@[simp] theorem Dev.setLane_thm (s : Dev) (d n : Nat) (x : LaneH) : (s.setLane d n x).thm = s.thm := rfl
@[simp] theorem Dev.setLane_stat (s : Dev) (d n : Nat) (x : LaneH) : (s.setLane d n x).stat = s.stat := rfl
@[simp] theorem Dev.setLane_mirror (s : Dev) (d n : Nat) (x : LaneH) : (s.setLane d n x).mirror = s.mirror := rfl
@[simp] theorem Dev.setLane_host (s : Dev) (d n : Nat) (x : LaneH) : (s.setLane d n x).host = s.host := rfl
@[simp] theorem Dev.setLane_spi (s : Dev) (d n : Nat) (x : LaneH) : (s.setLane d n x).spi = s.spi := rfl
@[simp] theorem Dev.setLane_cans (s : Dev) (d n : Nat) (x : LaneH) : (s.setLane d n x).cans = s.cans := rfl
@[simp] theorem Dev.setLane_pzp (s : Dev) (d n : Nat) (x : LaneH) : (s.setLane d n x).pzp = s.pzp := rfl
@[simp] theorem Dev.setLane_pwr (s : Dev) (d n : Nat) (x : LaneH) : (s.setLane d n x).pwr = s.pwr := rfl

@[simp] theorem Dev.setInp_us (s : Dev) (d n : Nat) (x : InH) : (s.setInp d n x).us = s.us := rfl
@[simp] theorem Dev.setInp_fresh (s : Dev) (d n : Nat) (x : InH) : (s.setInp d n x).fresh = s.fresh := rfl
@[simp] theorem Dev.setInp_regs (s : Dev) (d n : Nat) (x : InH) : (s.setInp d n x).regs = s.regs := rfl
@[simp] theorem Dev.setInp_latched (s : Dev) (d n : Nat) (x : InH) : (s.setInp d n x).latched = s.latched := rfl
@[simp] theorem Dev.setInp_out (s : Dev) (d n : Nat) (x : InH) : (s.setInp d n x).out = s.out := rfl
@[simp] theorem Dev.setInp_flt (s : Dev) (d n : Nat) (x : InH) : (s.setInp d n x).flt = s.flt := rfl
@[simp] theorem Dev.setInp_crcs (s : Dev) (d n : Nat) (x : InH) : (s.setInp d n x).crcs = s.crcs := rfl
@[simp] theorem Dev.setInp_cfg (s : Dev) (d n : Nat) (x : InH) : (s.setInp d n x).cfg = s.cfg := rfl
@[simp] theorem Dev.setInp_lanes (s : Dev) (d n : Nat) (x : InH) : (s.setInp d n x).lanes = s.lanes := rfl
@[simp] theorem Dev.setInp_halves (s : Dev) (d n : Nat) (x : InH) : (s.setInp d n x).halves = s.halves := rfl
@[simp] theorem Dev.setInp_dies (s : Dev) (d n : Nat) (x : InH) : (s.setInp d n x).dies = s.dies := rfl
@[simp] theorem Dev.setInp_drcs (s : Dev) (d n : Nat) (x : InH) : (s.setInp d n x).drcs = s.drcs := rfl
@[simp] theorem Dev.setInp_drcChs (s : Dev) (d n : Nat) (x : InH) : (s.setInp d n x).drcChs = s.drcChs := rfl
@[simp] theorem Dev.setInp_spans (s : Dev) (d n : Nat) (x : InH) : (s.setInp d n x).spans = s.spans := rfl
@[simp] theorem Dev.setInp_coefs (s : Dev) (d n : Nat) (x : InH) : (s.setInp d n x).coefs = s.coefs := rfl
@[simp] theorem Dev.setInp_rows (s : Dev) (d n : Nat) (x : InH) : (s.setInp d n x).rows = s.rows := rfl
@[simp] theorem Dev.setInp_rasPoison (s : Dev) (d n : Nat) (x : InH) : (s.setInp d n x).rasPoison = s.rasPoison := rfl
@[simp] theorem Dev.setInp_ttemps (s : Dev) (d n : Nat) (x : InH) : (s.setInp d n x).ttemps = s.ttemps := rfl
@[simp] theorem Dev.setInp_imu (s : Dev) (d n : Nat) (x : InH) : (s.setInp d n x).imu = s.imu := rfl
@[simp] theorem Dev.setInp_bud (s : Dev) (d n : Nat) (x : InH) : (s.setInp d n x).bud = s.bud := rfl
@[simp] theorem Dev.setInp_bist (s : Dev) (d n : Nat) (x : InH) : (s.setInp d n x).bist = s.bist := rfl
@[simp] theorem Dev.setInp_cals (s : Dev) (d n : Nat) (x : InH) : (s.setInp d n x).cals = s.cals := rfl
@[simp] theorem Dev.setInp_chans (s : Dev) (d n : Nat) (x : InH) : (s.setInp d n x).chans = s.chans := rfl
@[simp] theorem Dev.setInp_runs (s : Dev) (d n : Nat) (x : InH) : (s.setInp d n x).runs = s.runs := rfl
@[simp] theorem Dev.setInp_groups (s : Dev) (d n : Nat) (x : InH) : (s.setInp d n x).groups = s.groups := rfl
@[simp] theorem Dev.setInp_hvs (s : Dev) (d n : Nat) (x : InH) : (s.setInp d n x).hvs = s.hvs := rfl
@[simp] theorem Dev.setInp_img (s : Dev) (d n : Nat) (x : InH) : (s.setInp d n x).img = s.img := rfl
@[simp] theorem Dev.setInp_rbs (s : Dev) (d n : Nat) (x : InH) : (s.setInp d n x).rbs = s.rbs := rfl
@[simp] theorem Dev.setInp_dcs (s : Dev) (d n : Nat) (x : InH) : (s.setInp d n x).dcs = s.dcs := rfl
@[simp] theorem Dev.setInp_brgs (s : Dev) (d n : Nat) (x : InH) : (s.setInp d n x).brgs = s.brgs := rfl
@[simp] theorem Dev.setInp_thm (s : Dev) (d n : Nat) (x : InH) : (s.setInp d n x).thm = s.thm := rfl
@[simp] theorem Dev.setInp_stat (s : Dev) (d n : Nat) (x : InH) : (s.setInp d n x).stat = s.stat := rfl
@[simp] theorem Dev.setInp_mirror (s : Dev) (d n : Nat) (x : InH) : (s.setInp d n x).mirror = s.mirror := rfl
@[simp] theorem Dev.setInp_host (s : Dev) (d n : Nat) (x : InH) : (s.setInp d n x).host = s.host := rfl
@[simp] theorem Dev.setInp_spi (s : Dev) (d n : Nat) (x : InH) : (s.setInp d n x).spi = s.spi := rfl
@[simp] theorem Dev.setInp_cans (s : Dev) (d n : Nat) (x : InH) : (s.setInp d n x).cans = s.cans := rfl
@[simp] theorem Dev.setInp_pzp (s : Dev) (d n : Nat) (x : InH) : (s.setInp d n x).pzp = s.pzp := rfl
@[simp] theorem Dev.setInp_pwr (s : Dev) (d n : Nat) (x : InH) : (s.setInp d n x).pwr = s.pwr := rfl

@[simp] theorem Dev.setHalf_us (s : Dev) (d n : Nat) (x : HalfH) : (s.setHalf d n x).us = s.us := rfl
@[simp] theorem Dev.setHalf_fresh (s : Dev) (d n : Nat) (x : HalfH) : (s.setHalf d n x).fresh = s.fresh := rfl
@[simp] theorem Dev.setHalf_regs (s : Dev) (d n : Nat) (x : HalfH) : (s.setHalf d n x).regs = s.regs := rfl
@[simp] theorem Dev.setHalf_latched (s : Dev) (d n : Nat) (x : HalfH) : (s.setHalf d n x).latched = s.latched := rfl
@[simp] theorem Dev.setHalf_out (s : Dev) (d n : Nat) (x : HalfH) : (s.setHalf d n x).out = s.out := rfl
@[simp] theorem Dev.setHalf_flt (s : Dev) (d n : Nat) (x : HalfH) : (s.setHalf d n x).flt = s.flt := rfl
@[simp] theorem Dev.setHalf_crcs (s : Dev) (d n : Nat) (x : HalfH) : (s.setHalf d n x).crcs = s.crcs := rfl
@[simp] theorem Dev.setHalf_cfg (s : Dev) (d n : Nat) (x : HalfH) : (s.setHalf d n x).cfg = s.cfg := rfl
@[simp] theorem Dev.setHalf_lanes (s : Dev) (d n : Nat) (x : HalfH) : (s.setHalf d n x).lanes = s.lanes := rfl
@[simp] theorem Dev.setHalf_ins (s : Dev) (d n : Nat) (x : HalfH) : (s.setHalf d n x).ins = s.ins := rfl
@[simp] theorem Dev.setHalf_dies (s : Dev) (d n : Nat) (x : HalfH) : (s.setHalf d n x).dies = s.dies := rfl
@[simp] theorem Dev.setHalf_drcs (s : Dev) (d n : Nat) (x : HalfH) : (s.setHalf d n x).drcs = s.drcs := rfl
@[simp] theorem Dev.setHalf_drcChs (s : Dev) (d n : Nat) (x : HalfH) : (s.setHalf d n x).drcChs = s.drcChs := rfl
@[simp] theorem Dev.setHalf_spans (s : Dev) (d n : Nat) (x : HalfH) : (s.setHalf d n x).spans = s.spans := rfl
@[simp] theorem Dev.setHalf_coefs (s : Dev) (d n : Nat) (x : HalfH) : (s.setHalf d n x).coefs = s.coefs := rfl
@[simp] theorem Dev.setHalf_rows (s : Dev) (d n : Nat) (x : HalfH) : (s.setHalf d n x).rows = s.rows := rfl
@[simp] theorem Dev.setHalf_rasPoison (s : Dev) (d n : Nat) (x : HalfH) : (s.setHalf d n x).rasPoison = s.rasPoison := rfl
@[simp] theorem Dev.setHalf_ttemps (s : Dev) (d n : Nat) (x : HalfH) : (s.setHalf d n x).ttemps = s.ttemps := rfl
@[simp] theorem Dev.setHalf_imu (s : Dev) (d n : Nat) (x : HalfH) : (s.setHalf d n x).imu = s.imu := rfl
@[simp] theorem Dev.setHalf_bud (s : Dev) (d n : Nat) (x : HalfH) : (s.setHalf d n x).bud = s.bud := rfl
@[simp] theorem Dev.setHalf_bist (s : Dev) (d n : Nat) (x : HalfH) : (s.setHalf d n x).bist = s.bist := rfl
@[simp] theorem Dev.setHalf_cals (s : Dev) (d n : Nat) (x : HalfH) : (s.setHalf d n x).cals = s.cals := rfl
@[simp] theorem Dev.setHalf_chans (s : Dev) (d n : Nat) (x : HalfH) : (s.setHalf d n x).chans = s.chans := rfl
@[simp] theorem Dev.setHalf_runs (s : Dev) (d n : Nat) (x : HalfH) : (s.setHalf d n x).runs = s.runs := rfl
@[simp] theorem Dev.setHalf_groups (s : Dev) (d n : Nat) (x : HalfH) : (s.setHalf d n x).groups = s.groups := rfl
@[simp] theorem Dev.setHalf_hvs (s : Dev) (d n : Nat) (x : HalfH) : (s.setHalf d n x).hvs = s.hvs := rfl
@[simp] theorem Dev.setHalf_img (s : Dev) (d n : Nat) (x : HalfH) : (s.setHalf d n x).img = s.img := rfl
@[simp] theorem Dev.setHalf_rbs (s : Dev) (d n : Nat) (x : HalfH) : (s.setHalf d n x).rbs = s.rbs := rfl
@[simp] theorem Dev.setHalf_dcs (s : Dev) (d n : Nat) (x : HalfH) : (s.setHalf d n x).dcs = s.dcs := rfl
@[simp] theorem Dev.setHalf_brgs (s : Dev) (d n : Nat) (x : HalfH) : (s.setHalf d n x).brgs = s.brgs := rfl
@[simp] theorem Dev.setHalf_thm (s : Dev) (d n : Nat) (x : HalfH) : (s.setHalf d n x).thm = s.thm := rfl
@[simp] theorem Dev.setHalf_stat (s : Dev) (d n : Nat) (x : HalfH) : (s.setHalf d n x).stat = s.stat := rfl
@[simp] theorem Dev.setHalf_mirror (s : Dev) (d n : Nat) (x : HalfH) : (s.setHalf d n x).mirror = s.mirror := rfl
@[simp] theorem Dev.setHalf_host (s : Dev) (d n : Nat) (x : HalfH) : (s.setHalf d n x).host = s.host := rfl
@[simp] theorem Dev.setHalf_spi (s : Dev) (d n : Nat) (x : HalfH) : (s.setHalf d n x).spi = s.spi := rfl
@[simp] theorem Dev.setHalf_cans (s : Dev) (d n : Nat) (x : HalfH) : (s.setHalf d n x).cans = s.cans := rfl
@[simp] theorem Dev.setHalf_pzp (s : Dev) (d n : Nat) (x : HalfH) : (s.setHalf d n x).pzp = s.pzp := rfl
@[simp] theorem Dev.setHalf_pwr (s : Dev) (d n : Nat) (x : HalfH) : (s.setHalf d n x).pwr = s.pwr := rfl

@[simp] theorem Dev.setPipes_us (s : Dev) (d : Nat) (x : DieH) : (s.setPipes d x).us = s.us := rfl
@[simp] theorem Dev.setPipes_fresh (s : Dev) (d : Nat) (x : DieH) : (s.setPipes d x).fresh = s.fresh := rfl
@[simp] theorem Dev.setPipes_regs (s : Dev) (d : Nat) (x : DieH) : (s.setPipes d x).regs = s.regs := rfl
@[simp] theorem Dev.setPipes_latched (s : Dev) (d : Nat) (x : DieH) : (s.setPipes d x).latched = s.latched := rfl
@[simp] theorem Dev.setPipes_out (s : Dev) (d : Nat) (x : DieH) : (s.setPipes d x).out = s.out := rfl
@[simp] theorem Dev.setPipes_flt (s : Dev) (d : Nat) (x : DieH) : (s.setPipes d x).flt = s.flt := rfl
@[simp] theorem Dev.setPipes_crcs (s : Dev) (d : Nat) (x : DieH) : (s.setPipes d x).crcs = s.crcs := rfl
@[simp] theorem Dev.setPipes_cfg (s : Dev) (d : Nat) (x : DieH) : (s.setPipes d x).cfg = s.cfg := rfl
@[simp] theorem Dev.setPipes_lanes (s : Dev) (d : Nat) (x : DieH) : (s.setPipes d x).lanes = s.lanes := rfl
@[simp] theorem Dev.setPipes_ins (s : Dev) (d : Nat) (x : DieH) : (s.setPipes d x).ins = s.ins := rfl
@[simp] theorem Dev.setPipes_halves (s : Dev) (d : Nat) (x : DieH) : (s.setPipes d x).halves = s.halves := rfl
@[simp] theorem Dev.setPipes_drcs (s : Dev) (d : Nat) (x : DieH) : (s.setPipes d x).drcs = s.drcs := rfl
@[simp] theorem Dev.setPipes_drcChs (s : Dev) (d : Nat) (x : DieH) : (s.setPipes d x).drcChs = s.drcChs := rfl
@[simp] theorem Dev.setPipes_spans (s : Dev) (d : Nat) (x : DieH) : (s.setPipes d x).spans = s.spans := rfl
@[simp] theorem Dev.setPipes_coefs (s : Dev) (d : Nat) (x : DieH) : (s.setPipes d x).coefs = s.coefs := rfl
@[simp] theorem Dev.setPipes_rows (s : Dev) (d : Nat) (x : DieH) : (s.setPipes d x).rows = s.rows := rfl
@[simp] theorem Dev.setPipes_rasPoison (s : Dev) (d : Nat) (x : DieH) : (s.setPipes d x).rasPoison = s.rasPoison := rfl
@[simp] theorem Dev.setPipes_ttemps (s : Dev) (d : Nat) (x : DieH) : (s.setPipes d x).ttemps = s.ttemps := rfl
@[simp] theorem Dev.setPipes_imu (s : Dev) (d : Nat) (x : DieH) : (s.setPipes d x).imu = s.imu := rfl
@[simp] theorem Dev.setPipes_bud (s : Dev) (d : Nat) (x : DieH) : (s.setPipes d x).bud = s.bud := rfl
@[simp] theorem Dev.setPipes_bist (s : Dev) (d : Nat) (x : DieH) : (s.setPipes d x).bist = s.bist := rfl
@[simp] theorem Dev.setPipes_cals (s : Dev) (d : Nat) (x : DieH) : (s.setPipes d x).cals = s.cals := rfl
@[simp] theorem Dev.setPipes_chans (s : Dev) (d : Nat) (x : DieH) : (s.setPipes d x).chans = s.chans := rfl
@[simp] theorem Dev.setPipes_runs (s : Dev) (d : Nat) (x : DieH) : (s.setPipes d x).runs = s.runs := rfl
@[simp] theorem Dev.setPipes_groups (s : Dev) (d : Nat) (x : DieH) : (s.setPipes d x).groups = s.groups := rfl
@[simp] theorem Dev.setPipes_hvs (s : Dev) (d : Nat) (x : DieH) : (s.setPipes d x).hvs = s.hvs := rfl
@[simp] theorem Dev.setPipes_img (s : Dev) (d : Nat) (x : DieH) : (s.setPipes d x).img = s.img := rfl
@[simp] theorem Dev.setPipes_rbs (s : Dev) (d : Nat) (x : DieH) : (s.setPipes d x).rbs = s.rbs := rfl
@[simp] theorem Dev.setPipes_dcs (s : Dev) (d : Nat) (x : DieH) : (s.setPipes d x).dcs = s.dcs := rfl
@[simp] theorem Dev.setPipes_brgs (s : Dev) (d : Nat) (x : DieH) : (s.setPipes d x).brgs = s.brgs := rfl
@[simp] theorem Dev.setPipes_thm (s : Dev) (d : Nat) (x : DieH) : (s.setPipes d x).thm = s.thm := rfl
@[simp] theorem Dev.setPipes_stat (s : Dev) (d : Nat) (x : DieH) : (s.setPipes d x).stat = s.stat := rfl
@[simp] theorem Dev.setPipes_mirror (s : Dev) (d : Nat) (x : DieH) : (s.setPipes d x).mirror = s.mirror := rfl
@[simp] theorem Dev.setPipes_host (s : Dev) (d : Nat) (x : DieH) : (s.setPipes d x).host = s.host := rfl
@[simp] theorem Dev.setPipes_spi (s : Dev) (d : Nat) (x : DieH) : (s.setPipes d x).spi = s.spi := rfl
@[simp] theorem Dev.setPipes_cans (s : Dev) (d : Nat) (x : DieH) : (s.setPipes d x).cans = s.cans := rfl
@[simp] theorem Dev.setPipes_pzp (s : Dev) (d : Nat) (x : DieH) : (s.setPipes d x).pzp = s.pzp := rfl
@[simp] theorem Dev.setPipes_pwr (s : Dev) (d : Nat) (x : DieH) : (s.setPipes d x).pwr = s.pwr := rfl

@[simp] theorem Dev.setDrc_us (s : Dev) (d : Nat) (x : DrcH) : (s.setDrc d x).us = s.us := rfl
@[simp] theorem Dev.setDrc_fresh (s : Dev) (d : Nat) (x : DrcH) : (s.setDrc d x).fresh = s.fresh := rfl
@[simp] theorem Dev.setDrc_regs (s : Dev) (d : Nat) (x : DrcH) : (s.setDrc d x).regs = s.regs := rfl
@[simp] theorem Dev.setDrc_latched (s : Dev) (d : Nat) (x : DrcH) : (s.setDrc d x).latched = s.latched := rfl
@[simp] theorem Dev.setDrc_out (s : Dev) (d : Nat) (x : DrcH) : (s.setDrc d x).out = s.out := rfl
@[simp] theorem Dev.setDrc_flt (s : Dev) (d : Nat) (x : DrcH) : (s.setDrc d x).flt = s.flt := rfl
@[simp] theorem Dev.setDrc_crcs (s : Dev) (d : Nat) (x : DrcH) : (s.setDrc d x).crcs = s.crcs := rfl
@[simp] theorem Dev.setDrc_cfg (s : Dev) (d : Nat) (x : DrcH) : (s.setDrc d x).cfg = s.cfg := rfl
@[simp] theorem Dev.setDrc_lanes (s : Dev) (d : Nat) (x : DrcH) : (s.setDrc d x).lanes = s.lanes := rfl
@[simp] theorem Dev.setDrc_ins (s : Dev) (d : Nat) (x : DrcH) : (s.setDrc d x).ins = s.ins := rfl
@[simp] theorem Dev.setDrc_halves (s : Dev) (d : Nat) (x : DrcH) : (s.setDrc d x).halves = s.halves := rfl
@[simp] theorem Dev.setDrc_dies (s : Dev) (d : Nat) (x : DrcH) : (s.setDrc d x).dies = s.dies := rfl
@[simp] theorem Dev.setDrc_drcChs (s : Dev) (d : Nat) (x : DrcH) : (s.setDrc d x).drcChs = s.drcChs := rfl
@[simp] theorem Dev.setDrc_spans (s : Dev) (d : Nat) (x : DrcH) : (s.setDrc d x).spans = s.spans := rfl
@[simp] theorem Dev.setDrc_coefs (s : Dev) (d : Nat) (x : DrcH) : (s.setDrc d x).coefs = s.coefs := rfl
@[simp] theorem Dev.setDrc_rows (s : Dev) (d : Nat) (x : DrcH) : (s.setDrc d x).rows = s.rows := rfl
@[simp] theorem Dev.setDrc_rasPoison (s : Dev) (d : Nat) (x : DrcH) : (s.setDrc d x).rasPoison = s.rasPoison := rfl
@[simp] theorem Dev.setDrc_ttemps (s : Dev) (d : Nat) (x : DrcH) : (s.setDrc d x).ttemps = s.ttemps := rfl
@[simp] theorem Dev.setDrc_imu (s : Dev) (d : Nat) (x : DrcH) : (s.setDrc d x).imu = s.imu := rfl
@[simp] theorem Dev.setDrc_bud (s : Dev) (d : Nat) (x : DrcH) : (s.setDrc d x).bud = s.bud := rfl
@[simp] theorem Dev.setDrc_bist (s : Dev) (d : Nat) (x : DrcH) : (s.setDrc d x).bist = s.bist := rfl
@[simp] theorem Dev.setDrc_cals (s : Dev) (d : Nat) (x : DrcH) : (s.setDrc d x).cals = s.cals := rfl
@[simp] theorem Dev.setDrc_chans (s : Dev) (d : Nat) (x : DrcH) : (s.setDrc d x).chans = s.chans := rfl
@[simp] theorem Dev.setDrc_runs (s : Dev) (d : Nat) (x : DrcH) : (s.setDrc d x).runs = s.runs := rfl
@[simp] theorem Dev.setDrc_groups (s : Dev) (d : Nat) (x : DrcH) : (s.setDrc d x).groups = s.groups := rfl
@[simp] theorem Dev.setDrc_hvs (s : Dev) (d : Nat) (x : DrcH) : (s.setDrc d x).hvs = s.hvs := rfl
@[simp] theorem Dev.setDrc_img (s : Dev) (d : Nat) (x : DrcH) : (s.setDrc d x).img = s.img := rfl
@[simp] theorem Dev.setDrc_rbs (s : Dev) (d : Nat) (x : DrcH) : (s.setDrc d x).rbs = s.rbs := rfl
@[simp] theorem Dev.setDrc_dcs (s : Dev) (d : Nat) (x : DrcH) : (s.setDrc d x).dcs = s.dcs := rfl
@[simp] theorem Dev.setDrc_brgs (s : Dev) (d : Nat) (x : DrcH) : (s.setDrc d x).brgs = s.brgs := rfl
@[simp] theorem Dev.setDrc_thm (s : Dev) (d : Nat) (x : DrcH) : (s.setDrc d x).thm = s.thm := rfl
@[simp] theorem Dev.setDrc_stat (s : Dev) (d : Nat) (x : DrcH) : (s.setDrc d x).stat = s.stat := rfl
@[simp] theorem Dev.setDrc_mirror (s : Dev) (d : Nat) (x : DrcH) : (s.setDrc d x).mirror = s.mirror := rfl
@[simp] theorem Dev.setDrc_host (s : Dev) (d : Nat) (x : DrcH) : (s.setDrc d x).host = s.host := rfl
@[simp] theorem Dev.setDrc_spi (s : Dev) (d : Nat) (x : DrcH) : (s.setDrc d x).spi = s.spi := rfl
@[simp] theorem Dev.setDrc_cans (s : Dev) (d : Nat) (x : DrcH) : (s.setDrc d x).cans = s.cans := rfl
@[simp] theorem Dev.setDrc_pzp (s : Dev) (d : Nat) (x : DrcH) : (s.setDrc d x).pzp = s.pzp := rfl
@[simp] theorem Dev.setDrc_pwr (s : Dev) (d : Nat) (x : DrcH) : (s.setDrc d x).pwr = s.pwr := rfl

@[simp] theorem Dev.setDrcCh_us (s : Dev) (d n : Nat) (x : DrcCh) : (s.setDrcCh d n x).us = s.us := rfl
@[simp] theorem Dev.setDrcCh_fresh (s : Dev) (d n : Nat) (x : DrcCh) : (s.setDrcCh d n x).fresh = s.fresh := rfl
@[simp] theorem Dev.setDrcCh_regs (s : Dev) (d n : Nat) (x : DrcCh) : (s.setDrcCh d n x).regs = s.regs := rfl
@[simp] theorem Dev.setDrcCh_latched (s : Dev) (d n : Nat) (x : DrcCh) : (s.setDrcCh d n x).latched = s.latched := rfl
@[simp] theorem Dev.setDrcCh_out (s : Dev) (d n : Nat) (x : DrcCh) : (s.setDrcCh d n x).out = s.out := rfl
@[simp] theorem Dev.setDrcCh_flt (s : Dev) (d n : Nat) (x : DrcCh) : (s.setDrcCh d n x).flt = s.flt := rfl
@[simp] theorem Dev.setDrcCh_crcs (s : Dev) (d n : Nat) (x : DrcCh) : (s.setDrcCh d n x).crcs = s.crcs := rfl
@[simp] theorem Dev.setDrcCh_cfg (s : Dev) (d n : Nat) (x : DrcCh) : (s.setDrcCh d n x).cfg = s.cfg := rfl
@[simp] theorem Dev.setDrcCh_lanes (s : Dev) (d n : Nat) (x : DrcCh) : (s.setDrcCh d n x).lanes = s.lanes := rfl
@[simp] theorem Dev.setDrcCh_ins (s : Dev) (d n : Nat) (x : DrcCh) : (s.setDrcCh d n x).ins = s.ins := rfl
@[simp] theorem Dev.setDrcCh_halves (s : Dev) (d n : Nat) (x : DrcCh) : (s.setDrcCh d n x).halves = s.halves := rfl
@[simp] theorem Dev.setDrcCh_dies (s : Dev) (d n : Nat) (x : DrcCh) : (s.setDrcCh d n x).dies = s.dies := rfl
@[simp] theorem Dev.setDrcCh_drcs (s : Dev) (d n : Nat) (x : DrcCh) : (s.setDrcCh d n x).drcs = s.drcs := rfl
@[simp] theorem Dev.setDrcCh_spans (s : Dev) (d n : Nat) (x : DrcCh) : (s.setDrcCh d n x).spans = s.spans := rfl
@[simp] theorem Dev.setDrcCh_coefs (s : Dev) (d n : Nat) (x : DrcCh) : (s.setDrcCh d n x).coefs = s.coefs := rfl
@[simp] theorem Dev.setDrcCh_rows (s : Dev) (d n : Nat) (x : DrcCh) : (s.setDrcCh d n x).rows = s.rows := rfl
@[simp] theorem Dev.setDrcCh_rasPoison (s : Dev) (d n : Nat) (x : DrcCh) : (s.setDrcCh d n x).rasPoison = s.rasPoison := rfl
@[simp] theorem Dev.setDrcCh_ttemps (s : Dev) (d n : Nat) (x : DrcCh) : (s.setDrcCh d n x).ttemps = s.ttemps := rfl
@[simp] theorem Dev.setDrcCh_imu (s : Dev) (d n : Nat) (x : DrcCh) : (s.setDrcCh d n x).imu = s.imu := rfl
@[simp] theorem Dev.setDrcCh_bud (s : Dev) (d n : Nat) (x : DrcCh) : (s.setDrcCh d n x).bud = s.bud := rfl
@[simp] theorem Dev.setDrcCh_bist (s : Dev) (d n : Nat) (x : DrcCh) : (s.setDrcCh d n x).bist = s.bist := rfl
@[simp] theorem Dev.setDrcCh_cals (s : Dev) (d n : Nat) (x : DrcCh) : (s.setDrcCh d n x).cals = s.cals := rfl
@[simp] theorem Dev.setDrcCh_chans (s : Dev) (d n : Nat) (x : DrcCh) : (s.setDrcCh d n x).chans = s.chans := rfl
@[simp] theorem Dev.setDrcCh_runs (s : Dev) (d n : Nat) (x : DrcCh) : (s.setDrcCh d n x).runs = s.runs := rfl
@[simp] theorem Dev.setDrcCh_groups (s : Dev) (d n : Nat) (x : DrcCh) : (s.setDrcCh d n x).groups = s.groups := rfl
@[simp] theorem Dev.setDrcCh_hvs (s : Dev) (d n : Nat) (x : DrcCh) : (s.setDrcCh d n x).hvs = s.hvs := rfl
@[simp] theorem Dev.setDrcCh_img (s : Dev) (d n : Nat) (x : DrcCh) : (s.setDrcCh d n x).img = s.img := rfl
@[simp] theorem Dev.setDrcCh_rbs (s : Dev) (d n : Nat) (x : DrcCh) : (s.setDrcCh d n x).rbs = s.rbs := rfl
@[simp] theorem Dev.setDrcCh_dcs (s : Dev) (d n : Nat) (x : DrcCh) : (s.setDrcCh d n x).dcs = s.dcs := rfl
@[simp] theorem Dev.setDrcCh_brgs (s : Dev) (d n : Nat) (x : DrcCh) : (s.setDrcCh d n x).brgs = s.brgs := rfl
@[simp] theorem Dev.setDrcCh_thm (s : Dev) (d n : Nat) (x : DrcCh) : (s.setDrcCh d n x).thm = s.thm := rfl
@[simp] theorem Dev.setDrcCh_stat (s : Dev) (d n : Nat) (x : DrcCh) : (s.setDrcCh d n x).stat = s.stat := rfl
@[simp] theorem Dev.setDrcCh_mirror (s : Dev) (d n : Nat) (x : DrcCh) : (s.setDrcCh d n x).mirror = s.mirror := rfl
@[simp] theorem Dev.setDrcCh_host (s : Dev) (d n : Nat) (x : DrcCh) : (s.setDrcCh d n x).host = s.host := rfl
@[simp] theorem Dev.setDrcCh_spi (s : Dev) (d n : Nat) (x : DrcCh) : (s.setDrcCh d n x).spi = s.spi := rfl
@[simp] theorem Dev.setDrcCh_cans (s : Dev) (d n : Nat) (x : DrcCh) : (s.setDrcCh d n x).cans = s.cans := rfl
@[simp] theorem Dev.setDrcCh_pzp (s : Dev) (d n : Nat) (x : DrcCh) : (s.setDrcCh d n x).pzp = s.pzp := rfl
@[simp] theorem Dev.setDrcCh_pwr (s : Dev) (d n : Nat) (x : DrcCh) : (s.setDrcCh d n x).pwr = s.pwr := rfl

@[simp] theorem Dev.setStat_us (s : Dev) (d : Nat) (x : StatH) : (s.setStat d x).us = s.us := rfl
@[simp] theorem Dev.setStat_fresh (s : Dev) (d : Nat) (x : StatH) : (s.setStat d x).fresh = s.fresh := rfl
@[simp] theorem Dev.setStat_regs (s : Dev) (d : Nat) (x : StatH) : (s.setStat d x).regs = s.regs := rfl
@[simp] theorem Dev.setStat_latched (s : Dev) (d : Nat) (x : StatH) : (s.setStat d x).latched = s.latched := rfl
@[simp] theorem Dev.setStat_out (s : Dev) (d : Nat) (x : StatH) : (s.setStat d x).out = s.out := rfl
@[simp] theorem Dev.setStat_flt (s : Dev) (d : Nat) (x : StatH) : (s.setStat d x).flt = s.flt := rfl
@[simp] theorem Dev.setStat_crcs (s : Dev) (d : Nat) (x : StatH) : (s.setStat d x).crcs = s.crcs := rfl
@[simp] theorem Dev.setStat_cfg (s : Dev) (d : Nat) (x : StatH) : (s.setStat d x).cfg = s.cfg := rfl
@[simp] theorem Dev.setStat_lanes (s : Dev) (d : Nat) (x : StatH) : (s.setStat d x).lanes = s.lanes := rfl
@[simp] theorem Dev.setStat_ins (s : Dev) (d : Nat) (x : StatH) : (s.setStat d x).ins = s.ins := rfl
@[simp] theorem Dev.setStat_halves (s : Dev) (d : Nat) (x : StatH) : (s.setStat d x).halves = s.halves := rfl
@[simp] theorem Dev.setStat_dies (s : Dev) (d : Nat) (x : StatH) : (s.setStat d x).dies = s.dies := rfl
@[simp] theorem Dev.setStat_drcs (s : Dev) (d : Nat) (x : StatH) : (s.setStat d x).drcs = s.drcs := rfl
@[simp] theorem Dev.setStat_drcChs (s : Dev) (d : Nat) (x : StatH) : (s.setStat d x).drcChs = s.drcChs := rfl
@[simp] theorem Dev.setStat_spans (s : Dev) (d : Nat) (x : StatH) : (s.setStat d x).spans = s.spans := rfl
@[simp] theorem Dev.setStat_coefs (s : Dev) (d : Nat) (x : StatH) : (s.setStat d x).coefs = s.coefs := rfl
@[simp] theorem Dev.setStat_rows (s : Dev) (d : Nat) (x : StatH) : (s.setStat d x).rows = s.rows := rfl
@[simp] theorem Dev.setStat_rasPoison (s : Dev) (d : Nat) (x : StatH) : (s.setStat d x).rasPoison = s.rasPoison := rfl
@[simp] theorem Dev.setStat_ttemps (s : Dev) (d : Nat) (x : StatH) : (s.setStat d x).ttemps = s.ttemps := rfl
@[simp] theorem Dev.setStat_imu (s : Dev) (d : Nat) (x : StatH) : (s.setStat d x).imu = s.imu := rfl
@[simp] theorem Dev.setStat_bud (s : Dev) (d : Nat) (x : StatH) : (s.setStat d x).bud = s.bud := rfl
@[simp] theorem Dev.setStat_bist (s : Dev) (d : Nat) (x : StatH) : (s.setStat d x).bist = s.bist := rfl
@[simp] theorem Dev.setStat_cals (s : Dev) (d : Nat) (x : StatH) : (s.setStat d x).cals = s.cals := rfl
@[simp] theorem Dev.setStat_chans (s : Dev) (d : Nat) (x : StatH) : (s.setStat d x).chans = s.chans := rfl
@[simp] theorem Dev.setStat_runs (s : Dev) (d : Nat) (x : StatH) : (s.setStat d x).runs = s.runs := rfl
@[simp] theorem Dev.setStat_groups (s : Dev) (d : Nat) (x : StatH) : (s.setStat d x).groups = s.groups := rfl
@[simp] theorem Dev.setStat_hvs (s : Dev) (d : Nat) (x : StatH) : (s.setStat d x).hvs = s.hvs := rfl
@[simp] theorem Dev.setStat_img (s : Dev) (d : Nat) (x : StatH) : (s.setStat d x).img = s.img := rfl
@[simp] theorem Dev.setStat_rbs (s : Dev) (d : Nat) (x : StatH) : (s.setStat d x).rbs = s.rbs := rfl
@[simp] theorem Dev.setStat_dcs (s : Dev) (d : Nat) (x : StatH) : (s.setStat d x).dcs = s.dcs := rfl
@[simp] theorem Dev.setStat_brgs (s : Dev) (d : Nat) (x : StatH) : (s.setStat d x).brgs = s.brgs := rfl
@[simp] theorem Dev.setStat_thm (s : Dev) (d : Nat) (x : StatH) : (s.setStat d x).thm = s.thm := rfl
@[simp] theorem Dev.setStat_mirror (s : Dev) (d : Nat) (x : StatH) : (s.setStat d x).mirror = s.mirror := rfl
@[simp] theorem Dev.setStat_host (s : Dev) (d : Nat) (x : StatH) : (s.setStat d x).host = s.host := rfl
@[simp] theorem Dev.setStat_spi (s : Dev) (d : Nat) (x : StatH) : (s.setStat d x).spi = s.spi := rfl
@[simp] theorem Dev.setStat_cans (s : Dev) (d : Nat) (x : StatH) : (s.setStat d x).cans = s.cans := rfl
@[simp] theorem Dev.setStat_pzp (s : Dev) (d : Nat) (x : StatH) : (s.setStat d x).pzp = s.pzp := rfl
@[simp] theorem Dev.setStat_pwr (s : Dev) (d : Nat) (x : StatH) : (s.setStat d x).pwr = s.pwr := rfl

@[simp] theorem Dev.setCrc_us (s : Dev) (d n : Nat) (x : CrcH) : (s.setCrc d n x).us = s.us := rfl
@[simp] theorem Dev.setCrc_fresh (s : Dev) (d n : Nat) (x : CrcH) : (s.setCrc d n x).fresh = s.fresh := rfl
@[simp] theorem Dev.setCrc_regs (s : Dev) (d n : Nat) (x : CrcH) : (s.setCrc d n x).regs = s.regs := rfl
@[simp] theorem Dev.setCrc_latched (s : Dev) (d n : Nat) (x : CrcH) : (s.setCrc d n x).latched = s.latched := rfl
@[simp] theorem Dev.setCrc_out (s : Dev) (d n : Nat) (x : CrcH) : (s.setCrc d n x).out = s.out := rfl
@[simp] theorem Dev.setCrc_flt (s : Dev) (d n : Nat) (x : CrcH) : (s.setCrc d n x).flt = s.flt := rfl
@[simp] theorem Dev.setCrc_cfg (s : Dev) (d n : Nat) (x : CrcH) : (s.setCrc d n x).cfg = s.cfg := rfl
@[simp] theorem Dev.setCrc_lanes (s : Dev) (d n : Nat) (x : CrcH) : (s.setCrc d n x).lanes = s.lanes := rfl
@[simp] theorem Dev.setCrc_ins (s : Dev) (d n : Nat) (x : CrcH) : (s.setCrc d n x).ins = s.ins := rfl
@[simp] theorem Dev.setCrc_halves (s : Dev) (d n : Nat) (x : CrcH) : (s.setCrc d n x).halves = s.halves := rfl
@[simp] theorem Dev.setCrc_dies (s : Dev) (d n : Nat) (x : CrcH) : (s.setCrc d n x).dies = s.dies := rfl
@[simp] theorem Dev.setCrc_drcs (s : Dev) (d n : Nat) (x : CrcH) : (s.setCrc d n x).drcs = s.drcs := rfl
@[simp] theorem Dev.setCrc_drcChs (s : Dev) (d n : Nat) (x : CrcH) : (s.setCrc d n x).drcChs = s.drcChs := rfl
@[simp] theorem Dev.setCrc_spans (s : Dev) (d n : Nat) (x : CrcH) : (s.setCrc d n x).spans = s.spans := rfl
@[simp] theorem Dev.setCrc_coefs (s : Dev) (d n : Nat) (x : CrcH) : (s.setCrc d n x).coefs = s.coefs := rfl
@[simp] theorem Dev.setCrc_rows (s : Dev) (d n : Nat) (x : CrcH) : (s.setCrc d n x).rows = s.rows := rfl
@[simp] theorem Dev.setCrc_rasPoison (s : Dev) (d n : Nat) (x : CrcH) : (s.setCrc d n x).rasPoison = s.rasPoison := rfl
@[simp] theorem Dev.setCrc_ttemps (s : Dev) (d n : Nat) (x : CrcH) : (s.setCrc d n x).ttemps = s.ttemps := rfl
@[simp] theorem Dev.setCrc_imu (s : Dev) (d n : Nat) (x : CrcH) : (s.setCrc d n x).imu = s.imu := rfl
@[simp] theorem Dev.setCrc_bud (s : Dev) (d n : Nat) (x : CrcH) : (s.setCrc d n x).bud = s.bud := rfl
@[simp] theorem Dev.setCrc_bist (s : Dev) (d n : Nat) (x : CrcH) : (s.setCrc d n x).bist = s.bist := rfl
@[simp] theorem Dev.setCrc_cals (s : Dev) (d n : Nat) (x : CrcH) : (s.setCrc d n x).cals = s.cals := rfl
@[simp] theorem Dev.setCrc_chans (s : Dev) (d n : Nat) (x : CrcH) : (s.setCrc d n x).chans = s.chans := rfl
@[simp] theorem Dev.setCrc_runs (s : Dev) (d n : Nat) (x : CrcH) : (s.setCrc d n x).runs = s.runs := rfl
@[simp] theorem Dev.setCrc_groups (s : Dev) (d n : Nat) (x : CrcH) : (s.setCrc d n x).groups = s.groups := rfl
@[simp] theorem Dev.setCrc_hvs (s : Dev) (d n : Nat) (x : CrcH) : (s.setCrc d n x).hvs = s.hvs := rfl
@[simp] theorem Dev.setCrc_img (s : Dev) (d n : Nat) (x : CrcH) : (s.setCrc d n x).img = s.img := rfl
@[simp] theorem Dev.setCrc_rbs (s : Dev) (d n : Nat) (x : CrcH) : (s.setCrc d n x).rbs = s.rbs := rfl
@[simp] theorem Dev.setCrc_dcs (s : Dev) (d n : Nat) (x : CrcH) : (s.setCrc d n x).dcs = s.dcs := rfl
@[simp] theorem Dev.setCrc_brgs (s : Dev) (d n : Nat) (x : CrcH) : (s.setCrc d n x).brgs = s.brgs := rfl
@[simp] theorem Dev.setCrc_thm (s : Dev) (d n : Nat) (x : CrcH) : (s.setCrc d n x).thm = s.thm := rfl
@[simp] theorem Dev.setCrc_stat (s : Dev) (d n : Nat) (x : CrcH) : (s.setCrc d n x).stat = s.stat := rfl
@[simp] theorem Dev.setCrc_mirror (s : Dev) (d n : Nat) (x : CrcH) : (s.setCrc d n x).mirror = s.mirror := rfl
@[simp] theorem Dev.setCrc_host (s : Dev) (d n : Nat) (x : CrcH) : (s.setCrc d n x).host = s.host := rfl
@[simp] theorem Dev.setCrc_spi (s : Dev) (d n : Nat) (x : CrcH) : (s.setCrc d n x).spi = s.spi := rfl
@[simp] theorem Dev.setCrc_cans (s : Dev) (d n : Nat) (x : CrcH) : (s.setCrc d n x).cans = s.cans := rfl
@[simp] theorem Dev.setCrc_pzp (s : Dev) (d n : Nat) (x : CrcH) : (s.setCrc d n x).pzp = s.pzp := rfl
@[simp] theorem Dev.setCrc_pwr (s : Dev) (d n : Nat) (x : CrcH) : (s.setCrc d n x).pwr = s.pwr := rfl

@[simp] theorem Dev.setEng_us (s : Dev) (d : Nat) (x : BistH) : (s.setEng d x).us = s.us := rfl
@[simp] theorem Dev.setEng_fresh (s : Dev) (d : Nat) (x : BistH) : (s.setEng d x).fresh = s.fresh := rfl
@[simp] theorem Dev.setEng_regs (s : Dev) (d : Nat) (x : BistH) : (s.setEng d x).regs = s.regs := rfl
@[simp] theorem Dev.setEng_latched (s : Dev) (d : Nat) (x : BistH) : (s.setEng d x).latched = s.latched := rfl
@[simp] theorem Dev.setEng_out (s : Dev) (d : Nat) (x : BistH) : (s.setEng d x).out = s.out := rfl
@[simp] theorem Dev.setEng_flt (s : Dev) (d : Nat) (x : BistH) : (s.setEng d x).flt = s.flt := rfl
@[simp] theorem Dev.setEng_crcs (s : Dev) (d : Nat) (x : BistH) : (s.setEng d x).crcs = s.crcs := rfl
@[simp] theorem Dev.setEng_cfg (s : Dev) (d : Nat) (x : BistH) : (s.setEng d x).cfg = s.cfg := rfl
@[simp] theorem Dev.setEng_lanes (s : Dev) (d : Nat) (x : BistH) : (s.setEng d x).lanes = s.lanes := rfl
@[simp] theorem Dev.setEng_ins (s : Dev) (d : Nat) (x : BistH) : (s.setEng d x).ins = s.ins := rfl
@[simp] theorem Dev.setEng_halves (s : Dev) (d : Nat) (x : BistH) : (s.setEng d x).halves = s.halves := rfl
@[simp] theorem Dev.setEng_dies (s : Dev) (d : Nat) (x : BistH) : (s.setEng d x).dies = s.dies := rfl
@[simp] theorem Dev.setEng_drcs (s : Dev) (d : Nat) (x : BistH) : (s.setEng d x).drcs = s.drcs := rfl
@[simp] theorem Dev.setEng_drcChs (s : Dev) (d : Nat) (x : BistH) : (s.setEng d x).drcChs = s.drcChs := rfl
@[simp] theorem Dev.setEng_spans (s : Dev) (d : Nat) (x : BistH) : (s.setEng d x).spans = s.spans := rfl
@[simp] theorem Dev.setEng_coefs (s : Dev) (d : Nat) (x : BistH) : (s.setEng d x).coefs = s.coefs := rfl
@[simp] theorem Dev.setEng_rows (s : Dev) (d : Nat) (x : BistH) : (s.setEng d x).rows = s.rows := rfl
@[simp] theorem Dev.setEng_rasPoison (s : Dev) (d : Nat) (x : BistH) : (s.setEng d x).rasPoison = s.rasPoison := rfl
@[simp] theorem Dev.setEng_ttemps (s : Dev) (d : Nat) (x : BistH) : (s.setEng d x).ttemps = s.ttemps := rfl
@[simp] theorem Dev.setEng_imu (s : Dev) (d : Nat) (x : BistH) : (s.setEng d x).imu = s.imu := rfl
@[simp] theorem Dev.setEng_bud (s : Dev) (d : Nat) (x : BistH) : (s.setEng d x).bud = s.bud := rfl
@[simp] theorem Dev.setEng_cals (s : Dev) (d : Nat) (x : BistH) : (s.setEng d x).cals = s.cals := rfl
@[simp] theorem Dev.setEng_chans (s : Dev) (d : Nat) (x : BistH) : (s.setEng d x).chans = s.chans := rfl
@[simp] theorem Dev.setEng_runs (s : Dev) (d : Nat) (x : BistH) : (s.setEng d x).runs = s.runs := rfl
@[simp] theorem Dev.setEng_groups (s : Dev) (d : Nat) (x : BistH) : (s.setEng d x).groups = s.groups := rfl
@[simp] theorem Dev.setEng_hvs (s : Dev) (d : Nat) (x : BistH) : (s.setEng d x).hvs = s.hvs := rfl
@[simp] theorem Dev.setEng_img (s : Dev) (d : Nat) (x : BistH) : (s.setEng d x).img = s.img := rfl
@[simp] theorem Dev.setEng_rbs (s : Dev) (d : Nat) (x : BistH) : (s.setEng d x).rbs = s.rbs := rfl
@[simp] theorem Dev.setEng_dcs (s : Dev) (d : Nat) (x : BistH) : (s.setEng d x).dcs = s.dcs := rfl
@[simp] theorem Dev.setEng_brgs (s : Dev) (d : Nat) (x : BistH) : (s.setEng d x).brgs = s.brgs := rfl
@[simp] theorem Dev.setEng_thm (s : Dev) (d : Nat) (x : BistH) : (s.setEng d x).thm = s.thm := rfl
@[simp] theorem Dev.setEng_stat (s : Dev) (d : Nat) (x : BistH) : (s.setEng d x).stat = s.stat := rfl
@[simp] theorem Dev.setEng_mirror (s : Dev) (d : Nat) (x : BistH) : (s.setEng d x).mirror = s.mirror := rfl
@[simp] theorem Dev.setEng_host (s : Dev) (d : Nat) (x : BistH) : (s.setEng d x).host = s.host := rfl
@[simp] theorem Dev.setEng_spi (s : Dev) (d : Nat) (x : BistH) : (s.setEng d x).spi = s.spi := rfl
@[simp] theorem Dev.setEng_cans (s : Dev) (d : Nat) (x : BistH) : (s.setEng d x).cans = s.cans := rfl
@[simp] theorem Dev.setEng_pzp (s : Dev) (d : Nat) (x : BistH) : (s.setEng d x).pzp = s.pzp := rfl
@[simp] theorem Dev.setEng_pwr (s : Dev) (d : Nat) (x : BistH) : (s.setEng d x).pwr = s.pwr := rfl

@[simp] theorem Dev.setCal_us (s : Dev) (d n : Nat) (x : CalH) : (s.setCal d n x).us = s.us := rfl
@[simp] theorem Dev.setCal_fresh (s : Dev) (d n : Nat) (x : CalH) : (s.setCal d n x).fresh = s.fresh := rfl
@[simp] theorem Dev.setCal_regs (s : Dev) (d n : Nat) (x : CalH) : (s.setCal d n x).regs = s.regs := rfl
@[simp] theorem Dev.setCal_latched (s : Dev) (d n : Nat) (x : CalH) : (s.setCal d n x).latched = s.latched := rfl
@[simp] theorem Dev.setCal_out (s : Dev) (d n : Nat) (x : CalH) : (s.setCal d n x).out = s.out := rfl
@[simp] theorem Dev.setCal_flt (s : Dev) (d n : Nat) (x : CalH) : (s.setCal d n x).flt = s.flt := rfl
@[simp] theorem Dev.setCal_crcs (s : Dev) (d n : Nat) (x : CalH) : (s.setCal d n x).crcs = s.crcs := rfl
@[simp] theorem Dev.setCal_cfg (s : Dev) (d n : Nat) (x : CalH) : (s.setCal d n x).cfg = s.cfg := rfl
@[simp] theorem Dev.setCal_lanes (s : Dev) (d n : Nat) (x : CalH) : (s.setCal d n x).lanes = s.lanes := rfl
@[simp] theorem Dev.setCal_ins (s : Dev) (d n : Nat) (x : CalH) : (s.setCal d n x).ins = s.ins := rfl
@[simp] theorem Dev.setCal_halves (s : Dev) (d n : Nat) (x : CalH) : (s.setCal d n x).halves = s.halves := rfl
@[simp] theorem Dev.setCal_dies (s : Dev) (d n : Nat) (x : CalH) : (s.setCal d n x).dies = s.dies := rfl
@[simp] theorem Dev.setCal_drcs (s : Dev) (d n : Nat) (x : CalH) : (s.setCal d n x).drcs = s.drcs := rfl
@[simp] theorem Dev.setCal_drcChs (s : Dev) (d n : Nat) (x : CalH) : (s.setCal d n x).drcChs = s.drcChs := rfl
@[simp] theorem Dev.setCal_spans (s : Dev) (d n : Nat) (x : CalH) : (s.setCal d n x).spans = s.spans := rfl
@[simp] theorem Dev.setCal_coefs (s : Dev) (d n : Nat) (x : CalH) : (s.setCal d n x).coefs = s.coefs := rfl
@[simp] theorem Dev.setCal_rows (s : Dev) (d n : Nat) (x : CalH) : (s.setCal d n x).rows = s.rows := rfl
@[simp] theorem Dev.setCal_rasPoison (s : Dev) (d n : Nat) (x : CalH) : (s.setCal d n x).rasPoison = s.rasPoison := rfl
@[simp] theorem Dev.setCal_ttemps (s : Dev) (d n : Nat) (x : CalH) : (s.setCal d n x).ttemps = s.ttemps := rfl
@[simp] theorem Dev.setCal_imu (s : Dev) (d n : Nat) (x : CalH) : (s.setCal d n x).imu = s.imu := rfl
@[simp] theorem Dev.setCal_bud (s : Dev) (d n : Nat) (x : CalH) : (s.setCal d n x).bud = s.bud := rfl
@[simp] theorem Dev.setCal_bist (s : Dev) (d n : Nat) (x : CalH) : (s.setCal d n x).bist = s.bist := rfl
@[simp] theorem Dev.setCal_chans (s : Dev) (d n : Nat) (x : CalH) : (s.setCal d n x).chans = s.chans := rfl
@[simp] theorem Dev.setCal_runs (s : Dev) (d n : Nat) (x : CalH) : (s.setCal d n x).runs = s.runs := rfl
@[simp] theorem Dev.setCal_groups (s : Dev) (d n : Nat) (x : CalH) : (s.setCal d n x).groups = s.groups := rfl
@[simp] theorem Dev.setCal_hvs (s : Dev) (d n : Nat) (x : CalH) : (s.setCal d n x).hvs = s.hvs := rfl
@[simp] theorem Dev.setCal_img (s : Dev) (d n : Nat) (x : CalH) : (s.setCal d n x).img = s.img := rfl
@[simp] theorem Dev.setCal_rbs (s : Dev) (d n : Nat) (x : CalH) : (s.setCal d n x).rbs = s.rbs := rfl
@[simp] theorem Dev.setCal_dcs (s : Dev) (d n : Nat) (x : CalH) : (s.setCal d n x).dcs = s.dcs := rfl
@[simp] theorem Dev.setCal_brgs (s : Dev) (d n : Nat) (x : CalH) : (s.setCal d n x).brgs = s.brgs := rfl
@[simp] theorem Dev.setCal_thm (s : Dev) (d n : Nat) (x : CalH) : (s.setCal d n x).thm = s.thm := rfl
@[simp] theorem Dev.setCal_stat (s : Dev) (d n : Nat) (x : CalH) : (s.setCal d n x).stat = s.stat := rfl
@[simp] theorem Dev.setCal_mirror (s : Dev) (d n : Nat) (x : CalH) : (s.setCal d n x).mirror = s.mirror := rfl
@[simp] theorem Dev.setCal_host (s : Dev) (d n : Nat) (x : CalH) : (s.setCal d n x).host = s.host := rfl
@[simp] theorem Dev.setCal_spi (s : Dev) (d n : Nat) (x : CalH) : (s.setCal d n x).spi = s.spi := rfl
@[simp] theorem Dev.setCal_cans (s : Dev) (d n : Nat) (x : CalH) : (s.setCal d n x).cans = s.cans := rfl
@[simp] theorem Dev.setCal_pzp (s : Dev) (d n : Nat) (x : CalH) : (s.setCal d n x).pzp = s.pzp := rfl
@[simp] theorem Dev.setCal_pwr (s : Dev) (d n : Nat) (x : CalH) : (s.setCal d n x).pwr = s.pwr := rfl

@[simp] theorem Dev.setChan_us (s : Dev) (d : Nat) (x : ChanH) : (s.setChan d x).us = s.us := rfl
@[simp] theorem Dev.setChan_fresh (s : Dev) (d : Nat) (x : ChanH) : (s.setChan d x).fresh = s.fresh := rfl
@[simp] theorem Dev.setChan_regs (s : Dev) (d : Nat) (x : ChanH) : (s.setChan d x).regs = s.regs := rfl
@[simp] theorem Dev.setChan_latched (s : Dev) (d : Nat) (x : ChanH) : (s.setChan d x).latched = s.latched := rfl
@[simp] theorem Dev.setChan_out (s : Dev) (d : Nat) (x : ChanH) : (s.setChan d x).out = s.out := rfl
@[simp] theorem Dev.setChan_flt (s : Dev) (d : Nat) (x : ChanH) : (s.setChan d x).flt = s.flt := rfl
@[simp] theorem Dev.setChan_crcs (s : Dev) (d : Nat) (x : ChanH) : (s.setChan d x).crcs = s.crcs := rfl
@[simp] theorem Dev.setChan_cfg (s : Dev) (d : Nat) (x : ChanH) : (s.setChan d x).cfg = s.cfg := rfl
@[simp] theorem Dev.setChan_lanes (s : Dev) (d : Nat) (x : ChanH) : (s.setChan d x).lanes = s.lanes := rfl
@[simp] theorem Dev.setChan_ins (s : Dev) (d : Nat) (x : ChanH) : (s.setChan d x).ins = s.ins := rfl
@[simp] theorem Dev.setChan_halves (s : Dev) (d : Nat) (x : ChanH) : (s.setChan d x).halves = s.halves := rfl
@[simp] theorem Dev.setChan_dies (s : Dev) (d : Nat) (x : ChanH) : (s.setChan d x).dies = s.dies := rfl
@[simp] theorem Dev.setChan_drcs (s : Dev) (d : Nat) (x : ChanH) : (s.setChan d x).drcs = s.drcs := rfl
@[simp] theorem Dev.setChan_drcChs (s : Dev) (d : Nat) (x : ChanH) : (s.setChan d x).drcChs = s.drcChs := rfl
@[simp] theorem Dev.setChan_spans (s : Dev) (d : Nat) (x : ChanH) : (s.setChan d x).spans = s.spans := rfl
@[simp] theorem Dev.setChan_coefs (s : Dev) (d : Nat) (x : ChanH) : (s.setChan d x).coefs = s.coefs := rfl
@[simp] theorem Dev.setChan_rows (s : Dev) (d : Nat) (x : ChanH) : (s.setChan d x).rows = s.rows := rfl
@[simp] theorem Dev.setChan_rasPoison (s : Dev) (d : Nat) (x : ChanH) : (s.setChan d x).rasPoison = s.rasPoison := rfl
@[simp] theorem Dev.setChan_ttemps (s : Dev) (d : Nat) (x : ChanH) : (s.setChan d x).ttemps = s.ttemps := rfl
@[simp] theorem Dev.setChan_imu (s : Dev) (d : Nat) (x : ChanH) : (s.setChan d x).imu = s.imu := rfl
@[simp] theorem Dev.setChan_bud (s : Dev) (d : Nat) (x : ChanH) : (s.setChan d x).bud = s.bud := rfl
@[simp] theorem Dev.setChan_bist (s : Dev) (d : Nat) (x : ChanH) : (s.setChan d x).bist = s.bist := rfl
@[simp] theorem Dev.setChan_cals (s : Dev) (d : Nat) (x : ChanH) : (s.setChan d x).cals = s.cals := rfl
@[simp] theorem Dev.setChan_runs (s : Dev) (d : Nat) (x : ChanH) : (s.setChan d x).runs = s.runs := rfl
@[simp] theorem Dev.setChan_groups (s : Dev) (d : Nat) (x : ChanH) : (s.setChan d x).groups = s.groups := rfl
@[simp] theorem Dev.setChan_hvs (s : Dev) (d : Nat) (x : ChanH) : (s.setChan d x).hvs = s.hvs := rfl
@[simp] theorem Dev.setChan_img (s : Dev) (d : Nat) (x : ChanH) : (s.setChan d x).img = s.img := rfl
@[simp] theorem Dev.setChan_rbs (s : Dev) (d : Nat) (x : ChanH) : (s.setChan d x).rbs = s.rbs := rfl
@[simp] theorem Dev.setChan_dcs (s : Dev) (d : Nat) (x : ChanH) : (s.setChan d x).dcs = s.dcs := rfl
@[simp] theorem Dev.setChan_brgs (s : Dev) (d : Nat) (x : ChanH) : (s.setChan d x).brgs = s.brgs := rfl
@[simp] theorem Dev.setChan_thm (s : Dev) (d : Nat) (x : ChanH) : (s.setChan d x).thm = s.thm := rfl
@[simp] theorem Dev.setChan_stat (s : Dev) (d : Nat) (x : ChanH) : (s.setChan d x).stat = s.stat := rfl
@[simp] theorem Dev.setChan_mirror (s : Dev) (d : Nat) (x : ChanH) : (s.setChan d x).mirror = s.mirror := rfl
@[simp] theorem Dev.setChan_host (s : Dev) (d : Nat) (x : ChanH) : (s.setChan d x).host = s.host := rfl
@[simp] theorem Dev.setChan_spi (s : Dev) (d : Nat) (x : ChanH) : (s.setChan d x).spi = s.spi := rfl
@[simp] theorem Dev.setChan_cans (s : Dev) (d : Nat) (x : ChanH) : (s.setChan d x).cans = s.cans := rfl
@[simp] theorem Dev.setChan_pzp (s : Dev) (d : Nat) (x : ChanH) : (s.setChan d x).pzp = s.pzp := rfl
@[simp] theorem Dev.setChan_pwr (s : Dev) (d : Nat) (x : ChanH) : (s.setChan d x).pwr = s.pwr := rfl

@[simp] theorem Dev.setRun_us (s : Dev) (d n : Nat) (x : RunH) : (s.setRun d n x).us = s.us := rfl
@[simp] theorem Dev.setRun_fresh (s : Dev) (d n : Nat) (x : RunH) : (s.setRun d n x).fresh = s.fresh := rfl
@[simp] theorem Dev.setRun_regs (s : Dev) (d n : Nat) (x : RunH) : (s.setRun d n x).regs = s.regs := rfl
@[simp] theorem Dev.setRun_latched (s : Dev) (d n : Nat) (x : RunH) : (s.setRun d n x).latched = s.latched := rfl
@[simp] theorem Dev.setRun_out (s : Dev) (d n : Nat) (x : RunH) : (s.setRun d n x).out = s.out := rfl
@[simp] theorem Dev.setRun_flt (s : Dev) (d n : Nat) (x : RunH) : (s.setRun d n x).flt = s.flt := rfl
@[simp] theorem Dev.setRun_crcs (s : Dev) (d n : Nat) (x : RunH) : (s.setRun d n x).crcs = s.crcs := rfl
@[simp] theorem Dev.setRun_cfg (s : Dev) (d n : Nat) (x : RunH) : (s.setRun d n x).cfg = s.cfg := rfl
@[simp] theorem Dev.setRun_lanes (s : Dev) (d n : Nat) (x : RunH) : (s.setRun d n x).lanes = s.lanes := rfl
@[simp] theorem Dev.setRun_ins (s : Dev) (d n : Nat) (x : RunH) : (s.setRun d n x).ins = s.ins := rfl
@[simp] theorem Dev.setRun_halves (s : Dev) (d n : Nat) (x : RunH) : (s.setRun d n x).halves = s.halves := rfl
@[simp] theorem Dev.setRun_dies (s : Dev) (d n : Nat) (x : RunH) : (s.setRun d n x).dies = s.dies := rfl
@[simp] theorem Dev.setRun_drcs (s : Dev) (d n : Nat) (x : RunH) : (s.setRun d n x).drcs = s.drcs := rfl
@[simp] theorem Dev.setRun_drcChs (s : Dev) (d n : Nat) (x : RunH) : (s.setRun d n x).drcChs = s.drcChs := rfl
@[simp] theorem Dev.setRun_spans (s : Dev) (d n : Nat) (x : RunH) : (s.setRun d n x).spans = s.spans := rfl
@[simp] theorem Dev.setRun_coefs (s : Dev) (d n : Nat) (x : RunH) : (s.setRun d n x).coefs = s.coefs := rfl
@[simp] theorem Dev.setRun_rows (s : Dev) (d n : Nat) (x : RunH) : (s.setRun d n x).rows = s.rows := rfl
@[simp] theorem Dev.setRun_rasPoison (s : Dev) (d n : Nat) (x : RunH) : (s.setRun d n x).rasPoison = s.rasPoison := rfl
@[simp] theorem Dev.setRun_ttemps (s : Dev) (d n : Nat) (x : RunH) : (s.setRun d n x).ttemps = s.ttemps := rfl
@[simp] theorem Dev.setRun_imu (s : Dev) (d n : Nat) (x : RunH) : (s.setRun d n x).imu = s.imu := rfl
@[simp] theorem Dev.setRun_bud (s : Dev) (d n : Nat) (x : RunH) : (s.setRun d n x).bud = s.bud := rfl
@[simp] theorem Dev.setRun_bist (s : Dev) (d n : Nat) (x : RunH) : (s.setRun d n x).bist = s.bist := rfl
@[simp] theorem Dev.setRun_cals (s : Dev) (d n : Nat) (x : RunH) : (s.setRun d n x).cals = s.cals := rfl
@[simp] theorem Dev.setRun_chans (s : Dev) (d n : Nat) (x : RunH) : (s.setRun d n x).chans = s.chans := rfl
@[simp] theorem Dev.setRun_groups (s : Dev) (d n : Nat) (x : RunH) : (s.setRun d n x).groups = s.groups := rfl
@[simp] theorem Dev.setRun_hvs (s : Dev) (d n : Nat) (x : RunH) : (s.setRun d n x).hvs = s.hvs := rfl
@[simp] theorem Dev.setRun_img (s : Dev) (d n : Nat) (x : RunH) : (s.setRun d n x).img = s.img := rfl
@[simp] theorem Dev.setRun_rbs (s : Dev) (d n : Nat) (x : RunH) : (s.setRun d n x).rbs = s.rbs := rfl
@[simp] theorem Dev.setRun_dcs (s : Dev) (d n : Nat) (x : RunH) : (s.setRun d n x).dcs = s.dcs := rfl
@[simp] theorem Dev.setRun_brgs (s : Dev) (d n : Nat) (x : RunH) : (s.setRun d n x).brgs = s.brgs := rfl
@[simp] theorem Dev.setRun_thm (s : Dev) (d n : Nat) (x : RunH) : (s.setRun d n x).thm = s.thm := rfl
@[simp] theorem Dev.setRun_stat (s : Dev) (d n : Nat) (x : RunH) : (s.setRun d n x).stat = s.stat := rfl
@[simp] theorem Dev.setRun_mirror (s : Dev) (d n : Nat) (x : RunH) : (s.setRun d n x).mirror = s.mirror := rfl
@[simp] theorem Dev.setRun_host (s : Dev) (d n : Nat) (x : RunH) : (s.setRun d n x).host = s.host := rfl
@[simp] theorem Dev.setRun_spi (s : Dev) (d n : Nat) (x : RunH) : (s.setRun d n x).spi = s.spi := rfl
@[simp] theorem Dev.setRun_cans (s : Dev) (d n : Nat) (x : RunH) : (s.setRun d n x).cans = s.cans := rfl
@[simp] theorem Dev.setRun_pzp (s : Dev) (d n : Nat) (x : RunH) : (s.setRun d n x).pzp = s.pzp := rfl
@[simp] theorem Dev.setRun_pwr (s : Dev) (d n : Nat) (x : RunH) : (s.setRun d n x).pwr = s.pwr := rfl

@[simp] theorem Dev.setGroup_us (s : Dev) (d n : Nat) (x : GroupH) : (s.setGroup d n x).us = s.us := rfl
@[simp] theorem Dev.setGroup_fresh (s : Dev) (d n : Nat) (x : GroupH) : (s.setGroup d n x).fresh = s.fresh := rfl
@[simp] theorem Dev.setGroup_regs (s : Dev) (d n : Nat) (x : GroupH) : (s.setGroup d n x).regs = s.regs := rfl
@[simp] theorem Dev.setGroup_latched (s : Dev) (d n : Nat) (x : GroupH) : (s.setGroup d n x).latched = s.latched := rfl
@[simp] theorem Dev.setGroup_out (s : Dev) (d n : Nat) (x : GroupH) : (s.setGroup d n x).out = s.out := rfl
@[simp] theorem Dev.setGroup_flt (s : Dev) (d n : Nat) (x : GroupH) : (s.setGroup d n x).flt = s.flt := rfl
@[simp] theorem Dev.setGroup_crcs (s : Dev) (d n : Nat) (x : GroupH) : (s.setGroup d n x).crcs = s.crcs := rfl
@[simp] theorem Dev.setGroup_cfg (s : Dev) (d n : Nat) (x : GroupH) : (s.setGroup d n x).cfg = s.cfg := rfl
@[simp] theorem Dev.setGroup_lanes (s : Dev) (d n : Nat) (x : GroupH) : (s.setGroup d n x).lanes = s.lanes := rfl
@[simp] theorem Dev.setGroup_ins (s : Dev) (d n : Nat) (x : GroupH) : (s.setGroup d n x).ins = s.ins := rfl
@[simp] theorem Dev.setGroup_halves (s : Dev) (d n : Nat) (x : GroupH) : (s.setGroup d n x).halves = s.halves := rfl
@[simp] theorem Dev.setGroup_dies (s : Dev) (d n : Nat) (x : GroupH) : (s.setGroup d n x).dies = s.dies := rfl
@[simp] theorem Dev.setGroup_drcs (s : Dev) (d n : Nat) (x : GroupH) : (s.setGroup d n x).drcs = s.drcs := rfl
@[simp] theorem Dev.setGroup_drcChs (s : Dev) (d n : Nat) (x : GroupH) : (s.setGroup d n x).drcChs = s.drcChs := rfl
@[simp] theorem Dev.setGroup_spans (s : Dev) (d n : Nat) (x : GroupH) : (s.setGroup d n x).spans = s.spans := rfl
@[simp] theorem Dev.setGroup_coefs (s : Dev) (d n : Nat) (x : GroupH) : (s.setGroup d n x).coefs = s.coefs := rfl
@[simp] theorem Dev.setGroup_rows (s : Dev) (d n : Nat) (x : GroupH) : (s.setGroup d n x).rows = s.rows := rfl
@[simp] theorem Dev.setGroup_rasPoison (s : Dev) (d n : Nat) (x : GroupH) : (s.setGroup d n x).rasPoison = s.rasPoison := rfl
@[simp] theorem Dev.setGroup_ttemps (s : Dev) (d n : Nat) (x : GroupH) : (s.setGroup d n x).ttemps = s.ttemps := rfl
@[simp] theorem Dev.setGroup_imu (s : Dev) (d n : Nat) (x : GroupH) : (s.setGroup d n x).imu = s.imu := rfl
@[simp] theorem Dev.setGroup_bud (s : Dev) (d n : Nat) (x : GroupH) : (s.setGroup d n x).bud = s.bud := rfl
@[simp] theorem Dev.setGroup_bist (s : Dev) (d n : Nat) (x : GroupH) : (s.setGroup d n x).bist = s.bist := rfl
@[simp] theorem Dev.setGroup_cals (s : Dev) (d n : Nat) (x : GroupH) : (s.setGroup d n x).cals = s.cals := rfl
@[simp] theorem Dev.setGroup_chans (s : Dev) (d n : Nat) (x : GroupH) : (s.setGroup d n x).chans = s.chans := rfl
@[simp] theorem Dev.setGroup_runs (s : Dev) (d n : Nat) (x : GroupH) : (s.setGroup d n x).runs = s.runs := rfl
@[simp] theorem Dev.setGroup_hvs (s : Dev) (d n : Nat) (x : GroupH) : (s.setGroup d n x).hvs = s.hvs := rfl
@[simp] theorem Dev.setGroup_img (s : Dev) (d n : Nat) (x : GroupH) : (s.setGroup d n x).img = s.img := rfl
@[simp] theorem Dev.setGroup_rbs (s : Dev) (d n : Nat) (x : GroupH) : (s.setGroup d n x).rbs = s.rbs := rfl
@[simp] theorem Dev.setGroup_dcs (s : Dev) (d n : Nat) (x : GroupH) : (s.setGroup d n x).dcs = s.dcs := rfl
@[simp] theorem Dev.setGroup_brgs (s : Dev) (d n : Nat) (x : GroupH) : (s.setGroup d n x).brgs = s.brgs := rfl
@[simp] theorem Dev.setGroup_thm (s : Dev) (d n : Nat) (x : GroupH) : (s.setGroup d n x).thm = s.thm := rfl
@[simp] theorem Dev.setGroup_stat (s : Dev) (d n : Nat) (x : GroupH) : (s.setGroup d n x).stat = s.stat := rfl
@[simp] theorem Dev.setGroup_mirror (s : Dev) (d n : Nat) (x : GroupH) : (s.setGroup d n x).mirror = s.mirror := rfl
@[simp] theorem Dev.setGroup_host (s : Dev) (d n : Nat) (x : GroupH) : (s.setGroup d n x).host = s.host := rfl
@[simp] theorem Dev.setGroup_spi (s : Dev) (d n : Nat) (x : GroupH) : (s.setGroup d n x).spi = s.spi := rfl
@[simp] theorem Dev.setGroup_cans (s : Dev) (d n : Nat) (x : GroupH) : (s.setGroup d n x).cans = s.cans := rfl
@[simp] theorem Dev.setGroup_pzp (s : Dev) (d n : Nat) (x : GroupH) : (s.setGroup d n x).pzp = s.pzp := rfl
@[simp] theorem Dev.setGroup_pwr (s : Dev) (d n : Nat) (x : GroupH) : (s.setGroup d n x).pwr = s.pwr := rfl

@[simp] theorem Dev.setHv_us (s : Dev) (d : Nat) (x : HvH) : (s.setHv d x).us = s.us := rfl
@[simp] theorem Dev.setHv_fresh (s : Dev) (d : Nat) (x : HvH) : (s.setHv d x).fresh = s.fresh := rfl
@[simp] theorem Dev.setHv_regs (s : Dev) (d : Nat) (x : HvH) : (s.setHv d x).regs = s.regs := rfl
@[simp] theorem Dev.setHv_latched (s : Dev) (d : Nat) (x : HvH) : (s.setHv d x).latched = s.latched := rfl
@[simp] theorem Dev.setHv_out (s : Dev) (d : Nat) (x : HvH) : (s.setHv d x).out = s.out := rfl
@[simp] theorem Dev.setHv_flt (s : Dev) (d : Nat) (x : HvH) : (s.setHv d x).flt = s.flt := rfl
@[simp] theorem Dev.setHv_crcs (s : Dev) (d : Nat) (x : HvH) : (s.setHv d x).crcs = s.crcs := rfl
@[simp] theorem Dev.setHv_cfg (s : Dev) (d : Nat) (x : HvH) : (s.setHv d x).cfg = s.cfg := rfl
@[simp] theorem Dev.setHv_lanes (s : Dev) (d : Nat) (x : HvH) : (s.setHv d x).lanes = s.lanes := rfl
@[simp] theorem Dev.setHv_ins (s : Dev) (d : Nat) (x : HvH) : (s.setHv d x).ins = s.ins := rfl
@[simp] theorem Dev.setHv_halves (s : Dev) (d : Nat) (x : HvH) : (s.setHv d x).halves = s.halves := rfl
@[simp] theorem Dev.setHv_dies (s : Dev) (d : Nat) (x : HvH) : (s.setHv d x).dies = s.dies := rfl
@[simp] theorem Dev.setHv_drcs (s : Dev) (d : Nat) (x : HvH) : (s.setHv d x).drcs = s.drcs := rfl
@[simp] theorem Dev.setHv_drcChs (s : Dev) (d : Nat) (x : HvH) : (s.setHv d x).drcChs = s.drcChs := rfl
@[simp] theorem Dev.setHv_spans (s : Dev) (d : Nat) (x : HvH) : (s.setHv d x).spans = s.spans := rfl
@[simp] theorem Dev.setHv_coefs (s : Dev) (d : Nat) (x : HvH) : (s.setHv d x).coefs = s.coefs := rfl
@[simp] theorem Dev.setHv_rows (s : Dev) (d : Nat) (x : HvH) : (s.setHv d x).rows = s.rows := rfl
@[simp] theorem Dev.setHv_rasPoison (s : Dev) (d : Nat) (x : HvH) : (s.setHv d x).rasPoison = s.rasPoison := rfl
@[simp] theorem Dev.setHv_ttemps (s : Dev) (d : Nat) (x : HvH) : (s.setHv d x).ttemps = s.ttemps := rfl
@[simp] theorem Dev.setHv_imu (s : Dev) (d : Nat) (x : HvH) : (s.setHv d x).imu = s.imu := rfl
@[simp] theorem Dev.setHv_bud (s : Dev) (d : Nat) (x : HvH) : (s.setHv d x).bud = s.bud := rfl
@[simp] theorem Dev.setHv_bist (s : Dev) (d : Nat) (x : HvH) : (s.setHv d x).bist = s.bist := rfl
@[simp] theorem Dev.setHv_cals (s : Dev) (d : Nat) (x : HvH) : (s.setHv d x).cals = s.cals := rfl
@[simp] theorem Dev.setHv_chans (s : Dev) (d : Nat) (x : HvH) : (s.setHv d x).chans = s.chans := rfl
@[simp] theorem Dev.setHv_runs (s : Dev) (d : Nat) (x : HvH) : (s.setHv d x).runs = s.runs := rfl
@[simp] theorem Dev.setHv_groups (s : Dev) (d : Nat) (x : HvH) : (s.setHv d x).groups = s.groups := rfl
@[simp] theorem Dev.setHv_img (s : Dev) (d : Nat) (x : HvH) : (s.setHv d x).img = s.img := rfl
@[simp] theorem Dev.setHv_rbs (s : Dev) (d : Nat) (x : HvH) : (s.setHv d x).rbs = s.rbs := rfl
@[simp] theorem Dev.setHv_dcs (s : Dev) (d : Nat) (x : HvH) : (s.setHv d x).dcs = s.dcs := rfl
@[simp] theorem Dev.setHv_brgs (s : Dev) (d : Nat) (x : HvH) : (s.setHv d x).brgs = s.brgs := rfl
@[simp] theorem Dev.setHv_thm (s : Dev) (d : Nat) (x : HvH) : (s.setHv d x).thm = s.thm := rfl
@[simp] theorem Dev.setHv_stat (s : Dev) (d : Nat) (x : HvH) : (s.setHv d x).stat = s.stat := rfl
@[simp] theorem Dev.setHv_mirror (s : Dev) (d : Nat) (x : HvH) : (s.setHv d x).mirror = s.mirror := rfl
@[simp] theorem Dev.setHv_host (s : Dev) (d : Nat) (x : HvH) : (s.setHv d x).host = s.host := rfl
@[simp] theorem Dev.setHv_spi (s : Dev) (d : Nat) (x : HvH) : (s.setHv d x).spi = s.spi := rfl
@[simp] theorem Dev.setHv_cans (s : Dev) (d : Nat) (x : HvH) : (s.setHv d x).cans = s.cans := rfl
@[simp] theorem Dev.setHv_pzp (s : Dev) (d : Nat) (x : HvH) : (s.setHv d x).pzp = s.pzp := rfl
@[simp] theorem Dev.setHv_pwr (s : Dev) (d : Nat) (x : HvH) : (s.setHv d x).pwr = s.pwr := rfl

@[simp] theorem Dev.setRb_us (s : Dev) (d : Nat) (x : RbH) : (s.setRb d x).us = s.us := rfl
@[simp] theorem Dev.setRb_fresh (s : Dev) (d : Nat) (x : RbH) : (s.setRb d x).fresh = s.fresh := rfl
@[simp] theorem Dev.setRb_regs (s : Dev) (d : Nat) (x : RbH) : (s.setRb d x).regs = s.regs := rfl
@[simp] theorem Dev.setRb_latched (s : Dev) (d : Nat) (x : RbH) : (s.setRb d x).latched = s.latched := rfl
@[simp] theorem Dev.setRb_out (s : Dev) (d : Nat) (x : RbH) : (s.setRb d x).out = s.out := rfl
@[simp] theorem Dev.setRb_flt (s : Dev) (d : Nat) (x : RbH) : (s.setRb d x).flt = s.flt := rfl
@[simp] theorem Dev.setRb_crcs (s : Dev) (d : Nat) (x : RbH) : (s.setRb d x).crcs = s.crcs := rfl
@[simp] theorem Dev.setRb_cfg (s : Dev) (d : Nat) (x : RbH) : (s.setRb d x).cfg = s.cfg := rfl
@[simp] theorem Dev.setRb_lanes (s : Dev) (d : Nat) (x : RbH) : (s.setRb d x).lanes = s.lanes := rfl
@[simp] theorem Dev.setRb_ins (s : Dev) (d : Nat) (x : RbH) : (s.setRb d x).ins = s.ins := rfl
@[simp] theorem Dev.setRb_halves (s : Dev) (d : Nat) (x : RbH) : (s.setRb d x).halves = s.halves := rfl
@[simp] theorem Dev.setRb_dies (s : Dev) (d : Nat) (x : RbH) : (s.setRb d x).dies = s.dies := rfl
@[simp] theorem Dev.setRb_drcs (s : Dev) (d : Nat) (x : RbH) : (s.setRb d x).drcs = s.drcs := rfl
@[simp] theorem Dev.setRb_drcChs (s : Dev) (d : Nat) (x : RbH) : (s.setRb d x).drcChs = s.drcChs := rfl
@[simp] theorem Dev.setRb_spans (s : Dev) (d : Nat) (x : RbH) : (s.setRb d x).spans = s.spans := rfl
@[simp] theorem Dev.setRb_coefs (s : Dev) (d : Nat) (x : RbH) : (s.setRb d x).coefs = s.coefs := rfl
@[simp] theorem Dev.setRb_rows (s : Dev) (d : Nat) (x : RbH) : (s.setRb d x).rows = s.rows := rfl
@[simp] theorem Dev.setRb_rasPoison (s : Dev) (d : Nat) (x : RbH) : (s.setRb d x).rasPoison = s.rasPoison := rfl
@[simp] theorem Dev.setRb_ttemps (s : Dev) (d : Nat) (x : RbH) : (s.setRb d x).ttemps = s.ttemps := rfl
@[simp] theorem Dev.setRb_imu (s : Dev) (d : Nat) (x : RbH) : (s.setRb d x).imu = s.imu := rfl
@[simp] theorem Dev.setRb_bud (s : Dev) (d : Nat) (x : RbH) : (s.setRb d x).bud = s.bud := rfl
@[simp] theorem Dev.setRb_bist (s : Dev) (d : Nat) (x : RbH) : (s.setRb d x).bist = s.bist := rfl
@[simp] theorem Dev.setRb_cals (s : Dev) (d : Nat) (x : RbH) : (s.setRb d x).cals = s.cals := rfl
@[simp] theorem Dev.setRb_chans (s : Dev) (d : Nat) (x : RbH) : (s.setRb d x).chans = s.chans := rfl
@[simp] theorem Dev.setRb_runs (s : Dev) (d : Nat) (x : RbH) : (s.setRb d x).runs = s.runs := rfl
@[simp] theorem Dev.setRb_groups (s : Dev) (d : Nat) (x : RbH) : (s.setRb d x).groups = s.groups := rfl
@[simp] theorem Dev.setRb_hvs (s : Dev) (d : Nat) (x : RbH) : (s.setRb d x).hvs = s.hvs := rfl
@[simp] theorem Dev.setRb_img (s : Dev) (d : Nat) (x : RbH) : (s.setRb d x).img = s.img := rfl
@[simp] theorem Dev.setRb_dcs (s : Dev) (d : Nat) (x : RbH) : (s.setRb d x).dcs = s.dcs := rfl
@[simp] theorem Dev.setRb_brgs (s : Dev) (d : Nat) (x : RbH) : (s.setRb d x).brgs = s.brgs := rfl
@[simp] theorem Dev.setRb_thm (s : Dev) (d : Nat) (x : RbH) : (s.setRb d x).thm = s.thm := rfl
@[simp] theorem Dev.setRb_stat (s : Dev) (d : Nat) (x : RbH) : (s.setRb d x).stat = s.stat := rfl
@[simp] theorem Dev.setRb_mirror (s : Dev) (d : Nat) (x : RbH) : (s.setRb d x).mirror = s.mirror := rfl
@[simp] theorem Dev.setRb_host (s : Dev) (d : Nat) (x : RbH) : (s.setRb d x).host = s.host := rfl
@[simp] theorem Dev.setRb_spi (s : Dev) (d : Nat) (x : RbH) : (s.setRb d x).spi = s.spi := rfl
@[simp] theorem Dev.setRb_cans (s : Dev) (d : Nat) (x : RbH) : (s.setRb d x).cans = s.cans := rfl
@[simp] theorem Dev.setRb_pzp (s : Dev) (d : Nat) (x : RbH) : (s.setRb d x).pzp = s.pzp := rfl
@[simp] theorem Dev.setRb_pwr (s : Dev) (d : Nat) (x : RbH) : (s.setRb d x).pwr = s.pwr := rfl

@[simp] theorem Dev.setDc_us (s : Dev) (d n : Nat) (x : DcH) : (s.setDc d n x).us = s.us := rfl
@[simp] theorem Dev.setDc_fresh (s : Dev) (d n : Nat) (x : DcH) : (s.setDc d n x).fresh = s.fresh := rfl
@[simp] theorem Dev.setDc_regs (s : Dev) (d n : Nat) (x : DcH) : (s.setDc d n x).regs = s.regs := rfl
@[simp] theorem Dev.setDc_latched (s : Dev) (d n : Nat) (x : DcH) : (s.setDc d n x).latched = s.latched := rfl
@[simp] theorem Dev.setDc_out (s : Dev) (d n : Nat) (x : DcH) : (s.setDc d n x).out = s.out := rfl
@[simp] theorem Dev.setDc_flt (s : Dev) (d n : Nat) (x : DcH) : (s.setDc d n x).flt = s.flt := rfl
@[simp] theorem Dev.setDc_crcs (s : Dev) (d n : Nat) (x : DcH) : (s.setDc d n x).crcs = s.crcs := rfl
@[simp] theorem Dev.setDc_cfg (s : Dev) (d n : Nat) (x : DcH) : (s.setDc d n x).cfg = s.cfg := rfl
@[simp] theorem Dev.setDc_lanes (s : Dev) (d n : Nat) (x : DcH) : (s.setDc d n x).lanes = s.lanes := rfl
@[simp] theorem Dev.setDc_ins (s : Dev) (d n : Nat) (x : DcH) : (s.setDc d n x).ins = s.ins := rfl
@[simp] theorem Dev.setDc_halves (s : Dev) (d n : Nat) (x : DcH) : (s.setDc d n x).halves = s.halves := rfl
@[simp] theorem Dev.setDc_dies (s : Dev) (d n : Nat) (x : DcH) : (s.setDc d n x).dies = s.dies := rfl
@[simp] theorem Dev.setDc_drcs (s : Dev) (d n : Nat) (x : DcH) : (s.setDc d n x).drcs = s.drcs := rfl
@[simp] theorem Dev.setDc_drcChs (s : Dev) (d n : Nat) (x : DcH) : (s.setDc d n x).drcChs = s.drcChs := rfl
@[simp] theorem Dev.setDc_spans (s : Dev) (d n : Nat) (x : DcH) : (s.setDc d n x).spans = s.spans := rfl
@[simp] theorem Dev.setDc_coefs (s : Dev) (d n : Nat) (x : DcH) : (s.setDc d n x).coefs = s.coefs := rfl
@[simp] theorem Dev.setDc_rows (s : Dev) (d n : Nat) (x : DcH) : (s.setDc d n x).rows = s.rows := rfl
@[simp] theorem Dev.setDc_rasPoison (s : Dev) (d n : Nat) (x : DcH) : (s.setDc d n x).rasPoison = s.rasPoison := rfl
@[simp] theorem Dev.setDc_ttemps (s : Dev) (d n : Nat) (x : DcH) : (s.setDc d n x).ttemps = s.ttemps := rfl
@[simp] theorem Dev.setDc_imu (s : Dev) (d n : Nat) (x : DcH) : (s.setDc d n x).imu = s.imu := rfl
@[simp] theorem Dev.setDc_bud (s : Dev) (d n : Nat) (x : DcH) : (s.setDc d n x).bud = s.bud := rfl
@[simp] theorem Dev.setDc_bist (s : Dev) (d n : Nat) (x : DcH) : (s.setDc d n x).bist = s.bist := rfl
@[simp] theorem Dev.setDc_cals (s : Dev) (d n : Nat) (x : DcH) : (s.setDc d n x).cals = s.cals := rfl
@[simp] theorem Dev.setDc_chans (s : Dev) (d n : Nat) (x : DcH) : (s.setDc d n x).chans = s.chans := rfl
@[simp] theorem Dev.setDc_runs (s : Dev) (d n : Nat) (x : DcH) : (s.setDc d n x).runs = s.runs := rfl
@[simp] theorem Dev.setDc_groups (s : Dev) (d n : Nat) (x : DcH) : (s.setDc d n x).groups = s.groups := rfl
@[simp] theorem Dev.setDc_hvs (s : Dev) (d n : Nat) (x : DcH) : (s.setDc d n x).hvs = s.hvs := rfl
@[simp] theorem Dev.setDc_img (s : Dev) (d n : Nat) (x : DcH) : (s.setDc d n x).img = s.img := rfl
@[simp] theorem Dev.setDc_rbs (s : Dev) (d n : Nat) (x : DcH) : (s.setDc d n x).rbs = s.rbs := rfl
@[simp] theorem Dev.setDc_brgs (s : Dev) (d n : Nat) (x : DcH) : (s.setDc d n x).brgs = s.brgs := rfl
@[simp] theorem Dev.setDc_thm (s : Dev) (d n : Nat) (x : DcH) : (s.setDc d n x).thm = s.thm := rfl
@[simp] theorem Dev.setDc_stat (s : Dev) (d n : Nat) (x : DcH) : (s.setDc d n x).stat = s.stat := rfl
@[simp] theorem Dev.setDc_mirror (s : Dev) (d n : Nat) (x : DcH) : (s.setDc d n x).mirror = s.mirror := rfl
@[simp] theorem Dev.setDc_host (s : Dev) (d n : Nat) (x : DcH) : (s.setDc d n x).host = s.host := rfl
@[simp] theorem Dev.setDc_spi (s : Dev) (d n : Nat) (x : DcH) : (s.setDc d n x).spi = s.spi := rfl
@[simp] theorem Dev.setDc_cans (s : Dev) (d n : Nat) (x : DcH) : (s.setDc d n x).cans = s.cans := rfl
@[simp] theorem Dev.setDc_pzp (s : Dev) (d n : Nat) (x : DcH) : (s.setDc d n x).pzp = s.pzp := rfl
@[simp] theorem Dev.setDc_pwr (s : Dev) (d n : Nat) (x : DcH) : (s.setDc d n x).pwr = s.pwr := rfl

@[simp] theorem Dev.setBrg_us (s : Dev) (d : Nat) (x : BrgH) : (s.setBrg d x).us = s.us := rfl
@[simp] theorem Dev.setBrg_fresh (s : Dev) (d : Nat) (x : BrgH) : (s.setBrg d x).fresh = s.fresh := rfl
@[simp] theorem Dev.setBrg_regs (s : Dev) (d : Nat) (x : BrgH) : (s.setBrg d x).regs = s.regs := rfl
@[simp] theorem Dev.setBrg_latched (s : Dev) (d : Nat) (x : BrgH) : (s.setBrg d x).latched = s.latched := rfl
@[simp] theorem Dev.setBrg_out (s : Dev) (d : Nat) (x : BrgH) : (s.setBrg d x).out = s.out := rfl
@[simp] theorem Dev.setBrg_flt (s : Dev) (d : Nat) (x : BrgH) : (s.setBrg d x).flt = s.flt := rfl
@[simp] theorem Dev.setBrg_crcs (s : Dev) (d : Nat) (x : BrgH) : (s.setBrg d x).crcs = s.crcs := rfl
@[simp] theorem Dev.setBrg_cfg (s : Dev) (d : Nat) (x : BrgH) : (s.setBrg d x).cfg = s.cfg := rfl
@[simp] theorem Dev.setBrg_lanes (s : Dev) (d : Nat) (x : BrgH) : (s.setBrg d x).lanes = s.lanes := rfl
@[simp] theorem Dev.setBrg_ins (s : Dev) (d : Nat) (x : BrgH) : (s.setBrg d x).ins = s.ins := rfl
@[simp] theorem Dev.setBrg_halves (s : Dev) (d : Nat) (x : BrgH) : (s.setBrg d x).halves = s.halves := rfl
@[simp] theorem Dev.setBrg_dies (s : Dev) (d : Nat) (x : BrgH) : (s.setBrg d x).dies = s.dies := rfl
@[simp] theorem Dev.setBrg_drcs (s : Dev) (d : Nat) (x : BrgH) : (s.setBrg d x).drcs = s.drcs := rfl
@[simp] theorem Dev.setBrg_drcChs (s : Dev) (d : Nat) (x : BrgH) : (s.setBrg d x).drcChs = s.drcChs := rfl
@[simp] theorem Dev.setBrg_spans (s : Dev) (d : Nat) (x : BrgH) : (s.setBrg d x).spans = s.spans := rfl
@[simp] theorem Dev.setBrg_coefs (s : Dev) (d : Nat) (x : BrgH) : (s.setBrg d x).coefs = s.coefs := rfl
@[simp] theorem Dev.setBrg_rows (s : Dev) (d : Nat) (x : BrgH) : (s.setBrg d x).rows = s.rows := rfl
@[simp] theorem Dev.setBrg_rasPoison (s : Dev) (d : Nat) (x : BrgH) : (s.setBrg d x).rasPoison = s.rasPoison := rfl
@[simp] theorem Dev.setBrg_ttemps (s : Dev) (d : Nat) (x : BrgH) : (s.setBrg d x).ttemps = s.ttemps := rfl
@[simp] theorem Dev.setBrg_imu (s : Dev) (d : Nat) (x : BrgH) : (s.setBrg d x).imu = s.imu := rfl
@[simp] theorem Dev.setBrg_bud (s : Dev) (d : Nat) (x : BrgH) : (s.setBrg d x).bud = s.bud := rfl
@[simp] theorem Dev.setBrg_bist (s : Dev) (d : Nat) (x : BrgH) : (s.setBrg d x).bist = s.bist := rfl
@[simp] theorem Dev.setBrg_cals (s : Dev) (d : Nat) (x : BrgH) : (s.setBrg d x).cals = s.cals := rfl
@[simp] theorem Dev.setBrg_chans (s : Dev) (d : Nat) (x : BrgH) : (s.setBrg d x).chans = s.chans := rfl
@[simp] theorem Dev.setBrg_runs (s : Dev) (d : Nat) (x : BrgH) : (s.setBrg d x).runs = s.runs := rfl
@[simp] theorem Dev.setBrg_groups (s : Dev) (d : Nat) (x : BrgH) : (s.setBrg d x).groups = s.groups := rfl
@[simp] theorem Dev.setBrg_hvs (s : Dev) (d : Nat) (x : BrgH) : (s.setBrg d x).hvs = s.hvs := rfl
@[simp] theorem Dev.setBrg_img (s : Dev) (d : Nat) (x : BrgH) : (s.setBrg d x).img = s.img := rfl
@[simp] theorem Dev.setBrg_rbs (s : Dev) (d : Nat) (x : BrgH) : (s.setBrg d x).rbs = s.rbs := rfl
@[simp] theorem Dev.setBrg_dcs (s : Dev) (d : Nat) (x : BrgH) : (s.setBrg d x).dcs = s.dcs := rfl
@[simp] theorem Dev.setBrg_thm (s : Dev) (d : Nat) (x : BrgH) : (s.setBrg d x).thm = s.thm := rfl
@[simp] theorem Dev.setBrg_stat (s : Dev) (d : Nat) (x : BrgH) : (s.setBrg d x).stat = s.stat := rfl
@[simp] theorem Dev.setBrg_mirror (s : Dev) (d : Nat) (x : BrgH) : (s.setBrg d x).mirror = s.mirror := rfl
@[simp] theorem Dev.setBrg_host (s : Dev) (d : Nat) (x : BrgH) : (s.setBrg d x).host = s.host := rfl
@[simp] theorem Dev.setBrg_spi (s : Dev) (d : Nat) (x : BrgH) : (s.setBrg d x).spi = s.spi := rfl
@[simp] theorem Dev.setBrg_cans (s : Dev) (d : Nat) (x : BrgH) : (s.setBrg d x).cans = s.cans := rfl
@[simp] theorem Dev.setBrg_pzp (s : Dev) (d : Nat) (x : BrgH) : (s.setBrg d x).pzp = s.pzp := rfl
@[simp] theorem Dev.setBrg_pwr (s : Dev) (d : Nat) (x : BrgH) : (s.setBrg d x).pwr = s.pwr := rfl

@[simp] theorem Dev.setCan_us (s : Dev) (d : Nat) (x : CanH) : (s.setCan d x).us = s.us := rfl
@[simp] theorem Dev.setCan_fresh (s : Dev) (d : Nat) (x : CanH) : (s.setCan d x).fresh = s.fresh := rfl
@[simp] theorem Dev.setCan_regs (s : Dev) (d : Nat) (x : CanH) : (s.setCan d x).regs = s.regs := rfl
@[simp] theorem Dev.setCan_latched (s : Dev) (d : Nat) (x : CanH) : (s.setCan d x).latched = s.latched := rfl
@[simp] theorem Dev.setCan_out (s : Dev) (d : Nat) (x : CanH) : (s.setCan d x).out = s.out := rfl
@[simp] theorem Dev.setCan_flt (s : Dev) (d : Nat) (x : CanH) : (s.setCan d x).flt = s.flt := rfl
@[simp] theorem Dev.setCan_crcs (s : Dev) (d : Nat) (x : CanH) : (s.setCan d x).crcs = s.crcs := rfl
@[simp] theorem Dev.setCan_cfg (s : Dev) (d : Nat) (x : CanH) : (s.setCan d x).cfg = s.cfg := rfl
@[simp] theorem Dev.setCan_lanes (s : Dev) (d : Nat) (x : CanH) : (s.setCan d x).lanes = s.lanes := rfl
@[simp] theorem Dev.setCan_ins (s : Dev) (d : Nat) (x : CanH) : (s.setCan d x).ins = s.ins := rfl
@[simp] theorem Dev.setCan_halves (s : Dev) (d : Nat) (x : CanH) : (s.setCan d x).halves = s.halves := rfl
@[simp] theorem Dev.setCan_dies (s : Dev) (d : Nat) (x : CanH) : (s.setCan d x).dies = s.dies := rfl
@[simp] theorem Dev.setCan_drcs (s : Dev) (d : Nat) (x : CanH) : (s.setCan d x).drcs = s.drcs := rfl
@[simp] theorem Dev.setCan_drcChs (s : Dev) (d : Nat) (x : CanH) : (s.setCan d x).drcChs = s.drcChs := rfl
@[simp] theorem Dev.setCan_spans (s : Dev) (d : Nat) (x : CanH) : (s.setCan d x).spans = s.spans := rfl
@[simp] theorem Dev.setCan_coefs (s : Dev) (d : Nat) (x : CanH) : (s.setCan d x).coefs = s.coefs := rfl
@[simp] theorem Dev.setCan_rows (s : Dev) (d : Nat) (x : CanH) : (s.setCan d x).rows = s.rows := rfl
@[simp] theorem Dev.setCan_rasPoison (s : Dev) (d : Nat) (x : CanH) : (s.setCan d x).rasPoison = s.rasPoison := rfl
@[simp] theorem Dev.setCan_ttemps (s : Dev) (d : Nat) (x : CanH) : (s.setCan d x).ttemps = s.ttemps := rfl
@[simp] theorem Dev.setCan_imu (s : Dev) (d : Nat) (x : CanH) : (s.setCan d x).imu = s.imu := rfl
@[simp] theorem Dev.setCan_bud (s : Dev) (d : Nat) (x : CanH) : (s.setCan d x).bud = s.bud := rfl
@[simp] theorem Dev.setCan_bist (s : Dev) (d : Nat) (x : CanH) : (s.setCan d x).bist = s.bist := rfl
@[simp] theorem Dev.setCan_cals (s : Dev) (d : Nat) (x : CanH) : (s.setCan d x).cals = s.cals := rfl
@[simp] theorem Dev.setCan_chans (s : Dev) (d : Nat) (x : CanH) : (s.setCan d x).chans = s.chans := rfl
@[simp] theorem Dev.setCan_runs (s : Dev) (d : Nat) (x : CanH) : (s.setCan d x).runs = s.runs := rfl
@[simp] theorem Dev.setCan_groups (s : Dev) (d : Nat) (x : CanH) : (s.setCan d x).groups = s.groups := rfl
@[simp] theorem Dev.setCan_hvs (s : Dev) (d : Nat) (x : CanH) : (s.setCan d x).hvs = s.hvs := rfl
@[simp] theorem Dev.setCan_img (s : Dev) (d : Nat) (x : CanH) : (s.setCan d x).img = s.img := rfl
@[simp] theorem Dev.setCan_rbs (s : Dev) (d : Nat) (x : CanH) : (s.setCan d x).rbs = s.rbs := rfl
@[simp] theorem Dev.setCan_dcs (s : Dev) (d : Nat) (x : CanH) : (s.setCan d x).dcs = s.dcs := rfl
@[simp] theorem Dev.setCan_brgs (s : Dev) (d : Nat) (x : CanH) : (s.setCan d x).brgs = s.brgs := rfl
@[simp] theorem Dev.setCan_thm (s : Dev) (d : Nat) (x : CanH) : (s.setCan d x).thm = s.thm := rfl
@[simp] theorem Dev.setCan_stat (s : Dev) (d : Nat) (x : CanH) : (s.setCan d x).stat = s.stat := rfl
@[simp] theorem Dev.setCan_mirror (s : Dev) (d : Nat) (x : CanH) : (s.setCan d x).mirror = s.mirror := rfl
@[simp] theorem Dev.setCan_host (s : Dev) (d : Nat) (x : CanH) : (s.setCan d x).host = s.host := rfl
@[simp] theorem Dev.setCan_spi (s : Dev) (d : Nat) (x : CanH) : (s.setCan d x).spi = s.spi := rfl
@[simp] theorem Dev.setCan_pzp (s : Dev) (d : Nat) (x : CanH) : (s.setCan d x).pzp = s.pzp := rfl
@[simp] theorem Dev.setCan_pwr (s : Dev) (d : Nat) (x : CanH) : (s.setCan d x).pwr = s.pwr := rfl

@[simp] theorem Dev.setSen_us (s : Dev) (d : Nat) (x : SenH) : (s.setSen d x).us = s.us := rfl
@[simp] theorem Dev.setSen_fresh (s : Dev) (d : Nat) (x : SenH) : (s.setSen d x).fresh = s.fresh := rfl
@[simp] theorem Dev.setSen_regs (s : Dev) (d : Nat) (x : SenH) : (s.setSen d x).regs = s.regs := rfl
@[simp] theorem Dev.setSen_latched (s : Dev) (d : Nat) (x : SenH) : (s.setSen d x).latched = s.latched := rfl
@[simp] theorem Dev.setSen_out (s : Dev) (d : Nat) (x : SenH) : (s.setSen d x).out = s.out := rfl
@[simp] theorem Dev.setSen_flt (s : Dev) (d : Nat) (x : SenH) : (s.setSen d x).flt = s.flt := rfl
@[simp] theorem Dev.setSen_crcs (s : Dev) (d : Nat) (x : SenH) : (s.setSen d x).crcs = s.crcs := rfl
@[simp] theorem Dev.setSen_cfg (s : Dev) (d : Nat) (x : SenH) : (s.setSen d x).cfg = s.cfg := rfl
@[simp] theorem Dev.setSen_lanes (s : Dev) (d : Nat) (x : SenH) : (s.setSen d x).lanes = s.lanes := rfl
@[simp] theorem Dev.setSen_ins (s : Dev) (d : Nat) (x : SenH) : (s.setSen d x).ins = s.ins := rfl
@[simp] theorem Dev.setSen_halves (s : Dev) (d : Nat) (x : SenH) : (s.setSen d x).halves = s.halves := rfl
@[simp] theorem Dev.setSen_dies (s : Dev) (d : Nat) (x : SenH) : (s.setSen d x).dies = s.dies := rfl
@[simp] theorem Dev.setSen_drcs (s : Dev) (d : Nat) (x : SenH) : (s.setSen d x).drcs = s.drcs := rfl
@[simp] theorem Dev.setSen_drcChs (s : Dev) (d : Nat) (x : SenH) : (s.setSen d x).drcChs = s.drcChs := rfl
@[simp] theorem Dev.setSen_spans (s : Dev) (d : Nat) (x : SenH) : (s.setSen d x).spans = s.spans := rfl
@[simp] theorem Dev.setSen_coefs (s : Dev) (d : Nat) (x : SenH) : (s.setSen d x).coefs = s.coefs := rfl
@[simp] theorem Dev.setSen_rows (s : Dev) (d : Nat) (x : SenH) : (s.setSen d x).rows = s.rows := rfl
@[simp] theorem Dev.setSen_rasPoison (s : Dev) (d : Nat) (x : SenH) : (s.setSen d x).rasPoison = s.rasPoison := rfl
@[simp] theorem Dev.setSen_ttemps (s : Dev) (d : Nat) (x : SenH) : (s.setSen d x).ttemps = s.ttemps := rfl
@[simp] theorem Dev.setSen_imu (s : Dev) (d : Nat) (x : SenH) : (s.setSen d x).imu = s.imu := rfl
@[simp] theorem Dev.setSen_bud (s : Dev) (d : Nat) (x : SenH) : (s.setSen d x).bud = s.bud := rfl
@[simp] theorem Dev.setSen_bist (s : Dev) (d : Nat) (x : SenH) : (s.setSen d x).bist = s.bist := rfl
@[simp] theorem Dev.setSen_cals (s : Dev) (d : Nat) (x : SenH) : (s.setSen d x).cals = s.cals := rfl
@[simp] theorem Dev.setSen_chans (s : Dev) (d : Nat) (x : SenH) : (s.setSen d x).chans = s.chans := rfl
@[simp] theorem Dev.setSen_runs (s : Dev) (d : Nat) (x : SenH) : (s.setSen d x).runs = s.runs := rfl
@[simp] theorem Dev.setSen_groups (s : Dev) (d : Nat) (x : SenH) : (s.setSen d x).groups = s.groups := rfl
@[simp] theorem Dev.setSen_hvs (s : Dev) (d : Nat) (x : SenH) : (s.setSen d x).hvs = s.hvs := rfl
@[simp] theorem Dev.setSen_img (s : Dev) (d : Nat) (x : SenH) : (s.setSen d x).img = s.img := rfl
@[simp] theorem Dev.setSen_rbs (s : Dev) (d : Nat) (x : SenH) : (s.setSen d x).rbs = s.rbs := rfl
@[simp] theorem Dev.setSen_dcs (s : Dev) (d : Nat) (x : SenH) : (s.setSen d x).dcs = s.dcs := rfl
@[simp] theorem Dev.setSen_brgs (s : Dev) (d : Nat) (x : SenH) : (s.setSen d x).brgs = s.brgs := rfl
@[simp] theorem Dev.setSen_stat (s : Dev) (d : Nat) (x : SenH) : (s.setSen d x).stat = s.stat := rfl
@[simp] theorem Dev.setSen_mirror (s : Dev) (d : Nat) (x : SenH) : (s.setSen d x).mirror = s.mirror := rfl
@[simp] theorem Dev.setSen_host (s : Dev) (d : Nat) (x : SenH) : (s.setSen d x).host = s.host := rfl
@[simp] theorem Dev.setSen_spi (s : Dev) (d : Nat) (x : SenH) : (s.setSen d x).spi = s.spi := rfl
@[simp] theorem Dev.setSen_cans (s : Dev) (d : Nat) (x : SenH) : (s.setSen d x).cans = s.cans := rfl
@[simp] theorem Dev.setSen_pzp (s : Dev) (d : Nat) (x : SenH) : (s.setSen d x).pzp = s.pzp := rfl
@[simp] theorem Dev.setSen_pwr (s : Dev) (d : Nat) (x : SenH) : (s.setSen d x).pwr = s.pwr := rfl

@[simp] theorem Dev.setSess_us (s : Dev) (d : Nat) (x : Option Sess) : (s.setSess d x).us = s.us := rfl
@[simp] theorem Dev.setSess_fresh (s : Dev) (d : Nat) (x : Option Sess) : (s.setSess d x).fresh = s.fresh := rfl
@[simp] theorem Dev.setSess_regs (s : Dev) (d : Nat) (x : Option Sess) : (s.setSess d x).regs = s.regs := rfl
@[simp] theorem Dev.setSess_latched (s : Dev) (d : Nat) (x : Option Sess) : (s.setSess d x).latched = s.latched := rfl
@[simp] theorem Dev.setSess_out (s : Dev) (d : Nat) (x : Option Sess) : (s.setSess d x).out = s.out := rfl
@[simp] theorem Dev.setSess_flt (s : Dev) (d : Nat) (x : Option Sess) : (s.setSess d x).flt = s.flt := rfl
@[simp] theorem Dev.setSess_crcs (s : Dev) (d : Nat) (x : Option Sess) : (s.setSess d x).crcs = s.crcs := rfl
@[simp] theorem Dev.setSess_cfg (s : Dev) (d : Nat) (x : Option Sess) : (s.setSess d x).cfg = s.cfg := rfl
@[simp] theorem Dev.setSess_lanes (s : Dev) (d : Nat) (x : Option Sess) : (s.setSess d x).lanes = s.lanes := rfl
@[simp] theorem Dev.setSess_ins (s : Dev) (d : Nat) (x : Option Sess) : (s.setSess d x).ins = s.ins := rfl
@[simp] theorem Dev.setSess_halves (s : Dev) (d : Nat) (x : Option Sess) : (s.setSess d x).halves = s.halves := rfl
@[simp] theorem Dev.setSess_dies (s : Dev) (d : Nat) (x : Option Sess) : (s.setSess d x).dies = s.dies := rfl
@[simp] theorem Dev.setSess_drcs (s : Dev) (d : Nat) (x : Option Sess) : (s.setSess d x).drcs = s.drcs := rfl
@[simp] theorem Dev.setSess_drcChs (s : Dev) (d : Nat) (x : Option Sess) : (s.setSess d x).drcChs = s.drcChs := rfl
@[simp] theorem Dev.setSess_spans (s : Dev) (d : Nat) (x : Option Sess) : (s.setSess d x).spans = s.spans := rfl
@[simp] theorem Dev.setSess_coefs (s : Dev) (d : Nat) (x : Option Sess) : (s.setSess d x).coefs = s.coefs := rfl
@[simp] theorem Dev.setSess_rows (s : Dev) (d : Nat) (x : Option Sess) : (s.setSess d x).rows = s.rows := rfl
@[simp] theorem Dev.setSess_rasPoison (s : Dev) (d : Nat) (x : Option Sess) : (s.setSess d x).rasPoison = s.rasPoison := rfl
@[simp] theorem Dev.setSess_ttemps (s : Dev) (d : Nat) (x : Option Sess) : (s.setSess d x).ttemps = s.ttemps := rfl
@[simp] theorem Dev.setSess_imu (s : Dev) (d : Nat) (x : Option Sess) : (s.setSess d x).imu = s.imu := rfl
@[simp] theorem Dev.setSess_bud (s : Dev) (d : Nat) (x : Option Sess) : (s.setSess d x).bud = s.bud := rfl
@[simp] theorem Dev.setSess_bist (s : Dev) (d : Nat) (x : Option Sess) : (s.setSess d x).bist = s.bist := rfl
@[simp] theorem Dev.setSess_cals (s : Dev) (d : Nat) (x : Option Sess) : (s.setSess d x).cals = s.cals := rfl
@[simp] theorem Dev.setSess_chans (s : Dev) (d : Nat) (x : Option Sess) : (s.setSess d x).chans = s.chans := rfl
@[simp] theorem Dev.setSess_runs (s : Dev) (d : Nat) (x : Option Sess) : (s.setSess d x).runs = s.runs := rfl
@[simp] theorem Dev.setSess_groups (s : Dev) (d : Nat) (x : Option Sess) : (s.setSess d x).groups = s.groups := rfl
@[simp] theorem Dev.setSess_hvs (s : Dev) (d : Nat) (x : Option Sess) : (s.setSess d x).hvs = s.hvs := rfl
@[simp] theorem Dev.setSess_img (s : Dev) (d : Nat) (x : Option Sess) : (s.setSess d x).img = s.img := rfl
@[simp] theorem Dev.setSess_rbs (s : Dev) (d : Nat) (x : Option Sess) : (s.setSess d x).rbs = s.rbs := rfl
@[simp] theorem Dev.setSess_dcs (s : Dev) (d : Nat) (x : Option Sess) : (s.setSess d x).dcs = s.dcs := rfl
@[simp] theorem Dev.setSess_brgs (s : Dev) (d : Nat) (x : Option Sess) : (s.setSess d x).brgs = s.brgs := rfl
@[simp] theorem Dev.setSess_thm (s : Dev) (d : Nat) (x : Option Sess) : (s.setSess d x).thm = s.thm := rfl
@[simp] theorem Dev.setSess_stat (s : Dev) (d : Nat) (x : Option Sess) : (s.setSess d x).stat = s.stat := rfl
@[simp] theorem Dev.setSess_mirror (s : Dev) (d : Nat) (x : Option Sess) : (s.setSess d x).mirror = s.mirror := rfl
@[simp] theorem Dev.setSess_host (s : Dev) (d : Nat) (x : Option Sess) : (s.setSess d x).host = s.host := rfl
@[simp] theorem Dev.setSess_spi (s : Dev) (d : Nat) (x : Option Sess) : (s.setSess d x).spi = s.spi := rfl
@[simp] theorem Dev.setSess_cans (s : Dev) (d : Nat) (x : Option Sess) : (s.setSess d x).cans = s.cans := rfl
@[simp] theorem Dev.setSess_pwr (s : Dev) (d : Nat) (x : Option Sess) : (s.setSess d x).pwr = s.pwr := rfl

@[simp] theorem Dev.wrF_us (s : Dev) (a : Nat) (f : Fld) (v : Nat) : (s.wrF a f v).us = s.us := rfl
@[simp] theorem Dev.wrF_fresh (s : Dev) (a : Nat) (f : Fld) (v : Nat) : (s.wrF a f v).fresh = s.fresh := rfl
@[simp] theorem Dev.wrF_latched (s : Dev) (a : Nat) (f : Fld) (v : Nat) : (s.wrF a f v).latched = s.latched := rfl
@[simp] theorem Dev.wrF_out (s : Dev) (a : Nat) (f : Fld) (v : Nat) : (s.wrF a f v).out = s.out := rfl
@[simp] theorem Dev.wrF_flt (s : Dev) (a : Nat) (f : Fld) (v : Nat) : (s.wrF a f v).flt = s.flt := rfl
@[simp] theorem Dev.wrF_crcs (s : Dev) (a : Nat) (f : Fld) (v : Nat) : (s.wrF a f v).crcs = s.crcs := rfl
@[simp] theorem Dev.wrF_cfg (s : Dev) (a : Nat) (f : Fld) (v : Nat) : (s.wrF a f v).cfg = s.cfg := rfl
@[simp] theorem Dev.wrF_lanes (s : Dev) (a : Nat) (f : Fld) (v : Nat) : (s.wrF a f v).lanes = s.lanes := rfl
@[simp] theorem Dev.wrF_ins (s : Dev) (a : Nat) (f : Fld) (v : Nat) : (s.wrF a f v).ins = s.ins := rfl
@[simp] theorem Dev.wrF_halves (s : Dev) (a : Nat) (f : Fld) (v : Nat) : (s.wrF a f v).halves = s.halves := rfl
@[simp] theorem Dev.wrF_dies (s : Dev) (a : Nat) (f : Fld) (v : Nat) : (s.wrF a f v).dies = s.dies := rfl
@[simp] theorem Dev.wrF_drcs (s : Dev) (a : Nat) (f : Fld) (v : Nat) : (s.wrF a f v).drcs = s.drcs := rfl
@[simp] theorem Dev.wrF_drcChs (s : Dev) (a : Nat) (f : Fld) (v : Nat) : (s.wrF a f v).drcChs = s.drcChs := rfl
@[simp] theorem Dev.wrF_spans (s : Dev) (a : Nat) (f : Fld) (v : Nat) : (s.wrF a f v).spans = s.spans := rfl
@[simp] theorem Dev.wrF_coefs (s : Dev) (a : Nat) (f : Fld) (v : Nat) : (s.wrF a f v).coefs = s.coefs := rfl
@[simp] theorem Dev.wrF_rows (s : Dev) (a : Nat) (f : Fld) (v : Nat) : (s.wrF a f v).rows = s.rows := rfl
@[simp] theorem Dev.wrF_rasPoison (s : Dev) (a : Nat) (f : Fld) (v : Nat) : (s.wrF a f v).rasPoison = s.rasPoison := rfl
@[simp] theorem Dev.wrF_ttemps (s : Dev) (a : Nat) (f : Fld) (v : Nat) : (s.wrF a f v).ttemps = s.ttemps := rfl
@[simp] theorem Dev.wrF_imu (s : Dev) (a : Nat) (f : Fld) (v : Nat) : (s.wrF a f v).imu = s.imu := rfl
@[simp] theorem Dev.wrF_bud (s : Dev) (a : Nat) (f : Fld) (v : Nat) : (s.wrF a f v).bud = s.bud := rfl
@[simp] theorem Dev.wrF_bist (s : Dev) (a : Nat) (f : Fld) (v : Nat) : (s.wrF a f v).bist = s.bist := rfl
@[simp] theorem Dev.wrF_cals (s : Dev) (a : Nat) (f : Fld) (v : Nat) : (s.wrF a f v).cals = s.cals := rfl
@[simp] theorem Dev.wrF_chans (s : Dev) (a : Nat) (f : Fld) (v : Nat) : (s.wrF a f v).chans = s.chans := rfl
@[simp] theorem Dev.wrF_runs (s : Dev) (a : Nat) (f : Fld) (v : Nat) : (s.wrF a f v).runs = s.runs := rfl
@[simp] theorem Dev.wrF_groups (s : Dev) (a : Nat) (f : Fld) (v : Nat) : (s.wrF a f v).groups = s.groups := rfl
@[simp] theorem Dev.wrF_hvs (s : Dev) (a : Nat) (f : Fld) (v : Nat) : (s.wrF a f v).hvs = s.hvs := rfl
@[simp] theorem Dev.wrF_img (s : Dev) (a : Nat) (f : Fld) (v : Nat) : (s.wrF a f v).img = s.img := rfl
@[simp] theorem Dev.wrF_rbs (s : Dev) (a : Nat) (f : Fld) (v : Nat) : (s.wrF a f v).rbs = s.rbs := rfl
@[simp] theorem Dev.wrF_dcs (s : Dev) (a : Nat) (f : Fld) (v : Nat) : (s.wrF a f v).dcs = s.dcs := rfl
@[simp] theorem Dev.wrF_brgs (s : Dev) (a : Nat) (f : Fld) (v : Nat) : (s.wrF a f v).brgs = s.brgs := rfl
@[simp] theorem Dev.wrF_thm (s : Dev) (a : Nat) (f : Fld) (v : Nat) : (s.wrF a f v).thm = s.thm := rfl
@[simp] theorem Dev.wrF_stat (s : Dev) (a : Nat) (f : Fld) (v : Nat) : (s.wrF a f v).stat = s.stat := rfl
@[simp] theorem Dev.wrF_mirror (s : Dev) (a : Nat) (f : Fld) (v : Nat) : (s.wrF a f v).mirror = s.mirror := rfl
@[simp] theorem Dev.wrF_host (s : Dev) (a : Nat) (f : Fld) (v : Nat) : (s.wrF a f v).host = s.host := rfl
@[simp] theorem Dev.wrF_spi (s : Dev) (a : Nat) (f : Fld) (v : Nat) : (s.wrF a f v).spi = s.spi := rfl
@[simp] theorem Dev.wrF_cans (s : Dev) (a : Nat) (f : Fld) (v : Nat) : (s.wrF a f v).cans = s.cans := rfl
@[simp] theorem Dev.wrF_pzp (s : Dev) (a : Nat) (f : Fld) (v : Nat) : (s.wrF a f v).pzp = s.pzp := rfl
@[simp] theorem Dev.wrF_pwr (s : Dev) (a : Nat) (f : Fld) (v : Nat) : (s.wrF a f v).pwr = s.pwr := rfl

@[simp] theorem Dev.wrB_us (s : Dev) (a k : Nat) (x : Bool) : (s.wrB a k x).us = s.us := rfl
@[simp] theorem Dev.wrB_fresh (s : Dev) (a k : Nat) (x : Bool) : (s.wrB a k x).fresh = s.fresh := rfl
@[simp] theorem Dev.wrB_latched (s : Dev) (a k : Nat) (x : Bool) : (s.wrB a k x).latched = s.latched := rfl
@[simp] theorem Dev.wrB_out (s : Dev) (a k : Nat) (x : Bool) : (s.wrB a k x).out = s.out := rfl
@[simp] theorem Dev.wrB_flt (s : Dev) (a k : Nat) (x : Bool) : (s.wrB a k x).flt = s.flt := rfl
@[simp] theorem Dev.wrB_crcs (s : Dev) (a k : Nat) (x : Bool) : (s.wrB a k x).crcs = s.crcs := rfl
@[simp] theorem Dev.wrB_cfg (s : Dev) (a k : Nat) (x : Bool) : (s.wrB a k x).cfg = s.cfg := rfl
@[simp] theorem Dev.wrB_lanes (s : Dev) (a k : Nat) (x : Bool) : (s.wrB a k x).lanes = s.lanes := rfl
@[simp] theorem Dev.wrB_ins (s : Dev) (a k : Nat) (x : Bool) : (s.wrB a k x).ins = s.ins := rfl
@[simp] theorem Dev.wrB_halves (s : Dev) (a k : Nat) (x : Bool) : (s.wrB a k x).halves = s.halves := rfl
@[simp] theorem Dev.wrB_dies (s : Dev) (a k : Nat) (x : Bool) : (s.wrB a k x).dies = s.dies := rfl
@[simp] theorem Dev.wrB_drcs (s : Dev) (a k : Nat) (x : Bool) : (s.wrB a k x).drcs = s.drcs := rfl
@[simp] theorem Dev.wrB_drcChs (s : Dev) (a k : Nat) (x : Bool) : (s.wrB a k x).drcChs = s.drcChs := rfl
@[simp] theorem Dev.wrB_spans (s : Dev) (a k : Nat) (x : Bool) : (s.wrB a k x).spans = s.spans := rfl
@[simp] theorem Dev.wrB_coefs (s : Dev) (a k : Nat) (x : Bool) : (s.wrB a k x).coefs = s.coefs := rfl
@[simp] theorem Dev.wrB_rows (s : Dev) (a k : Nat) (x : Bool) : (s.wrB a k x).rows = s.rows := rfl
@[simp] theorem Dev.wrB_rasPoison (s : Dev) (a k : Nat) (x : Bool) : (s.wrB a k x).rasPoison = s.rasPoison := rfl
@[simp] theorem Dev.wrB_ttemps (s : Dev) (a k : Nat) (x : Bool) : (s.wrB a k x).ttemps = s.ttemps := rfl
@[simp] theorem Dev.wrB_imu (s : Dev) (a k : Nat) (x : Bool) : (s.wrB a k x).imu = s.imu := rfl
@[simp] theorem Dev.wrB_bud (s : Dev) (a k : Nat) (x : Bool) : (s.wrB a k x).bud = s.bud := rfl
@[simp] theorem Dev.wrB_bist (s : Dev) (a k : Nat) (x : Bool) : (s.wrB a k x).bist = s.bist := rfl
@[simp] theorem Dev.wrB_cals (s : Dev) (a k : Nat) (x : Bool) : (s.wrB a k x).cals = s.cals := rfl
@[simp] theorem Dev.wrB_chans (s : Dev) (a k : Nat) (x : Bool) : (s.wrB a k x).chans = s.chans := rfl
@[simp] theorem Dev.wrB_runs (s : Dev) (a k : Nat) (x : Bool) : (s.wrB a k x).runs = s.runs := rfl
@[simp] theorem Dev.wrB_groups (s : Dev) (a k : Nat) (x : Bool) : (s.wrB a k x).groups = s.groups := rfl
@[simp] theorem Dev.wrB_hvs (s : Dev) (a k : Nat) (x : Bool) : (s.wrB a k x).hvs = s.hvs := rfl
@[simp] theorem Dev.wrB_img (s : Dev) (a k : Nat) (x : Bool) : (s.wrB a k x).img = s.img := rfl
@[simp] theorem Dev.wrB_rbs (s : Dev) (a k : Nat) (x : Bool) : (s.wrB a k x).rbs = s.rbs := rfl
@[simp] theorem Dev.wrB_dcs (s : Dev) (a k : Nat) (x : Bool) : (s.wrB a k x).dcs = s.dcs := rfl
@[simp] theorem Dev.wrB_brgs (s : Dev) (a k : Nat) (x : Bool) : (s.wrB a k x).brgs = s.brgs := rfl
@[simp] theorem Dev.wrB_thm (s : Dev) (a k : Nat) (x : Bool) : (s.wrB a k x).thm = s.thm := rfl
@[simp] theorem Dev.wrB_stat (s : Dev) (a k : Nat) (x : Bool) : (s.wrB a k x).stat = s.stat := rfl
@[simp] theorem Dev.wrB_mirror (s : Dev) (a k : Nat) (x : Bool) : (s.wrB a k x).mirror = s.mirror := rfl
@[simp] theorem Dev.wrB_host (s : Dev) (a k : Nat) (x : Bool) : (s.wrB a k x).host = s.host := rfl
@[simp] theorem Dev.wrB_spi (s : Dev) (a k : Nat) (x : Bool) : (s.wrB a k x).spi = s.spi := rfl
@[simp] theorem Dev.wrB_cans (s : Dev) (a k : Nat) (x : Bool) : (s.wrB a k x).cans = s.cans := rfl
@[simp] theorem Dev.wrB_pzp (s : Dev) (a k : Nat) (x : Bool) : (s.wrB a k x).pzp = s.pzp := rfl
@[simp] theorem Dev.wrB_pwr (s : Dev) (a k : Nat) (x : Bool) : (s.wrB a k x).pwr = s.pwr := rfl

@[simp] theorem Dev.satF_us (s : Dev) (a : Nat) (f : Fld) (n : Nat) : (s.satF a f n).us = s.us := rfl
@[simp] theorem Dev.satF_fresh (s : Dev) (a : Nat) (f : Fld) (n : Nat) : (s.satF a f n).fresh = s.fresh := rfl
@[simp] theorem Dev.satF_latched (s : Dev) (a : Nat) (f : Fld) (n : Nat) : (s.satF a f n).latched = s.latched := rfl
@[simp] theorem Dev.satF_out (s : Dev) (a : Nat) (f : Fld) (n : Nat) : (s.satF a f n).out = s.out := rfl
@[simp] theorem Dev.satF_flt (s : Dev) (a : Nat) (f : Fld) (n : Nat) : (s.satF a f n).flt = s.flt := rfl
@[simp] theorem Dev.satF_crcs (s : Dev) (a : Nat) (f : Fld) (n : Nat) : (s.satF a f n).crcs = s.crcs := rfl
@[simp] theorem Dev.satF_cfg (s : Dev) (a : Nat) (f : Fld) (n : Nat) : (s.satF a f n).cfg = s.cfg := rfl
@[simp] theorem Dev.satF_lanes (s : Dev) (a : Nat) (f : Fld) (n : Nat) : (s.satF a f n).lanes = s.lanes := rfl
@[simp] theorem Dev.satF_ins (s : Dev) (a : Nat) (f : Fld) (n : Nat) : (s.satF a f n).ins = s.ins := rfl
@[simp] theorem Dev.satF_halves (s : Dev) (a : Nat) (f : Fld) (n : Nat) : (s.satF a f n).halves = s.halves := rfl
@[simp] theorem Dev.satF_dies (s : Dev) (a : Nat) (f : Fld) (n : Nat) : (s.satF a f n).dies = s.dies := rfl
@[simp] theorem Dev.satF_drcs (s : Dev) (a : Nat) (f : Fld) (n : Nat) : (s.satF a f n).drcs = s.drcs := rfl
@[simp] theorem Dev.satF_drcChs (s : Dev) (a : Nat) (f : Fld) (n : Nat) : (s.satF a f n).drcChs = s.drcChs := rfl
@[simp] theorem Dev.satF_spans (s : Dev) (a : Nat) (f : Fld) (n : Nat) : (s.satF a f n).spans = s.spans := rfl
@[simp] theorem Dev.satF_coefs (s : Dev) (a : Nat) (f : Fld) (n : Nat) : (s.satF a f n).coefs = s.coefs := rfl
@[simp] theorem Dev.satF_rows (s : Dev) (a : Nat) (f : Fld) (n : Nat) : (s.satF a f n).rows = s.rows := rfl
@[simp] theorem Dev.satF_rasPoison (s : Dev) (a : Nat) (f : Fld) (n : Nat) : (s.satF a f n).rasPoison = s.rasPoison := rfl
@[simp] theorem Dev.satF_ttemps (s : Dev) (a : Nat) (f : Fld) (n : Nat) : (s.satF a f n).ttemps = s.ttemps := rfl
@[simp] theorem Dev.satF_imu (s : Dev) (a : Nat) (f : Fld) (n : Nat) : (s.satF a f n).imu = s.imu := rfl
@[simp] theorem Dev.satF_bud (s : Dev) (a : Nat) (f : Fld) (n : Nat) : (s.satF a f n).bud = s.bud := rfl
@[simp] theorem Dev.satF_bist (s : Dev) (a : Nat) (f : Fld) (n : Nat) : (s.satF a f n).bist = s.bist := rfl
@[simp] theorem Dev.satF_cals (s : Dev) (a : Nat) (f : Fld) (n : Nat) : (s.satF a f n).cals = s.cals := rfl
@[simp] theorem Dev.satF_chans (s : Dev) (a : Nat) (f : Fld) (n : Nat) : (s.satF a f n).chans = s.chans := rfl
@[simp] theorem Dev.satF_runs (s : Dev) (a : Nat) (f : Fld) (n : Nat) : (s.satF a f n).runs = s.runs := rfl
@[simp] theorem Dev.satF_groups (s : Dev) (a : Nat) (f : Fld) (n : Nat) : (s.satF a f n).groups = s.groups := rfl
@[simp] theorem Dev.satF_hvs (s : Dev) (a : Nat) (f : Fld) (n : Nat) : (s.satF a f n).hvs = s.hvs := rfl
@[simp] theorem Dev.satF_img (s : Dev) (a : Nat) (f : Fld) (n : Nat) : (s.satF a f n).img = s.img := rfl
@[simp] theorem Dev.satF_rbs (s : Dev) (a : Nat) (f : Fld) (n : Nat) : (s.satF a f n).rbs = s.rbs := rfl
@[simp] theorem Dev.satF_dcs (s : Dev) (a : Nat) (f : Fld) (n : Nat) : (s.satF a f n).dcs = s.dcs := rfl
@[simp] theorem Dev.satF_brgs (s : Dev) (a : Nat) (f : Fld) (n : Nat) : (s.satF a f n).brgs = s.brgs := rfl
@[simp] theorem Dev.satF_thm (s : Dev) (a : Nat) (f : Fld) (n : Nat) : (s.satF a f n).thm = s.thm := rfl
@[simp] theorem Dev.satF_stat (s : Dev) (a : Nat) (f : Fld) (n : Nat) : (s.satF a f n).stat = s.stat := rfl
@[simp] theorem Dev.satF_mirror (s : Dev) (a : Nat) (f : Fld) (n : Nat) : (s.satF a f n).mirror = s.mirror := rfl
@[simp] theorem Dev.satF_host (s : Dev) (a : Nat) (f : Fld) (n : Nat) : (s.satF a f n).host = s.host := rfl
@[simp] theorem Dev.satF_spi (s : Dev) (a : Nat) (f : Fld) (n : Nat) : (s.satF a f n).spi = s.spi := rfl
@[simp] theorem Dev.satF_cans (s : Dev) (a : Nat) (f : Fld) (n : Nat) : (s.satF a f n).cans = s.cans := rfl
@[simp] theorem Dev.satF_pzp (s : Dev) (a : Nat) (f : Fld) (n : Nat) : (s.satF a f n).pzp = s.pzp := rfl
@[simp] theorem Dev.satF_pwr (s : Dev) (a : Nat) (f : Fld) (n : Nat) : (s.satF a f n).pwr = s.pwr := rfl

@[simp] theorem Dev.addF_us (s : Dev) (a : Nat) (f : Fld) (n : Nat) : (s.addF a f n).us = s.us := rfl
@[simp] theorem Dev.addF_fresh (s : Dev) (a : Nat) (f : Fld) (n : Nat) : (s.addF a f n).fresh = s.fresh := rfl
@[simp] theorem Dev.addF_latched (s : Dev) (a : Nat) (f : Fld) (n : Nat) : (s.addF a f n).latched = s.latched := rfl
@[simp] theorem Dev.addF_out (s : Dev) (a : Nat) (f : Fld) (n : Nat) : (s.addF a f n).out = s.out := rfl
@[simp] theorem Dev.addF_flt (s : Dev) (a : Nat) (f : Fld) (n : Nat) : (s.addF a f n).flt = s.flt := rfl
@[simp] theorem Dev.addF_crcs (s : Dev) (a : Nat) (f : Fld) (n : Nat) : (s.addF a f n).crcs = s.crcs := rfl
@[simp] theorem Dev.addF_cfg (s : Dev) (a : Nat) (f : Fld) (n : Nat) : (s.addF a f n).cfg = s.cfg := rfl
@[simp] theorem Dev.addF_lanes (s : Dev) (a : Nat) (f : Fld) (n : Nat) : (s.addF a f n).lanes = s.lanes := rfl
@[simp] theorem Dev.addF_ins (s : Dev) (a : Nat) (f : Fld) (n : Nat) : (s.addF a f n).ins = s.ins := rfl
@[simp] theorem Dev.addF_halves (s : Dev) (a : Nat) (f : Fld) (n : Nat) : (s.addF a f n).halves = s.halves := rfl
@[simp] theorem Dev.addF_dies (s : Dev) (a : Nat) (f : Fld) (n : Nat) : (s.addF a f n).dies = s.dies := rfl
@[simp] theorem Dev.addF_drcs (s : Dev) (a : Nat) (f : Fld) (n : Nat) : (s.addF a f n).drcs = s.drcs := rfl
@[simp] theorem Dev.addF_drcChs (s : Dev) (a : Nat) (f : Fld) (n : Nat) : (s.addF a f n).drcChs = s.drcChs := rfl
@[simp] theorem Dev.addF_spans (s : Dev) (a : Nat) (f : Fld) (n : Nat) : (s.addF a f n).spans = s.spans := rfl
@[simp] theorem Dev.addF_coefs (s : Dev) (a : Nat) (f : Fld) (n : Nat) : (s.addF a f n).coefs = s.coefs := rfl
@[simp] theorem Dev.addF_rows (s : Dev) (a : Nat) (f : Fld) (n : Nat) : (s.addF a f n).rows = s.rows := rfl
@[simp] theorem Dev.addF_rasPoison (s : Dev) (a : Nat) (f : Fld) (n : Nat) : (s.addF a f n).rasPoison = s.rasPoison := rfl
@[simp] theorem Dev.addF_ttemps (s : Dev) (a : Nat) (f : Fld) (n : Nat) : (s.addF a f n).ttemps = s.ttemps := rfl
@[simp] theorem Dev.addF_imu (s : Dev) (a : Nat) (f : Fld) (n : Nat) : (s.addF a f n).imu = s.imu := rfl
@[simp] theorem Dev.addF_bud (s : Dev) (a : Nat) (f : Fld) (n : Nat) : (s.addF a f n).bud = s.bud := rfl
@[simp] theorem Dev.addF_bist (s : Dev) (a : Nat) (f : Fld) (n : Nat) : (s.addF a f n).bist = s.bist := rfl
@[simp] theorem Dev.addF_cals (s : Dev) (a : Nat) (f : Fld) (n : Nat) : (s.addF a f n).cals = s.cals := rfl
@[simp] theorem Dev.addF_chans (s : Dev) (a : Nat) (f : Fld) (n : Nat) : (s.addF a f n).chans = s.chans := rfl
@[simp] theorem Dev.addF_runs (s : Dev) (a : Nat) (f : Fld) (n : Nat) : (s.addF a f n).runs = s.runs := rfl
@[simp] theorem Dev.addF_groups (s : Dev) (a : Nat) (f : Fld) (n : Nat) : (s.addF a f n).groups = s.groups := rfl
@[simp] theorem Dev.addF_hvs (s : Dev) (a : Nat) (f : Fld) (n : Nat) : (s.addF a f n).hvs = s.hvs := rfl
@[simp] theorem Dev.addF_img (s : Dev) (a : Nat) (f : Fld) (n : Nat) : (s.addF a f n).img = s.img := rfl
@[simp] theorem Dev.addF_rbs (s : Dev) (a : Nat) (f : Fld) (n : Nat) : (s.addF a f n).rbs = s.rbs := rfl
@[simp] theorem Dev.addF_dcs (s : Dev) (a : Nat) (f : Fld) (n : Nat) : (s.addF a f n).dcs = s.dcs := rfl
@[simp] theorem Dev.addF_brgs (s : Dev) (a : Nat) (f : Fld) (n : Nat) : (s.addF a f n).brgs = s.brgs := rfl
@[simp] theorem Dev.addF_thm (s : Dev) (a : Nat) (f : Fld) (n : Nat) : (s.addF a f n).thm = s.thm := rfl
@[simp] theorem Dev.addF_stat (s : Dev) (a : Nat) (f : Fld) (n : Nat) : (s.addF a f n).stat = s.stat := rfl
@[simp] theorem Dev.addF_mirror (s : Dev) (a : Nat) (f : Fld) (n : Nat) : (s.addF a f n).mirror = s.mirror := rfl
@[simp] theorem Dev.addF_host (s : Dev) (a : Nat) (f : Fld) (n : Nat) : (s.addF a f n).host = s.host := rfl
@[simp] theorem Dev.addF_spi (s : Dev) (a : Nat) (f : Fld) (n : Nat) : (s.addF a f n).spi = s.spi := rfl
@[simp] theorem Dev.addF_cans (s : Dev) (a : Nat) (f : Fld) (n : Nat) : (s.addF a f n).cans = s.cans := rfl
@[simp] theorem Dev.addF_pzp (s : Dev) (a : Nat) (f : Fld) (n : Nat) : (s.addF a f n).pzp = s.pzp := rfl
@[simp] theorem Dev.addF_pwr (s : Dev) (a : Nat) (f : Fld) (n : Nat) : (s.addF a f n).pwr = s.pwr := rfl

@[simp] theorem Dev.addR_us (s : Dev) (a n : Nat) : (s.addR a n).us = s.us := rfl
@[simp] theorem Dev.addR_fresh (s : Dev) (a n : Nat) : (s.addR a n).fresh = s.fresh := rfl
@[simp] theorem Dev.addR_latched (s : Dev) (a n : Nat) : (s.addR a n).latched = s.latched := rfl
@[simp] theorem Dev.addR_out (s : Dev) (a n : Nat) : (s.addR a n).out = s.out := rfl
@[simp] theorem Dev.addR_flt (s : Dev) (a n : Nat) : (s.addR a n).flt = s.flt := rfl
@[simp] theorem Dev.addR_crcs (s : Dev) (a n : Nat) : (s.addR a n).crcs = s.crcs := rfl
@[simp] theorem Dev.addR_cfg (s : Dev) (a n : Nat) : (s.addR a n).cfg = s.cfg := rfl
@[simp] theorem Dev.addR_lanes (s : Dev) (a n : Nat) : (s.addR a n).lanes = s.lanes := rfl
@[simp] theorem Dev.addR_ins (s : Dev) (a n : Nat) : (s.addR a n).ins = s.ins := rfl
@[simp] theorem Dev.addR_halves (s : Dev) (a n : Nat) : (s.addR a n).halves = s.halves := rfl
@[simp] theorem Dev.addR_dies (s : Dev) (a n : Nat) : (s.addR a n).dies = s.dies := rfl
@[simp] theorem Dev.addR_drcs (s : Dev) (a n : Nat) : (s.addR a n).drcs = s.drcs := rfl
@[simp] theorem Dev.addR_drcChs (s : Dev) (a n : Nat) : (s.addR a n).drcChs = s.drcChs := rfl
@[simp] theorem Dev.addR_spans (s : Dev) (a n : Nat) : (s.addR a n).spans = s.spans := rfl
@[simp] theorem Dev.addR_coefs (s : Dev) (a n : Nat) : (s.addR a n).coefs = s.coefs := rfl
@[simp] theorem Dev.addR_rows (s : Dev) (a n : Nat) : (s.addR a n).rows = s.rows := rfl
@[simp] theorem Dev.addR_rasPoison (s : Dev) (a n : Nat) : (s.addR a n).rasPoison = s.rasPoison := rfl
@[simp] theorem Dev.addR_ttemps (s : Dev) (a n : Nat) : (s.addR a n).ttemps = s.ttemps := rfl
@[simp] theorem Dev.addR_imu (s : Dev) (a n : Nat) : (s.addR a n).imu = s.imu := rfl
@[simp] theorem Dev.addR_bud (s : Dev) (a n : Nat) : (s.addR a n).bud = s.bud := rfl
@[simp] theorem Dev.addR_bist (s : Dev) (a n : Nat) : (s.addR a n).bist = s.bist := rfl
@[simp] theorem Dev.addR_cals (s : Dev) (a n : Nat) : (s.addR a n).cals = s.cals := rfl
@[simp] theorem Dev.addR_chans (s : Dev) (a n : Nat) : (s.addR a n).chans = s.chans := rfl
@[simp] theorem Dev.addR_runs (s : Dev) (a n : Nat) : (s.addR a n).runs = s.runs := rfl
@[simp] theorem Dev.addR_groups (s : Dev) (a n : Nat) : (s.addR a n).groups = s.groups := rfl
@[simp] theorem Dev.addR_hvs (s : Dev) (a n : Nat) : (s.addR a n).hvs = s.hvs := rfl
@[simp] theorem Dev.addR_img (s : Dev) (a n : Nat) : (s.addR a n).img = s.img := rfl
@[simp] theorem Dev.addR_rbs (s : Dev) (a n : Nat) : (s.addR a n).rbs = s.rbs := rfl
@[simp] theorem Dev.addR_dcs (s : Dev) (a n : Nat) : (s.addR a n).dcs = s.dcs := rfl
@[simp] theorem Dev.addR_brgs (s : Dev) (a n : Nat) : (s.addR a n).brgs = s.brgs := rfl
@[simp] theorem Dev.addR_thm (s : Dev) (a n : Nat) : (s.addR a n).thm = s.thm := rfl
@[simp] theorem Dev.addR_stat (s : Dev) (a n : Nat) : (s.addR a n).stat = s.stat := rfl
@[simp] theorem Dev.addR_mirror (s : Dev) (a n : Nat) : (s.addR a n).mirror = s.mirror := rfl
@[simp] theorem Dev.addR_host (s : Dev) (a n : Nat) : (s.addR a n).host = s.host := rfl
@[simp] theorem Dev.addR_spi (s : Dev) (a n : Nat) : (s.addR a n).spi = s.spi := rfl
@[simp] theorem Dev.addR_cans (s : Dev) (a n : Nat) : (s.addR a n).cans = s.cans := rfl
@[simp] theorem Dev.addR_pzp (s : Dev) (a n : Nat) : (s.addR a n).pzp = s.pzp := rfl
@[simp] theorem Dev.addR_pwr (s : Dev) (a n : Nat) : (s.addR a n).pwr = s.pwr := rfl

end Sys2Proof.Machine
end

