-- ==== Sys2Proof/Laws/Regs.lean ====
section
/-! SUPPORT. Laws of registers and their fields: what a register and a field read after a write, and that reserved bits stay 0. -/

namespace Sys2Proof.Machine

/-! ## Words and fields -/

theorem fget_lt (w : Word) (f : Fld) : fget w f < 2 ^ f.len := Nat.mod_lt _ (Nat.two_pow_pos _)

theorem fget_testBit (w : Word) (f : Fld) (i : Nat) : (fget w f).testBit i = (decide (i < f.len) && w.getLsbD (f.lo + i)) := by
  unfold fget
  rw [Nat.testBit_mod_two_pow, Nat.testBit_div_two_pow, BitVec.testBit_toNat, Nat.add_comm]

theorem fld_mask_bit (f : Fld) (i : Nat) (hi : i < 32) : f.mask.getLsbD i = (decide (f.lo ≤ i) && decide (i < f.lo + f.len)) := by
  unfold Fld.mask
  rw [BitVec.getLsbD_ofNat, Nat.mul_comm, Nat.testBit_two_pow_mul, Nat.testBit_two_pow_sub_one]
  by_cases h : f.lo ≤ i
  · have : (i - f.lo < f.len) = (i < f.lo + f.len) := by apply propext; omega
    simp [h, hi, this]
  · simp [h]

theorem fset_bit (w : Word) (f : Fld) (v i : Nat) (hi : i < 32) :
    (fset w f v).getLsbD i = if f.lo ≤ i ∧ i < f.lo + f.len then v.testBit (i - f.lo) else w.getLsbD i := by
  unfold fset
  rw [BitVec.getLsbD_or, BitVec.getLsbD_and, BitVec.getLsbD_not, fld_mask_bit f i hi, BitVec.getLsbD_ofNat, Nat.mul_comm,
    Nat.testBit_two_pow_mul, Nat.testBit_mod_two_pow]
  by_cases h1 : f.lo ≤ i
  · by_cases h2 : i < f.lo + f.len
    · have h3 : i - f.lo < f.len := by omega
      simp [hi, h1, h2, h3]
    · have h3 : ¬ i - f.lo < f.len := by omega
      simp [hi, h1, h2, h3]
  · simp [hi, h1]

/-- A field reads what was put into it. -/
theorem fget_fset_same (w : Word) (f : Fld) (v : Nat) (h : f.lo + f.len ≤ 32) : fget (fset w f v) f = v % 2 ^ f.len := by
  apply Nat.eq_of_testBit_eq
  intro i
  rw [fget_testBit, Nat.testBit_mod_two_pow]
  by_cases hi : i < f.len
  · have h2 : f.lo + i < 32 := by omega
    rw [fset_bit w f v _ h2]
    simp [hi]
  · simp [hi]

/-- A field that shares no bit with the one put keeps its value. -/
theorem fget_fset_other (w : Word) (f g : Fld) (v : Nat) (hg : g.lo + g.len ≤ 32)
    (h : f.lo + f.len ≤ g.lo ∨ g.lo + g.len ≤ f.lo) : fget (fset w f v) g = fget w g := by
  apply Nat.eq_of_testBit_eq
  intro i
  rw [fget_testBit, fget_testBit]
  by_cases hi : i < g.len
  · have h2 : g.lo + i < 32 := by omega
    rw [fset_bit w f v _ h2]
    have : ¬ (f.lo ≤ g.lo + i ∧ g.lo + i < f.lo + f.len) := by omega
    simp [this]
  · simp [hi]

/-- A field within the implemented bits is not touched by their mask. -/
theorem fget_and_mask (w m : Word) (f : Fld) (hf : f.lo + f.len ≤ 32) (h : m &&& f.mask = f.mask) : fget (w &&& m) f = fget w f := by
  apply Nat.eq_of_testBit_eq
  intro i
  rw [fget_testBit, fget_testBit]
  by_cases hi : i < f.len
  · have h2 : f.lo + i < 32 := by omega
    have hb : (m &&& f.mask).getLsbD (f.lo + i) = f.mask.getLsbD (f.lo + i) := by rw [h]
    rw [BitVec.getLsbD_and, fld_mask_bit f _ h2] at hb
    have : m.getLsbD (f.lo + i) = true := by simpa [hi] using hb
    simp [this]
  · simp [hi]

theorem bitOf_bitSet (w : Word) (k i : Nat) (hk : k < 32) : bitOf (bitSet w k) i = (decide (i = k) || bitOf w i) := by
  unfold bitOf bitSet
  rw [BitVec.getLsbD_or, BitVec.getLsbD_ofNat, Nat.testBit_two_pow]
  by_cases h : i = k
  · simp [h, hk]
  · have : ¬ k = i := fun e => h e.symm
    simp [h, this]

theorem bitOf_bitClr (w : Word) (k i : Nat) (hk : k < 32) : bitOf (bitClr w k) i = (!decide (i = k) && bitOf w i) := by
  unfold bitOf bitClr
  rw [BitVec.getLsbD_and, BitVec.getLsbD_not, BitVec.getLsbD_ofNat, Nat.testBit_two_pow]
  by_cases h : i = k
  · simp [h, hk]
  · have h2 : ¬ k = i := fun e => h e.symm
    by_cases hi : i < 32
    · simp [h, h2, hi]
    · have : w.getLsbD i = false := BitVec.getLsbD_of_ge _ _ (by omega)
      simp [this]

theorem bitOf_bitPut (w : Word) (k i : Nat) (b : Bool) (hk : k < 32) :
    bitOf (bitPut w k b) i = if i = k then b else bitOf w i := by
  cases b <;> by_cases h : i = k <;> simp [bitPut, bitOf_bitSet, bitOf_bitClr, hk, h]

theorem bitOf_and (w m : Word) (i : Nat) : bitOf (w &&& m) i = (bitOf w i && bitOf m i) := by simp [bitOf]

/-! ## Registers -/

/-- The register at any address after a write. -/
theorem Dev.rd_wr (s : Dev) (a b : Nat) (v : Word) : (s.wr a v).rd b = if b = a then v &&& regMask a else s.rd b :=
  SMap.get_put _ _ _ _ _

theorem Dev.rd_wrF (s : Dev) (a b : Nat) (f : Fld) (v : Nat) :
    (s.wrF a f v).rd b = if b = a then fset (s.rd a) f v &&& regMask a else s.rd b := Dev.rd_wr _ _ _ _

theorem Dev.rd_wrB (s : Dev) (a b k : Nat) (x : Bool) :
    (s.wrB a k x).rd b = if b = a then bitPut (s.rd a) k x &&& regMask a else s.rd b := Dev.rd_wr _ _ _ _

theorem Dev.rd_wr_same (s : Dev) (a : Nat) (v : Word) : (s.wr a v).rd a = v &&& regMask a := by simp [Dev.rd_wr]

theorem Dev.rd_wr_other (s : Dev) (a b : Nat) (v : Word) (h : b ≠ a) : (s.wr a v).rd b = s.rd b := by simp [Dev.rd_wr, h]

theorem Dev.rd_wrF_other (s : Dev) (a b : Nat) (f : Fld) (v : Nat) (h : b ≠ a) : (s.wrF a f v).rd b = s.rd b := by
  simp [Dev.rd_wrF, h]

theorem Dev.rdF_wr_other (s : Dev) (a b : Nat) (v : Word) (g : Fld) (h : b ≠ a) : (s.wr a v).rdF b g = s.rdF b g := by
  simp [Dev.rdF, Dev.rd_wr, h]

theorem Dev.rdF_wrF_other (s : Dev) (a b : Nat) (f g : Fld) (v : Nat) (h : b ≠ a) : (s.wrF a f v).rdF b g = s.rdF b g := by
  simp [Dev.rdF, Dev.rd_wrF, h]

/-- A field of the register written, where the field's bits are implemented. -/
theorem Dev.rdF_wr_same (s : Dev) (a : Nat) (v : Word) (g : Fld) (hg : g.lo + g.len ≤ 32) (hm : regMask a &&& g.mask = g.mask) :
    (s.wr a v).rdF a g = fget v g := by
  simp only [Dev.rdF, Dev.rd_wr_same]
  exact fget_and_mask v (regMask a) g hg hm

/-- A field reads what was written to it. -/
theorem Dev.rdF_wrF_same (s : Dev) (a : Nat) (f : Fld) (v : Nat) (hf : f.lo + f.len ≤ 32) (hm : regMask a &&& f.mask = f.mask) :
    (s.wrF a f v).rdF a f = v % 2 ^ f.len := by
  rw [Dev.wrF, Dev.rdF_wr_same _ _ _ _ hf hm, fget_fset_same _ _ _ hf]

/-- A field of the register written that shares no bit with the field written keeps its value. -/
theorem Dev.rdF_wrF_field (s : Dev) (a : Nat) (f g : Fld) (v : Nat) (hg : g.lo + g.len ≤ 32) (hm : regMask a &&& g.mask = g.mask)
    (h : f.lo + f.len ≤ g.lo ∨ g.lo + g.len ≤ f.lo) : (s.wrF a f v).rdF a g = s.rdF a g := by
  rw [Dev.wrF, Dev.rdF_wr_same _ _ _ _ hg hm, fget_fset_other _ _ _ _ hg h, Dev.rdF]

/-- A bit of a register after a bit write. -/
theorem Dev.rdB_wrB (s : Dev) (a b k i : Nat) (x : Bool) (hk : k < 32) :
    (s.wrB a k x).rdB b i = if b = a then (if i = k then x else s.rdB a i) && bitOf (regMask a) i else s.rdB b i := by
  by_cases h : b = a
  · subst h; simp [Dev.rdB, Dev.rd_wrB, bitOf_and, bitOf_bitPut, hk]
  · simp [Dev.rdB, Dev.rd_wrB, h]

/-- Every write keeps the register file in canonical form. -/
theorem Dev.regs_wr_wf (s : Dev) (a : Nat) (v : Word) (h : s.regs.wf regReset = true) : (s.wr a v).regs.wf regReset = true :=
  SMap.wf_put _ _ _ _ h

/-- Every write leaves reserved bits 0 (R11). -/
theorem Dev.rd_wr_reserved (s : Dev) (a b : Nat) (v : Word) (h : s.rd b &&& ~~~ regMask b = 0#32) :
    (s.wr a v).rd b &&& ~~~ regMask b = 0#32 := by
  rw [Dev.rd_wr]
  split
  · next e => subst e; rw [BitVec.and_assoc]; simp
  · exact h

/-! ## Observers of the device after an update -/

@[simp] theorem Dev.wr_rdL (s : Dev) (a : Nat) (v : Word) (b : Nat) : (s.wr a v).rdL b = s.rdL b := rfl
@[simp] theorem Dev.wr_lane (s : Dev) (a : Nat) (v : Word) (e i : Nat) : (s.wr a v).lane e i = s.lane e i := rfl
@[simp] theorem Dev.wr_half (s : Dev) (a : Nat) (v : Word) (e i : Nat) : (s.wr a v).half e i = s.half e i := rfl
@[simp] theorem Dev.wr_eng (s : Dev) (a : Nat) (v : Word) (e : Nat) : (s.wr a v).eng e = s.eng e := rfl
@[simp] theorem Dev.wr_place (s : Dev) (a : Nat) (v : Word) (e i : Nat) : (s.wr a v).place e i = s.place e i := rfl

@[simp] theorem Dev.latch_rd (s : Dev) (a : Nat) (b : Nat) : (s.latch a).rd b = s.rd b := rfl
@[simp] theorem Dev.latch_rdF (s : Dev) (a : Nat) (b : Nat) (g : Fld) : (s.latch a).rdF b g = s.rdF b g := rfl
@[simp] theorem Dev.latch_rdB (s : Dev) (a : Nat) (b i : Nat) : (s.latch a).rdB b i = s.rdB b i := rfl
@[simp] theorem Dev.latch_lane (s : Dev) (a : Nat) (e i : Nat) : (s.latch a).lane e i = s.lane e i := rfl
@[simp] theorem Dev.latch_half (s : Dev) (a : Nat) (e i : Nat) : (s.latch a).half e i = s.half e i := rfl
@[simp] theorem Dev.latch_eng (s : Dev) (a : Nat) (e : Nat) : (s.latch a).eng e = s.eng e := rfl
@[simp] theorem Dev.latch_place (s : Dev) (a : Nat) (e i : Nat) : (s.latch a).place e i = s.place e i := rfl

@[simp] theorem Dev.emit_rd (s : Dev) (m : OutMsg) (b : Nat) : (s.emit m).rd b = s.rd b := rfl
@[simp] theorem Dev.emit_rdF (s : Dev) (m : OutMsg) (b : Nat) (g : Fld) : (s.emit m).rdF b g = s.rdF b g := rfl
@[simp] theorem Dev.emit_rdB (s : Dev) (m : OutMsg) (b i : Nat) : (s.emit m).rdB b i = s.rdB b i := rfl
@[simp] theorem Dev.emit_rdL (s : Dev) (m : OutMsg) (b : Nat) : (s.emit m).rdL b = s.rdL b := rfl
@[simp] theorem Dev.emit_lane (s : Dev) (m : OutMsg) (e i : Nat) : (s.emit m).lane e i = s.lane e i := rfl
@[simp] theorem Dev.emit_half (s : Dev) (m : OutMsg) (e i : Nat) : (s.emit m).half e i = s.half e i := rfl
@[simp] theorem Dev.emit_eng (s : Dev) (m : OutMsg) (e : Nat) : (s.emit m).eng e = s.eng e := rfl
@[simp] theorem Dev.emit_place (s : Dev) (m : OutMsg) (e i : Nat) : (s.emit m).place e i = s.place e i := rfl

@[simp] theorem Dev.setLane_rd (s : Dev) (d n : Nat) (x : LaneH) (b : Nat) : (s.setLane d n x).rd b = s.rd b := rfl
@[simp] theorem Dev.setLane_rdF (s : Dev) (d n : Nat) (x : LaneH) (b : Nat) (g : Fld) : (s.setLane d n x).rdF b g = s.rdF b g := rfl
@[simp] theorem Dev.setLane_rdB (s : Dev) (d n : Nat) (x : LaneH) (b i : Nat) : (s.setLane d n x).rdB b i = s.rdB b i := rfl
@[simp] theorem Dev.setLane_rdL (s : Dev) (d n : Nat) (x : LaneH) (b : Nat) : (s.setLane d n x).rdL b = s.rdL b := rfl
@[simp] theorem Dev.setLane_half (s : Dev) (d n : Nat) (x : LaneH) (e i : Nat) : (s.setLane d n x).half e i = s.half e i := rfl
@[simp] theorem Dev.setLane_eng (s : Dev) (d n : Nat) (x : LaneH) (e : Nat) : (s.setLane d n x).eng e = s.eng e := rfl
@[simp] theorem Dev.setLane_place (s : Dev) (d n : Nat) (x : LaneH) (e i : Nat) : (s.setLane d n x).place e i = s.place e i := rfl

@[simp] theorem Dev.setInp_rd (s : Dev) (d n : Nat) (x : InH) (b : Nat) : (s.setInp d n x).rd b = s.rd b := rfl
@[simp] theorem Dev.setInp_rdF (s : Dev) (d n : Nat) (x : InH) (b : Nat) (g : Fld) : (s.setInp d n x).rdF b g = s.rdF b g := rfl
@[simp] theorem Dev.setInp_rdB (s : Dev) (d n : Nat) (x : InH) (b i : Nat) : (s.setInp d n x).rdB b i = s.rdB b i := rfl
@[simp] theorem Dev.setInp_rdL (s : Dev) (d n : Nat) (x : InH) (b : Nat) : (s.setInp d n x).rdL b = s.rdL b := rfl
@[simp] theorem Dev.setInp_lane (s : Dev) (d n : Nat) (x : InH) (e i : Nat) : (s.setInp d n x).lane e i = s.lane e i := rfl
@[simp] theorem Dev.setInp_half (s : Dev) (d n : Nat) (x : InH) (e i : Nat) : (s.setInp d n x).half e i = s.half e i := rfl
@[simp] theorem Dev.setInp_eng (s : Dev) (d n : Nat) (x : InH) (e : Nat) : (s.setInp d n x).eng e = s.eng e := rfl
@[simp] theorem Dev.setInp_place (s : Dev) (d n : Nat) (x : InH) (e i : Nat) : (s.setInp d n x).place e i = s.place e i := rfl

@[simp] theorem Dev.setHalf_rd (s : Dev) (d n : Nat) (x : HalfH) (b : Nat) : (s.setHalf d n x).rd b = s.rd b := rfl
@[simp] theorem Dev.setHalf_rdF (s : Dev) (d n : Nat) (x : HalfH) (b : Nat) (g : Fld) : (s.setHalf d n x).rdF b g = s.rdF b g := rfl
@[simp] theorem Dev.setHalf_rdB (s : Dev) (d n : Nat) (x : HalfH) (b i : Nat) : (s.setHalf d n x).rdB b i = s.rdB b i := rfl
@[simp] theorem Dev.setHalf_rdL (s : Dev) (d n : Nat) (x : HalfH) (b : Nat) : (s.setHalf d n x).rdL b = s.rdL b := rfl
@[simp] theorem Dev.setHalf_lane (s : Dev) (d n : Nat) (x : HalfH) (e i : Nat) : (s.setHalf d n x).lane e i = s.lane e i := rfl
@[simp] theorem Dev.setHalf_eng (s : Dev) (d n : Nat) (x : HalfH) (e : Nat) : (s.setHalf d n x).eng e = s.eng e := rfl
@[simp] theorem Dev.setHalf_place (s : Dev) (d n : Nat) (x : HalfH) (e i : Nat) : (s.setHalf d n x).place e i = s.place e i := rfl

@[simp] theorem Dev.setPipes_rd (s : Dev) (d : Nat) (x : DieH) (b : Nat) : (s.setPipes d x).rd b = s.rd b := rfl
@[simp] theorem Dev.setPipes_rdF (s : Dev) (d : Nat) (x : DieH) (b : Nat) (g : Fld) : (s.setPipes d x).rdF b g = s.rdF b g := rfl
@[simp] theorem Dev.setPipes_rdB (s : Dev) (d : Nat) (x : DieH) (b i : Nat) : (s.setPipes d x).rdB b i = s.rdB b i := rfl
@[simp] theorem Dev.setPipes_rdL (s : Dev) (d : Nat) (x : DieH) (b : Nat) : (s.setPipes d x).rdL b = s.rdL b := rfl
@[simp] theorem Dev.setPipes_lane (s : Dev) (d : Nat) (x : DieH) (e i : Nat) : (s.setPipes d x).lane e i = s.lane e i := rfl
@[simp] theorem Dev.setPipes_half (s : Dev) (d : Nat) (x : DieH) (e i : Nat) : (s.setPipes d x).half e i = s.half e i := rfl
@[simp] theorem Dev.setPipes_eng (s : Dev) (d : Nat) (x : DieH) (e : Nat) : (s.setPipes d x).eng e = s.eng e := rfl
@[simp] theorem Dev.setPipes_place (s : Dev) (d : Nat) (x : DieH) (e i : Nat) : (s.setPipes d x).place e i = s.place e i := rfl

@[simp] theorem Dev.setDrc_rd (s : Dev) (d : Nat) (x : DrcH) (b : Nat) : (s.setDrc d x).rd b = s.rd b := rfl
@[simp] theorem Dev.setDrc_rdF (s : Dev) (d : Nat) (x : DrcH) (b : Nat) (g : Fld) : (s.setDrc d x).rdF b g = s.rdF b g := rfl
@[simp] theorem Dev.setDrc_rdB (s : Dev) (d : Nat) (x : DrcH) (b i : Nat) : (s.setDrc d x).rdB b i = s.rdB b i := rfl
@[simp] theorem Dev.setDrc_rdL (s : Dev) (d : Nat) (x : DrcH) (b : Nat) : (s.setDrc d x).rdL b = s.rdL b := rfl
@[simp] theorem Dev.setDrc_lane (s : Dev) (d : Nat) (x : DrcH) (e i : Nat) : (s.setDrc d x).lane e i = s.lane e i := rfl
@[simp] theorem Dev.setDrc_half (s : Dev) (d : Nat) (x : DrcH) (e i : Nat) : (s.setDrc d x).half e i = s.half e i := rfl
@[simp] theorem Dev.setDrc_eng (s : Dev) (d : Nat) (x : DrcH) (e : Nat) : (s.setDrc d x).eng e = s.eng e := rfl
@[simp] theorem Dev.setDrc_place (s : Dev) (d : Nat) (x : DrcH) (e i : Nat) : (s.setDrc d x).place e i = s.place e i := rfl

@[simp] theorem Dev.setDrcCh_rd (s : Dev) (d n : Nat) (x : DrcCh) (b : Nat) : (s.setDrcCh d n x).rd b = s.rd b := rfl
@[simp] theorem Dev.setDrcCh_rdF (s : Dev) (d n : Nat) (x : DrcCh) (b : Nat) (g : Fld) : (s.setDrcCh d n x).rdF b g = s.rdF b g := rfl
@[simp] theorem Dev.setDrcCh_rdB (s : Dev) (d n : Nat) (x : DrcCh) (b i : Nat) : (s.setDrcCh d n x).rdB b i = s.rdB b i := rfl
@[simp] theorem Dev.setDrcCh_rdL (s : Dev) (d n : Nat) (x : DrcCh) (b : Nat) : (s.setDrcCh d n x).rdL b = s.rdL b := rfl
@[simp] theorem Dev.setDrcCh_lane (s : Dev) (d n : Nat) (x : DrcCh) (e i : Nat) : (s.setDrcCh d n x).lane e i = s.lane e i := rfl
@[simp] theorem Dev.setDrcCh_half (s : Dev) (d n : Nat) (x : DrcCh) (e i : Nat) : (s.setDrcCh d n x).half e i = s.half e i := rfl
@[simp] theorem Dev.setDrcCh_eng (s : Dev) (d n : Nat) (x : DrcCh) (e : Nat) : (s.setDrcCh d n x).eng e = s.eng e := rfl
@[simp] theorem Dev.setDrcCh_place (s : Dev) (d n : Nat) (x : DrcCh) (e i : Nat) : (s.setDrcCh d n x).place e i = s.place e i := rfl

@[simp] theorem Dev.setStat_rd (s : Dev) (d : Nat) (x : StatH) (b : Nat) : (s.setStat d x).rd b = s.rd b := rfl
@[simp] theorem Dev.setStat_rdF (s : Dev) (d : Nat) (x : StatH) (b : Nat) (g : Fld) : (s.setStat d x).rdF b g = s.rdF b g := rfl
@[simp] theorem Dev.setStat_rdB (s : Dev) (d : Nat) (x : StatH) (b i : Nat) : (s.setStat d x).rdB b i = s.rdB b i := rfl
@[simp] theorem Dev.setStat_rdL (s : Dev) (d : Nat) (x : StatH) (b : Nat) : (s.setStat d x).rdL b = s.rdL b := rfl
@[simp] theorem Dev.setStat_lane (s : Dev) (d : Nat) (x : StatH) (e i : Nat) : (s.setStat d x).lane e i = s.lane e i := rfl
@[simp] theorem Dev.setStat_half (s : Dev) (d : Nat) (x : StatH) (e i : Nat) : (s.setStat d x).half e i = s.half e i := rfl
@[simp] theorem Dev.setStat_eng (s : Dev) (d : Nat) (x : StatH) (e : Nat) : (s.setStat d x).eng e = s.eng e := rfl
@[simp] theorem Dev.setStat_place (s : Dev) (d : Nat) (x : StatH) (e i : Nat) : (s.setStat d x).place e i = s.place e i := rfl

@[simp] theorem Dev.setCrc_rd (s : Dev) (d n : Nat) (x : CrcH) (b : Nat) : (s.setCrc d n x).rd b = s.rd b := rfl
@[simp] theorem Dev.setCrc_rdF (s : Dev) (d n : Nat) (x : CrcH) (b : Nat) (g : Fld) : (s.setCrc d n x).rdF b g = s.rdF b g := rfl
@[simp] theorem Dev.setCrc_rdB (s : Dev) (d n : Nat) (x : CrcH) (b i : Nat) : (s.setCrc d n x).rdB b i = s.rdB b i := rfl
@[simp] theorem Dev.setCrc_rdL (s : Dev) (d n : Nat) (x : CrcH) (b : Nat) : (s.setCrc d n x).rdL b = s.rdL b := rfl
@[simp] theorem Dev.setCrc_lane (s : Dev) (d n : Nat) (x : CrcH) (e i : Nat) : (s.setCrc d n x).lane e i = s.lane e i := rfl
@[simp] theorem Dev.setCrc_half (s : Dev) (d n : Nat) (x : CrcH) (e i : Nat) : (s.setCrc d n x).half e i = s.half e i := rfl
@[simp] theorem Dev.setCrc_eng (s : Dev) (d n : Nat) (x : CrcH) (e : Nat) : (s.setCrc d n x).eng e = s.eng e := rfl
@[simp] theorem Dev.setCrc_place (s : Dev) (d n : Nat) (x : CrcH) (e i : Nat) : (s.setCrc d n x).place e i = s.place e i := rfl

@[simp] theorem Dev.setEng_rd (s : Dev) (d : Nat) (x : BistH) (b : Nat) : (s.setEng d x).rd b = s.rd b := rfl
@[simp] theorem Dev.setEng_rdF (s : Dev) (d : Nat) (x : BistH) (b : Nat) (g : Fld) : (s.setEng d x).rdF b g = s.rdF b g := rfl
@[simp] theorem Dev.setEng_rdB (s : Dev) (d : Nat) (x : BistH) (b i : Nat) : (s.setEng d x).rdB b i = s.rdB b i := rfl
@[simp] theorem Dev.setEng_rdL (s : Dev) (d : Nat) (x : BistH) (b : Nat) : (s.setEng d x).rdL b = s.rdL b := rfl
@[simp] theorem Dev.setEng_lane (s : Dev) (d : Nat) (x : BistH) (e i : Nat) : (s.setEng d x).lane e i = s.lane e i := rfl
@[simp] theorem Dev.setEng_half (s : Dev) (d : Nat) (x : BistH) (e i : Nat) : (s.setEng d x).half e i = s.half e i := rfl
@[simp] theorem Dev.setEng_place (s : Dev) (d : Nat) (x : BistH) (e i : Nat) : (s.setEng d x).place e i = s.place e i := rfl

@[simp] theorem Dev.setCal_rd (s : Dev) (d n : Nat) (x : CalH) (b : Nat) : (s.setCal d n x).rd b = s.rd b := rfl
@[simp] theorem Dev.setCal_rdF (s : Dev) (d n : Nat) (x : CalH) (b : Nat) (g : Fld) : (s.setCal d n x).rdF b g = s.rdF b g := rfl
@[simp] theorem Dev.setCal_rdB (s : Dev) (d n : Nat) (x : CalH) (b i : Nat) : (s.setCal d n x).rdB b i = s.rdB b i := rfl
@[simp] theorem Dev.setCal_rdL (s : Dev) (d n : Nat) (x : CalH) (b : Nat) : (s.setCal d n x).rdL b = s.rdL b := rfl
@[simp] theorem Dev.setCal_lane (s : Dev) (d n : Nat) (x : CalH) (e i : Nat) : (s.setCal d n x).lane e i = s.lane e i := rfl
@[simp] theorem Dev.setCal_half (s : Dev) (d n : Nat) (x : CalH) (e i : Nat) : (s.setCal d n x).half e i = s.half e i := rfl
@[simp] theorem Dev.setCal_eng (s : Dev) (d n : Nat) (x : CalH) (e : Nat) : (s.setCal d n x).eng e = s.eng e := rfl
@[simp] theorem Dev.setCal_place (s : Dev) (d n : Nat) (x : CalH) (e i : Nat) : (s.setCal d n x).place e i = s.place e i := rfl

@[simp] theorem Dev.setChan_rd (s : Dev) (d : Nat) (x : ChanH) (b : Nat) : (s.setChan d x).rd b = s.rd b := rfl
@[simp] theorem Dev.setChan_rdF (s : Dev) (d : Nat) (x : ChanH) (b : Nat) (g : Fld) : (s.setChan d x).rdF b g = s.rdF b g := rfl
@[simp] theorem Dev.setChan_rdB (s : Dev) (d : Nat) (x : ChanH) (b i : Nat) : (s.setChan d x).rdB b i = s.rdB b i := rfl
@[simp] theorem Dev.setChan_rdL (s : Dev) (d : Nat) (x : ChanH) (b : Nat) : (s.setChan d x).rdL b = s.rdL b := rfl
@[simp] theorem Dev.setChan_lane (s : Dev) (d : Nat) (x : ChanH) (e i : Nat) : (s.setChan d x).lane e i = s.lane e i := rfl
@[simp] theorem Dev.setChan_half (s : Dev) (d : Nat) (x : ChanH) (e i : Nat) : (s.setChan d x).half e i = s.half e i := rfl
@[simp] theorem Dev.setChan_eng (s : Dev) (d : Nat) (x : ChanH) (e : Nat) : (s.setChan d x).eng e = s.eng e := rfl
@[simp] theorem Dev.setChan_place (s : Dev) (d : Nat) (x : ChanH) (e i : Nat) : (s.setChan d x).place e i = s.place e i := rfl

@[simp] theorem Dev.setRun_rd (s : Dev) (d n : Nat) (x : RunH) (b : Nat) : (s.setRun d n x).rd b = s.rd b := rfl
@[simp] theorem Dev.setRun_rdF (s : Dev) (d n : Nat) (x : RunH) (b : Nat) (g : Fld) : (s.setRun d n x).rdF b g = s.rdF b g := rfl
@[simp] theorem Dev.setRun_rdB (s : Dev) (d n : Nat) (x : RunH) (b i : Nat) : (s.setRun d n x).rdB b i = s.rdB b i := rfl
@[simp] theorem Dev.setRun_rdL (s : Dev) (d n : Nat) (x : RunH) (b : Nat) : (s.setRun d n x).rdL b = s.rdL b := rfl
@[simp] theorem Dev.setRun_lane (s : Dev) (d n : Nat) (x : RunH) (e i : Nat) : (s.setRun d n x).lane e i = s.lane e i := rfl
@[simp] theorem Dev.setRun_half (s : Dev) (d n : Nat) (x : RunH) (e i : Nat) : (s.setRun d n x).half e i = s.half e i := rfl
@[simp] theorem Dev.setRun_eng (s : Dev) (d n : Nat) (x : RunH) (e : Nat) : (s.setRun d n x).eng e = s.eng e := rfl
@[simp] theorem Dev.setRun_place (s : Dev) (d n : Nat) (x : RunH) (e i : Nat) : (s.setRun d n x).place e i = s.place e i := rfl

@[simp] theorem Dev.setGroup_rd (s : Dev) (d n : Nat) (x : GroupH) (b : Nat) : (s.setGroup d n x).rd b = s.rd b := rfl
@[simp] theorem Dev.setGroup_rdF (s : Dev) (d n : Nat) (x : GroupH) (b : Nat) (g : Fld) : (s.setGroup d n x).rdF b g = s.rdF b g := rfl
@[simp] theorem Dev.setGroup_rdB (s : Dev) (d n : Nat) (x : GroupH) (b i : Nat) : (s.setGroup d n x).rdB b i = s.rdB b i := rfl
@[simp] theorem Dev.setGroup_rdL (s : Dev) (d n : Nat) (x : GroupH) (b : Nat) : (s.setGroup d n x).rdL b = s.rdL b := rfl
@[simp] theorem Dev.setGroup_lane (s : Dev) (d n : Nat) (x : GroupH) (e i : Nat) : (s.setGroup d n x).lane e i = s.lane e i := rfl
@[simp] theorem Dev.setGroup_half (s : Dev) (d n : Nat) (x : GroupH) (e i : Nat) : (s.setGroup d n x).half e i = s.half e i := rfl
@[simp] theorem Dev.setGroup_eng (s : Dev) (d n : Nat) (x : GroupH) (e : Nat) : (s.setGroup d n x).eng e = s.eng e := rfl
@[simp] theorem Dev.setGroup_place (s : Dev) (d n : Nat) (x : GroupH) (e i : Nat) : (s.setGroup d n x).place e i = s.place e i := rfl

@[simp] theorem Dev.setHv_rd (s : Dev) (d : Nat) (x : HvH) (b : Nat) : (s.setHv d x).rd b = s.rd b := rfl
@[simp] theorem Dev.setHv_rdF (s : Dev) (d : Nat) (x : HvH) (b : Nat) (g : Fld) : (s.setHv d x).rdF b g = s.rdF b g := rfl
@[simp] theorem Dev.setHv_rdB (s : Dev) (d : Nat) (x : HvH) (b i : Nat) : (s.setHv d x).rdB b i = s.rdB b i := rfl
@[simp] theorem Dev.setHv_rdL (s : Dev) (d : Nat) (x : HvH) (b : Nat) : (s.setHv d x).rdL b = s.rdL b := rfl
@[simp] theorem Dev.setHv_lane (s : Dev) (d : Nat) (x : HvH) (e i : Nat) : (s.setHv d x).lane e i = s.lane e i := rfl
@[simp] theorem Dev.setHv_half (s : Dev) (d : Nat) (x : HvH) (e i : Nat) : (s.setHv d x).half e i = s.half e i := rfl
@[simp] theorem Dev.setHv_eng (s : Dev) (d : Nat) (x : HvH) (e : Nat) : (s.setHv d x).eng e = s.eng e := rfl
@[simp] theorem Dev.setHv_place (s : Dev) (d : Nat) (x : HvH) (e i : Nat) : (s.setHv d x).place e i = s.place e i := rfl

@[simp] theorem Dev.setRb_rd (s : Dev) (d : Nat) (x : RbH) (b : Nat) : (s.setRb d x).rd b = s.rd b := rfl
@[simp] theorem Dev.setRb_rdF (s : Dev) (d : Nat) (x : RbH) (b : Nat) (g : Fld) : (s.setRb d x).rdF b g = s.rdF b g := rfl
@[simp] theorem Dev.setRb_rdB (s : Dev) (d : Nat) (x : RbH) (b i : Nat) : (s.setRb d x).rdB b i = s.rdB b i := rfl
@[simp] theorem Dev.setRb_rdL (s : Dev) (d : Nat) (x : RbH) (b : Nat) : (s.setRb d x).rdL b = s.rdL b := rfl
@[simp] theorem Dev.setRb_lane (s : Dev) (d : Nat) (x : RbH) (e i : Nat) : (s.setRb d x).lane e i = s.lane e i := rfl
@[simp] theorem Dev.setRb_half (s : Dev) (d : Nat) (x : RbH) (e i : Nat) : (s.setRb d x).half e i = s.half e i := rfl
@[simp] theorem Dev.setRb_eng (s : Dev) (d : Nat) (x : RbH) (e : Nat) : (s.setRb d x).eng e = s.eng e := rfl
@[simp] theorem Dev.setRb_place (s : Dev) (d : Nat) (x : RbH) (e i : Nat) : (s.setRb d x).place e i = s.place e i := rfl

@[simp] theorem Dev.setDc_rd (s : Dev) (d n : Nat) (x : DcH) (b : Nat) : (s.setDc d n x).rd b = s.rd b := rfl
@[simp] theorem Dev.setDc_rdF (s : Dev) (d n : Nat) (x : DcH) (b : Nat) (g : Fld) : (s.setDc d n x).rdF b g = s.rdF b g := rfl
@[simp] theorem Dev.setDc_rdB (s : Dev) (d n : Nat) (x : DcH) (b i : Nat) : (s.setDc d n x).rdB b i = s.rdB b i := rfl
@[simp] theorem Dev.setDc_rdL (s : Dev) (d n : Nat) (x : DcH) (b : Nat) : (s.setDc d n x).rdL b = s.rdL b := rfl
@[simp] theorem Dev.setDc_lane (s : Dev) (d n : Nat) (x : DcH) (e i : Nat) : (s.setDc d n x).lane e i = s.lane e i := rfl
@[simp] theorem Dev.setDc_half (s : Dev) (d n : Nat) (x : DcH) (e i : Nat) : (s.setDc d n x).half e i = s.half e i := rfl
@[simp] theorem Dev.setDc_eng (s : Dev) (d n : Nat) (x : DcH) (e : Nat) : (s.setDc d n x).eng e = s.eng e := rfl
@[simp] theorem Dev.setDc_place (s : Dev) (d n : Nat) (x : DcH) (e i : Nat) : (s.setDc d n x).place e i = s.place e i := rfl

@[simp] theorem Dev.setCan_rd (s : Dev) (d : Nat) (x : CanH) (b : Nat) : (s.setCan d x).rd b = s.rd b := rfl
@[simp] theorem Dev.setCan_rdF (s : Dev) (d : Nat) (x : CanH) (b : Nat) (g : Fld) : (s.setCan d x).rdF b g = s.rdF b g := rfl
@[simp] theorem Dev.setCan_rdB (s : Dev) (d : Nat) (x : CanH) (b i : Nat) : (s.setCan d x).rdB b i = s.rdB b i := rfl
@[simp] theorem Dev.setCan_rdL (s : Dev) (d : Nat) (x : CanH) (b : Nat) : (s.setCan d x).rdL b = s.rdL b := rfl
@[simp] theorem Dev.setCan_lane (s : Dev) (d : Nat) (x : CanH) (e i : Nat) : (s.setCan d x).lane e i = s.lane e i := rfl
@[simp] theorem Dev.setCan_half (s : Dev) (d : Nat) (x : CanH) (e i : Nat) : (s.setCan d x).half e i = s.half e i := rfl
@[simp] theorem Dev.setCan_eng (s : Dev) (d : Nat) (x : CanH) (e : Nat) : (s.setCan d x).eng e = s.eng e := rfl
@[simp] theorem Dev.setCan_place (s : Dev) (d : Nat) (x : CanH) (e i : Nat) : (s.setCan d x).place e i = s.place e i := rfl

@[simp] theorem Dev.setSen_rd (s : Dev) (d : Nat) (x : SenH) (b : Nat) : (s.setSen d x).rd b = s.rd b := rfl
@[simp] theorem Dev.setSen_rdF (s : Dev) (d : Nat) (x : SenH) (b : Nat) (g : Fld) : (s.setSen d x).rdF b g = s.rdF b g := rfl
@[simp] theorem Dev.setSen_rdB (s : Dev) (d : Nat) (x : SenH) (b i : Nat) : (s.setSen d x).rdB b i = s.rdB b i := rfl
@[simp] theorem Dev.setSen_rdL (s : Dev) (d : Nat) (x : SenH) (b : Nat) : (s.setSen d x).rdL b = s.rdL b := rfl
@[simp] theorem Dev.setSen_lane (s : Dev) (d : Nat) (x : SenH) (e i : Nat) : (s.setSen d x).lane e i = s.lane e i := rfl
@[simp] theorem Dev.setSen_half (s : Dev) (d : Nat) (x : SenH) (e i : Nat) : (s.setSen d x).half e i = s.half e i := rfl
@[simp] theorem Dev.setSen_eng (s : Dev) (d : Nat) (x : SenH) (e : Nat) : (s.setSen d x).eng e = s.eng e := rfl
@[simp] theorem Dev.setSen_place (s : Dev) (d : Nat) (x : SenH) (e i : Nat) : (s.setSen d x).place e i = s.place e i := rfl

@[simp] theorem Dev.setSess_rd (s : Dev) (d : Nat) (x : Option Sess) (b : Nat) : (s.setSess d x).rd b = s.rd b := rfl
@[simp] theorem Dev.setSess_rdF (s : Dev) (d : Nat) (x : Option Sess) (b : Nat) (g : Fld) : (s.setSess d x).rdF b g = s.rdF b g := rfl
@[simp] theorem Dev.setSess_rdB (s : Dev) (d : Nat) (x : Option Sess) (b i : Nat) : (s.setSess d x).rdB b i = s.rdB b i := rfl
@[simp] theorem Dev.setSess_rdL (s : Dev) (d : Nat) (x : Option Sess) (b : Nat) : (s.setSess d x).rdL b = s.rdL b := rfl
@[simp] theorem Dev.setSess_lane (s : Dev) (d : Nat) (x : Option Sess) (e i : Nat) : (s.setSess d x).lane e i = s.lane e i := rfl
@[simp] theorem Dev.setSess_half (s : Dev) (d : Nat) (x : Option Sess) (e i : Nat) : (s.setSess d x).half e i = s.half e i := rfl
@[simp] theorem Dev.setSess_eng (s : Dev) (d : Nat) (x : Option Sess) (e : Nat) : (s.setSess d x).eng e = s.eng e := rfl
@[simp] theorem Dev.setSess_place (s : Dev) (d : Nat) (x : Option Sess) (e i : Nat) : (s.setSess d x).place e i = s.place e i := rfl

@[simp] theorem Dev.wrF_rdL (s : Dev) (a : Nat) (f : Fld) (v : Nat) (b : Nat) : (s.wrF a f v).rdL b = s.rdL b := rfl
@[simp] theorem Dev.wrF_lane (s : Dev) (a : Nat) (f : Fld) (v : Nat) (e i : Nat) : (s.wrF a f v).lane e i = s.lane e i := rfl
@[simp] theorem Dev.wrF_half (s : Dev) (a : Nat) (f : Fld) (v : Nat) (e i : Nat) : (s.wrF a f v).half e i = s.half e i := rfl
@[simp] theorem Dev.wrF_eng (s : Dev) (a : Nat) (f : Fld) (v : Nat) (e : Nat) : (s.wrF a f v).eng e = s.eng e := rfl
@[simp] theorem Dev.wrF_place (s : Dev) (a : Nat) (f : Fld) (v : Nat) (e i : Nat) : (s.wrF a f v).place e i = s.place e i := rfl

@[simp] theorem Dev.wrB_rdL (s : Dev) (a k : Nat) (x : Bool) (b : Nat) : (s.wrB a k x).rdL b = s.rdL b := rfl
@[simp] theorem Dev.wrB_lane (s : Dev) (a k : Nat) (x : Bool) (e i : Nat) : (s.wrB a k x).lane e i = s.lane e i := rfl
@[simp] theorem Dev.wrB_half (s : Dev) (a k : Nat) (x : Bool) (e i : Nat) : (s.wrB a k x).half e i = s.half e i := rfl
@[simp] theorem Dev.wrB_eng (s : Dev) (a k : Nat) (x : Bool) (e : Nat) : (s.wrB a k x).eng e = s.eng e := rfl
@[simp] theorem Dev.wrB_place (s : Dev) (a k : Nat) (x : Bool) (e i : Nat) : (s.wrB a k x).place e i = s.place e i := rfl

@[simp] theorem Dev.satF_rdL (s : Dev) (a : Nat) (f : Fld) (n : Nat) (b : Nat) : (s.satF a f n).rdL b = s.rdL b := rfl
@[simp] theorem Dev.satF_lane (s : Dev) (a : Nat) (f : Fld) (n : Nat) (e i : Nat) : (s.satF a f n).lane e i = s.lane e i := rfl
@[simp] theorem Dev.satF_half (s : Dev) (a : Nat) (f : Fld) (n : Nat) (e i : Nat) : (s.satF a f n).half e i = s.half e i := rfl
@[simp] theorem Dev.satF_eng (s : Dev) (a : Nat) (f : Fld) (n : Nat) (e : Nat) : (s.satF a f n).eng e = s.eng e := rfl
@[simp] theorem Dev.satF_place (s : Dev) (a : Nat) (f : Fld) (n : Nat) (e i : Nat) : (s.satF a f n).place e i = s.place e i := rfl

@[simp] theorem Dev.addF_rdL (s : Dev) (a : Nat) (f : Fld) (n : Nat) (b : Nat) : (s.addF a f n).rdL b = s.rdL b := rfl
@[simp] theorem Dev.addF_lane (s : Dev) (a : Nat) (f : Fld) (n : Nat) (e i : Nat) : (s.addF a f n).lane e i = s.lane e i := rfl
@[simp] theorem Dev.addF_half (s : Dev) (a : Nat) (f : Fld) (n : Nat) (e i : Nat) : (s.addF a f n).half e i = s.half e i := rfl
@[simp] theorem Dev.addF_eng (s : Dev) (a : Nat) (f : Fld) (n : Nat) (e : Nat) : (s.addF a f n).eng e = s.eng e := rfl
@[simp] theorem Dev.addF_place (s : Dev) (a : Nat) (f : Fld) (n : Nat) (e i : Nat) : (s.addF a f n).place e i = s.place e i := rfl

@[simp] theorem Dev.addR_rdL (s : Dev) (a n : Nat) (b : Nat) : (s.addR a n).rdL b = s.rdL b := rfl
@[simp] theorem Dev.addR_lane (s : Dev) (a n : Nat) (e i : Nat) : (s.addR a n).lane e i = s.lane e i := rfl
@[simp] theorem Dev.addR_half (s : Dev) (a n : Nat) (e i : Nat) : (s.addR a n).half e i = s.half e i := rfl
@[simp] theorem Dev.addR_eng (s : Dev) (a n : Nat) (e : Nat) : (s.addR a n).eng e = s.eng e := rfl
@[simp] theorem Dev.addR_place (s : Dev) (a n : Nat) (e i : Nat) : (s.addR a n).place e i = s.place e i := rfl

@[simp] theorem Dev.setLane_lane_same (s : Dev) (d n : Nat) (x : LaneH) : (s.setLane d n x).lane d n = x := SMap.get_put_same _ _ _ _

@[simp] theorem Dev.setInp_inp_same (s : Dev) (d n : Nat) (x : InH) : (s.setInp d n x).inp d n = x := SMap.get_put_same _ _ _ _

@[simp] theorem Dev.setHalf_half_same (s : Dev) (d n : Nat) (x : HalfH) : (s.setHalf d n x).half d n = x := SMap.get_put_same _ _ _ _

@[simp] theorem Dev.setDrcCh_drcCh_same (s : Dev) (d n : Nat) (x : DrcCh) : (s.setDrcCh d n x).drcCh d n = x := SMap.get_put_same _ _ _ _

@[simp] theorem Dev.setCrc_crc_same (s : Dev) (d n : Nat) (x : CrcH) : (s.setCrc d n x).crc d n = x := SMap.get_put_same _ _ _ _

@[simp] theorem Dev.setCal_cal_same (s : Dev) (d n : Nat) (x : CalH) : (s.setCal d n x).cal d n = x := SMap.get_put_same _ _ _ _

@[simp] theorem Dev.setRun_run_same (s : Dev) (d n : Nat) (x : RunH) : (s.setRun d n x).run d n = x := SMap.get_put_same _ _ _ _

@[simp] theorem Dev.setGroup_group_same (s : Dev) (d n : Nat) (x : GroupH) : (s.setGroup d n x).group d n = x := SMap.get_put_same _ _ _ _

@[simp] theorem Dev.setDc_dc_same (s : Dev) (d n : Nat) (x : DcH) : (s.setDc d n x).dc d n = x := SMap.get_put_same _ _ _ _

@[simp] theorem Dev.setPipes_pipes_same (s : Dev) (d : Nat) (x : DieH) : (s.setPipes d x).pipes d = x := SMap.get_put_same _ _ _ _
theorem Dev.setPipes_pipes_other (s : Dev) (d e : Nat) (x : DieH) (h : e ≠ d) : (s.setPipes d x).pipes e = s.pipes e := SMap.get_put_other _ _ _ _ _ h

@[simp] theorem Dev.setDrc_drc_same (s : Dev) (d : Nat) (x : DrcH) : (s.setDrc d x).drc d = x := SMap.get_put_same _ _ _ _
theorem Dev.setDrc_drc_other (s : Dev) (d e : Nat) (x : DrcH) (h : e ≠ d) : (s.setDrc d x).drc e = s.drc e := SMap.get_put_other _ _ _ _ _ h

@[simp] theorem Dev.setStat_statOf_same (s : Dev) (d : Nat) (x : StatH) : (s.setStat d x).statOf d = x := SMap.get_put_same _ _ _ _
theorem Dev.setStat_statOf_other (s : Dev) (d e : Nat) (x : StatH) (h : e ≠ d) : (s.setStat d x).statOf e = s.statOf e := SMap.get_put_other _ _ _ _ _ h

@[simp] theorem Dev.setEng_eng_same (s : Dev) (d : Nat) (x : BistH) : (s.setEng d x).eng d = x := SMap.get_put_same _ _ _ _
theorem Dev.setEng_eng_other (s : Dev) (d e : Nat) (x : BistH) (h : e ≠ d) : (s.setEng d x).eng e = s.eng e := SMap.get_put_other _ _ _ _ _ h

@[simp] theorem Dev.setChan_chan_same (s : Dev) (d : Nat) (x : ChanH) : (s.setChan d x).chan d = x := SMap.get_put_same _ _ _ _
theorem Dev.setChan_chan_other (s : Dev) (d e : Nat) (x : ChanH) (h : e ≠ d) : (s.setChan d x).chan e = s.chan e := SMap.get_put_other _ _ _ _ _ h

@[simp] theorem Dev.setHv_hv_same (s : Dev) (d : Nat) (x : HvH) : (s.setHv d x).hv d = x := SMap.get_put_same _ _ _ _
theorem Dev.setHv_hv_other (s : Dev) (d e : Nat) (x : HvH) (h : e ≠ d) : (s.setHv d x).hv e = s.hv e := SMap.get_put_other _ _ _ _ _ h

@[simp] theorem Dev.setRb_rb_same (s : Dev) (d : Nat) (x : RbH) : (s.setRb d x).rb d = x := SMap.get_put_same _ _ _ _
theorem Dev.setRb_rb_other (s : Dev) (d e : Nat) (x : RbH) (h : e ≠ d) : (s.setRb d x).rb e = s.rb e := SMap.get_put_other _ _ _ _ _ h

@[simp] theorem Dev.setCan_can_same (s : Dev) (d : Nat) (x : CanH) : (s.setCan d x).can d = x := SMap.get_put_same _ _ _ _
theorem Dev.setCan_can_other (s : Dev) (d e : Nat) (x : CanH) (h : e ≠ d) : (s.setCan d x).can e = s.can e := SMap.get_put_other _ _ _ _ _ h

@[simp] theorem Dev.setSen_sen_same (s : Dev) (d : Nat) (x : SenH) : (s.setSen d x).sen d = x := SMap.get_put_same _ _ _ _
theorem Dev.setSen_sen_other (s : Dev) (d e : Nat) (x : SenH) (h : e ≠ d) : (s.setSen d x).sen e = s.sen e := SMap.get_put_other _ _ _ _ _ h

@[simp] theorem Dev.setSess_sess_same (s : Dev) (d : Nat) (x : Option Sess) : (s.setSess d x).sess d = x := SMap.get_put_same _ _ _ _
theorem Dev.setSess_sess_other (s : Dev) (d e : Nat) (x : Option Sess) (h : e ≠ d) : (s.setSess d x).sess e = s.sess e := SMap.get_put_other _ _ _ _ _ h

theorem Dev.setLane_lane_other (s : Dev) (d n e i : Nat) (x : LaneH) (h : 16 * e + i ≠ 16 * d + n) : (s.setLane d n x).lane e i = s.lane e i :=
  SMap.get_put_other _ _ _ _ _ h
theorem Dev.setInp_inp_other (s : Dev) (d n e i : Nat) (x : InH) (h : 2 * e + i ≠ 2 * d + n) : (s.setInp d n x).inp e i = s.inp e i :=
  SMap.get_put_other _ _ _ _ _ h
theorem Dev.setHalf_half_other (s : Dev) (d n e i : Nat) (x : HalfH) (h : 4 * e + i ≠ 4 * d + n) : (s.setHalf d n x).half e i = s.half e i :=
  SMap.get_put_other _ _ _ _ _ h
theorem Dev.setDrcCh_drcCh_other (s : Dev) (d n e i : Nat) (x : DrcCh) (h : 2 * e + i ≠ 2 * d + n) : (s.setDrcCh d n x).drcCh e i = s.drcCh e i :=
  SMap.get_put_other _ _ _ _ _ h
theorem Dev.setCrc_crc_other (s : Dev) (d n e i : Nat) (x : CrcH) (h : 8 * e + i ≠ 8 * d + n) : (s.setCrc d n x).crc e i = s.crc e i :=
  SMap.get_put_other _ _ _ _ _ h
theorem Dev.setCal_cal_other (s : Dev) (d n e i : Nat) (x : CalH) (h : 8 * e + i ≠ 8 * d + n) : (s.setCal d n x).cal e i = s.cal e i :=
  SMap.get_put_other _ _ _ _ _ h
theorem Dev.setRun_run_other (s : Dev) (d n e i : Nat) (x : RunH) (h : 8 * e + i ≠ 8 * d + n) : (s.setRun d n x).run e i = s.run e i :=
  SMap.get_put_other _ _ _ _ _ h
theorem Dev.setGroup_group_other (s : Dev) (d n e i : Nat) (x : GroupH) (h : 8 * e + i ≠ 8 * d + n) : (s.setGroup d n x).group e i = s.group e i :=
  SMap.get_put_other _ _ _ _ _ h
theorem Dev.setDc_dc_other (s : Dev) (d n e i : Nat) (x : DcH) (h : 2 * e + i ≠ 2 * d + n) : (s.setDc d n x).dc e i = s.dc e i :=
  SMap.get_put_other _ _ _ _ _ h

end Sys2Proof.Machine
end

