-- ==== Sys2Proof/Laws/SelfTest.lean ====
section
/-! SUPPORT. Laws of the shared operations of fault reporting and self-test. -/

namespace Sys2Proof.Machine

/-- A block that is in no slice: a register access leaves its engine alone. -/
theorem Dev.touch_idle (s : Dev) (d blk : Nat) (h : s.inSlice d blk = false) : s.touch d blk = s := by
  unfold Dev.touch
  unfold Dev.inSlice at h
  cases hs : (s.eng d).slice with
  | none => simp
  | some sl =>
    rw [hs] at h
    have : sl.block ≠ blk := by simpa using h
    simp [this]

/-- A block that is in no slice: a request leaves its engine alone. -/
theorem Dev.serve_idle (s : Dev) (d blk : Nat) (h : s.inSlice d blk = false) : s.serve d blk = s := by
  unfold Dev.serve
  unfold Dev.inSlice at h
  cases hs : (s.eng d).slice with
  | none => simp
  | some sl =>
    rw [hs] at h
    have : sl.block ≠ blk := by simpa using h
    simp [this]

/-- A condition on the slice is not touched by an operation that leaves the engines alone. -/
theorem Dev.inSlice_congr (s t : Dev) (d blk : Nat) (h : t.bist = s.bist) : t.inSlice d blk = s.inSlice d blk := by
  simp [Dev.inSlice, Dev.eng, h]

/-! ## Everything that fault reporting changes: registers, what is sent and what waits to be sent, and the fault state -/

/-- Everything but registers, messages, the links between dies and the fault state is as before. -/
def Dev.restEq (s t : Dev) : Prop := t = { s with regs := t.regs, out := t.out, flt := t.flt, dcs := t.dcs, brgs := t.brgs }

theorem Dev.restEq_refl (s : Dev) : s.restEq s := rfl

theorem Dev.restEq_trans {s t u : Dev} (h : s.restEq t) (g : t.restEq u) : s.restEq u := by
  unfold Dev.restEq at *
  generalize hr : u.regs = r at *
  generalize ho : u.out = o at *
  generalize hf : u.flt = f at *
  generalize hd : u.dcs = d at *
  generalize hb : u.brgs = b at *
  rw [g, h]

theorem Dev.restEq_wr (s : Dev) (a : Nat) (v : Word) : s.restEq (s.wr a v) := rfl

theorem Dev.restEq_emit (s : Dev) (m : OutMsg) : s.restEq (s.emit m) := rfl

theorem Dev.restEq_ite {s t u : Dev} (c : Prop) [Decidable c] (h : s.restEq t) (g : s.restEq u) : s.restEq (if c then t else u) := by
  split <;> assumption

theorem Dev.brgPump_eq (s : Dev) (d : Nat) : s.restEq (s.brgPump d) := by
  unfold Dev.brgPump
  split <;> rfl

theorem Dev.brgSend_eq (s : Dev) (d vc : Nat) : s.restEq (s.brgSend d vc) := by
  unfold Dev.brgSend
  split
  · rfl
  · exact Dev.restEq_trans (t := s.setBrg d _) rfl (Dev.brgPump_eq _ _)

theorem Dev.dcSend_eq (s : Dev) (h : Nat) (up : Bool) (w : DcWhat) : s.restEq (s.dcSend h up w) := by
  unfold Dev.dcSend
  split <;> rfl

/-- The way of an event to CD0 writes no register and leaves the fault state alone. -/
theorem Dev.eventWay_eq (s : Dev) (c a : Nat) : s.restEq (s.eventWay c a) := by
  unfold Dev.eventWay
  split
  · exact Dev.brgSend_eq _ _ _
  · split
    · exact Dev.dcSend_eq _ _ _ _
    · rfl

theorem Dev.event_eq (s : Dev) (a : Nat) : s.restEq (s.event a) := by
  have g : s.restEq ((s.eventWay (clusterOf a) a).emit (.msix (vectorOf a))) :=
    Dev.restEq_trans (Dev.eventWay_eq _ _ _) (Dev.restEq_emit _ _)
  unfold Dev.event
  dsimp only
  generalize (s.eventWay (clusterOf a) a).emit (.msix (vectorOf a)) = u at *
  have h : s.restEq { u with flt := { u.flt with pulse := true } } := Dev.restEq_trans g rfl
  exact Dev.restEq_ite _ (Dev.restEq_ite _ (Dev.restEq_trans h (Dev.restEq_wr _ _ _)) h) g

theorem Dev.latchFault_eq (s : Dev) (a k : Nat) : s.restEq (s.latchFault a k) := by
  unfold Dev.latchFault
  split
  · exact Dev.restEq_trans (Dev.restEq_wr _ _ _) (Dev.event_eq _ _)
  · exact Dev.restEq_refl _

theorem Dev.logConsequence_eq (s : Dev) (c w : Nat) : s.restEq (s.logConsequence c w) := by
  unfold Dev.logConsequence
  dsimp only
  split
  · exact Dev.restEq_trans (Dev.restEq_trans (Dev.restEq_trans (Dev.restEq_wr _ _ _) (Dev.restEq_wr _ _ _)) (Dev.restEq_wr _ _ _))
      (Dev.latchFault_eq _ _ _)
  · exact Dev.restEq_trans (Dev.restEq_trans (Dev.restEq_wr _ _ _) (Dev.restEq_wr _ _ _)) (Dev.restEq_wr _ _ _)

theorem Dev.raise_eq (s : Dev) (a k : Nat) : s.restEq (s.raise a k) := by
  unfold Dev.raise Dev.unlessMasked
  split
  · exact Dev.latchFault_eq s a k
  · split
    · exact Dev.latchFault_eq s a k
    · split
      · exact Dev.logConsequence_eq s _ _
      · exact Dev.restEq_refl _

theorem Dev.causeOn_eq (s : Dev) (a k : Nat) : s.restEq (s.causeOn a k) :=
  Dev.restEq_trans (Dev.restEq_wr s (a + 8) (bitPut (s.rd (a + 8)) k true)) (Dev.raise_eq (s.wrB (a + 8) k true) a k)

theorem Dev.causeOff_eq (s : Dev) (a k : Nat) : s.restEq (s.causeOff a k) := rfl

theorem Dev.causeIs_eq (s : Dev) (a k : Nat) (b : Bool) : s.restEq (s.causeIs a k b) := by
  cases b
  · exact Dev.causeOff_eq s a k
  · exact Dev.causeOn_eq s a k

@[simp] theorem Dev.raise_us (s : Dev) (a k : Nat) : (s.raise a k).us = s.us := by rw [(show _ from Dev.raise_eq _ _ _ : Dev.restEq s _)]
@[simp] theorem Dev.raise_fresh (s : Dev) (a k : Nat) : (s.raise a k).fresh = s.fresh := by rw [(show _ from Dev.raise_eq _ _ _ : Dev.restEq s _)]
@[simp] theorem Dev.raise_latched (s : Dev) (a k : Nat) : (s.raise a k).latched = s.latched := by rw [(show _ from Dev.raise_eq _ _ _ : Dev.restEq s _)]
@[simp] theorem Dev.raise_crcs (s : Dev) (a k : Nat) : (s.raise a k).crcs = s.crcs := by rw [(show _ from Dev.raise_eq _ _ _ : Dev.restEq s _)]
@[simp] theorem Dev.raise_cfg (s : Dev) (a k : Nat) : (s.raise a k).cfg = s.cfg := by rw [(show _ from Dev.raise_eq _ _ _ : Dev.restEq s _)]
@[simp] theorem Dev.raise_lanes (s : Dev) (a k : Nat) : (s.raise a k).lanes = s.lanes := by rw [(show _ from Dev.raise_eq _ _ _ : Dev.restEq s _)]
@[simp] theorem Dev.raise_ins (s : Dev) (a k : Nat) : (s.raise a k).ins = s.ins := by rw [(show _ from Dev.raise_eq _ _ _ : Dev.restEq s _)]
@[simp] theorem Dev.raise_halves (s : Dev) (a k : Nat) : (s.raise a k).halves = s.halves := by rw [(show _ from Dev.raise_eq _ _ _ : Dev.restEq s _)]
@[simp] theorem Dev.raise_dies (s : Dev) (a k : Nat) : (s.raise a k).dies = s.dies := by rw [(show _ from Dev.raise_eq _ _ _ : Dev.restEq s _)]
@[simp] theorem Dev.raise_drcs (s : Dev) (a k : Nat) : (s.raise a k).drcs = s.drcs := by rw [(show _ from Dev.raise_eq _ _ _ : Dev.restEq s _)]
@[simp] theorem Dev.raise_drcChs (s : Dev) (a k : Nat) : (s.raise a k).drcChs = s.drcChs := by rw [(show _ from Dev.raise_eq _ _ _ : Dev.restEq s _)]
@[simp] theorem Dev.raise_spans (s : Dev) (a k : Nat) : (s.raise a k).spans = s.spans := by rw [(show _ from Dev.raise_eq _ _ _ : Dev.restEq s _)]
@[simp] theorem Dev.raise_coefs (s : Dev) (a k : Nat) : (s.raise a k).coefs = s.coefs := by rw [(show _ from Dev.raise_eq _ _ _ : Dev.restEq s _)]
@[simp] theorem Dev.raise_rows (s : Dev) (a k : Nat) : (s.raise a k).rows = s.rows := by rw [(show _ from Dev.raise_eq _ _ _ : Dev.restEq s _)]
@[simp] theorem Dev.raise_rasPoison (s : Dev) (a k : Nat) : (s.raise a k).rasPoison = s.rasPoison := by rw [(show _ from Dev.raise_eq _ _ _ : Dev.restEq s _)]
@[simp] theorem Dev.raise_ttemps (s : Dev) (a k : Nat) : (s.raise a k).ttemps = s.ttemps := by rw [(show _ from Dev.raise_eq _ _ _ : Dev.restEq s _)]
@[simp] theorem Dev.raise_imu (s : Dev) (a k : Nat) : (s.raise a k).imu = s.imu := by rw [(show _ from Dev.raise_eq _ _ _ : Dev.restEq s _)]
@[simp] theorem Dev.raise_bud (s : Dev) (a k : Nat) : (s.raise a k).bud = s.bud := by rw [(show _ from Dev.raise_eq _ _ _ : Dev.restEq s _)]
@[simp] theorem Dev.raise_bist (s : Dev) (a k : Nat) : (s.raise a k).bist = s.bist := by rw [(show _ from Dev.raise_eq _ _ _ : Dev.restEq s _)]
@[simp] theorem Dev.raise_cals (s : Dev) (a k : Nat) : (s.raise a k).cals = s.cals := by rw [(show _ from Dev.raise_eq _ _ _ : Dev.restEq s _)]
@[simp] theorem Dev.raise_chans (s : Dev) (a k : Nat) : (s.raise a k).chans = s.chans := by rw [(show _ from Dev.raise_eq _ _ _ : Dev.restEq s _)]
@[simp] theorem Dev.raise_runs (s : Dev) (a k : Nat) : (s.raise a k).runs = s.runs := by rw [(show _ from Dev.raise_eq _ _ _ : Dev.restEq s _)]
@[simp] theorem Dev.raise_groups (s : Dev) (a k : Nat) : (s.raise a k).groups = s.groups := by rw [(show _ from Dev.raise_eq _ _ _ : Dev.restEq s _)]
@[simp] theorem Dev.raise_hvs (s : Dev) (a k : Nat) : (s.raise a k).hvs = s.hvs := by rw [(show _ from Dev.raise_eq _ _ _ : Dev.restEq s _)]
@[simp] theorem Dev.raise_img (s : Dev) (a k : Nat) : (s.raise a k).img = s.img := by rw [(show _ from Dev.raise_eq _ _ _ : Dev.restEq s _)]
@[simp] theorem Dev.raise_rbs (s : Dev) (a k : Nat) : (s.raise a k).rbs = s.rbs := by rw [(show _ from Dev.raise_eq _ _ _ : Dev.restEq s _)]
@[simp] theorem Dev.raise_thm (s : Dev) (a k : Nat) : (s.raise a k).thm = s.thm := by rw [(show _ from Dev.raise_eq _ _ _ : Dev.restEq s _)]
@[simp] theorem Dev.raise_stat (s : Dev) (a k : Nat) : (s.raise a k).stat = s.stat := by rw [(show _ from Dev.raise_eq _ _ _ : Dev.restEq s _)]
@[simp] theorem Dev.raise_mirror (s : Dev) (a k : Nat) : (s.raise a k).mirror = s.mirror := by rw [(show _ from Dev.raise_eq _ _ _ : Dev.restEq s _)]
@[simp] theorem Dev.raise_host (s : Dev) (a k : Nat) : (s.raise a k).host = s.host := by rw [(show _ from Dev.raise_eq _ _ _ : Dev.restEq s _)]
@[simp] theorem Dev.raise_spi (s : Dev) (a k : Nat) : (s.raise a k).spi = s.spi := by rw [(show _ from Dev.raise_eq _ _ _ : Dev.restEq s _)]
@[simp] theorem Dev.raise_cans (s : Dev) (a k : Nat) : (s.raise a k).cans = s.cans := by rw [(show _ from Dev.raise_eq _ _ _ : Dev.restEq s _)]
@[simp] theorem Dev.raise_pzp (s : Dev) (a k : Nat) : (s.raise a k).pzp = s.pzp := by rw [(show _ from Dev.raise_eq _ _ _ : Dev.restEq s _)]
@[simp] theorem Dev.raise_pwr (s : Dev) (a k : Nat) : (s.raise a k).pwr = s.pwr := by rw [(show _ from Dev.raise_eq _ _ _ : Dev.restEq s _)]
@[simp] theorem Dev.raise_rdL (s : Dev) (a k : Nat) (i : Nat) : (s.raise a k).rdL i = s.rdL i := by rw [(show _ from Dev.raise_eq _ _ _ : Dev.restEq s _)]; rfl
@[simp] theorem Dev.raise_lane (s : Dev) (a k : Nat) (e i : Nat) : (s.raise a k).lane e i = s.lane e i := by rw [(show _ from Dev.raise_eq _ _ _ : Dev.restEq s _)]; rfl
@[simp] theorem Dev.raise_half (s : Dev) (a k : Nat) (e i : Nat) : (s.raise a k).half e i = s.half e i := by rw [(show _ from Dev.raise_eq _ _ _ : Dev.restEq s _)]; rfl
@[simp] theorem Dev.raise_eng (s : Dev) (a k : Nat) (e : Nat) : (s.raise a k).eng e = s.eng e := by rw [(show _ from Dev.raise_eq _ _ _ : Dev.restEq s _)]; rfl
@[simp] theorem Dev.raise_place (s : Dev) (a k : Nat) (e i : Nat) : (s.raise a k).place e i = s.place e i := by rw [(show _ from Dev.raise_eq _ _ _ : Dev.restEq s _)]; rfl

@[simp] theorem Dev.causeOn_us (s : Dev) (a k : Nat) : (s.causeOn a k).us = s.us := by rw [(show _ from Dev.causeOn_eq _ _ _ : Dev.restEq s _)]
@[simp] theorem Dev.causeOn_fresh (s : Dev) (a k : Nat) : (s.causeOn a k).fresh = s.fresh := by rw [(show _ from Dev.causeOn_eq _ _ _ : Dev.restEq s _)]
@[simp] theorem Dev.causeOn_latched (s : Dev) (a k : Nat) : (s.causeOn a k).latched = s.latched := by rw [(show _ from Dev.causeOn_eq _ _ _ : Dev.restEq s _)]
@[simp] theorem Dev.causeOn_crcs (s : Dev) (a k : Nat) : (s.causeOn a k).crcs = s.crcs := by rw [(show _ from Dev.causeOn_eq _ _ _ : Dev.restEq s _)]
@[simp] theorem Dev.causeOn_cfg (s : Dev) (a k : Nat) : (s.causeOn a k).cfg = s.cfg := by rw [(show _ from Dev.causeOn_eq _ _ _ : Dev.restEq s _)]
@[simp] theorem Dev.causeOn_lanes (s : Dev) (a k : Nat) : (s.causeOn a k).lanes = s.lanes := by rw [(show _ from Dev.causeOn_eq _ _ _ : Dev.restEq s _)]
@[simp] theorem Dev.causeOn_ins (s : Dev) (a k : Nat) : (s.causeOn a k).ins = s.ins := by rw [(show _ from Dev.causeOn_eq _ _ _ : Dev.restEq s _)]
@[simp] theorem Dev.causeOn_halves (s : Dev) (a k : Nat) : (s.causeOn a k).halves = s.halves := by rw [(show _ from Dev.causeOn_eq _ _ _ : Dev.restEq s _)]
@[simp] theorem Dev.causeOn_dies (s : Dev) (a k : Nat) : (s.causeOn a k).dies = s.dies := by rw [(show _ from Dev.causeOn_eq _ _ _ : Dev.restEq s _)]
@[simp] theorem Dev.causeOn_drcs (s : Dev) (a k : Nat) : (s.causeOn a k).drcs = s.drcs := by rw [(show _ from Dev.causeOn_eq _ _ _ : Dev.restEq s _)]
@[simp] theorem Dev.causeOn_drcChs (s : Dev) (a k : Nat) : (s.causeOn a k).drcChs = s.drcChs := by rw [(show _ from Dev.causeOn_eq _ _ _ : Dev.restEq s _)]
@[simp] theorem Dev.causeOn_spans (s : Dev) (a k : Nat) : (s.causeOn a k).spans = s.spans := by rw [(show _ from Dev.causeOn_eq _ _ _ : Dev.restEq s _)]
@[simp] theorem Dev.causeOn_coefs (s : Dev) (a k : Nat) : (s.causeOn a k).coefs = s.coefs := by rw [(show _ from Dev.causeOn_eq _ _ _ : Dev.restEq s _)]
@[simp] theorem Dev.causeOn_rows (s : Dev) (a k : Nat) : (s.causeOn a k).rows = s.rows := by rw [(show _ from Dev.causeOn_eq _ _ _ : Dev.restEq s _)]
@[simp] theorem Dev.causeOn_rasPoison (s : Dev) (a k : Nat) : (s.causeOn a k).rasPoison = s.rasPoison := by rw [(show _ from Dev.causeOn_eq _ _ _ : Dev.restEq s _)]
@[simp] theorem Dev.causeOn_ttemps (s : Dev) (a k : Nat) : (s.causeOn a k).ttemps = s.ttemps := by rw [(show _ from Dev.causeOn_eq _ _ _ : Dev.restEq s _)]
@[simp] theorem Dev.causeOn_imu (s : Dev) (a k : Nat) : (s.causeOn a k).imu = s.imu := by rw [(show _ from Dev.causeOn_eq _ _ _ : Dev.restEq s _)]
@[simp] theorem Dev.causeOn_bud (s : Dev) (a k : Nat) : (s.causeOn a k).bud = s.bud := by rw [(show _ from Dev.causeOn_eq _ _ _ : Dev.restEq s _)]
@[simp] theorem Dev.causeOn_bist (s : Dev) (a k : Nat) : (s.causeOn a k).bist = s.bist := by rw [(show _ from Dev.causeOn_eq _ _ _ : Dev.restEq s _)]
@[simp] theorem Dev.causeOn_cals (s : Dev) (a k : Nat) : (s.causeOn a k).cals = s.cals := by rw [(show _ from Dev.causeOn_eq _ _ _ : Dev.restEq s _)]
@[simp] theorem Dev.causeOn_chans (s : Dev) (a k : Nat) : (s.causeOn a k).chans = s.chans := by rw [(show _ from Dev.causeOn_eq _ _ _ : Dev.restEq s _)]
@[simp] theorem Dev.causeOn_runs (s : Dev) (a k : Nat) : (s.causeOn a k).runs = s.runs := by rw [(show _ from Dev.causeOn_eq _ _ _ : Dev.restEq s _)]
@[simp] theorem Dev.causeOn_groups (s : Dev) (a k : Nat) : (s.causeOn a k).groups = s.groups := by rw [(show _ from Dev.causeOn_eq _ _ _ : Dev.restEq s _)]
@[simp] theorem Dev.causeOn_hvs (s : Dev) (a k : Nat) : (s.causeOn a k).hvs = s.hvs := by rw [(show _ from Dev.causeOn_eq _ _ _ : Dev.restEq s _)]
@[simp] theorem Dev.causeOn_img (s : Dev) (a k : Nat) : (s.causeOn a k).img = s.img := by rw [(show _ from Dev.causeOn_eq _ _ _ : Dev.restEq s _)]
@[simp] theorem Dev.causeOn_rbs (s : Dev) (a k : Nat) : (s.causeOn a k).rbs = s.rbs := by rw [(show _ from Dev.causeOn_eq _ _ _ : Dev.restEq s _)]
@[simp] theorem Dev.causeOn_thm (s : Dev) (a k : Nat) : (s.causeOn a k).thm = s.thm := by rw [(show _ from Dev.causeOn_eq _ _ _ : Dev.restEq s _)]
@[simp] theorem Dev.causeOn_stat (s : Dev) (a k : Nat) : (s.causeOn a k).stat = s.stat := by rw [(show _ from Dev.causeOn_eq _ _ _ : Dev.restEq s _)]
@[simp] theorem Dev.causeOn_mirror (s : Dev) (a k : Nat) : (s.causeOn a k).mirror = s.mirror := by rw [(show _ from Dev.causeOn_eq _ _ _ : Dev.restEq s _)]
@[simp] theorem Dev.causeOn_host (s : Dev) (a k : Nat) : (s.causeOn a k).host = s.host := by rw [(show _ from Dev.causeOn_eq _ _ _ : Dev.restEq s _)]
@[simp] theorem Dev.causeOn_spi (s : Dev) (a k : Nat) : (s.causeOn a k).spi = s.spi := by rw [(show _ from Dev.causeOn_eq _ _ _ : Dev.restEq s _)]
@[simp] theorem Dev.causeOn_cans (s : Dev) (a k : Nat) : (s.causeOn a k).cans = s.cans := by rw [(show _ from Dev.causeOn_eq _ _ _ : Dev.restEq s _)]
@[simp] theorem Dev.causeOn_pzp (s : Dev) (a k : Nat) : (s.causeOn a k).pzp = s.pzp := by rw [(show _ from Dev.causeOn_eq _ _ _ : Dev.restEq s _)]
@[simp] theorem Dev.causeOn_pwr (s : Dev) (a k : Nat) : (s.causeOn a k).pwr = s.pwr := by rw [(show _ from Dev.causeOn_eq _ _ _ : Dev.restEq s _)]
@[simp] theorem Dev.causeOn_rdL (s : Dev) (a k : Nat) (i : Nat) : (s.causeOn a k).rdL i = s.rdL i := by rw [(show _ from Dev.causeOn_eq _ _ _ : Dev.restEq s _)]; rfl
@[simp] theorem Dev.causeOn_lane (s : Dev) (a k : Nat) (e i : Nat) : (s.causeOn a k).lane e i = s.lane e i := by rw [(show _ from Dev.causeOn_eq _ _ _ : Dev.restEq s _)]; rfl
@[simp] theorem Dev.causeOn_half (s : Dev) (a k : Nat) (e i : Nat) : (s.causeOn a k).half e i = s.half e i := by rw [(show _ from Dev.causeOn_eq _ _ _ : Dev.restEq s _)]; rfl
@[simp] theorem Dev.causeOn_eng (s : Dev) (a k : Nat) (e : Nat) : (s.causeOn a k).eng e = s.eng e := by rw [(show _ from Dev.causeOn_eq _ _ _ : Dev.restEq s _)]; rfl
@[simp] theorem Dev.causeOn_place (s : Dev) (a k : Nat) (e i : Nat) : (s.causeOn a k).place e i = s.place e i := by rw [(show _ from Dev.causeOn_eq _ _ _ : Dev.restEq s _)]; rfl

@[simp] theorem Dev.causeOff_us (s : Dev) (a k : Nat) : (s.causeOff a k).us = s.us := by rw [(show _ from Dev.causeOff_eq _ _ _ : Dev.restEq s _)]
@[simp] theorem Dev.causeOff_fresh (s : Dev) (a k : Nat) : (s.causeOff a k).fresh = s.fresh := by rw [(show _ from Dev.causeOff_eq _ _ _ : Dev.restEq s _)]
@[simp] theorem Dev.causeOff_latched (s : Dev) (a k : Nat) : (s.causeOff a k).latched = s.latched := by rw [(show _ from Dev.causeOff_eq _ _ _ : Dev.restEq s _)]
@[simp] theorem Dev.causeOff_crcs (s : Dev) (a k : Nat) : (s.causeOff a k).crcs = s.crcs := by rw [(show _ from Dev.causeOff_eq _ _ _ : Dev.restEq s _)]
@[simp] theorem Dev.causeOff_cfg (s : Dev) (a k : Nat) : (s.causeOff a k).cfg = s.cfg := by rw [(show _ from Dev.causeOff_eq _ _ _ : Dev.restEq s _)]
@[simp] theorem Dev.causeOff_lanes (s : Dev) (a k : Nat) : (s.causeOff a k).lanes = s.lanes := by rw [(show _ from Dev.causeOff_eq _ _ _ : Dev.restEq s _)]
@[simp] theorem Dev.causeOff_ins (s : Dev) (a k : Nat) : (s.causeOff a k).ins = s.ins := by rw [(show _ from Dev.causeOff_eq _ _ _ : Dev.restEq s _)]
@[simp] theorem Dev.causeOff_halves (s : Dev) (a k : Nat) : (s.causeOff a k).halves = s.halves := by rw [(show _ from Dev.causeOff_eq _ _ _ : Dev.restEq s _)]
@[simp] theorem Dev.causeOff_dies (s : Dev) (a k : Nat) : (s.causeOff a k).dies = s.dies := by rw [(show _ from Dev.causeOff_eq _ _ _ : Dev.restEq s _)]
@[simp] theorem Dev.causeOff_drcs (s : Dev) (a k : Nat) : (s.causeOff a k).drcs = s.drcs := by rw [(show _ from Dev.causeOff_eq _ _ _ : Dev.restEq s _)]
@[simp] theorem Dev.causeOff_drcChs (s : Dev) (a k : Nat) : (s.causeOff a k).drcChs = s.drcChs := by rw [(show _ from Dev.causeOff_eq _ _ _ : Dev.restEq s _)]
@[simp] theorem Dev.causeOff_spans (s : Dev) (a k : Nat) : (s.causeOff a k).spans = s.spans := by rw [(show _ from Dev.causeOff_eq _ _ _ : Dev.restEq s _)]
@[simp] theorem Dev.causeOff_coefs (s : Dev) (a k : Nat) : (s.causeOff a k).coefs = s.coefs := by rw [(show _ from Dev.causeOff_eq _ _ _ : Dev.restEq s _)]
@[simp] theorem Dev.causeOff_rows (s : Dev) (a k : Nat) : (s.causeOff a k).rows = s.rows := by rw [(show _ from Dev.causeOff_eq _ _ _ : Dev.restEq s _)]
@[simp] theorem Dev.causeOff_rasPoison (s : Dev) (a k : Nat) : (s.causeOff a k).rasPoison = s.rasPoison := by rw [(show _ from Dev.causeOff_eq _ _ _ : Dev.restEq s _)]
@[simp] theorem Dev.causeOff_ttemps (s : Dev) (a k : Nat) : (s.causeOff a k).ttemps = s.ttemps := by rw [(show _ from Dev.causeOff_eq _ _ _ : Dev.restEq s _)]
@[simp] theorem Dev.causeOff_imu (s : Dev) (a k : Nat) : (s.causeOff a k).imu = s.imu := by rw [(show _ from Dev.causeOff_eq _ _ _ : Dev.restEq s _)]
@[simp] theorem Dev.causeOff_bud (s : Dev) (a k : Nat) : (s.causeOff a k).bud = s.bud := by rw [(show _ from Dev.causeOff_eq _ _ _ : Dev.restEq s _)]
@[simp] theorem Dev.causeOff_bist (s : Dev) (a k : Nat) : (s.causeOff a k).bist = s.bist := by rw [(show _ from Dev.causeOff_eq _ _ _ : Dev.restEq s _)]
@[simp] theorem Dev.causeOff_cals (s : Dev) (a k : Nat) : (s.causeOff a k).cals = s.cals := by rw [(show _ from Dev.causeOff_eq _ _ _ : Dev.restEq s _)]
@[simp] theorem Dev.causeOff_chans (s : Dev) (a k : Nat) : (s.causeOff a k).chans = s.chans := by rw [(show _ from Dev.causeOff_eq _ _ _ : Dev.restEq s _)]
@[simp] theorem Dev.causeOff_runs (s : Dev) (a k : Nat) : (s.causeOff a k).runs = s.runs := by rw [(show _ from Dev.causeOff_eq _ _ _ : Dev.restEq s _)]
@[simp] theorem Dev.causeOff_groups (s : Dev) (a k : Nat) : (s.causeOff a k).groups = s.groups := by rw [(show _ from Dev.causeOff_eq _ _ _ : Dev.restEq s _)]
@[simp] theorem Dev.causeOff_hvs (s : Dev) (a k : Nat) : (s.causeOff a k).hvs = s.hvs := by rw [(show _ from Dev.causeOff_eq _ _ _ : Dev.restEq s _)]
@[simp] theorem Dev.causeOff_img (s : Dev) (a k : Nat) : (s.causeOff a k).img = s.img := by rw [(show _ from Dev.causeOff_eq _ _ _ : Dev.restEq s _)]
@[simp] theorem Dev.causeOff_rbs (s : Dev) (a k : Nat) : (s.causeOff a k).rbs = s.rbs := by rw [(show _ from Dev.causeOff_eq _ _ _ : Dev.restEq s _)]
@[simp] theorem Dev.causeOff_thm (s : Dev) (a k : Nat) : (s.causeOff a k).thm = s.thm := by rw [(show _ from Dev.causeOff_eq _ _ _ : Dev.restEq s _)]
@[simp] theorem Dev.causeOff_stat (s : Dev) (a k : Nat) : (s.causeOff a k).stat = s.stat := by rw [(show _ from Dev.causeOff_eq _ _ _ : Dev.restEq s _)]
@[simp] theorem Dev.causeOff_mirror (s : Dev) (a k : Nat) : (s.causeOff a k).mirror = s.mirror := by rw [(show _ from Dev.causeOff_eq _ _ _ : Dev.restEq s _)]
@[simp] theorem Dev.causeOff_host (s : Dev) (a k : Nat) : (s.causeOff a k).host = s.host := by rw [(show _ from Dev.causeOff_eq _ _ _ : Dev.restEq s _)]
@[simp] theorem Dev.causeOff_spi (s : Dev) (a k : Nat) : (s.causeOff a k).spi = s.spi := by rw [(show _ from Dev.causeOff_eq _ _ _ : Dev.restEq s _)]
@[simp] theorem Dev.causeOff_cans (s : Dev) (a k : Nat) : (s.causeOff a k).cans = s.cans := by rw [(show _ from Dev.causeOff_eq _ _ _ : Dev.restEq s _)]
@[simp] theorem Dev.causeOff_pzp (s : Dev) (a k : Nat) : (s.causeOff a k).pzp = s.pzp := by rw [(show _ from Dev.causeOff_eq _ _ _ : Dev.restEq s _)]
@[simp] theorem Dev.causeOff_pwr (s : Dev) (a k : Nat) : (s.causeOff a k).pwr = s.pwr := by rw [(show _ from Dev.causeOff_eq _ _ _ : Dev.restEq s _)]
@[simp] theorem Dev.causeOff_rdL (s : Dev) (a k : Nat) (i : Nat) : (s.causeOff a k).rdL i = s.rdL i := by rw [(show _ from Dev.causeOff_eq _ _ _ : Dev.restEq s _)]; rfl
@[simp] theorem Dev.causeOff_lane (s : Dev) (a k : Nat) (e i : Nat) : (s.causeOff a k).lane e i = s.lane e i := by rw [(show _ from Dev.causeOff_eq _ _ _ : Dev.restEq s _)]; rfl
@[simp] theorem Dev.causeOff_half (s : Dev) (a k : Nat) (e i : Nat) : (s.causeOff a k).half e i = s.half e i := by rw [(show _ from Dev.causeOff_eq _ _ _ : Dev.restEq s _)]; rfl
@[simp] theorem Dev.causeOff_eng (s : Dev) (a k : Nat) (e : Nat) : (s.causeOff a k).eng e = s.eng e := by rw [(show _ from Dev.causeOff_eq _ _ _ : Dev.restEq s _)]; rfl
@[simp] theorem Dev.causeOff_place (s : Dev) (a k : Nat) (e i : Nat) : (s.causeOff a k).place e i = s.place e i := by rw [(show _ from Dev.causeOff_eq _ _ _ : Dev.restEq s _)]; rfl

@[simp] theorem Dev.causeIs_us (s : Dev) (a k : Nat) (b : Bool) : (s.causeIs a k b).us = s.us := by rw [(show _ from Dev.causeIs_eq _ _ _ _ : Dev.restEq s _)]
@[simp] theorem Dev.causeIs_fresh (s : Dev) (a k : Nat) (b : Bool) : (s.causeIs a k b).fresh = s.fresh := by rw [(show _ from Dev.causeIs_eq _ _ _ _ : Dev.restEq s _)]
@[simp] theorem Dev.causeIs_latched (s : Dev) (a k : Nat) (b : Bool) : (s.causeIs a k b).latched = s.latched := by rw [(show _ from Dev.causeIs_eq _ _ _ _ : Dev.restEq s _)]
@[simp] theorem Dev.causeIs_crcs (s : Dev) (a k : Nat) (b : Bool) : (s.causeIs a k b).crcs = s.crcs := by rw [(show _ from Dev.causeIs_eq _ _ _ _ : Dev.restEq s _)]
@[simp] theorem Dev.causeIs_cfg (s : Dev) (a k : Nat) (b : Bool) : (s.causeIs a k b).cfg = s.cfg := by rw [(show _ from Dev.causeIs_eq _ _ _ _ : Dev.restEq s _)]
@[simp] theorem Dev.causeIs_lanes (s : Dev) (a k : Nat) (b : Bool) : (s.causeIs a k b).lanes = s.lanes := by rw [(show _ from Dev.causeIs_eq _ _ _ _ : Dev.restEq s _)]
@[simp] theorem Dev.causeIs_ins (s : Dev) (a k : Nat) (b : Bool) : (s.causeIs a k b).ins = s.ins := by rw [(show _ from Dev.causeIs_eq _ _ _ _ : Dev.restEq s _)]
@[simp] theorem Dev.causeIs_halves (s : Dev) (a k : Nat) (b : Bool) : (s.causeIs a k b).halves = s.halves := by rw [(show _ from Dev.causeIs_eq _ _ _ _ : Dev.restEq s _)]
@[simp] theorem Dev.causeIs_dies (s : Dev) (a k : Nat) (b : Bool) : (s.causeIs a k b).dies = s.dies := by rw [(show _ from Dev.causeIs_eq _ _ _ _ : Dev.restEq s _)]
@[simp] theorem Dev.causeIs_drcs (s : Dev) (a k : Nat) (b : Bool) : (s.causeIs a k b).drcs = s.drcs := by rw [(show _ from Dev.causeIs_eq _ _ _ _ : Dev.restEq s _)]
@[simp] theorem Dev.causeIs_drcChs (s : Dev) (a k : Nat) (b : Bool) : (s.causeIs a k b).drcChs = s.drcChs := by rw [(show _ from Dev.causeIs_eq _ _ _ _ : Dev.restEq s _)]
@[simp] theorem Dev.causeIs_spans (s : Dev) (a k : Nat) (b : Bool) : (s.causeIs a k b).spans = s.spans := by rw [(show _ from Dev.causeIs_eq _ _ _ _ : Dev.restEq s _)]
@[simp] theorem Dev.causeIs_coefs (s : Dev) (a k : Nat) (b : Bool) : (s.causeIs a k b).coefs = s.coefs := by rw [(show _ from Dev.causeIs_eq _ _ _ _ : Dev.restEq s _)]
@[simp] theorem Dev.causeIs_rows (s : Dev) (a k : Nat) (b : Bool) : (s.causeIs a k b).rows = s.rows := by rw [(show _ from Dev.causeIs_eq _ _ _ _ : Dev.restEq s _)]
@[simp] theorem Dev.causeIs_rasPoison (s : Dev) (a k : Nat) (b : Bool) : (s.causeIs a k b).rasPoison = s.rasPoison := by rw [(show _ from Dev.causeIs_eq _ _ _ _ : Dev.restEq s _)]
@[simp] theorem Dev.causeIs_ttemps (s : Dev) (a k : Nat) (b : Bool) : (s.causeIs a k b).ttemps = s.ttemps := by rw [(show _ from Dev.causeIs_eq _ _ _ _ : Dev.restEq s _)]
@[simp] theorem Dev.causeIs_imu (s : Dev) (a k : Nat) (b : Bool) : (s.causeIs a k b).imu = s.imu := by rw [(show _ from Dev.causeIs_eq _ _ _ _ : Dev.restEq s _)]
@[simp] theorem Dev.causeIs_bud (s : Dev) (a k : Nat) (b : Bool) : (s.causeIs a k b).bud = s.bud := by rw [(show _ from Dev.causeIs_eq _ _ _ _ : Dev.restEq s _)]
@[simp] theorem Dev.causeIs_bist (s : Dev) (a k : Nat) (b : Bool) : (s.causeIs a k b).bist = s.bist := by rw [(show _ from Dev.causeIs_eq _ _ _ _ : Dev.restEq s _)]
@[simp] theorem Dev.causeIs_cals (s : Dev) (a k : Nat) (b : Bool) : (s.causeIs a k b).cals = s.cals := by rw [(show _ from Dev.causeIs_eq _ _ _ _ : Dev.restEq s _)]
@[simp] theorem Dev.causeIs_chans (s : Dev) (a k : Nat) (b : Bool) : (s.causeIs a k b).chans = s.chans := by rw [(show _ from Dev.causeIs_eq _ _ _ _ : Dev.restEq s _)]
@[simp] theorem Dev.causeIs_runs (s : Dev) (a k : Nat) (b : Bool) : (s.causeIs a k b).runs = s.runs := by rw [(show _ from Dev.causeIs_eq _ _ _ _ : Dev.restEq s _)]
@[simp] theorem Dev.causeIs_groups (s : Dev) (a k : Nat) (b : Bool) : (s.causeIs a k b).groups = s.groups := by rw [(show _ from Dev.causeIs_eq _ _ _ _ : Dev.restEq s _)]
@[simp] theorem Dev.causeIs_hvs (s : Dev) (a k : Nat) (b : Bool) : (s.causeIs a k b).hvs = s.hvs := by rw [(show _ from Dev.causeIs_eq _ _ _ _ : Dev.restEq s _)]
@[simp] theorem Dev.causeIs_img (s : Dev) (a k : Nat) (b : Bool) : (s.causeIs a k b).img = s.img := by rw [(show _ from Dev.causeIs_eq _ _ _ _ : Dev.restEq s _)]
@[simp] theorem Dev.causeIs_rbs (s : Dev) (a k : Nat) (b : Bool) : (s.causeIs a k b).rbs = s.rbs := by rw [(show _ from Dev.causeIs_eq _ _ _ _ : Dev.restEq s _)]
@[simp] theorem Dev.causeIs_thm (s : Dev) (a k : Nat) (b : Bool) : (s.causeIs a k b).thm = s.thm := by rw [(show _ from Dev.causeIs_eq _ _ _ _ : Dev.restEq s _)]
@[simp] theorem Dev.causeIs_stat (s : Dev) (a k : Nat) (b : Bool) : (s.causeIs a k b).stat = s.stat := by rw [(show _ from Dev.causeIs_eq _ _ _ _ : Dev.restEq s _)]
@[simp] theorem Dev.causeIs_mirror (s : Dev) (a k : Nat) (b : Bool) : (s.causeIs a k b).mirror = s.mirror := by rw [(show _ from Dev.causeIs_eq _ _ _ _ : Dev.restEq s _)]
@[simp] theorem Dev.causeIs_host (s : Dev) (a k : Nat) (b : Bool) : (s.causeIs a k b).host = s.host := by rw [(show _ from Dev.causeIs_eq _ _ _ _ : Dev.restEq s _)]
@[simp] theorem Dev.causeIs_spi (s : Dev) (a k : Nat) (b : Bool) : (s.causeIs a k b).spi = s.spi := by rw [(show _ from Dev.causeIs_eq _ _ _ _ : Dev.restEq s _)]
@[simp] theorem Dev.causeIs_cans (s : Dev) (a k : Nat) (b : Bool) : (s.causeIs a k b).cans = s.cans := by rw [(show _ from Dev.causeIs_eq _ _ _ _ : Dev.restEq s _)]
@[simp] theorem Dev.causeIs_pzp (s : Dev) (a k : Nat) (b : Bool) : (s.causeIs a k b).pzp = s.pzp := by rw [(show _ from Dev.causeIs_eq _ _ _ _ : Dev.restEq s _)]
@[simp] theorem Dev.causeIs_pwr (s : Dev) (a k : Nat) (b : Bool) : (s.causeIs a k b).pwr = s.pwr := by rw [(show _ from Dev.causeIs_eq _ _ _ _ : Dev.restEq s _)]
@[simp] theorem Dev.causeIs_rdL (s : Dev) (a k : Nat) (b : Bool) (i : Nat) : (s.causeIs a k b).rdL i = s.rdL i := by rw [(show _ from Dev.causeIs_eq _ _ _ _ : Dev.restEq s _)]; rfl
@[simp] theorem Dev.causeIs_lane (s : Dev) (a k : Nat) (b : Bool) (e i : Nat) : (s.causeIs a k b).lane e i = s.lane e i := by rw [(show _ from Dev.causeIs_eq _ _ _ _ : Dev.restEq s _)]; rfl
@[simp] theorem Dev.causeIs_half (s : Dev) (a k : Nat) (b : Bool) (e i : Nat) : (s.causeIs a k b).half e i = s.half e i := by rw [(show _ from Dev.causeIs_eq _ _ _ _ : Dev.restEq s _)]; rfl
@[simp] theorem Dev.causeIs_eng (s : Dev) (a k : Nat) (b : Bool) (e : Nat) : (s.causeIs a k b).eng e = s.eng e := by rw [(show _ from Dev.causeIs_eq _ _ _ _ : Dev.restEq s _)]; rfl
@[simp] theorem Dev.causeIs_place (s : Dev) (a k : Nat) (b : Bool) (e i : Nat) : (s.causeIs a k b).place e i = s.place e i := by rw [(show _ from Dev.causeIs_eq _ _ _ _ : Dev.restEq s _)]; rfl

/-! ## The registers that fault reporting writes -/

/-- The consequential log of a die and its counters, and its self-test fault status (R310). -/
def cqReg (d b : Nat) : Bool :=
  b == Reg.BIST_CQ_PTR d || b == Reg.BIST_CQ_CNT d || b == Reg.BIST_FLT_STAT d || (List.range 16).any (fun i => b == Reg.BIST_CQ_LOG d i)

/-- Registers that a fault of another unit may write: VSP_EVT_HOLD and the consequential log. -/
def faultReg (b : Nat) : Bool := b == Reg.VSP_EVT_HOLD || cqReg 0 b || cqReg 1 b

theorem Dev.rd_ite (c : Prop) [Decidable c] (t u : Dev) (b : Nat) (w : Word) (h : t.rd b = w) (g : u.rd b = w) :
    (if c then t else u).rd b = w := by
  split <;> assumption

theorem Dev.brgSend_rd (s : Dev) (d vc b : Nat) : (s.brgSend d vc).rd b = s.rd b := by
  unfold Dev.brgSend Dev.brgPump
  split
  · rfl
  · dsimp only
    split <;> rfl

theorem Dev.dcSend_rd (s : Dev) (h : Nat) (up : Bool) (w : DcWhat) (b : Nat) : (s.dcSend h up w).rd b = s.rd b := by
  unfold Dev.dcSend
  split <;> rfl

theorem Dev.eventWay_rd (s : Dev) (c a b : Nat) : (s.eventWay c a).rd b = s.rd b := by
  unfold Dev.eventWay
  split
  · exact Dev.brgSend_rd _ _ _ _
  · split
    · exact Dev.dcSend_rd _ _ _ _ _
    · rfl

theorem Dev.event_rd (s : Dev) (a b : Nat) (h : b ≠ Reg.VSP_EVT_HOLD) : (s.event a).rd b = s.rd b := by
  have g : ((s.eventWay (clusterOf a) a).emit (.msix (vectorOf a))).rd b = s.rd b := Dev.eventWay_rd _ _ _ _
  unfold Dev.event
  dsimp only
  generalize (s.eventWay (clusterOf a) a).emit (.msix (vectorOf a)) = u at *
  exact Dev.rd_ite _ _ _ _ _ (Dev.rd_ite _ _ _ _ _ ((Dev.rd_wrF_other _ _ _ _ _ h).trans g) g) g

theorem Dev.latchFault_rd (s : Dev) (a k b : Nat) (h : b ≠ Reg.VSP_EVT_HOLD) (ha : b ≠ a) : (s.latchFault a k).rd b = s.rd b := by
  unfold Dev.latchFault
  split
  · rw [Dev.event_rd _ _ _ h, Dev.wrB, Dev.rd_wr_other _ _ _ _ ha]
  · rfl

theorem fget1 (w : Word) (f : Fld) (h : f.len = 1) : fget w f = 0 ∨ fget w f = 1 := by
  have := fget_lt w f
  rw [h] at this
  omega

theorem Dev.engineDie_lt (s : Dev) (die : Nat) : s.engineDie die < 2 := by
  unfold Dev.engineDie
  split
  · omega
  · exact fget_lt _ F.BST_LINK_STAT_ACTIVE

theorem Dev.logConsequence_rd (s : Dev) (c w b : Nat) (h : faultReg b = false) : (s.logConsequence c w).rd b = s.rd b := by
  have hd := s.engineDie_lt (w / 0x1000)
  have hi := fget_lt (s.rd (Reg.BIST_CQ_PTR (s.engineDie (w / 0x1000)))) F.BIST_CQ_PTR_NEXT
  unfold Dev.logConsequence
  generalize s.engineDie (w / 0x1000) = d at *
  simp only [Dev.rdF]
  generalize fget (s.rd (Reg.BIST_CQ_PTR d)) F.BIST_CQ_PTR_NEXT = i at *
  have hi' : i < 16 := hi
  have hb : b ≠ Reg.VSP_EVT_HOLD ∧ cqReg d b = false := by
    simp only [faultReg, Bool.or_eq_false_iff, beq_eq_false_iff_ne] at h
    have : d = 0 ∨ d = 1 := by omega
    rcases this with rfl | rfl
    · exact ⟨h.1.1, h.1.2⟩
    · exact ⟨h.1.1, h.2⟩
  obtain ⟨h1, h2⟩ := hb
  simp only [cqReg, Bool.or_eq_false_iff, beq_eq_false_iff_ne, List.any_eq_false, List.mem_range] at h2
  have hl : b ≠ Reg.BIST_CQ_LOG d i := by have := h2.2 i hi'; simpa using this
  split
  · rw [Dev.latchFault_rd _ _ _ _ h1 h2.1.2, Dev.addR, Dev.rd_wr_other _ _ _ _ h2.1.1.2, Dev.rd_wrF_other _ _ _ _ _ h2.1.1.1,
      Dev.rd_wr_other _ _ _ _ hl]
  · rw [Dev.addR, Dev.rd_wr_other _ _ _ _ h2.1.1.2, Dev.rd_wrF_other _ _ _ _ _ h2.1.1.1, Dev.rd_wr_other _ _ _ _ hl]

/-- A fault leaves every register alone but its own status register, VSP_EVT_HOLD and the consequential log. -/
theorem Dev.raise_rd (s : Dev) (a k b : Nat) (h : faultReg b = false) (ha : b ≠ a) : (s.raise a k).rd b = s.rd b := by
  have h1 : b ≠ Reg.VSP_EVT_HOLD := by
    simp only [faultReg, Bool.or_eq_false_iff, beq_eq_false_iff_ne] at h; exact h.1.1
  unfold Dev.raise Dev.unlessMasked
  split
  · exact Dev.latchFault_rd _ _ _ _ h1 ha
  · split
    · exact Dev.latchFault_rd _ _ _ _ h1 ha
    · split
      · exact Dev.logConsequence_rd _ _ _ _ h
      · rfl

theorem Dev.causeOn_rd (s : Dev) (a k b : Nat) (h : faultReg b = false) (ha : b ≠ a) (hc : b ≠ a + 8) :
    (s.causeOn a k).rd b = s.rd b := by
  have := Dev.raise_rd (s.wrB (a + 8) k true) a k b h ha
  unfold Dev.raise at this
  unfold Dev.causeOn
  dsimp only
  rw [this, Dev.wrB, Dev.rd_wr_other _ _ _ _ hc]

theorem Dev.causeOff_rd (s : Dev) (a k b : Nat) (hc : b ≠ a + 8) : (s.causeOff a k).rd b = s.rd b := by
  rw [Dev.causeOff, Dev.wrB, Dev.rd_wr_other _ _ _ _ hc]

theorem Dev.causeIs_rd (s : Dev) (a k b : Nat) (x : Bool) (h : faultReg b = false) (ha : b ≠ a) (hc : b ≠ a + 8) :
    (s.causeIs a k x).rd b = s.rd b := by
  cases x
  · exact Dev.causeOff_rd _ _ _ _ hc
  · exact Dev.causeOn_rd _ _ _ _ h ha hc

/-- The cause bit of a fault that has become present (R304). -/
theorem Dev.causeOn_cause (s : Dev) (a k : Nat) (hk : k < 32) (hm : bitOf (regMask (a + 8)) k = true)
    (h : faultReg (a + 8) = false) : (s.causeOn a k).rdB (a + 8) k = true := by
  have ha : a + 8 ≠ a := by omega
  have := Dev.raise_rd (s.wrB (a + 8) k true) a k (a + 8) h ha
  unfold Dev.raise at this
  unfold Dev.causeOn
  dsimp only
  rw [Dev.rdB, this, ← Dev.rdB, Dev.rdB_wrB _ _ _ _ _ _ hk]
  simp [hm]

/-- The cause bit of a fault that has gone (R304). -/
theorem Dev.causeOff_cause (s : Dev) (a k : Nat) (hk : k < 32) : (s.causeOff a k).rdB (a + 8) k = false := by
  rw [Dev.causeOff, Dev.rdB_wrB _ _ _ _ _ _ hk]; simp

end Sys2Proof.Machine
end

