-- ==== Sys2Proof/Machine/Package.lean ====
section
/-! DEFINITION. Pins, rails, housekeeping inputs, electrical limits and package (R367 to R382): what the spec states as tables, beside
the state that other files hold (R371, R374). -/

namespace Sys2Proof.Machine

/-! ## Ball map -/

/-- The row names in the order of R367; the row index of a name is its place, from 1. -/
def rowNames : List String :=
  ["A", "B", "C", "D", "E", "F", "G", "H", "J", "K", "L", "M", "N", "P", "T", "U", "V", "W", "Y",
   "AA", "AB", "AC", "AD", "AE", "AF", "AG", "AH", "AJ", "AK", "AL", "AM", "AN", "AP", "AT", "AU", "AV", "AW", "AY"] ++
    ["BA", "BB", "BC", "BD", "BE", "BF", "BG", "BH", "BJ"]

/-- The centre of the ball in row index `i` and column `k`, in mm from the body centre, seen from the ball side (R367). -/
def ballPos (i k : Nat) : Int × Int := ((k : Int) - 24, 24 - (i : Int))

/-- A signal of Table 17-2: of a lane of a die, of a quad's reference, of a power die, or named. -/
inductive Signal where
  | laneTx (d n : Nat) (pos : Bool)
  | laneRx (d n : Nat) (pos : Bool)
  | laneRef (d q : Nat) (pos : Bool)
  | chan (c : Nat)
  | mrow (h r : Nat)
  | power (h : Nat) (name : String)
  | named (name : String)
deriving DecidableEq, Repr

/-- What a ball carries: a signal, a rail (of die `d` where it has one for each), a ground, or no connection. -/
inductive Ball where
  | signal (x : Signal)
  | rail (name : String) (d : Option Nat)
  | gnd
  | pgnd
  | nc
deriving DecidableEq, Repr

/-- The low-speed signals of CD0 and those of the vesper die, by row index and column (Table 17-2). -/
def namedBalls : List (Nat × Nat × String) :=
  [(8, 2, "PE_TX0P"), (8, 3, "PE_TX0N"), (8, 4, "PE_TX1P"), (8, 5, "PE_TX1N"), (10, 2, "PE_RX0P"), (10, 3, "PE_RX0N"),
   (10, 4, "PE_RX1P"), (10, 5, "PE_RX1N"), (8, 8, "PE_REFP"), (8, 9, "PE_REFN"), (9, 10, "PERST_N"), (11, 2, "CAN0_TX"),
   (11, 3, "CAN0_RX"), (11, 4, "CAN1_TX"), (11, 5, "CAN1_RX"), (12, 2, "ISCK"), (12, 3, "ISDO"), (12, 4, "ISDI"),
   (12, 5, "ISCS_N"), (13, 2, "MXSYNC"), (13, 4, "TCK"), (13, 5, "TMS"), (13, 6, "TDI"), (13, 7, "TDO")] ++
  [(34, 2, "VBATL"), (34, 3, "PRE_GATE"), (34, 4, "PRE_SNS"), (34, 5, "VPRE_FB"), (34, 6, "VAON_CAP"), (34, 8, "PEN0"),
   (34, 9, "PEN1"), (34, 10, "PEN2"), (34, 11, "PEN3"), (35, 2, "XIN32"), (35, 3, "XOUT32"), (35, 5, "WAKE"), (35, 6, "IGN"),
   (35, 8, "AIN0"), (35, 9, "AIN1"), (36, 2, "RST_N"), (36, 3, "SAFE_N"), (36, 4, "EVT_N"), (36, 5, "FLT_N"), (37, 2, "SSCK"),
   (37, 3, "SSDI"), (37, 4, "SSDO"), (37, 5, "SSCS_N")]

/-- A ball of a signal area that carries a named signal, or the area's ground (R368). -/
def namedBall (i k : Nat) (ground : Ball) : Ball :=
  match namedBalls.find? (fun e => e.1 == i && e.2.1 == k) with
  | some e => .signal (.named e.2.2)
  | none => ground

/-- A ball of a supply area: a rail where row index and column sum to an even number, and ground elsewhere (R368). -/
def supplyBall (i k : Nat) (rail : String) (d : Option Nat) : Ball := if (i + k) % 2 = 0 then .rail rail d else .gnd

/-- A ball of the lane area of die `d`, at column `j` of its half (Table 17-2). -/
def laneBall (i d j : Nat) : Ball :=
  let n := (j - 2) / 2
  let pos := j % 2 == 0
  match i with
  | 2 => if 2 ≤ j ∧ j < 22 then .signal (.laneTx d n pos) else .gnd
  | 4 => if 2 ≤ j ∧ j < 22 then .signal (.laneRx d n pos) else .gnd
  | 6 => if 4 ≤ j ∧ j < 22 ∧ (j - 4) % 6 < 2 then .signal (.laneRef d ((j - 4) / 6) ((j - 4) % 6 == 0)) else .gnd
  | _ => .gnd

/-- A ball of the power rows of power die `h`, at column `j` of its half (Table 17-2). -/
def powerBall (i h j : Nat) : Ball :=
  if i = 47 then (if 2 ≤ j ∧ j < 10 then .signal (.mrow h (j - 2)) else .pgnd)
  else if i % 2 = 1 then .pgnd
  else if 2 ≤ j ∧ j < 18 then .signal (.chan (64 * h + 16 * ((i - 40) / 2) + (j - 2)))
  else if j = 22 ∨ j = 23 then .rail "VBATP" (some h)
  else match i, j with
  | 40, 20 => .signal (.power h "GATEA")
  | 40, 21 => .signal (.power h "GATEB")
  | 42, 20 => .signal (.power h "SNSA_P")
  | 42, 21 => .signal (.power h "SNSA_N")
  | 44, 20 => .signal (.power h "SNSB_P")
  | 44, 21 => .signal (.power h "SNSB_N")
  | 46, 20 => .signal (.power h "FB")
  | 46, 21 => .signal (.power h "VDRV_CAP")
  | _, _ => .pgnd

/-- What the ball in row index `i` and column `k` carries (R368, R369, Tables 17-1 and 17-2). -/
def ballAt (i k : Nat) : Ball :=
  let d := if k < 24 then 0 else 1
  let j := k - 24 * d
  if 39 ≤ i then (if k = 24 then .pgnd else powerBall i d j)
  else if k = 24 then .gnd
  else if i ≤ 6 then laneBall i d j
  else if i ≤ 13 then
    (if j ≤ 11 then (if d = 0 then namedBall i k .gnd else .nc)
     else supplyBall i k (if j ≤ 17 then "VL09" else "VL12") (some d))
  else if i ≤ 27 then supplyBall i k "VCORE" (some d)
  else if i ≤ 32 then
    supplyBall i k (if j ≤ 5 then "VDD1" else if j ≤ 11 then "VDD2H" else if j ≤ 17 then "VDD2L" else "VDDQ") (some d)
  else if i = 33 then supplyBall i k "VIO" none
  else if i = 38 ∨ 25 ≤ k then .gnd
  else if k ≤ 15 then namedBall i k .gnd
  else supplyBall i k "VNV" none

/-! ## Rails and housekeeping -/

/-- A rail of Table 17-3, in mV: its nominal value, its operating range and its monitor window, and its largest current in mA where
the table gives one. -/
structure Rail where
  name : String
  nominal : Nat
  lo : Nat
  hi : Nat
  wlo : Nat
  whi : Nat
  maxMa : Option Nat
deriving DecidableEq, Repr

/-- The rails with a monitor window of their own (Table 17-3). VAON has no operating range: its window stands for it. -/
def rails : List Rail :=
  [⟨"VPRE", 5000, 4750, 5250, 4500, 5500, none⟩, ⟨"VAON", 3300, 3140, 3460, 3140, 3460, none⟩,
   ⟨"VCORE", 750, 728, 773, 713, 788, some 14000⟩, ⟨"VL09", 900, 873, 927, 855, 945, some 1500⟩,
   ⟨"VL12", 1200, 1164, 1236, 1140, 1260, some 800⟩, ⟨"VIO", 1800, 1710, 1890, 1660, 1940, some 600⟩,
   ⟨"VNV", 1800, 1710, 1890, 1660, 1940, some 100⟩, ⟨"VDD1", 1800, 1700, 1950, 1650, 2000, some 100⟩,
   ⟨"VDD2H", 1050, 1010, 1120, 980, 1150, some 500⟩, ⟨"VDD2L", 900, 870, 970, 850, 990, some 400⟩,
   ⟨"VDDQ", 500, 470, 570, 460, 580, some 600⟩]

/-- A reading in mV lies in the monitor window of a rail (R370). -/
def railOk (name : String) (mv : Nat) : Bool := rails.any (fun r => r.name == name && decide (r.wlo ≤ mv ∧ mv ≤ r.whi))

/-- The rails of each PEN group, in the order of power-up; they go in the reverse order (R371). -/
def penGroups : List (List String) := [["VIO", "VNV", "VDD1"], ["VCORE", "VDD2H", "VDD2L"], ["VL09", "VL12"], ["VDDQ"]]

/-- The input of housekeeping channel `k`, with the die it is of where there is one for each (R372). -/
def hkInput (k : Nat) : Option (String × Option Nat) :=
  let of := fun (names : List String) (x : Nat) => some (names.getD (x / 2) "", some (x % 2))
  if k < 3 then some (["VBAT", "VAON", "VPRE"].getD k "", none)
  else if k < 5 then of ["VCORE"] (k - 3)
  else if k < 9 then of ["VL09", "VL12"] (k - 5)
  else if k < 11 then some (["VIO", "VNV"].getD (k - 9) "", none)
  else if k < 19 then of ["VDD1", "VDD2H", "VDD2L", "VDDQ"] (k - 11)
  else if k < 24 then some (["WAKE", "IGN", "BANDGAP", "AIN0", "AIN1"].getD (k - 19) "", none)
  else none

/-! ## Pins -/

/-- WAKE or IGN, at `mv` millivolts after standing at `was`: asserted from 4.5 V up, released at 2.5 V or below (Table 17-4). -/
def vehiclePin (was : Bool) (mv : Nat) : Bool := if 4500 ≤ mv then true else if mv ≤ 2500 then false else was

/-- RST_N and SAFE_N with nothing connected: RST_N is pulled up, and SAFE_N down, which asserts it (R373). -/
def unconnected (name : String) : Bool := name == "RST_N"

/-- SSDO is driven: while SSCS_N is low (Table 17-4). -/
def ssdoDriven (csLow : Bool) : Bool := csLow

/-- The outputs on VIO and on the power side are driven: not in SLEEP, nor while their die is unpowered or held in reset (R374). -/
def Dev.vioDriven (s : Dev) (d : Nat) : Bool := s.cdUp d

/-! ## Limits -/

/-- A limit of the spec: an item, its lowest and highest value, and the unit that both are in. -/
structure Limit where
  item : String
  lo : Option Int
  hi : Option Int
  unit : String
deriving DecidableEq, Repr

/-- I/O levels (Table 17-4). -/
def ioLimits : List Limit :=
  [⟨"WAKE, IGN", some 0, some 58000, "mV"⟩, ⟨"WAKE, IGN pull-down at 13.5 V", none, some 20, "uA"⟩,
   ⟨"always-on 3.3 V VIH", some 2000, none, "mV"⟩, ⟨"always-on 3.3 V VIL", none, some 800, "mV"⟩,
   ⟨"RST_N pull-up, SAFE_N pull-down", some 50, some 50, "kOhm"⟩, ⟨"always-on outputs VOL at 4 mA", none, some 400, "mV"⟩,
   ⟨"always-on outputs VOH at 4 mA", some 2900, none, "mV"⟩, ⟨"EVT_N, FLT_N VOL at 4 mA", none, some 400, "mV"⟩,
   ⟨"EVT_N, FLT_N pull-up", none, some 3600, "mV"⟩, ⟨"VIO VIH", some 65, none, "% of VIO"⟩, ⟨"VIO VIL", none, some 35, "% of VIO"⟩,
   ⟨"VIO VOH below VIO at 4 mA", none, some 450, "mV"⟩, ⟨"tolerant inputs", none, some 3600, "mV"⟩,
   ⟨"MXSYNC high and low times", some 1000, none, "ns"⟩, ⟨"crystal", some 32768, some 32768, "Hz"⟩,
   ⟨"crystal load", some 7000, some 12500, "fF"⟩, ⟨"crystal ESR", none, some 70, "kOhm"⟩, ⟨"crystal drive", none, some 500, "nW"⟩,
   ⟨"VIO pin not tolerant while VIO is off", none, some 300, "mV"⟩]

/-- Derwell lanes and their references (Table 17-5, R376). -/
def laneLimits : List Limit :=
  [⟨"transmitter swing, preset 0", some 800, some 1100, "mVppd"⟩, ⟨"electrical idle", none, some 20, "mVppd"⟩,
   ⟨"transmitter total jitter", none, some 30, "UI/100"⟩, ⟨"receiver input", some 80, some 1200, "mVppd"⟩,
   ⟨"receiver jitter tolerance", some 60, none, "UI/100"⟩, ⟨"termination", some 85, some 115, "Ohm"⟩,
   ⟨"series capacitor", some 75, some 200, "nF"⟩, ⟨"channel insertion loss at 2.5 GHz", none, some 12, "dB"⟩,
   ⟨"eye scan vertical step", some 4, some 6, "mV"⟩, ⟨"LREF frequency error", some (-300), some 300, "ppm"⟩,
   ⟨"LREF swing", some 300, some 1200, "mV"⟩, ⟨"LREF duty cycle", some 45, some 55, "%"⟩,
   ⟨"LREF phase jitter, 12 kHz to 20 MHz", none, some 1000, "fs rms"⟩, ⟨"LREF absent after its last edge", none, some 50, "us"⟩]

/-- The power side (Table 17-6, R378). -/
def powerLimits : List Limit :=
  [⟨"CHn voltage", some 0, some 63000, "mV"⟩, ⟨"CHn leakage at 60 V", none, some 2, "uA"⟩, ⟨"sink edges", some 50, some 200, "ns"⟩,
   ⟨"sink power, channel", none, some 350, "mW over 10 ms"⟩, ⟨"sink power, cluster", none, some 1200, "mW over 10 ms"⟩,
   ⟨"sink power, power die", none, some 3000, "mW over 10 ms"⟩, ⟨"gate drive", none, some 10000, "mV"⟩,
   ⟨"gate source current", none, some 2000, "mA"⟩, ⟨"gate sink current", none, some 3000, "mA"⟩,
   ⟨"phase switching", some 380, some 420, "kHz"⟩, ⟨"SNS inputs", some 0, some 100, "mV"⟩, ⟨"OCP threshold", some 57, some 63, "mV"⟩,
   ⟨"FB", some 0, some 2000, "mV"⟩, ⟨"MROW", some 5000, some 5000, "mV"⟩, ⟨"MROW edges into 100 pF", none, some 50, "ns"⟩,
   ⟨"GND to PGND", some (-2000), some 2000, "mV"⟩, ⟨"GND to PGND for 1 us", some (-25000), some 25000, "mV"⟩,
   ⟨"common-mode transients", none, some 100, "kV/us"⟩]

/-- Typical and largest dissipation of each die, in mW (Table 17-7). -/
def dissipation : List (String × Option Nat × Nat) :=
  [("CD", some 6800, 9500), ("DR", some 700, 1100), ("HV", some 1200, 4900), ("Vesper", some 80, 150), ("NV", some 50, 100),
   ("Package", none, 31300)]

/-- Sleep current from VBAT at 13.5 V in µA, typical and largest (Table 16-1, R379). -/
def sleepCurrent : Nat × Nat := (120, 250)

/-- Absolute maximum ratings (Table 17-8). -/
def absoluteMax : List Limit :=
  [⟨"VBATL, VBATP", some (-300), some 65000, "mV"⟩, ⟨"WAKE, IGN", some (-16000), some 65000, "mV"⟩,
   ⟨"CHn", some (-300), some 68000, "mV"⟩, ⟨"GATEA, GATEB, MROWn", some (-300), some 12000, "mV"⟩,
   ⟨"SNS inputs", some (-1000), some 1000, "mV"⟩, ⟨"FB, AIN0, AIN1", some (-300), some 3600, "mV"⟩,
   ⟨"VCORE", some (-300), some 950, "mV"⟩, ⟨"VL09, VDD2L", some (-300), some 1100, "mV"⟩,
   ⟨"VL12, VDD2H", some (-300), some 1400, "mV"⟩, ⟨"VDDQ", some (-300), some 800, "mV"⟩,
   ⟨"VIO, VNV, VDD1", some (-300), some 2100, "mV"⟩,
   ⟨"always-on and tolerant pins, EVT_N, FLT_N", some (-300), some 4000, "mV"⟩,
   ⟨"other VIO pins, above VIO at the high end", some (-300), some 300, "mV"⟩, ⟨"junction", some (-40), some 150, "degC"⟩,
   ⟨"storage", some (-55), some 150, "degC"⟩, ⟨"ESD, human body", none, some 2000, "V"⟩, ⟨"ESD, charged device", none, some 500, "V"⟩,
   ⟨"ESD, charged device, lane and PCIe pins", none, some 250, "V"⟩]

/-! ## Heat and package -/

/-- Junction to lid of a die in 0.01 °C/W (R381). -/
def thetaJc : List (String × Nat) := [("CD", 18), ("HV", 45), ("DR", 60)]

/-- Junction to board of the package in 0.01 °C/W (R381). -/
def thetaJb : Nat := 250

/-- The lid in 0.01 °C, from an ambient in 0.01 °C, a lid-to-ambient resistance in 0.01 °C/W and the package's power in mW (R381). -/
def lidTemp (ambient thetaCa mw : Nat) : Nat := ambient + thetaCa * mw / 1000

/-- A junction in 0.01 °C, from the lid, the die's resistance and its power in mW (R381). -/
def junctionTemp (lid thetaJc mw : Nat) : Nat := lid + thetaJc * mw / 1000

/-- Package dimensions in µm, the mass in mg, the moisture level and the peak of reflow in °C (Table 17-9). -/
def package : List (String × Nat) :=
  [("body", 47500), ("body tolerance", 150), ("rows", 47), ("columns", 47), ("pitch", 1000), ("ball", 600), ("ball tolerance", 50),
   ("seated height, at most", 3550), ("standoff, at least", 400), ("coplanarity", 200), ("lid", 44000), ("mass", 14000),
   ("MSL", 4), ("peak reflow", 250)]

end Sys2Proof.Machine
end

