-- ==== Sys2Proof/WellFormed.lean ====
section
/-! DEFINITION. Which commands are well formed: those whose operands have the lengths and ranges that the spec gives them. A command
that the device itself refuses or reports is well formed; the meanings are total and say what becomes of it. -/

namespace Sys2Proof

/-- An aligned DWORD of BAR0 (R321, R324). -/
def addrOk (a : Nat) : Bool := decide (a < 0x4000000) && a % 4 == 0

/-- A command is well formed. -/
def Instr.wellFormed (i : Instr) : Bool :=
  match i with
  | .registerWrite addr _ => addrOk addr
  | .statusFrameRx h f => decide ((f.flt.map Prod.fst).Nodup) && f.flt.all (fun e => decide (0x3000000 + 0x400000 * h.val ≤ e.1 ∧ e.1 < 0x3400000 + 0x400000 * h.val))
  | .stagingWrite off data => decide (off + data.length ≤ 0x80000)
  | .trainingSetRx _ _ ts => ts.groups.length == 16
  | .slip _ _ bits => decide (bits.val ≤ 9)
  | .statusRx _ _ p => p.openMap.length == 64 && p.shortMap.length == 64
  | .photoRx _ _ p => p.dark.length == 256 && p.lit.length == 256
  | .vidRx _ _ p => decide (2 ≤ p.texels.length ∧ p.texels.length ≤ 1024) && p.texels.length % 2 == 0
  | .dramRequestAccept _ r => r.addr % 64 == 0 && (!r.write || r.data.length == 64)
  | .dramTrainDone _ c0 c1 => decide (c0.attempts.val ≤ 3 ∧ c1.attempts.val ≤ 3)
  | .slowRound readings supplies => decide ((readings.map Prod.fst).Nodup) && supplies.length == 24
  | .fastRound readings => decide ((readings.map Prod.fst).Nodup)
  | .fltStatClear addr _ => addrOk addr
  | .fltEnWrite addr _ => addrOk addr
  | .startupSelftestDone failed => decide failed.Nodup
  | .bar0AccessError addr _ => decide (addr < 0x4000000)
  | .imageStagingWrite off data => decide (off + data.length ≤ 0x810000)
  | .spiBadFrame edges bytes => bytes.length == (edges + 7) / 8
  | .lightingCommandRx _ _ functions => decide ((functions.map Prod.fst).Nodup)
    | .dcFrameRx _ _ _ _ | .dcIdleFrame _ _ _ | .dcRetransmit _ _ _ _ | .dcChannelDown _ _ _ | .dcRetry _ _ | .bothDown _ |
    .statusFrameSend _ | .mirrorStale _ | .supLinkLost _ | .bridgeFlitRx _ _ _ _ | .bridgeLinkRemove _ | .bridgeLinkRetrain _
    _ | .coreRefLoss _ _ | .imageLoadDone | .verify | .program | .select | .confirm | .imgVerifyDone | .imgProgramDone _ |
    .rebuildLoad _ _ _ | .rebuildBuilt _ | .rebuildArm _ | .rebuildRevert _ | .rebuildCancel _ | .columnFail _ _ |
    .headGenCommit _ _ _ | .commitNotice _ | .binningDone _ | .spanDone _ _ _ | .pipeFail _ _ | .lineStart _ _ | .urHoldEnd _
    | .holdSyncSend _ _ | .modeHoldEnd _ _ | .timingMark _ _ | .markLost _ | .tgFail _ _ | .meshCopyDone _ _ | .headCorrHost
    _ _ _ | .imuRun _ | .imuOverrun | .imuOpWrite _ _ | .corrStale _ | .budgetUpdate | .halfSumReport _ _ | .sumLost _ _ |
    .ceilWrite _ _ _ _ | .trainPhaseDone _ _ _ | .trainPhaseTimeout _ _ | .alignContinue _ _ | .retrain _ _ | .retrainFull _ _ | .laneEnable _ _ |
    .laneDisable _ _ | .laneRetry _ _ | .lossOfLock _ _ _ | .quadPllLoss _ _ _ | .quadPllRelock _ _ | .fillerSetRx _ _ _ _ |
    .fillerSend _ _ | .loopbackModeWrite _ _ _ | .feLoopbackActive _ _ | .feLoopbackTimeout _ _ | .escanGo _ _ | .escanDone _
    _ _ | .packetSend _ _ | .badPacketRx _ _ _ | .cmdRetransmit _ _ | .bringupTimeout _ _ | .tileSilent _ _ | .objRx _ _ _ |
    .inStale _ _ | .srcstatPeriodic _ _ | .urgencyEscalate _ _ | .dramGrant _ _ | .dramReadReturn _ _ _ | .refreshDue _ _ |
    .refreshIdleIssue _ _ | .mr4Read _ _ _ | .rhWindowEnd _ _ | .dramFail _ _ | .resume _ | .pwmPeriodStart _ | .bstHoldWrite
    _ _ | .headroomSample _ _ | .boostTick _ _ _ | .stringStarved _ | .stringRetry _ _ | .boostOvp _ | .boostOcp _ _ |
    .boostUvlo _ | .boostUvloRecover _ _ | .boostPhase _ _ | .mxRowSlot _ _ | .mxSwap _ _ | .mxsyncEdge _ | .mxsyncLost _ _ |
    .trimLoad | .coefLoad _ | .calStart _ _ | .calMeasure _ _ | .calAbort _ _ | .calRestore _ _ _ | .refProg _ _ | .refErase
    _ _ | .calSlotMissed _ _ | .calEvalDone _ _ | .calHoldoffEnd _ _ | .calStoreStart _ _ | .calStoreDone _ _ _ |
    .sensorStale _ | .graceExpire | .throttleRelease | .tileShutEnd _ | .shutdownEnd | .crcInit _ _ | .crcCheck _ _ | .crcArm
    _ _ | .crcStop _ _ | .crcEnd _ _ | .crcData8 _ _ _ | .crcData16 _ _ _ | .crcData32 _ _ _ | .crcValueWrite _ _ _ |
    .crcCtrlWrite _ _ _ | .snoopWindowStart _ _ | .snoopCompare _ _ _ | .evtPulseEnd | .vspEvtHoldWrite _ | .maskEnd _ |
    .disputeTimeout _ | .disputeEnd _ | .bistSliceStart _ _ _ | .bistSliceEnd _ _ _ _ | .bistSliceAbandon _ | .retest _ _ |
    .cycleLate _ | .pcieFunctionReset _ | .dmaTailWrite _ _ | .dmaCtrlWrite _ _ | .dmaDescDone _ _ | .spiNop _ _ _ | .spiRead
    _ _ _ | .spiWrite _ _ _ | .safeReq _ _ _ | .spiWdogExpire | .addressClaimRx _ _ _ | .addressClaimStands _ | .busoff _ |
    .busoffRecover _ | .tecuLost | .lightingDataSend _ | .dm1Send _ | .dm3Rx _ | .dm11Rx _ | .pgnRequestRx _ _ _ _ | .pzpOpen
    _ _ _ _ _ | .pzpClose _ _ _ | .pzpSet _ _ _ _ _ _ | .pzpSetrange _ _ _ _ _ _ _ | .pzpKeepalive _ _ _ | .pzpQuery _ _ _ _
    | .sessionTimeout _ | .nameLost _ | .zoneLatch | .tokenRefill _ _ | .pzpHostSet _ | .pwrLit | .pwrReady | .pwrSafe |
    .pwrExit | .pwrWarm | .warmReset | .wake _ | .sleepEntry | .sleepRailsOff | .railGroupEnable | .railRetry | .readyEntry |
    .safeN | .vbatLow | .vbatLost | .railFault _ | .crystalFail | .wakeTimer | .advance | .provision | .unlock | .progslot _
    | .revoke _ | .tamperDetect _ | .debugUnlockAttempt _ | .corePllLock | .vbatReturn _ | .safeNRelease | .resetRelease |
    .wakeSourceChange _ _ | .linePacketSent _ _ => true

end Sys2Proof
end

