-- ==== Sys2Proof/Tests/Slice0.lean ====
section
/-! SUPPORT. Tests: ill-formed commands are refused by the check, values worked in the spec's examples, single steps, and states and
operands that meet the hypotheses of every statement. -/

namespace Sys2Proof.Tests

open Sys2Proof Sys2Proof.Machine

set_option Elab.async false

/-! ## Well-formedness: an ill-formed command for each check -/

theorem test_wf_accepts : (Instr.registerWrite 0x3FFFFFC 1#32).wellFormed = true ∧ Instr.pwrLit.wellFormed = true := by decide
theorem test_wf_register_aligned : (Instr.registerWrite 6 0#32).wellFormed = false := by decide
theorem test_wf_register_in_bar0 : (Instr.registerWrite 0x4000000 0#32).wellFormed = false := by decide
theorem test_wf_status_frame_die : (Instr.statusFrameRx 0 ⟨true, 0, [(0x3400000, 1#32)]⟩).wellFormed = false := by decide
theorem test_wf_status_frame_once : (Instr.statusFrameRx 0 ⟨true, 0, [(0x3000000, 1#32), (0x3000000, 2#32)]⟩).wellFormed = false := by decide
theorem test_wf_staging : (Instr.stagingWrite 0x7FFFF [1#8, 2#8]).wellFormed = false := by decide
theorem test_wf_image_staging : (Instr.imageStagingWrite 0x80FFFF [1#8, 2#8]).wellFormed = false := by decide
theorem test_wf_training_set : (Instr.trainingSetRx 0 0 ⟨false, 0, [250#10]⟩).wellFormed = false := by decide
theorem test_wf_slip : (Instr.slip 0 0 10).wellFormed = false := by decide
theorem test_wf_status : (Instr.statusRx 0 0 ⟨2, 0, true, false, 0, 0, 0, 0, false, 0, 0, 0, 0, 0, 0, 0, 0, 0, 0, [], [], 0, 0, 0, 0, 0⟩).wellFormed = false := by decide
theorem test_wf_photo : (Instr.photoRx 0 0 ⟨0, 0#16, 0, true, [], []⟩).wellFormed = false := by decide
theorem test_wf_vid_even : (Instr.vidRx 0 0 ⟨true, false, 0#16, 0#16, 0#16, [1#8, 2#8, 3#8], true⟩).wellFormed = false := by decide
theorem test_wf_vid_some : (Instr.vidRx 0 0 ⟨true, false, 0#16, 0#16, 0#16, [], true⟩).wellFormed = false := by decide
theorem test_wf_dram_aligned : (Instr.dramRequestAccept 0 ⟨3, false, 32, [], false, none, 0, none, 0, 0⟩).wellFormed = false := by decide
theorem test_wf_dram_burst : (Instr.dramRequestAccept 0 ⟨4, true, 64, [1#8], false, none, 0, none, 0, 0⟩).wellFormed = false := by decide
theorem test_wf_slow_once : (Instr.slowRound [(3, 16), (3, 17)] (List.replicate 24 0)).wellFormed = false := by decide
theorem test_wf_slow_supplies : (Instr.slowRound [(3, 16)] []).wellFormed = false := by decide
theorem test_wf_fast_once : (Instr.fastRound [(3, 16), (3, 17)]).wellFormed = false := by decide
theorem test_wf_stat_clear : (Instr.fltStatClear 2 0#32).wellFormed = false := by decide
theorem test_wf_en_write : (Instr.fltEnWrite 2 0#32).wellFormed = false := by decide
theorem test_wf_selftest_once : (Instr.startupSelftestDone [1#16, 1#16]).wellFormed = false := by decide
theorem test_wf_access : (Instr.bar0AccessError 0x4000000 .oddRead).wellFormed = false := by decide
theorem test_wf_spi_edges : (Instr.spiBadFrame 9 [1#8]).wellFormed = false := by decide
theorem test_wf_lighting_once : (Instr.lightingCommandRx 0 0#8 [(1, 1), (1, 0)]).wellFormed = false := by decide

/-! ## Values that the spec works out -/

/-- The grid of the worked example of chapter 3: nodes 10 and 11 of rows 6 and 7. -/
def cartGrid : List Nat :=
  (List.range 289).map (fun k => if k = 112 then 40960 else if k = 113 then 39936 else if k = 129 then 40448 else if k = 130 then 39424 else 0)

/-- Chapter 3, "A grain cart enters the H0 beam": the base beam of pixel (700, 410). -/
theorem test_base_beam : baseBeam cartGrid 1024 1024 700 410 = 39792 := by decide +kernel
/-- The same: the mask's coverage one pixel outside its left edge. -/
theorem test_mask_coverage :
    coverage ⟨0, 2, 64, 1200, 4096, 699, 397, 962, 562, [11224, 6400, 15360, 8960]⟩ 700 410 11208 6568 = 1024 := by decide
/-- The same: the mask layer's result. -/
theorem test_mask_layer : maskLayer 39792 [(1024, 1200)] = 30144 := by decide

/-- Chapter 5, "The cart-scene pixel to code": the ROAD entry of Table 5-5 and the derate class 2. -/
def cartPixel (frame : Nat) : Nat × Nat :=
  photoPixel [⟨0x03FF0000#32, 0x01BF0000#32, 0x01106D60#32⟩] 0 3686 [0#32, 0#32, 0x08001446#32] (some 82) true frame 188 410 0x8CDFD080 30144
theorem test_photo_drive : (cartPixel 5009).1 = 26050 := by decide +kernel
theorem test_photo_code : (cartPixel 5009).2 = 1628 ∧ (cartPixel 5020).2 = 1629 := by decide +kernel
/-- The same: the budget's target. -/
theorem test_budget_target : kTarget (allowance 5734 2) 1223253 = 3686 ∧ allowance 5734 1 = 1284416 := by decide

/-- Chapter 12, "A work-light driver runs hot": the levels of 115.25, 117.125 and 119.25 degrees against a WARN limit of 115. -/
theorem test_levels : levelFor 1844 1840 = 1 ∧ levelFor 1874 1840 = 2 ∧ levelFor 1908 1840 = 3 ∧ levelFor 1839 1840 = 0 := by decide
/-- The same: the neighbours of sensor 31. -/
theorem test_neighbours : ∀ k : Fin 62, (sensNeighbours 31).contains k.val = [24, 25, 26, 30, 32, 36, 37, 38].contains k.val := by decide

/-- Table 13-1: the check values of "123456789". -/
theorem test_crc_checks : crcOf (crcAlg 0) ((List.range' 0x31 9).map (BitVec.ofNat 8)) = 0xCBF43926 ∧
    crcOf (crcAlg 1) ((List.range' 0x31 9).map (BitVec.ofNat 8)) = 0xE3069283 := by decide +kernel

/-- Table 17-2: T12_TXP lies at B34, T12_RXN at D35, and CH87 at BD33. -/
theorem test_ball_map : ballAt 2 34 = .signal (.laneTx 1 4 true) ∧ ballAt 4 35 = .signal (.laneRx 1 4 false) ∧
    rowNames[41]? = some "BD" ∧ ballAt 42 33 = .signal (.chan 87) := by decide
/-- R153 and Table 7-2: COM and EAB have the code groups that the table names, at either running disparity, and read back as such. -/
theorem test_code_groups : decodeSym false 0b0011111010 = symCom ∧ decodeSym true 0b1100000101 = symCom ∧
    decodeSym false 0b0111101000 = .ctl 0xFE ∧ decodeSym true 0b0011111010 = .err := by decide

/-! ## Single steps -/

/-- The state after a command. -/
def after (c : Instr) (s : State) : State := match exec c s with | .next t => t | _ => s

/-- The reset state in a power state of Table 16-1. -/
def inPower (st : Nat) : State := { State.reset with dev := State.reset.dev.wrF Reg.VSP_PWR_STAT F.VSP_PWR_STAT_STATE st }

/-- Chapter 13, "A PV-40 sequence": INIT. -/
theorem test_crc_init : (after (.crcInit 0 0) State.reset).dev.rd (Reg.CRC_VALUE 0 0) = 0xFFFFFFFF#32 := by decide +kernel
/-- The same: the last feed, "9"; before it VALUE holds "12345678". -/
theorem test_crc_data : (after (.crcData8 0 0 0x39#32)
    { State.reset with dev := State.reset.dev.wr (Reg.CRC_VALUE 0 0) 0x651F2550#32 }).dev.rd (Reg.CRC_VALUE 0 0) = 0x340BC6D9#32 := by
  decide +kernel
/-- R355 and R356: LIT is accepted in READY and refused in STANDBY. -/
theorem test_lit : (after .pwrLit (inPower 2)).dev.power = 3 ∧ (after .pwrLit (inPower 1)).dev.power = 1 := by decide +kernel
/-- R357 and R358: the SAFE command, and EXIT from it. -/
theorem test_safe_exit : (after .pwrSafe (inPower 3)).dev.power = 4 ∧ (after .pwrExit (after .pwrSafe (inPower 3))).dev.power = 2 := by
  decide +kernel
/-- R304: a W1C write clears the bits written 1, whose cause has gone, and keeps the others. -/
theorem test_w1c : (after (.fltStatClear Reg.SEC_FLT_STAT 1#32)
    { State.reset with dev := State.reset.dev.wr Reg.SEC_FLT_STAT 3#32 }).dev.rd Reg.SEC_FLT_STAT = 2#32 := by decide +kernel
/-- R77 and R80: a staging write to a head that no die owns stores nothing. -/
theorem test_staging_unowned : (after (.stagingWrite 0x10 [1#8]) State.reset).mem = State.reset.mem := by decide +kernel
/-- Table 2-12: HEAD_GEN_COMMIT for an unused head is refused and binning does not start. -/
theorem test_commit_refused : ((after (.headGenCommit 0 2 true) State.reset).dev.half 0 2).binning = none := by decide +kernel
/-- R324: an access at or above 64 MiB is outside BAR0. -/
theorem test_outside_bar0 : exec (.registerWrite 0x4000000 0#32) State.reset = .fault (.outsideBar0 0x4000000) := rfl
/-- A RO register discards a write (Table 0-6). -/
theorem test_ro_write : (after (.registerWrite Reg.VSP_PWR_STAT 0xFFFFFFFF#32) (inPower 1)).dev.rd Reg.VSP_PWR_STAT =
    (inPower 1).dev.rd Reg.VSP_PWR_STAT := by decide +kernel
/-- The step takes the front of the queue; an empty queue lets a microsecond pass (log entries 1 and 3). -/
theorem test_step : step { (inPower 2) with pending := [.pwrLit, .pwrSafe] } = .next { after .pwrLit (inPower 2) with pending := [.pwrSafe] } ∧
    step State.reset = .next { State.reset with dev := { State.reset.dev with us := State.reset.dev.us + 1 } } := ⟨rfl, rfl⟩
/-- The table gives no row bits, so no word spells a command. -/
theorem test_decode : decodeTableWord 32 0 = none ∧ State.reset.withFetchWord 32 0 = State.reset := ⟨rfl, rfl⟩

/-! ## Witnesses: states and operands that meet the hypotheses of the statements -/

theorem witness_AnEmptyQueueLetsAMicrosecondPass : State.reset.pending = [] := rfl
theorem witness_EveryCommandCompletesInsideBar0 :
    (∀ (a : Nat) (v : Word), Instr.pwrLit = .registerWrite a v → a < 0x4000000) ∧
    (∀ (a : Nat) (v : Word), Instr.registerWrite 0x3FFFFFC 1#32 = .registerWrite a v → a < 0x4000000) ∧
    (0x4000000 : Nat) ≤ 0x4000000 := ⟨fun _ _ h => (by cases h), fun _ _ h => (by cases h; decide), Nat.le_refl _⟩
theorem witness_DeviceCommandsKeepFusesAndMemories :
    Instr.deviceOnly .pwrLit = true ∧ ∃ t, exec .pwrLit (inPower 2) = .next t := ⟨rfl, _, rfl⟩
theorem witness_MemoriesKeepTheirForm :
    { dram := [(3, 1#8), (9, 2#8)], flash := [(0, 0#8)], host := [], ring := [(1, 1#8)] : Mems }.wf = true ∧
    ∃ t, step { State.reset with mem := { dram := [(3, 1#8), (9, 2#8)], flash := [(0, 0#8)], host := [], ring := [(1, 1#8)] },
                                 pending := [.stagingWrite 0 [1#8]] } = .next t := ⟨by decide, _, rfl⟩

/-- A part with its loader running, floor 3, and a running image of SECVER 9. -/
def securePart (trial fallback : Bool) (copy : Nat) : State :=
  { State.reset with
    nv := { State.reset.nv with floor := 3, slots := State.reset.nv.slots.map (fun x => { x with hash := some [1#8], revoked := true }) }
    dev := { (inPower 2).dev with
      pwr := { State.reset.dev.pwr with rails := true }
      img := { State.reset.dev.img with running := some ⟨copy, 9, 0, 0, [], [], trial, fallback⟩ } } }

theorem witness_TheAntiRollbackFloorNeverFalls :
    (securePart false false 0).nv.floor ≤ 64 ∧ (∃ t, step { securePart false false 0 with pending := [.advance] } = .next t) ∧
    (∀ (trial fb : Bool), (securePart trial fb 2).dev.secUp = true ∧ (securePart trial fb 2).nv.locked = false) ∧
    (∃ r, (securePart false false 0).dev.img.running = some r ∧ r.trial = false ∧ r.fallback = false ∧ r.copy ≠ 2 ∧
      (securePart false false 0).nv.floor ≤ min 64 r.secver) ∧
    (∃ r, (securePart true false 1).dev.img.running = some r ∧ r.trial = true) ∧
    (∃ r, (securePart false true 0).dev.img.running = some r ∧ r.fallback = true) ∧
    (∃ r, (securePart false false 2).dev.img.running = some r ∧ r.copy = 2) :=
  ⟨by decide, ⟨_, rfl⟩, by decide +kernel, ⟨_, rfl, rfl, rfl, by decide, by decide⟩, ⟨_, rfl, rfl⟩, ⟨_, rfl, rfl⟩, ⟨_, rfl, rfl⟩⟩
theorem witness_FusesStayBlown :
    (securePart false false 0).nv.tampCount ≤ 65535 ∧ (∃ t, step { securePart false false 0 with pending := [.revoke 1] } = .next t) ∧
    ((securePart false false 0).nv.slots.getD 1 default).revoked = true ∧
    ((securePart false false 0).nv.slots.getD 1 default).hash.isSome = true := ⟨by decide, ⟨_, rfl⟩, by decide, by decide⟩

/-- A part whose head 0 lies on die 0, with slot 1 of the head locked or not. -/
def oneHead (locked : Bool) : State :=
  let v := State.reset.dev.wr (Reg.HEAD_TACT 0 0) 0x50200#32
  let v := v.wrF (Reg.HEAD_GEN_STAT 0 0) F.HEAD_GEN_STAT_LOCK (if locked then 2 else 0)
  { State.reset with dev := v.wr (Reg.HEAD_CMP_FLT_STAT 0 0 + 4) 0xFFFFFFFF#32 }

theorem witness_LockedSlotsDiscardWrites :
    0xFFFF < 0x10000 ∧ (∀ b : Bool, (oneHead b).dev.headUsed 0 = true ∧ (oneHead b).dev.slotLocked 0 (b2n true) = b) ∧
    (oneHead true).dev.slotLocked 0 (b2n false) = false ∧
    (oneHead true).dev.rdB (Reg.HEAD_CMP_FLT_STAT ((oneHead true).dev.masterOf 0) 0 + 4) B.HEAD_CMP_STAGE_LOCKED = true := by
  decide +kernel
theorem witness_FlashHostRingsAndQueueChangeByTheirCommandsOnly :
    Instr.mayChangeFlash .pwrLit = false ∧ Instr.mayChangeRings .pwrLit = false ∧
    (∀ (r : Fin 8) (h : Option (List Byte)), Instr.pwrLit ≠ .dmaDescDone r h) ∧ ∃ t, exec .pwrLit (inPower 2) = .next t :=
  ⟨rfl, rfl, fun _ _ h => (by cases h), _, rfl⟩
theorem witness_SafeAndLitAreLeftAndEnteredByCommand :
    (inPower 4).dev.power = 4 ∧ (∀ k : Fin 8, k ≠ 2 → (inPower 4).dev.safeSource k = false) ∧
    (∃ k : Fin 8, k ≠ 2 ∧ ({ inPower 4 with dev := (inPower 4).dev.wrB Reg.VSP_PWR_STAT 19 true } : State).dev.safeSource k = true) ∧
    (after .pwrExit (inPower 4)).dev.power = 2 ∧ (inPower 2).dev.power ≠ 3 ∧ (after .pwrLit (inPower 2)).dev.power = 3 := by
  decide +kernel
/-- A tile that only SAFE holds in safe-fill waits for RUN after EXIT: such a tile in SAFE. -/
theorem witness_SafeAndLitAreLeftAndEnteredByCommand_tile :
    let v := (inPower 4).dev
    let v := { v with cfg := { v.cfg with tiles := [(2, ⟨true, 0, 0, 0⟩)] } }
    let v := (v.setDstate 0 2 3).setLane 0 2 { v.lane 0 2 with causes := [.safe] }
    v.power = 4 ∧ (v.place 0 2).used = true ∧ v.dstate 0 2 = 3 ∧ (v.lane 0 2).causes = [.safe] := by decide +kernel
theorem witness_ADieRunsOneRebuildAtATime :
    (oneHead false).dev.isMaster 0 0 = true ∧ ((oneHead false).dev.diesOf 0).any (oneHead false).dev.rbBusy = false ∧
    (oneHead false).nv.locked = false ∧ (oneHead false).dev.usedOn 0 0 = true ∧
    (let v := (oneHead false).dev.wrF (Reg.FAB_RB_STAT 0) F.FAB_RB_STAT_STATE 2
     v.isMaster 0 0 = true ∧ (v.diesOf 0).any v.rbBusy = true) := by decide +kernel

/-- A part at the start of its image load, with the first bytes of both copies and of the recovery image programmed to 0. -/
def loadS (s : State) : State :=
  let zeros := fun (a : Nat) => (List.range 16).map (fun k => (a + 8 + k, 0#8))
  { s with mem := { s.mem with flash := zeros 0 ++ zeros 0x800000 ++ zeros 0x1010000 },
           dev := { s.dev.wr Reg.VSP_PWR_STAT 1#32 with
             pwr := { s.dev.pwr with trims := true, delivered := false, imgFail := false, rstHeld := false } } }

theorem witness_StoresReachOnlyTheirBytes :
    (let key : Nat := 0; let off : Nat := 5; let data : List Byte := [1#8]; let s : State := State.reset; (∀ e : Fin 2,
      (s.dev.diesOf (off / 0x20000)).contains e.val = true → ∀ i : Fin data.length, i.val < 0x10000 - off % 0x10000 → s.dev.dramKey
      e (slotAddr (off / 0x20000) (off / 0x10000 % 2) + off % 0x10000 + i) ≠ some key)) ∧
    (let key : Nat := 0; let off : Nat := 5; let data : List Byte := [1#8]; let s : State := State.reset; (off < 0x800000 ∧ ∀ i :
      Fin data.length, i.val < 0x800000 - off → s.dev.dramKey 0 (stageBase + off + i) ≠ some key)) ∧
    (let key : Nat := 0; let off : Nat := 5; let data : List Byte := [1#8]; (¬ (off ≤ key ∧ key < off + data.length))) ∧
    (let d : Die := 1; let key : Nat := 0; let c : Fin 2 := 0; let s : State := State.reset; (∀ e ∈ (((s.dev.burstTry d
      c).writeTurn d c).nextGrant d c).toList, e.req.write = true → ¬ (2147483648 * d.val + e.addr ≤ key ∧ key < 2147483648 * d.val
      + e.addr + 64))) ∧
    (let d : Die := 1; let key : Nat := 0; let ti : TileIx := 2; let row : BitVec 9 := 3#9; let s : State := State.reset; (∀ i :
      Fin 2112, s.dev.dramKey d ((s.dev.rdL (Reg.PHO_COEF_BASE d ti)).toNat + 2112 * row.toNat + i) ≠ some key)) ∧
    (let d : Die := 1; let key : Nat := 0; let ti : TileIx := 2; (¬ (refOff (8 * d.val + ti.val) ≤ key ∧ key < refOff (8 * d.val +
      ti.val) + 0xC2000))) ∧
    (let d : Die := 1; let key : Nat := 0; let ti : TileIx := 2; (¬ (refOff (8 * d.val + ti.val) ≤ key ∧ key < refOff (8 * d.val +
      ti.val) + 0xC2000))) ∧
    (let d : Die := 1; let key : Nat := 0; let ti : TileIx := 2; (∀ k : Fin 2, ¬ (setOff k.val (8 * d.val + ti.val) ≤ key ∧ key <
      setOff k.val (8 * d.val + ti.val) + 0x104000))) ∧
    (let key : Nat := 0; let s : State := State.reset; (¬ (copyOff s.targetCopy ≤ key ∧ key < copyOff s.targetCopy + 0x800000))) := by
  refine ⟨?_, ?_, ?_, ?_, ?_, ?_, ?_, ?_, ?_⟩ <;> decide +kernel
/-- The clause of RESTORE: a die whose controller maps no address, so that every byte lies outside the row. -/
theorem witness_StoresReachOnlyTheirBytes_restore (d : Die) (key : Nat) (ti : TileIx) (row : BitVec 9) :
    let s : State := { State.reset with dev := State.reset.dev.wr (Reg.DRC_STAT d) 3#32 }
    ∀ i : Fin 2112, s.dev.dramKey d ((s.dev.rdL (Reg.PHO_COEF_BASE d ti)).toNat + 2112 * row.toNat + i) ≠ some key := by
  intro s i
  have h : s.dev.drcRole d = 3 := by revert d; decide +kernel
  simp only [Dev.dramKey, Dev.drcMap, h]
  split <;> simp [Except.toOption]
theorem witness_DataChannelsComplete :
    (let h : Hv := 0; let c : Fin 2 := 1; let f : DcFrame := ⟨.data, 1#8, 2#8, 3#96, BitVec.ofNat 16 (crc16 (1#8 :: 2#8 :: toBE 12
      3))⟩; let s : State := State.reset; let s : State :=
      { s with dev := ((s.dev.wrB (Reg.BST_LINK_STAT h) 1 true).wrB (Reg.BST_LINK_STAT h) 2 true) }; (dcValid f = true ∧
      s.dev.linkUp h c = true ∧ (f.kind = .data ∨ f.kind = .idle))) ∧
    (let h : Hv := 0; let c : Fin 2 := 1; let f : DcFrame := ⟨.data, 1#8, 2#8, 3#96, BitVec.ofNat 16 (crc16 (1#8 :: 2#8 :: toBE 12
      3))⟩; let s : State := State.reset; let s : State :=
      { s with dev := ((s.dev.wrB (Reg.BST_LINK_STAT h) 1 true).wrB (Reg.BST_LINK_STAT h) 2 true) |>.setHv h { s.dev.hv h with resend := false } };
      (dcValid f = true ∧ s.dev.linkUp h c = true ∧ (s.dev.hv h).resend = false)) ∧
    (let h : Hv := 0; let c : Fin 2 := 1; let f : DcFrame := ⟨.data, 1#8, 2#8, 3#96, BitVec.ofNat 16 (crc16 (1#8 :: 2#8 :: toBE 12
      3))⟩; let s : State := State.reset; let s : State :=
      { s with dev := ((s.dev.wrB (Reg.BST_LINK_STAT h) 1 true).wrB (Reg.BST_LINK_STAT h) 2 true) }; (dcValid f = true ∧
      s.dev.linkUp h c = true)) ∧
    (let f : DcFrame := ⟨.data, 1#8, 2#8, 3#96, 0#16⟩; (dcValid f = false)) ∧
    (let h : Hv := 0; let c : Fin 2 := 1; let up : Bool := true; let q : Byte := 7; let s : State := State.reset; let s : State :=
      { s with dev := s.dev.setDc h c ⟨5, [⟨!up, q.toNat, 1, .idle⟩, ⟨up, q.toNat, 3, .idle⟩], 9, 10⟩ }; (((s.dev.dc h
      c).unack.find? (fun e => e.up == up && e.seq == q.toNat)).any (fun e => decide (e.tries < 8)) = true)) ∧
    (let h : Hv := 0; let c : Fin 2 := 1; let up : Bool := true; let q : Byte := 7; let s : State := State.reset; let s : State :=
      { s with dev := s.dev.setDc h c ⟨5, [⟨up, q.toNat, 8, .idle⟩], 9, 10⟩ }; (((s.dev.dc h c).unack.find? (fun e => e.up == up &&
      e.seq == q.toNat)).any (fun e => decide (8 ≤ e.tries)) = true)) ∧
    (let h : Hv := 0; let c : Fin 2 := 1; let up : Bool := true; let q : Byte := 7; let s : State := State.reset; let s : State :=
      { s with dev := s.dev.setDc h c ⟨5, [], 9, 10⟩ }; (((s.dev.dc h c).unack.find? (fun e => e.up == up && e.seq ==
      q.toNat)).isSome = false)) ∧
    (let h : Hv := 0; let c : Fin 2 := 1; let s : State := State.reset; let s : State :=
      { s with dev := ((s.dev.wrB (Reg.BST_LINK_STAT h) 1 true).wrB (Reg.BST_LINK_STAT h) 2 true) }; (s.dev.linkUp h c = true)) ∧
    (let h : Hv := 0; let c : Fin 2 := 1; let s : State := State.reset; let s : State :=
      { s with dev := ((s.dev.wrB (Reg.BST_LINK_STAT h) 1 false).wrB (Reg.BST_LINK_STAT h) 2 false) }; (s.dev.linkUp h c = false)) ∧
    (let h : Hv := 0; let c : Fin 2 := 1; let f : DcFrame := ⟨.data, 1#8, 2#8, 3#96, BitVec.ofNat 16 (crc16 (1#8 :: 2#8 :: toBE 12
      3))⟩; let s : State := State.reset; let s : State :=
      { s with dev := ((s.dev.wrB (Reg.BST_LINK_STAT h) 1 false).wrB (Reg.BST_LINK_STAT h) 2 false).setDc h c ⟨99, [], 0, 0⟩ };
      (dcValid f = true ∧ s.dev.linkUp h c = false ∧ 99 ≤ (s.dev.dc h c).valid)) ∧
    (let h : Hv := 0; let c : Fin 2 := 1; let s : State := State.reset; let s : State :=
      { s with dev := ((s.dev.wrB (Reg.BST_LINK_STAT h) 1 false).wrB (Reg.BST_LINK_STAT h) 2 false) |> fun v => { v with pwr := { v.pwr with lost := [] } } };
      (s.dev.linkUp h c = false ∧ s.dev.pwr.lost.contains c.val = false)) ∧
    (let h : Hv := 0; let s : State := State.reset; let s : State :=
      { s with dev := ((s.dev.wrB (Reg.BST_LINK_STAT h) 1 false).wrB (Reg.BST_LINK_STAT h) 2 false) }; (s.dev.linkUp h 0 = false ∧
      s.dev.linkUp h 1 = false)) := by
  refine ⟨?_, ?_, ?_, ?_, ?_, ?_, ?_, ?_, ?_, ?_, ?_, ?_⟩ <;> decide +kernel
theorem witness_BridgeAndDieLinksComplete :
    (let d : Die := 1; let link : Fin 4 := 2; let f : Flit := ⟨[1#8, 2#8], BitVec.ofNat 32 (crc32c [1#8, 2#8])⟩; let s : State :=
      State.reset; let s : State := { s with dev := { s.dev.wrB (Reg.FAB_BRG_STAT d) link true with brgs := [] } }; (s.dev.rdB
      (Reg.FAB_BRG_STAT d) link = true ∧ crc32c f.body = f.crc.toNat)) ∧
    (let d : Die := 1; let link : Fin 4 := 2; let f : Flit := ⟨[1#8, 2#8], 0#32⟩; let s : State := State.reset; let s : State :=
      { s with dev := { s.dev.wrB (Reg.FAB_BRG_STAT d) link true with brgs := [] } }; (s.dev.rdB (Reg.FAB_BRG_STAT d) link = true ∧
      crc32c f.body ≠ f.crc.toNat ∧ (s.dev.brg d).fails.get (fun _ => 0) link < 8)) ∧
    (let d : Die := 1; let link : Fin 4 := 2; let f : Flit := ⟨[1#8, 2#8], 0#32⟩; let s : State := State.reset; let s : State :=
      { s with dev := (s.dev.wrB (Reg.FAB_BRG_STAT d) link true).setBrg d { BrgH.init with fails := [(link, 8)] } }; (s.dev.rdB
      (Reg.FAB_BRG_STAT d) link = true ∧ crc32c f.body ≠ f.crc.toNat ∧ 8 ≤ (s.dev.brg d).fails.get (fun _ => 0) link)) ∧
    (let d : Die := 1; let link : Fin 4 := 2; let s : State := State.reset; let s : State :=
      { s with dev := s.dev.wrB (Reg.FAB_BRG_STAT d) link false }; (s.dev.rdB (Reg.FAB_BRG_STAT d) link = false)) ∧
    (let d : Die := 1; let link : Fin 4 := 2; let s : State := State.reset; let s : State :=
      { s with dev := (s.dev.wrB (Reg.FAB_BRG_STAT 0) link true).setBrg d { BrgH.init with fails := [(link, 9)] } }; (s.dev.rdB
      (Reg.FAB_BRG_STAT 0) link = true ∧ 9 ≤ (s.dev.brg d).fails.get (fun _ => 0) link)) ∧
    (let link : Fin 4 := 2; let s : State := State.reset; let s : State :=
      { s with dev := { s.dev.wrB (Reg.FAB_BRG_STAT 0) link false with pwr := { s.dev.pwr with pll := true } } }; (s.dev.rdB
      (Reg.FAB_BRG_STAT 0) link = false ∧ s.dev.pwr.pll = true)) := by
  refine ⟨?_, ?_, ?_, ?_, ?_, ?_⟩ <;> decide +kernel
theorem witness_ImageCommandsComplete :
    (let s : State := State.reset; let s : State :=
      { s with dev := { s.dev with img := { s.dev.img with job := 0, passed := [0, 1] } } }; (s.dev.img.job = 0 ∧ s.nv.locked =
      false)) ∧
    (let s : State := State.reset; let s : State :=
      { s with dev := { s.dev with img := { s.dev.img with job := 0, passed := [0, 1] } } }; (s.dev.img.job = 0 ∧ s.nv.locked =
      false)) ∧
    (let s : State := State.reset; let s : State :=
      { s with dev := { s.dev with img := { s.dev.img with job := 0, passed := [0, 1] } } }; (s.dev.img.job = 0 ∧ s.nv.locked =
      false ∧ s.dev.img.passed.contains s.targetCopy = true)) ∧
    (let s : State := State.reset; let s : State :=
      { s with dev := { s.dev with img := { s.dev.img with job := 0, passed := [] } } }; (s.dev.img.job = 0 ∧
      s.dev.img.passed.contains s.targetCopy = false)) ∧
    (let s : State := State.reset; let s : State :=
      { s with nv := { s.nv with boot := [some ⟨1, 0, true, true⟩, none] }, dev := { s.dev with img := { s.dev.img with job := 0 } } };
      (s.dev.img.job = 0 ∧ s.nv.bootRec.trial = true)) ∧
    (let s : State := State.reset; let s : State :=
      { s with nv := { s.nv with boot := [some ⟨1, 0, false, false⟩, none] }, dev := { s.dev with img := { s.dev.img with job := 0 } } };
      (s.dev.img.job = 0 ∧ s.nv.bootRec.trial = false)) ∧
    (let s : State := State.reset; let s : State := { s with dev := { s.dev with img := { s.dev.img with job := 2 } } };
      (s.dev.img.job ≠ 0)) := by
  refine ⟨?_, ?_, ?_, ?_, ?_, ?_, ?_⟩ <;> decide +kernel
theorem witness_ImageChecksAndLoadComplete :
    (let s : State := State.reset; let s : State :=
      { s with dev := { s.dev.wr Reg.VSP_IMG_UPD_LEN 64#32 with img := { s.dev.img with job := 1, erasing := false } } };
      (s.dev.img.job = 1 ∧ s.dev.img.erasing = false)) ∧
    (let s : State := State.reset; let s : State :=
      { s with dev := { s.dev.wr Reg.VSP_IMG_UPD_LEN 64#32 with img := { s.dev.img with job := 2, erasing := false } } };
      (s.dev.img.job = 2 ∧ s.dev.img.erasing = false)) ∧
    (let s : State := State.reset; let s : State :=
      { s with dev := { s.dev.wr Reg.VSP_IMG_UPD_LEN 64#32 with img := { s.dev.img with job := 2, erasing := true, len := 64, digest := Config.sha256 (s.stagedTo 64) } } };
      (s.dev.img.erasing = true ∧ Config.sha256 (s.stagedTo s.dev.img.len) = s.dev.img.digest)) ∧
    (let s : State := State.reset; let s : State :=
      { s with dev := { s.dev.wr Reg.VSP_IMG_UPD_LEN 64#32 with img := { s.dev.img with job := 2, erasing := true } } };
      (s.dev.img.erasing = true)) ∧
    (let s : State := State.reset; let s : State := loadS s; (s.dev.power = 1 ∧ s.dev.pwr.trims = true ∧ s.dev.pwr.delivered =
      false ∧ s.dev.pwr.imgFail = false ∧ s.dev.pwr.rstHeld = false)) := by
  exact ⟨by decide +kernel, by decide +kernel, by (exact ⟨by decide +kernel, rfl⟩), by decide +kernel, by decide +kernel⟩
theorem witness_RebuildsComplete :
    (let d : Die := 1; let n : Head := 2; let run : Bool := true; let s : State := State.reset; let s : State :=
      { s with dev := ((((s.dev.wr (Reg.HEAD_TACT d n) 0x50200#32).wr (Reg.HEAD_TACT (1 - d.val) n) 0#32).setRb d { head := n, fromRunning := true, build := none, revert := false }).wrF (Reg.FAB_RB_CTRL d) F.FAB_RB_CTRL_HEAD n).wr (Reg.FAB_RB_STAT d) 0#32 };
      (s.dev.isMaster d n = true ∧ (s.dev.diesOf n).any s.dev.rbBusy = false ∧ (s.nv.locked = false ∨ run = true))) ∧
    (let d : Die := 1; let n : Head := 2; let s : State := State.reset; (s.dev.isMaster d n = false)) ∧
    (let d : Die := 1; let n : Head := 2; let s : State := State.reset; let s : State :=
      { s with dev := ((((s.dev.wr (Reg.HEAD_TACT d n) 0x50200#32).wr (Reg.HEAD_TACT (1 - d.val) n) 0#32).setRb d { head := n, fromRunning := true, build := none, revert := false }).wrF (Reg.FAB_RB_CTRL d) F.FAB_RB_CTRL_HEAD n).wr (Reg.FAB_RB_STAT d) 2#32 };
      (s.dev.isMaster d n = true ∧ (s.dev.diesOf n).any s.dev.rbBusy = true)) ∧
    (let d : Die := 1; let n : Head := 2; let s : State := State.reset; let s : State :=
      { s with dev := ((((s.dev.wr (Reg.HEAD_TACT d n) 0x50200#32).wr (Reg.HEAD_TACT (1 - d.val) n) 0#32).setRb d { head := n, fromRunning := true, build := none, revert := false }).wrF (Reg.FAB_RB_CTRL d) F.FAB_RB_CTRL_HEAD n).wr (Reg.FAB_RB_STAT d) 2#32 };
      (s.dev.rdF (Reg.FAB_RB_CTRL d) F.FAB_RB_CTRL_HEAD = n ∧ s.dev.isMaster d n = true ∧ (s.dev.rb d).head = n ∧ s.dev.rbState d =
      2)) ∧
    (let d : Die := 1; let n : Head := 2; let s : State := State.reset; let s : State :=
      { s with dev := ((((((s.dev.wr (Reg.HEAD_TACT d n) 0x50200#32).wr (Reg.HEAD_TACT (1 - d.val) n) 0#32).setRb d { head := n, fromRunning := true, build := none, revert := false }).wrF (Reg.FAB_RB_CTRL d) F.FAB_RB_CTRL_HEAD n).wr (Reg.FAB_RB_STAT d) 4#32).wrF (Reg.FAB_RB_STAT d) F.FAB_RB_STAT_STATE 4).wrF (Reg.FAB_RB_STAT d) F.FAB_RB_STAT_REVERTIBLE 1 };
      (s.dev.rdF (Reg.FAB_RB_CTRL d) F.FAB_RB_CTRL_HEAD = n ∧ s.dev.isMaster d n = true ∧ (s.dev.rb d).head = n ∧ (∀ e ∈
      s.dev.diesOf n, (s.dev.rb e).head = n ∧ s.dev.rbState e = 4 ∧ s.dev.rdF (Reg.FAB_RB_STAT e) F.FAB_RB_STAT_REVERTIBLE = 1))) ∧
    (let d : Die := 1; let n : Head := 2; let s : State := State.reset; let s : State :=
      { s with dev := ((((s.dev.wr (Reg.HEAD_TACT d n) 0x50200#32).wr (Reg.HEAD_TACT (1 - d.val) n) 0#32).setRb d { head := n, fromRunning := true, build := none, revert := false }).wrF (Reg.FAB_RB_CTRL d) F.FAB_RB_CTRL_HEAD n).wr (Reg.FAB_RB_STAT d) 2#32 };
      (s.dev.rdF (Reg.FAB_RB_CTRL d) F.FAB_RB_CTRL_HEAD = n ∧ s.dev.isMaster d n = true ∧ (s.dev.rb d).head = n ∧ s.dev.rbBusy d =
      true)) ∧
    (let d : Die := 1; let n : Head := 2; let s : State := State.reset; let s : State :=
      { s with dev := ((((s.dev.wr (Reg.HEAD_TACT d n) 0x50200#32).wr (Reg.HEAD_TACT (1 - d.val) n) 0#32).setRb d { head := n, fromRunning := true, build := none, revert := false }).wrF (Reg.FAB_RB_CTRL d) F.FAB_RB_CTRL_HEAD n).wr (Reg.FAB_RB_STAT d) 1#32 };
      (s.dev.isMaster d n = true ∧ (s.dev.rb d).head = n ∧ s.dev.rbState d = 1 ∧ (s.dev.rb d).fromRunning = true ∧ (∀ e ∈
      s.dev.diesOf n, (s.dev.makeBuild e n none).isSome = true))) ∧
    (let d : Die := 1; let n : Head := 2; let s : State := State.reset; let s : State :=
      { s with dev := ((((((s.dev.wr (Reg.HEAD_TACT d n) 0x50200#32).wr (Reg.HEAD_TACT (1 - d.val) n) 0#32).setRb d { head := n, fromRunning := true, build := none, revert := false }).wrF (Reg.FAB_RB_CTRL d) F.FAB_RB_CTRL_HEAD n).wr (Reg.FAB_RB_STAT d) 1#32).wr (Reg.FAB_COLFAIL0 d) 0xFFFFFFFF#32).wr (Reg.FAB_COLFAIL1 d) 0xFFFFFFFF#32 };
      (s.dev.isMaster d n = true ∧ (s.dev.rb d).head = n ∧ s.dev.rbState d = 1 ∧ (s.dev.rb d).fromRunning = true ∧ (s.dev.makeBuild
      d n none).isSome = false)) ∧
    (let d : Die := 1; let n : Head := 2; let s : State := State.reset; let s : State :=
      { s with dev := ((((((s.dev.wr (Reg.HEAD_TACT d n) 0x50200#32).wr (Reg.HEAD_TACT (1 - d.val) n) 0#32).setRb d { head := n, fromRunning := true, build := none, revert := false }).wrF (Reg.FAB_RB_CTRL d) F.FAB_RB_CTRL_HEAD n).wr (Reg.FAB_RB_STAT d) 1#32).wr Reg.VSP_IMG_UPD_LEN 64#32).setRb d { head := n, fromRunning := false, build := none, revert := false } };
      (s.dev.isMaster d n = true ∧ (s.dev.rb d).head = n ∧ s.dev.rbState d = 1 ∧ (s.dev.rb d).fromRunning = false ∧ (verifyImage
      s.nv s.dev.img.running s.staged s.staged.length (some n) s.badBlocks).isOk = false)) ∧
    (let d : Die := 1; let k : Fin 64 := 40; let s : State := State.reset; (s.dev.inSlice d (blockId (d + 1) 4 (0x40 + k)) =
      false)) := by
  refine ⟨?_, ?_, ?_, ?_, ?_, ?_, ?_, ?_, ?_, ?_⟩ <;> decide +kernel
theorem witness_GenerationsComplete :
    (let d : Die := 1; let n : Head := 2; let s : State := State.reset; let s : State :=
      { s with dev := ((s.dev.wr (Reg.HEAD_TACT d n) 0x50200#32).wr (Reg.HEAD_TACT (1 - d.val) n) 0#32).wr (Reg.HEAD_GEN_STAT d n) 0#32 };
      (s.dev.commitRefusal d n = none)) ∧
    (let d : Die := 1; let n : Head := 2; let s : State := State.reset; let s : State :=
      { s with dev := ((s.dev.wr (Reg.HEAD_TACT d n) 0x50200#32).wr (Reg.HEAD_TACT (1 - d.val) n) 0#32).wrF (Reg.HEAD_GEN_STAT d n) F.HEAD_GEN_STAT_BUSY 1 };
      ((s.dev.commitRefusal d n).isSome = true)) ∧
    (let d : Die := 1; let n : Head := 2; let slot : Bool := true; let s : State := State.reset; let s : State :=
      { s with dev := ((((s.dev.wr (Reg.HEAD_TACT d n) 0x70400#32).wr (Reg.HEAD_TACT (1 - d.val) n) 0x60400#32).wrB (Reg.FAB_BRG_STAT 0) 1 true).setHalf d n { s.dev.half d n with binning := some (b2n slot) }) |> fun v => { v with pwr := { v.pwr with lost := [] } } };
      (s.dev.masterOf n = d.val ∧ s.dev.spansDies n = true ∧ s.dev.dieWay d (1 - d.val) = true ∧ (s.dev.half d n).binning = some
      (b2n slot))) ∧
    (let d : Die := 1; let n : Head := 2; let slot : Bool := true; let s : State := State.reset; let s : State :=
      { s with dev := ((s.dev.wr (Reg.HEAD_TACT d n) 0x50200#32).wr (Reg.HEAD_TACT (1 - d.val) n) 0#32).setHalf d n { s.dev.half d n with binning := some (b2n slot) } };
      (s.dev.isMaster d n = true ∧ s.dev.masterOf n = d.val ∧ (∀ e ∈ s.dev.diesOf n, (s.dev.half e n).binning.isSome = true))) ∧
    (let n : Head := 2; let slot : Bool := true; let o : Nat := 0x300; let data : List Byte := [1#8, 2#8, 3#8]; let s : State :=
      State.reset; let s : State :=
      { s with dev := (fun (v : Dev) => { v with pwr := { v.pwr with lost := [] } }) (((((s.dev.wr (Reg.HEAD_TACT 0 n) 0x70400#32).wr (Reg.HEAD_TACT 1 n) 0x60400#32).wr (Reg.DRC_STAT 0) 0#32).wr (Reg.DRC_STAT 1) 0#32).wrB (Reg.FAB_BRG_STAT 0) 1 true) };
      (s.dev.cdUp 0 = true ∧ s.dev.headUsed n = true ∧ o < 0x10000 ∧ o + data.length ≤ 0x10000 ∧ s.dev.slotLocked n (b2n slot) =
      false ∧ s.dev.drcRole 0 = 0 ∧ s.dev.drcRole 1 = 0)) ∧
    (let n : Head := 2; let slot : Bool := true; let o : Nat := 0x300; let s : State := State.reset; let s : State :=
      { s with dev := (fun (v : Dev) => { v with pwr := { v.pwr with lost := [] } }) ((((((s.dev.wr (Reg.HEAD_TACT 0 n) 0x70400#32).wr (Reg.HEAD_TACT 1 n) 0x60400#32).wr (Reg.DRC_STAT 0) 0#32).wr (Reg.DRC_STAT 1) 0#32).wrB (Reg.FAB_BRG_STAT 0) 1 true).wrF (Reg.HEAD_GEN_STAT 0 n) F.HEAD_GEN_STAT_LOCK 3) };
      (s.dev.cdUp 0 = true ∧ s.dev.headUsed n = true ∧ o < 0x10000 ∧ s.dev.slotLocked n (b2n slot) = true)) := by
  refine ⟨?_, ?_, ?_, ?_, ?_, ?_⟩ <;> decide +kernel
theorem witness_CompositionAndLinesComplete :
    (let d : Die := 1; let p : Fin 4 := 1; let sp : Span := ⟨2, 3, 65, 4, true⟩; let b : Band :=
      { band := 2, gen := Gen.zero, s := 0, c := 65536, dy := 0, now := 0#32, hide := false, bg := none }; let s : State :=
      State.reset; let s : State :=
      { s with dev := let v := (s.dev.setPipes d { pipes := (List.replicate 4 none).set p (some { sp with live := true }), elig := [] }).setHalf d sp.head { s.dev.half d sp.head with composing := true, bands := [b] }; { v with spans := [], coefs := [(rowKey d sp.tile (sp.line % 512), [])] } };
      ((s.dev.pipes d).pipes.getD p none = some sp ∧ sp.live = true ∧ (s.dev.half d sp.head).composing = true ∧ (s.dev.half d
      sp.head).bandOf sp.line = some b ∧ b.bg = none ∧ (s.dev.coefRow d sp.tile (sp.line % 512)).isSome = true ∧ ((s.dev.slotsTaken
      d sp.tile).contains sp.line = true ∨ (s.dev.slotsTaken d sp.tile).length + b2n (s.dev.lane d sp.tile).sending < 16))) ∧
    (let d : Die := 1; let p : Fin 4 := 1; let sp : Span := ⟨2, 3, 65, 4, true⟩; let b : Band :=
      { band := 2, gen := Gen.zero, s := 0, c := 65536, dy := 0, now := 0#32, hide := false, bg := none }; let s : State :=
      State.reset; let s : State :=
      { s with dev := let v := (s.dev.setPipes d { pipes := (List.replicate 4 none).set p (some { sp with live := true }), elig := [] }).setHalf d sp.head { s.dev.half d sp.head with composing := true, bands := [b] }; { v with spans := [], coefs := [(rowKey d sp.tile (sp.line % 512), [])] } };
      ((s.dev.pipes d).pipes.getD p none = some sp ∧ sp.live = true ∧ (s.dev.half d sp.head).composing = true ∧ (s.dev.half d
      sp.head).bandOf sp.line = some b)) ∧
    (let d : Die := 1; let p : Fin 4 := 1; let sp : Span := ⟨2, 3, 65, 4, true⟩; let b : Band :=
      { band := 2, gen := Gen.zero, s := 0, c := 65536, dy := 0, now := 0#32, hide := false, bg := none }; let s : State :=
      State.reset; let s : State :=
      { s with dev := let v := (s.dev.setPipes d { pipes := (List.replicate 4 none).set p (some { sp with live := true }), elig := [] }).setHalf d sp.head { s.dev.half d sp.head with composing := true, bands := [{ b with bg := some 3 }] }; { v with spans := [], coefs := [(rowKey d sp.tile (sp.line % 512), [])] } };
      ((s.dev.pipes d).pipes.getD p none = some sp ∧ sp.live = true ∧ (s.dev.half d sp.head).composing = true ∧ ((s.dev.half d
      sp.head).bandOf sp.line).any (fun x => x.bg.any (fun l => decide (l ≤ sp.line))) = true)) ∧
    (let d : Die := 1; let p : Fin 4 := 1; let s : State := State.reset; let s : State :=
      { s with dev := { s.dev.wrB (Reg.FAB_PIPE_STAT d) p true with dies := [] } }; (s.dev.pipeOk d p = true ∧ s.dev.inSlice d
      (blockId (d + 1) 4 (0x10 + p)) = false ∧ (s.dev.pipeMask d p).isSome = false)) ∧
    (let d : Die := 1; let n : Head := 2; let s : State := State.reset; let s : State :=
      { s with dev := let v := s.dev.wr (Reg.HEAD_TACT d n) 0x50200#32; let v := v.wr (Reg.HEAD_TACT (1 - d.val) n) 0#32; let v := v.wr (Reg.HEAD_TTOTAL d n) 600#32; let v := v.latch (Reg.HEAD_TTOTAL d n); let v := v.wr (Reg.HEAD_TPOINTS d n) 0x2220100#32; let v := { v with cfg := { v.cfg with tiles := [(8 * d + 3, ⟨true, n, 0, 0⟩)] }, spans := [] }; let v := v.wr (Reg.LANE_STAT d 3) 3#32; let v := v.setLane d 3 { v.lane d 3 with causes := [] }; let v := v.setHalf d n { v.half d n with running := true, failed := false, hold := false, first := false, composing := false, bands := [] }; v.wr (Reg.HEAD_TSTAT d n) 560#32 };
      (s.dev.usedOn d n = true ∧ (s.dev.half d n).running = true ∧ (s.dev.half d n).failed = false ∧ (s.dev.half d n).hold = false
      ∧ s.dev.tTotal d n ≠ 0 ∧ (s.dev.isSlave d n = false ∨ s.dev.runsAlone d n = true) ∧ (s.dev.tAct d n < (s.dev.nextLine d n) ∧
      s.dev.tAct d n ≤ ((s.dev.nextLine d n) + 16) % s.dev.tTotal d n ∧ (s.dev.nextLine d n) ≠ 0 ∧ (s.dev.nextLine d n) ≠ fget
      (s.dev.rd (Reg.HEAD_TPOINTS d n)) F.HEAD_TPOINTS_NOON ∧ (s.dev.nextLine d n) ≠ s.dev.tAct d n ∧ (s.dev.nextLine d n) ≠ fget
      (s.dev.rd (Reg.HEAD_TPOINTS d n)) F.HEAD_TPOINTS_TWS ∧ (s.dev.nextLine d n) + 16 ≠ s.dev.tTotal d n))) ∧
    (let d : Die := 1; let n : Head := 2; let s : State := State.reset; let s : State :=
      { s with dev := let v := s.dev.wr (Reg.HEAD_TACT d n) 0x50200#32; let v := v.wr (Reg.HEAD_TACT (1 - d.val) n) 0#32; let v := v.wr (Reg.HEAD_TTOTAL d n) 600#32; let v := v.latch (Reg.HEAD_TTOTAL d n); let v := v.wr (Reg.HEAD_TPOINTS d n) 0x2220100#32; let v := { v with cfg := { v.cfg with tiles := [(8 * d + 3, ⟨true, n, 0, 0⟩)] }, spans := [] }; let v := v.wr (Reg.LANE_STAT d 3) 3#32; let v := v.setLane d 3 { v.lane d 3 with causes := [] }; let v := v.setHalf d n { v.half d n with running := true, failed := false, hold := false, first := false, composing := false, bands := [] }; v.wr (Reg.HEAD_TSTAT d n) 300#32 |>.wr Reg.VSP_PWR_STAT 2#32 };
      (s.dev.usedOn d n = true ∧ (s.dev.half d n).running = true ∧ (s.dev.half d n).failed = false ∧ (s.dev.half d n).hold = false
      ∧ s.dev.tTotal d n ≠ 0 ∧ (s.dev.isSlave d n = false ∨ s.dev.runsAlone d n = true) ∧ ((s.dev.nextLine d n) < s.dev.tAct d n ∧
      s.dev.power = 2 ∧ s.dev.halfStopped d n = false ∧ (s.dev.half d n).composing = false ∧ (s.dev.nextLine d n) ≠ 0 ∧
      (s.dev.nextLine d n) ≠ fget (s.dev.rd (Reg.HEAD_TPOINTS d n)) F.HEAD_TPOINTS_NOON ∧ (s.dev.nextLine d n) ≠ s.dev.tAct d n ∧
      (s.dev.nextLine d n) ≠ fget (s.dev.rd (Reg.HEAD_TPOINTS d n)) F.HEAD_TPOINTS_TWS ∧ (s.dev.nextLine d n) + 16 ≠ s.dev.tTotal d
      n))) ∧
    (let d : Die := 1; let n : Head := 2; let q : TileIx := 3; let s : State := State.reset; let s : State :=
      { s with dev := let v := s.dev.wr (Reg.HEAD_TACT d n) 0x50200#32; let v := v.wr (Reg.HEAD_TACT (1 - d.val) n) 0#32; let v := v.wr (Reg.HEAD_TTOTAL d n) 600#32; let v := v.latch (Reg.HEAD_TTOTAL d n); let v := v.wr (Reg.HEAD_TPOINTS d n) 0x2220100#32; let v := { v with cfg := { v.cfg with tiles := [(8 * d + q, ⟨true, n, 0, 0⟩)] }, spans := [(spanKey d q 301 2, [7, 8])] }; let v := v.wr (Reg.LANE_STAT d q) 3#32; let v := v.setLane d q { v.lane d q with causes := [] }; let v := v.setHalf d n { v.half d n with running := true, failed := false, hold := false, first := false, composing := true, bands := [] }; v.wr (Reg.HEAD_TSTAT d n) 300#32 |>.wr Reg.VSP_PWR_STAT 3#32 };
      (s.dev.usedOn d n = true ∧ (s.dev.half d n).running = true ∧ (s.dev.half d n).failed = false ∧ (s.dev.half d n).hold = false
      ∧ s.dev.tTotal d n ≠ 0 ∧ (s.dev.isSlave d n = false ∨ s.dev.runsAlone d n = true) ∧ ((s.dev.nextLine d n) < s.dev.tAct d n ∧
      s.dev.power = 3 ∧ s.dev.halfStopped d n = false ∧ (s.dev.half d n).composing = true ∧ (s.dev.nextLine d n) ≠ 0 ∧
      (s.dev.nextLine d n) ≠ fget (s.dev.rd (Reg.HEAD_TPOINTS d n)) F.HEAD_TPOINTS_NOON ∧ (s.dev.nextLine d n) ≠ s.dev.tAct d n ∧
      (s.dev.nextLine d n) ≠ fget (s.dev.rd (Reg.HEAD_TPOINTS d n)) F.HEAD_TPOINTS_TWS ∧ (s.dev.nextLine d n) + 16 ≠ s.dev.tTotal d
      n ∧ ((s.dev.tilesOf d n).filter (fun q => (s.dev.place d q).row == (s.dev.nextLine d n) / 512)).contains q.val = true ∧
      s.dev.locked d q = true))) := by
  refine ⟨?_, ?_, ?_, ?_, ?_, ?_, ?_⟩ <;> decide +kernel
theorem witness_CorrectionAndMeshesComplete :
    (let d : Die := 1; let n : Head := 2; let v : Word := 0x00640032#32; let s : State := State.reset; let s : State :=
      { s with dev := let w := (s.dev.wr (Reg.HEAD_TACT d n) 0x50200#32).wr (Reg.HEAD_TACT (1 - d.val) n) 0#32; let w := (w.wr (Reg.HEAD_CORR_CFG d n) 1#32).latch (Reg.HEAD_CORR_CFG d n); w.setHalf d n { w.half d n with exempt := true } };
      (s.dev.isMaster d n = true ∧ s.dev.masterOf n = d.val ∧ s.dev.corrSrc n = 1 ∧ ((s.dev.half d n).accepted.all (fun old =>
      (s.dev.half d n).exempt || decide (attDiff ⟨sgn 16 (fget v F.HEAD_CORR_HOST_PITCH), sgn 16 (fget v F.HEAD_CORR_HOST_ROLL),
      s.dev.us⟩ old ≤ s.dev.rdF (Reg.HEAD_CORR_LIMITS d n) F.HEAD_CORR_LIMITS_JUMP)) = true))) ∧
    (let d : Die := 1; let n : Head := 2; let v : Word := 0x00640032#32; let s : State := State.reset; let s : State :=
      { s with dev := let w := (s.dev.wr (Reg.HEAD_TACT d n) 0x50200#32).wr (Reg.HEAD_TACT (1 - d.val) n) 0#32; let w := (w.wr (Reg.HEAD_CORR_CFG d n) 1#32).latch (Reg.HEAD_CORR_CFG d n); (w.wr (Reg.HEAD_CORR_LIMITS d n) 0#32).setHalf d n { w.half d n with exempt := false, jumps := [], accepted := some ⟨20000, 20000, 5⟩ } };
      (s.dev.isMaster d n = true ∧ s.dev.masterOf n = d.val ∧ s.dev.corrSrc n = 1 ∧ ((s.dev.half d n).exempt = false ∧ (s.dev.half
      d n).jumps = [] ∧ (s.dev.half d n).accepted.any (fun old => decide (s.dev.rdF (Reg.HEAD_CORR_LIMITS d n)
      F.HEAD_CORR_LIMITS_JUMP < attDiff ⟨sgn 16 (fget v F.HEAD_CORR_HOST_PITCH), sgn 16 (fget v F.HEAD_CORR_HOST_ROLL), s.dev.us⟩
      old)) = true))) ∧
    (let d : Die := 1; let n : Head := 2; let v : Word := 0x00640032#32; let s : State := State.reset; let s : State :=
      { s with dev := let w := (s.dev.wr (Reg.HEAD_TACT d n) 0x50200#32).wr (Reg.HEAD_TACT (1 - d.val) n) 0#32; let w := (w.wr (Reg.HEAD_CORR_CFG d n) 1#32).latch (Reg.HEAD_CORR_CFG d n); (w.wr (Reg.HEAD_CORR_LIMITS d n) 0#32).setHalf d n { w.half d n with exempt := false, jumps := [⟨sgn 16 (fget v F.HEAD_CORR_HOST_PITCH), sgn 16 (fget v F.HEAD_CORR_HOST_ROLL), s.dev.us⟩, ⟨sgn 16 (fget v F.HEAD_CORR_HOST_PITCH), sgn 16 (fget v F.HEAD_CORR_HOST_ROLL), s.dev.us⟩], accepted := some ⟨20000, 20000, 5⟩ } };
      (s.dev.isMaster d n = true ∧ s.dev.masterOf n = d.val ∧ s.dev.corrSrc n = 1 ∧ ((s.dev.half d n).exempt = false ∧ (s.dev.half
      d n).accepted.any (fun old => decide (s.dev.rdF (Reg.HEAD_CORR_LIMITS d n) F.HEAD_CORR_LIMITS_JUMP < attDiff ⟨sgn 16 (fget v
      F.HEAD_CORR_HOST_PITCH), sgn 16 (fget v F.HEAD_CORR_HOST_ROLL), s.dev.us⟩ old)) = true ∧ 2 ≤ (s.dev.half d n).jumps.length ∧
      (s.dev.half d n).jumps.head?.any (fun b => decide (attDiff ⟨sgn 16 (fget v F.HEAD_CORR_HOST_PITCH), sgn 16 (fget v
      F.HEAD_CORR_HOST_ROLL), s.dev.us⟩ b ≤ s.dev.rdF (Reg.HEAD_CORR_LIMITS d n) F.HEAD_CORR_LIMITS_JUMP)) = true))) ∧
    (let d : Die := 1; let n : Head := 2; let s : State := State.reset; let s : State :=
      { s with dev := let w := (s.dev.wr (Reg.HEAD_TACT d n) 0x50200#32).wr (Reg.HEAD_TACT (1 - d.val) n) 0#32; let w := (w.wr (Reg.HEAD_CORR_CFG d n) 1#32).latch (Reg.HEAD_CORR_CFG d n); w.setHalf d n { w.half d n with stale := none } };
      (s.dev.isMaster d n = true ∧ s.dev.masterOf n = d.val ∧ s.dev.corrSrc n = 1 ∧ ((s.dev.half d n).stale = none))) ∧
    (let rx : List Byte := [1#8, 2#8]; let s : State := State.reset; let s : State :=
      { s with dev := let w := s.dev.wr Reg.HEAD_IMU_CTRL 0x1F#32; let w := (w.wr (Reg.HEAD_IMU_OP 0) 0x20000100#32).wr (Reg.HEAD_IMU_OP 1) 0x20010100#32; let w := (w.wr (Reg.HEAD_IMU_OP 2) 0x50000000#32).wr (Reg.HEAD_IMU_OP 3) 0x51000000#32; let w := (w.wr (Reg.HEAD_IMU_OP 4) 0#32); { w with imu := { w.imu with skip := false } } };
      (s.dev.imuOn = true ∧ s.dev.imu.skip = false ∧ (s.dev.imuScript (BitVec.ofNat 8 (Config.freeValue s.dev.fresh)) rx).script =
      false ∧ (s.dev.imuScript (BitVec.ofNat 8 (Config.freeValue s.dev.fresh)) rx).cmpFail = false ∧ (s.dev.imuScript (BitVec.ofNat
      8 (Config.freeValue s.dev.fresh)) rx).pitch.isSome = true ∧ (s.dev.imuScript (BitVec.ofNat 8 (Config.freeValue s.dev.fresh))
      rx).roll.isSome = true)) ∧
    (let rx : List Byte := [1#8, 2#8]; let s : State := State.reset; let s : State :=
      { s with dev := let w := s.dev.wr Reg.HEAD_IMU_CTRL 0x1F#32; let w := (w.wr (Reg.HEAD_IMU_OP 0) 0x20000100#32).wr (Reg.HEAD_IMU_OP 1) 0x20010100#32; let w := (w.wr (Reg.HEAD_IMU_OP 2) 0x50000000#32).wr (Reg.HEAD_IMU_OP 3) 0#32; let w := (w.wr (Reg.HEAD_IMU_OP 4) 0#32); { w with imu := { w.imu with skip := false } } };
      (s.dev.imuOn = true ∧ s.dev.imu.skip = false ∧ ((s.dev.imuScript (BitVec.ofNat 8 (Config.freeValue s.dev.fresh)) rx).script =
      true ∨ (s.dev.imuScript (BitVec.ofNat 8 (Config.freeValue s.dev.fresh)) rx).cmpFail = true ∨ (s.dev.imuScript (BitVec.ofNat 8
      (Config.freeValue s.dev.fresh)) rx).pitch = none ∨ (s.dev.imuScript (BitVec.ofNat 8 (Config.freeValue s.dev.fresh)) rx).roll
      = none))) ∧
    (let s : State := State.reset; let s : State :=
      { s with dev := let w := s.dev.wr Reg.HEAD_IMU_CTRL 0x1F#32; let w := (w.wr (Reg.HEAD_IMU_OP 0) 0x20000100#32).wr (Reg.HEAD_IMU_OP 1) 0x20010100#32; let w := (w.wr (Reg.HEAD_IMU_OP 2) 0x50000000#32).wr (Reg.HEAD_IMU_OP 3) 0#32; let w := (w.wr (Reg.HEAD_IMU_OP 4) 0#32); { w with imu := { w.imu with skip := true } } };
      (s.dev.imuOn = true ∧ s.dev.imu.skip = true)) ∧
    (let s : State := State.reset; let s : State :=
      { s with dev := let w := s.dev.wr Reg.HEAD_IMU_CTRL 0x1F#32; let w := (w.wr (Reg.HEAD_IMU_OP 0) 0x20000100#32).wr (Reg.HEAD_IMU_OP 1) 0x20010100#32; let w := (w.wr (Reg.HEAD_IMU_OP 2) 0x50000000#32).wr (Reg.HEAD_IMU_OP 3) 0#32; let w := (w.wr (Reg.HEAD_IMU_OP 4) 0#32); { w with imu := { w.imu with skip := false } } };
      (s.dev.imuOn = true)) ∧
    (let s : State := State.reset; (s.dev.imuOn = false)) ∧
    (let s : State := State.reset; let s : State :=
      { s with dev := let w := s.dev.wr Reg.HEAD_IMU_CTRL 0x1F#32; let w := (w.wr (Reg.HEAD_IMU_OP 0) 0x20000100#32).wr (Reg.HEAD_IMU_OP 1) 0x20010100#32; let w := (w.wr (Reg.HEAD_IMU_OP 2) 0x50000000#32).wr (Reg.HEAD_IMU_OP 3) 0#32; let w := (w.wr (Reg.HEAD_IMU_OP 4) 0#32); { w with imu := { w.imu with skip := false } } };
      (s.dev.imuOn = true)) ∧
    (let d : Die := 1; let n : Head := 2; let base : Nat := 0x40000; let s : State := State.reset; let s : State :=
      { s with dev := let w := (s.dev.wr (Reg.HEAD_TACT d n) 0x50200#32).wr (Reg.HEAD_TACT (1 - d.val) n) 0#32; (w.wr (Reg.DRC_STAT d) 0#32).setHalf d n { w.half d n with copy := some base } };
      ((s.dev.half d n).copy = some base ∧ s.dev.isSlave d n = false ∧ s.dev.drcRole d = 0 ∧ base + 8716 ≤ 0x80000000)) := by
  refine ⟨?_, ?_, ?_, ?_, ?_, ?_, ?_, ?_, ?_, ?_, ?_⟩ <;> decide +kernel
theorem witness_BudgetAndCeilingsComplete :
    (let d : Die := 1; let n : Head := 2; let sum : Nat := 70000; let k : Nat := 512; let s : State := State.reset; let s : State
      :=
      { s with dev := ((s.dev.wrB (Reg.FAB_BRG_STAT 0) 1 true).wrB (Reg.FAB_DIE_STAT 0) 1 true).setHalf d n { s.dev.half d n with report := some (sum, k) } };
      ((s.dev.half d n).report = some (sum, k) ∧ s.dev.dieWay d 0 = true)) ∧
    (let d : Die := 1; let n : Head := 2; let s : State := State.reset; let s : State :=
      { s with dev := s.dev.wr (Reg.HEAD_TACT d n) 0x50200#32 }; (s.dev.usedOn d n = true)) ∧
    (let d : Die := 1; let q : Fin 64 := 33; let s : State := State.reset; ((s.dev.ceilAt d q).isRoad = false)) ∧
    (let d : Die := 1; let q : Fin 64 := 33; let s : State := State.reset; ((s.dev.ceilAt d q).isRoad = false)) ∧
    (let d : Die := 1; let q : Fin 64 := 33; let v : Word := 0x00640032#32; let s : State := State.reset; ((s.dev.ceilAt d
      q).isRoad = false ∧ fget v F.PHO_CEIL_CTL_CLASS ≠ 1)) ∧
    (let d : Die := 1; let q : Fin 64 := 33; let f : CeilField := .x; let v : Word := 0x00640032#32; let s : State := State.reset;
      let s : State := { s with dev := s.dev.wrF (Reg.PHO_CEIL_CTL d q) F.PHO_CEIL_CTL_CLASS 1 }; ((s.dev.ceilAt d q).isRoad = true
      ∨ (f = .ctl ∧ fget v F.PHO_CEIL_CTL_CLASS = 1))) := by
  refine ⟨?_, ?_, ?_, ?_, ?_, ?_⟩ <;> decide +kernel
theorem witness_SpanningHeadsAndHoldComplete :
    (let n : Head := 2; let s : State := State.reset; let s : State :=
      { s with dev := let v := (s.dev.wr (Reg.HEAD_TACT 0 n) 0x70400#32).wr (Reg.HEAD_TACT 1 n) 0x60400#32; let v := (v.wr (Reg.HEAD_TTOTAL 0 n) 1100#32).latch (Reg.HEAD_TTOTAL 0 n); let v := (v.wr (Reg.HEAD_TTOTAL 1 n) 1100#32).latch (Reg.HEAD_TTOTAL 1 n); let v := (v.wr (Reg.HEAD_TSTAT 0 n) 200#32).wr (Reg.HEAD_TSTAT 1 n) 200#32; let v := (v.wrB (Reg.FAB_BRG_STAT 0) 0 true); let v := { v with pwr := { v.pwr with lost := [] } }; let v := v.setHalf 0 n { v.half 0 n with running := true, failed := false, first := false }; v.setHalf 1 n { v.half 1 n with running := true, failed := false, first := false, lost := false, hold := false, marks := 4 } };
      (s.dev.isSlave (1 - s.dev.masterOf n) n = true ∧ (s.dev.half (1 - s.dev.masterOf n) n).running = true ∧ (s.dev.half (1 -
      s.dev.masterOf n) n).failed = false ∧ (s.dev.half (1 - s.dev.masterOf n) n).lost = false ∧ (s.dev.half (1 - s.dev.masterOf n)
      n).first = false ∧ (s.dev.half (s.dev.masterOf n) n).running = true ∧ (s.dev.half (s.dev.masterOf n) n).first = false ∧
      s.dev.dieWay (s.dev.masterOf n) (1 - s.dev.masterOf n) = true ∧ s.dev.tTotal (1 - s.dev.masterOf n) n ≠ 0 ∧ s.dev.tLine (1 -
      s.dev.masterOf n) n = s.dev.tLine (s.dev.masterOf n) n)) ∧
    (let n : Head := 2; let s : State := State.reset; let s : State :=
      { s with dev := let v := (s.dev.wr (Reg.HEAD_TACT 0 n) 0x70400#32).wr (Reg.HEAD_TACT 1 n) 0x60400#32; let v := (v.wr (Reg.HEAD_TTOTAL 0 n) 1100#32).latch (Reg.HEAD_TTOTAL 0 n); let v := (v.wr (Reg.HEAD_TTOTAL 1 n) 1100#32).latch (Reg.HEAD_TTOTAL 1 n); let v := (v.wr (Reg.HEAD_TSTAT 0 n) 200#32).wr (Reg.HEAD_TSTAT 1 n) 200#32; let v := (v.wrB (Reg.FAB_BRG_STAT 0) 0 true); let v := { v with pwr := { v.pwr with lost := [] } }; let v := v.setHalf 0 n { v.half 0 n with running := true, failed := false, first := false }; v.setHalf 1 n { v.half 1 n with running := true, failed := false, first := false, lost := false, hold := false, marks := 4 } };
      (s.dev.isSlave (1 - s.dev.masterOf n) n = true ∧ (s.dev.half (1 - s.dev.masterOf n) n).running = true ∧ (s.dev.half (1 -
      s.dev.masterOf n) n).lost = false)) ∧
    (let d : Die := 1; let n : Head := 2; let s : State := State.reset; let s : State :=
      { s with dev := ((s.dev.wr (Reg.HEAD_TACT d n) 0x50200#32).wr (Reg.HEAD_TACT (1 - d.val) n) 0#32).setHalf d n { s.dev.half d n with hold := true, awaited := [], running := true, failed := false } };
      ((s.dev.half d n).hold = true)) ∧
    (let d : Die := 1; let n : Head := 2; let s : State := State.reset; let s : State :=
      { s with dev := ((s.dev.wr (Reg.HEAD_TACT d n) 0x50200#32).wr (Reg.HEAD_TACT (1 - d.val) n) 0#32).setHalf d n { s.dev.half d n with hold := true, awaited := [], running := true, failed := false } };
      (s.dev.isMaster d n = true ∧ s.dev.dieWay d d = true ∧ (s.dev.half d n).hold = true)) ∧
    (let d : Die := 1; let n : Head := 2; let s : State := State.reset; let s : State :=
      { s with dev := let v := s.dev.wr (Reg.HEAD_TACT d n) 0x50200#32; let v := v.wr (Reg.HEAD_TACT (1 - d.val) n) 0#32; let v := v.wr (Reg.HEAD_TTOTAL d n) 600#32; let v := v.latch (Reg.HEAD_TTOTAL d n); let v := v.wr (Reg.HEAD_TPOINTS d n) 0x2220100#32; let v := { v with cfg := { v.cfg with tiles := [(8 * d + 3, ⟨true, n, 0, 0⟩)] }, spans := [] }; let v := v.wr (Reg.LANE_STAT d 3) 3#32; let v := v.setLane d 3 { v.lane d 3 with causes := [] }; let v := v.setHalf d n { v.half d n with running := true, failed := false, hold := false, first := false, composing := false, bands := [] }; v.wr (Reg.HEAD_TSTAT d n) 20#32 };
      (s.dev.usedOn d n = true ∧ (s.dev.half d n).running = true ∧ (s.dev.half d n).failed = false)) := by
  refine ⟨?_, ?_, ?_, ?_, ?_⟩ <;> decide +kernel
theorem witness_TrainingComplete :
    (let d : Die := 1; let n : LaneIx := 4; let s : State := State.reset; let s : State :=
      { s with dev := (let w := (s.dev.wr (Reg.LANE_STAT d n) (fset 2#32 F.LANE_STAT_PHASE 0)).wr (Reg.LANE_ALIGN_CTRL d n) 0#32; let w := w.wrF (Reg.LANE_Q_STAT d (quadOf n)) F.LANE_Q_STAT_PLL_LOCK 1; let w := w.wrF (Reg.LANE_CFG d n) F.LANE_CFG_USE 1;  w.setLane d n { w.lane d n with sets := 3, everLocked := true }) };
      (s.dev.laneState d n = 2 ∧ s.dev.rdF (Reg.LANE_STAT d n) F.LANE_STAT_PHASE = 0)) ∧
    (let d : Die := 1; let n : LaneIx := 4; let rx : RxSyms := ⟨false, 0, [250#10, 341#10, 395#10, 395#10, 788#10, 628#10, 628#10,
      628#10, 628#10, 628#10, 682#10, 682#10, 682#10, 682#10, 682#10, 461#10]⟩; let s : State := State.reset; let s : State :=
      { s with dev := (let w := (s.dev.wr (Reg.LANE_STAT d n) (fset 2#32 F.LANE_STAT_PHASE 1)).wr (Reg.LANE_ALIGN_CTRL d n) 0#32; let w := w.wrF (Reg.LANE_Q_STAT d (quadOf n)) F.LANE_Q_STAT_PLL_LOCK 1; let w := w.wrF (Reg.LANE_CFG d n) F.LANE_CFG_USE 1;  w.setLane d n { w.lane d n with sets := 3, everLocked := true }) };
      (s.dev.laneState d n = 2 ∧ s.dev.rdF (Reg.LANE_STAT d n) F.LANE_STAT_PHASE = 1 ∧ ts1Valid (symsOf rx) = true ∧ rx.pos = 0 ∧
      (s.dev.lane d n).sets = 3)) ∧
    (let d : Die := 1; let n : LaneIx := 4; let rx : RxSyms := ⟨false, 3, [250#10, 341#10, 395#10, 395#10, 788#10, 628#10, 628#10,
      628#10, 628#10, 628#10, 682#10, 682#10, 682#10, 682#10, 682#10, 461#10]⟩; let s : State := State.reset; let s : State :=
      { s with dev := (let w := (s.dev.wr (Reg.LANE_STAT d n) (fset 2#32 F.LANE_STAT_PHASE 1)).wr (Reg.LANE_ALIGN_CTRL d n) 0#32; let w := w.wrF (Reg.LANE_Q_STAT d (quadOf n)) F.LANE_Q_STAT_PLL_LOCK 1; let w := w.wrF (Reg.LANE_CFG d n) F.LANE_CFG_USE 1;  w.setLane d n { w.lane d n with sets := 3, everLocked := true }) };
      (s.dev.laneState d n = 2 ∧ s.dev.rdF (Reg.LANE_STAT d n) F.LANE_STAT_PHASE = 1 ∧ rx.pos ≠ 0)) ∧
    (let d : Die := 1; let n : LaneIx := 4; let s : State := State.reset; let s : State :=
      { s with dev := (let w := (s.dev.wr (Reg.LANE_STAT d n) (fset 2#32 F.LANE_STAT_PHASE 2)).wr (Reg.LANE_ALIGN_CTRL d n) 0#32; let w := w.wrF (Reg.LANE_Q_STAT d (quadOf n)) F.LANE_Q_STAT_PLL_LOCK 1; let w := w.wrF (Reg.LANE_CFG d n) F.LANE_CFG_USE 1;  w.setLane d n { w.lane d n with sets := 3, everLocked := true }) };
      (s.dev.laneState d n = 2 ∧ 2 ≤ s.dev.rdF (Reg.LANE_STAT d n) F.LANE_STAT_PHASE)) ∧
    (let d : Die := 1; let n : LaneIx := 4; let rx : RxSyms := ⟨false, 0, [250#10, 341#10, 395#10, 395#10, 788#10, 628#10, 628#10,
      628#10, 628#10, 628#10, 682#10, 682#10, 682#10, 682#10, 682#10, 461#10]⟩; let s : State := State.reset; let s : State :=
      { s with dev := (let w := (s.dev.wr (Reg.LANE_STAT d n) 3#32).wr (Reg.LANE_ALIGN_CTRL d n) 0#32; let w := w.wrF (Reg.LANE_Q_STAT d (quadOf n)) F.LANE_Q_STAT_PLL_LOCK 1; let w := w.wrF (Reg.LANE_CFG d n) F.LANE_CFG_USE 1;  w.setLane d n { w.lane d n with sets := 1, everLocked := true }) };
      (s.dev.laneState d n = 3 ∧ ts1Valid (symsOf rx) = true ∧ (s.dev.lane d n).sets = 1)) ∧
    (let d : Die := 1; let n : LaneIx := 4; let s : State := State.reset; let s : State :=
      { s with dev := (let w := (s.dev.wr (Reg.LANE_STAT d n) 3#32).wr (Reg.LANE_ALIGN_CTRL d n) 0#32; let w := w.wrF (Reg.LANE_Q_STAT d (quadOf n)) F.LANE_Q_STAT_PLL_LOCK 1; let w := w.wrF (Reg.LANE_CFG d n) F.LANE_CFG_USE 1;  w.setLane d n { w.lane d n with sets := 0, everLocked := true }) };
      (s.dev.laneState d n = 3 ∧ (s.dev.lane d n).sets = 0)) ∧
    (let d : Die := 1; let n : LaneIx := 4; let s : State := State.reset; let s : State :=
      { s with dev := (let w := (s.dev.wr (Reg.LANE_STAT d n) 1#32).wr (Reg.LANE_ALIGN_CTRL d n) 0#32; let w := w.wrF (Reg.LANE_Q_STAT d (quadOf n)) F.LANE_Q_STAT_PLL_LOCK 1; let w := w.wrF (Reg.LANE_CFG d n) F.LANE_CFG_USE 1;  w.setLane d n { w.lane d n with sets := 3, everLocked := true }) };
      (s.dev.laneState d n = 0 ∨ s.dev.laneState d n = 1)) ∧
    (let d : Die := 1; let n : LaneIx := 4; let cdr : Bool := true; let s : State := State.reset; let s : State :=
      { s with dev := (let w := (s.dev.wr (Reg.LANE_STAT d n) (fset 2#32 F.LANE_STAT_PHASE 0)).wr (Reg.LANE_ALIGN_CTRL d n) 0#32; let w := w.wrF (Reg.LANE_Q_STAT d (quadOf n)) F.LANE_Q_STAT_PLL_LOCK 1; let w := w.wrF (Reg.LANE_CFG d n) F.LANE_CFG_USE 1;  w.setLane d n { w.lane d n with sets := 8, everLocked := true }) };
      (s.dev.laneState d n = 2 ∧ (s.dev.rdF (Reg.LANE_STAT d n) F.LANE_STAT_PHASE = 0 ∧ cdr = true ∧ 8 ≤ (s.dev.lane d n).sets))) ∧
    (let d : Die := 1; let n : LaneIx := 4; let s : State := State.reset; let s : State :=
      { s with dev := (let w := (s.dev.wr (Reg.LANE_STAT d n) (fset 2#32 F.LANE_STAT_PHASE 1)).wr (Reg.LANE_ALIGN_CTRL d n) 0#32; let w := w.wrF (Reg.LANE_Q_STAT d (quadOf n)) F.LANE_Q_STAT_PLL_LOCK 1; let w := w.wrF (Reg.LANE_CFG d n) F.LANE_CFG_USE 1; let w := w.wrF (Reg.LANE_ALIGN_STAT d n) F.LANE_ALIGN_STAT_ALIGNED 1; w.setLane d n { w.lane d n with sets := 4, everLocked := true }) };
      (s.dev.laneState d n = 2 ∧ (s.dev.rdF (Reg.LANE_STAT d n) F.LANE_STAT_PHASE = 1 ∧ s.dev.rdF (Reg.LANE_ALIGN_STAT d n)
      F.LANE_ALIGN_STAT_ALIGNED = 1 ∧ s.dev.rdF (Reg.LANE_ALIGN_CTRL d n) F.LANE_ALIGN_CTRL_SLIP_MODE = 0))) ∧
    (let d : Die := 1; let n : LaneIx := 4; let s : State := State.reset; let s : State :=
      { s with dev := (let w := (s.dev.wr (Reg.LANE_STAT d n) (fset 2#32 F.LANE_STAT_PHASE 2)).wr (Reg.LANE_ALIGN_CTRL d n) 0#32; let w := w.wrF (Reg.LANE_Q_STAT d (quadOf n)) F.LANE_Q_STAT_PLL_LOCK 1; let w := w.wrF (Reg.LANE_CFG d n) F.LANE_CFG_USE 1;  w.setLane d n { w.lane d n with sets := 3, everLocked := true, tr := { TrainH.init with results := List.replicate 5 (false, 1) ++ List.replicate 11 (true, 70), blk := 0 } }) };
      (s.dev.laneState d n = 2 ∧ (s.dev.rdF (Reg.LANE_STAT d n) F.LANE_STAT_PHASE = 2 ∧ 16 ≤ (s.dev.lane d n).tr.results.length ∧
      (chooseCtle ((s.dev.lane d n).tr.results.map Prod.fst) (s.dev.rdF (Reg.LANE_CFG d n) F.LANE_CFG_CTLE0)).isSome = true))) ∧
    (let d : Die := 1; let n : LaneIx := 4; let s : State := State.reset; let s : State :=
      { s with dev := (let w := (s.dev.wr (Reg.LANE_STAT d n) (fset 2#32 F.LANE_STAT_PHASE 3)).wr (Reg.LANE_ALIGN_CTRL d n) 0#32; let w := w.wrF (Reg.LANE_Q_STAT d (quadOf n)) F.LANE_Q_STAT_PLL_LOCK 1; let w := w.wrF (Reg.LANE_CFG d n) F.LANE_CFG_USE 1;  w.setLane d n { w.lane d n with sets := 3, everLocked := true, tr := { TrainH.init with results := List.replicate 5 (false, 1) ++ List.replicate 11 (true, 70), blk := 0 } }) };
      (s.dev.laneState d n = 2 ∧ (s.dev.rdF (Reg.LANE_STAT d n) F.LANE_STAT_PHASE = 3 ∧ 8 ≤ (s.dev.lane d n).tr.results.length ∧
      (choosePreset (s.dev.lane d n).tr.results (s.dev.rdF (Reg.LANE_CFG d n) F.LANE_CFG_TXPRE0)).isSome = true))) ∧
    (let d : Die := 1; let n : LaneIx := 4; let s : State := State.reset; let s : State :=
      { s with dev := (let w := (s.dev.wr (Reg.LANE_STAT d n) (fset 2#32 F.LANE_STAT_PHASE 4)).wr (Reg.LANE_ALIGN_CTRL d n) 0#32; let w := w.wrF (Reg.LANE_Q_STAT d (quadOf n)) F.LANE_Q_STAT_PLL_LOCK 1; let w := w.wrF (Reg.LANE_CFG d n) F.LANE_CFG_USE 1;  w.setLane d n { w.lane d n with sets := 3, everLocked := true, tr := { TrainH.init with results := [], blk := 1024 } }) };
      (s.dev.laneState d n = 2 ∧ (s.dev.rdF (Reg.LANE_STAT d n) F.LANE_STAT_PHASE = 4 ∧ 1024 ≤ (s.dev.lane d n).tr.blk))) ∧
    (let d : Die := 1; let n : LaneIx := 4; let s : State := State.reset; let s : State :=
      { s with dev := (let w := (s.dev.wr (Reg.LANE_STAT d n) (fset 2#32 F.LANE_STAT_PHASE 5)).wr (Reg.LANE_ALIGN_CTRL d n) 0#32; let w := w.wrF (Reg.LANE_Q_STAT d (quadOf n)) F.LANE_Q_STAT_PLL_LOCK 1; let w := w.wrF (Reg.LANE_CFG d n) F.LANE_CFG_USE 1;  w.setLane d n { w.lane d n with sets := 3, everLocked := true }) };
      (s.dev.laneState d n = 2 ∧ (s.dev.rdF (Reg.LANE_STAT d n) F.LANE_STAT_PHASE = 5))) ∧
    (let d : Die := 1; let n : LaneIx := 4; let s : State := State.reset; let s : State :=
      { s with dev := (let w := (s.dev.wr (Reg.LANE_STAT d n) (fset 2#32 F.LANE_STAT_PHASE 0)).wr (Reg.LANE_ALIGN_CTRL d n) 0#32; let w := w.wrF (Reg.LANE_Q_STAT d (quadOf n)) F.LANE_Q_STAT_PLL_LOCK 1; let w := w.wrF (Reg.LANE_CFG d n) F.LANE_CFG_USE 1;  w.setLane d n { w.lane d n with sets := 3, everLocked := true, attempt := 1 }) };
      (s.dev.laneState d n = 2 ∧ ((s.dev.lane d n).attempt = 1 ∧ (s.dev.rdF (Reg.LANE_STAT d n) F.LANE_STAT_PHASE = 1 → s.dev.rdF
      (Reg.LANE_ALIGN_CTRL d n) F.LANE_ALIGN_CTRL_SLIP_MODE = 0)))) ∧
    (let d : Die := 1; let n : LaneIx := 4; let s : State := State.reset; let s : State :=
      { s with dev := (let w := (s.dev.wr (Reg.LANE_STAT d n) (fset 2#32 F.LANE_STAT_PHASE 5)).wr (Reg.LANE_ALIGN_CTRL d n) 0#32; let w := w.wrF (Reg.LANE_Q_STAT d (quadOf n)) F.LANE_Q_STAT_PLL_LOCK 1; let w := w.wrF (Reg.LANE_CFG d n) F.LANE_CFG_USE 1;  w.setLane d n { w.lane d n with sets := 3, everLocked := true, attempt := 3 }) };
      (s.dev.laneState d n = 2 ∧ ((s.dev.lane d n).attempt = 3 ∧ (s.dev.rdF (Reg.LANE_STAT d n) F.LANE_STAT_PHASE = 1 → s.dev.rdF
      (Reg.LANE_ALIGN_CTRL d n) F.LANE_ALIGN_CTRL_SLIP_MODE = 0)))) := by
  refine ⟨?_, ?_, ?_, ?_, ?_, ?_, ?_, ?_, ?_, ?_, ?_, ?_, ?_, ?_, ?_⟩ <;> decide +kernel
theorem witness_LaneCommandsComplete :
    (let d : Die := 1; let n : LaneIx := 4; let b : Fin 16 := 9; let s : State := State.reset; let s : State :=
      { s with dev := (let w := (s.dev.wr (Reg.LANE_STAT d n) (fset 2#32 F.LANE_STAT_PHASE 1)).wr (Reg.LANE_ALIGN_CTRL d n) 0#32; let w := w.wrF (Reg.LANE_Q_STAT d (quadOf n)) F.LANE_Q_STAT_PLL_LOCK 1; let w := w.wrF (Reg.LANE_CFG d n) F.LANE_CFG_USE 1; let w := w.wrF (Reg.LANE_ALIGN_CTRL d n) F.LANE_ALIGN_CTRL_SLIP_MODE 1; w.setLane d n { w.lane d n with sets := 3, everLocked := true }) };
      (s.dev.inSlice d (laneBlock d n) = false) ∧ (s.dev.laneState d n = 2 ∧ s.dev.rdF (Reg.LANE_STAT d n) F.LANE_STAT_PHASE = 1 ∧
      s.dev.rdF (Reg.LANE_ALIGN_CTRL d n) F.LANE_ALIGN_CTRL_SLIP_MODE = 1 ∧ b.val ≤ 9)) ∧
    (let d : Die := 1; let n : LaneIx := 4; let s : State := State.reset; let s : State :=
      { s with dev := (let w := (s.dev.wr (Reg.LANE_STAT d n) (fset 2#32 F.LANE_STAT_PHASE 1)).wr (Reg.LANE_ALIGN_CTRL d n) 0#32; let w := w.wrF (Reg.LANE_Q_STAT d (quadOf n)) F.LANE_Q_STAT_PLL_LOCK 1; let w := w.wrF (Reg.LANE_CFG d n) F.LANE_CFG_USE 1; let w := w.wrF (Reg.LANE_ALIGN_CTRL d n) F.LANE_ALIGN_CTRL_SLIP_MODE 1;let w := w.wrF (Reg.LANE_ALIGN_STAT d n) F.LANE_ALIGN_STAT_ALIGNED 1; w.setLane d n { w.lane d n with sets := 3, everLocked := true }) };
      (s.dev.inSlice d (laneBlock d n) = false) ∧ (s.dev.laneState d n = 2 ∧ s.dev.rdF (Reg.LANE_STAT d n) F.LANE_STAT_PHASE = 1 ∧
      s.dev.rdF (Reg.LANE_ALIGN_CTRL d n) F.LANE_ALIGN_CTRL_SLIP_MODE = 1 ∧ s.dev.rdF (Reg.LANE_ALIGN_STAT d n)
      F.LANE_ALIGN_STAT_ALIGNED = 1)) ∧
    (let d : Die := 1; let n : LaneIx := 4; let s : State := State.reset; let s : State :=
      { s with dev := (let w := (s.dev.wr (Reg.LANE_STAT d n) 3#32).wr (Reg.LANE_ALIGN_CTRL d n) 0#32; let w := w.wrF (Reg.LANE_Q_STAT d (quadOf n)) F.LANE_Q_STAT_PLL_LOCK 1; let w := w.wrF (Reg.LANE_CFG d n) F.LANE_CFG_USE 1;  w.setLane d n { w.lane d n with sets := 3, everLocked := true }) };
      (s.dev.inSlice d (laneBlock d n) = false) ∧ ((s.dev.laneState d n = 2 ∨ s.dev.laneState d n = 3 ∨ s.dev.laneState d n = 4) ∧
      s.dev.rdF (Reg.LANE_Q_STAT d (quadOf n)) F.LANE_Q_STAT_PLL_LOCK = 1 ∧ s.dev.rdF (Reg.LANE_CFG d n) F.LANE_CFG_USE ≠ 0 ∧
      (s.dev.lane d n).everLocked = true)) ∧
    (let d : Die := 1; let n : LaneIx := 4; let s : State := State.reset; let s : State :=
      { s with dev := (let w := (s.dev.wr (Reg.LANE_STAT d n) 4#32).wr (Reg.LANE_ALIGN_CTRL d n) 0#32; let w := w.wrF (Reg.LANE_Q_STAT d (quadOf n)) F.LANE_Q_STAT_PLL_LOCK 1; let w := w.wrF (Reg.LANE_CFG d n) F.LANE_CFG_USE 1;  w.setLane d n { w.lane d n with sets := 3, everLocked := true }) };
      (s.dev.inSlice d (laneBlock d n) = false) ∧ ((s.dev.laneState d n = 2 ∨ s.dev.laneState d n = 3 ∨ s.dev.laneState d n = 4) ∧
      s.dev.rdF (Reg.LANE_Q_STAT d (quadOf n)) F.LANE_Q_STAT_PLL_LOCK = 1 ∧ s.dev.rdF (Reg.LANE_CFG d n) F.LANE_CFG_USE ≠ 0)) ∧
    (let d : Die := 1; let n : LaneIx := 4; let s : State := State.reset; let s : State :=
      { s with dev := (let w := (s.dev.wr (Reg.LANE_STAT d n) 0#32).wr (Reg.LANE_ALIGN_CTRL d n) 0#32; let w := w.wrF (Reg.LANE_Q_STAT d (quadOf n)) F.LANE_Q_STAT_PLL_LOCK 1; let w := w.wrF (Reg.LANE_CFG d n) F.LANE_CFG_USE 1;  w.setLane d n { w.lane d n with sets := 3, everLocked := true }) };
      (s.dev.inSlice d (laneBlock d n) = false) ∧ (s.dev.rdF (Reg.LANE_CFG d n) F.LANE_CFG_USE ≠ 0 ∧ (s.dev.laneState d n = 0 ∨
      s.dev.laneState d n = 4) ∧ s.dev.isHeld (laneBlock d n) = false ∧ s.dev.rdF (Reg.LANE_Q_STAT d (quadOf n))
      F.LANE_Q_STAT_PLL_LOCK = 1)) ∧
    (let d : Die := 1; let n : LaneIx := 4; let s : State := State.reset; (s.dev.inSlice d (laneBlock d n) = false)) := by
  refine ⟨?_, ?_, ?_, ?_, ?_, ?_⟩ <;> decide +kernel
theorem witness_LockAndRatesComplete :
    (let d : Die := 1; let n : LaneIx := 4; let s : State := State.reset; let s : State :=
      { s with dev := (let w := (s.dev.wr (Reg.LANE_STAT d n) 3#32).wr (Reg.LANE_ALIGN_CTRL d n) 0#32; let w := w.wrF (Reg.LANE_Q_STAT d (quadOf n)) F.LANE_Q_STAT_PLL_LOCK 1; let w := w.wrF (Reg.LANE_CFG d n) F.LANE_CFG_USE 1;  w.setLane d n { w.lane d n with sets := 3, everLocked := true }) };
      (s.dev.laneState d n = 3 ∧ s.dev.rdF (Reg.LANE_Q_STAT d (quadOf n)) F.LANE_Q_STAT_PLL_LOCK = 1 ∧ s.dev.rdF (Reg.LANE_CFG d n)
      F.LANE_CFG_USE ≠ 0)) ∧
    (let d : Die := 1; let n : LaneIx := 4; let s : State := State.reset; let s : State :=
      { s with dev := (let w := (s.dev.wr (Reg.LANE_STAT d n) 5#32).wr (Reg.LANE_ALIGN_CTRL d n) 0#32; let w := w.wrF (Reg.LANE_Q_STAT d (quadOf n)) F.LANE_Q_STAT_PLL_LOCK 1; let w := w.wrF (Reg.LANE_CFG d n) F.LANE_CFG_USE 1;  w.setLane d n { w.lane d n with sets := 3, everLocked := true }) };
      (s.dev.laneState d n = 5)) ∧
    (let d : Die := 1; let n : LaneIx := 4; let s : State := State.reset; let s : State :=
      { s with dev := (let w := (s.dev.wr (Reg.LANE_STAT d n) 2#32).wr (Reg.LANE_ALIGN_CTRL d n) 0#32; let w := w.wrF (Reg.LANE_Q_STAT d (quadOf n)) F.LANE_Q_STAT_PLL_LOCK 1; let w := w.wrF (Reg.LANE_CFG d n) F.LANE_CFG_USE 1;  w.setLane d n { w.lane d n with sets := 3, everLocked := true }) };
      (s.dev.laneState d n ≠ 3 ∧ s.dev.laneState d n ≠ 5)) ∧
    (let d : Die := 1; let n : LaneIx := 4; let s : State := State.reset; let s : State :=
      { s with dev := (let w := (s.dev.wr (Reg.LANE_STAT d n) 4#32).wr (Reg.LANE_ALIGN_CTRL d n) 0#32; let w := w.wrF (Reg.LANE_Q_STAT d (quadOf n)) F.LANE_Q_STAT_PLL_LOCK 1; let w := w.wrF (Reg.LANE_CFG d n) F.LANE_CFG_USE 1;  w.setLane d n { w.lane d n with sets := 3, everLocked := true, retryAt := some 5 }) };
      (s.dev.laneState d n = 4 ∧ (s.dev.lane d n).retryAt.isSome = true ∧ s.dev.rdF (Reg.LANE_Q_STAT d (quadOf n))
      F.LANE_Q_STAT_PLL_LOCK = 1 ∧ s.dev.rdF (Reg.LANE_CFG d n) F.LANE_CFG_USE ≠ 0)) ∧
    (let d : Die := 1; let n : LaneIx := 4; let k : Fin 9 := 3; let drift : Int := -4; let s : State := State.reset; let s : State
      :=
      { s with dev := (let w := (s.dev.wr (Reg.LANE_STAT d n) 3#32).wr (Reg.LANE_ALIGN_CTRL d n) 0#32; let w := w.wrF (Reg.LANE_Q_STAT d (quadOf n)) F.LANE_Q_STAT_PLL_LOCK 1; let w := w.wrF (Reg.LANE_CFG d n) F.LANE_CFG_USE 1;  w.setLane d n { w.lane d n with sets := 3, everLocked := true, fill := 16 }) };
      (2 ≤ s.dev.laneState d n ∧ ¬(s.dev.laneState d n = 2 ∧ s.dev.rdF (Reg.LANE_STAT d n) F.LANE_STAT_PHASE = 4) ∧ k ≠ 0 ∧ 0 ≤
      ((s.dev.lane d n).fill : Int) + drift ∧ ((s.dev.lane d n).fill : Int) + drift ≤ 32)) ∧
    (let d : Die := 1; let n : LaneIx := 4; let k : Fin 9 := 3; let drift : Int := -4; let s : State := State.reset; let s : State
      :=
      { s with dev := (let w := (s.dev.wr (Reg.LANE_STAT d n) 3#32).wr (Reg.LANE_ALIGN_CTRL d n) 0#32; let w := w.wrF (Reg.LANE_Q_STAT d (quadOf n)) F.LANE_Q_STAT_PLL_LOCK 1; let w := w.wrF (Reg.LANE_CFG d n) F.LANE_CFG_USE 1;  w.setLane d n { w.lane d n with sets := 3, everLocked := true, fill := 16 }) };
      (s.dev.laneState d n = 3 ∧ k ≠ 0 ∧ 0 ≤ ((s.dev.lane d n).fill : Int) + drift ∧ ((s.dev.lane d n).fill : Int) + drift ≤ 32)) ∧
    (let d : Die := 1; let n : LaneIx := 4; let k : Fin 9 := 3; let drift : Int := -4; let s : State := State.reset; let s : State
      :=
      { s with dev := (let w := (s.dev.wr (Reg.LANE_STAT d n) (fset 2#32 F.LANE_STAT_PHASE 2)).wr (Reg.LANE_ALIGN_CTRL d n) 0#32; let w := w.wrF (Reg.LANE_Q_STAT d (quadOf n)) F.LANE_Q_STAT_PLL_LOCK 1; let w := w.wrF (Reg.LANE_CFG d n) F.LANE_CFG_USE 1;  w.setLane d n { w.lane d n with sets := 3, everLocked := true, fill := 16, tr := { TrainH.init with results := [], blk := 7 } }) };
      (s.dev.laneState d n = 2 ∧ s.dev.rdF (Reg.LANE_STAT d n) F.LANE_STAT_PHASE = 2 ∧ (s.dev.lane d n).tr.results.length < 16 ∧
      (s.dev.lane d n).tr.blk < 79 ∧ k ≠ 0 ∧ 0 ≤ ((s.dev.lane d n).fill : Int) + drift ∧ ((s.dev.lane d n).fill : Int) + drift ≤
      32)) ∧
    (let d : Die := 1; let n : LaneIx := 4; let k : Fin 9 := 3; let drift : Int := -4; let s : State := State.reset; let s : State
      :=
      { s with dev := (let w := (s.dev.wr (Reg.LANE_STAT d n) 3#32).wr (Reg.LANE_ALIGN_CTRL d n) 0#32; let w := w.wrF (Reg.LANE_Q_STAT d (quadOf n)) F.LANE_Q_STAT_PLL_LOCK 1; let w := w.wrF (Reg.LANE_CFG d n) F.LANE_CFG_USE 1;  w.setLane d n { w.lane d n with sets := 3, everLocked := true, fill := 3 }) };
      (s.dev.laneState d n = 3 ∧ k ≠ 0 ∧ (((s.dev.lane d n).fill : Int) + drift < 0 ∨ 32 < ((s.dev.lane d n).fill : Int) + drift))) ∧
    (let d : Die := 1; let n : LaneIx := 4; let k : Fin 9 := 3; let s : State := State.reset; let s : State :=
      { s with dev := (let w := (s.dev.wr (Reg.LANE_STAT d n) 1#32).wr (Reg.LANE_ALIGN_CTRL d n) 0#32; let w := w.wrF (Reg.LANE_Q_STAT d (quadOf n)) F.LANE_Q_STAT_PLL_LOCK 1; let w := w.wrF (Reg.LANE_CFG d n) F.LANE_CFG_USE 1;  w.setLane d n { w.lane d n with sets := 3, everLocked := true }) };
      (s.dev.laneState d n < 2 ∨ k = 0)) ∧
    (let d : Die := 1; let n : LaneIx := 4; let s : State := State.reset; let s : State :=
      { s with dev := (let w := (s.dev.wr (Reg.LANE_STAT d n) 5#32).wr (Reg.LANE_ALIGN_CTRL d n) 0#32; let w := w.wrF (Reg.LANE_Q_STAT d (quadOf n)) F.LANE_Q_STAT_PLL_LOCK 1; let w := w.wrF (Reg.LANE_CFG d n) F.LANE_CFG_USE 1;  w.setLane d n { w.lane d n with sets := 3, everLocked := true, lb := 3 }) };
      (s.dev.laneState d n = 2 ∨ (s.dev.laneState d n = 3 ∧ (s.dev.lane d n).sending = false) ∨ (s.dev.laneState d n = 5 ∧
      (s.dev.lane d n).lb = 3))) ∧
    (let d : Die := 1; let n : LaneIx := 4; let s : State := State.reset; let s : State :=
      { s with dev := (let w := (s.dev.wr (Reg.LANE_STAT d n) 3#32).wr (Reg.LANE_ALIGN_CTRL d n) 0#32; let w := w.wrF (Reg.LANE_Q_STAT d (quadOf n)) F.LANE_Q_STAT_PLL_LOCK 1; let w := w.wrF (Reg.LANE_CFG d n) F.LANE_CFG_USE 1;  w.setLane d n { w.lane d n with sets := 3, everLocked := true, sending := true }) };
      ((s.dev.laneState d n = 3 ∧ (s.dev.lane d n).sending = true) ∨ (s.dev.laneState d n = 5 ∧ (s.dev.lane d n).lb ≠ 3) ∨
      s.dev.laneState d n < 2 ∨ s.dev.laneState d n = 4)) := by
  refine ⟨?_, ?_, ?_, ?_, ?_, ?_, ?_, ?_, ?_, ?_, ?_⟩ <;> decide +kernel
theorem witness_LoopbacksAndScansComplete :
    (let d : Die := 1; let n : LaneIx := 4; let v : Word := 1#32; let s : State := State.reset; let s : State :=
      { s with dev := (let w := (s.dev.wr (Reg.LANE_STAT d n) 0#32).wr (Reg.LANE_ALIGN_CTRL d n) 0#32; let w := w.wrF (Reg.LANE_Q_STAT d (quadOf n)) F.LANE_Q_STAT_PLL_LOCK 1; let w := w.wrF (Reg.LANE_CFG d n) F.LANE_CFG_USE 1;  w.setLane d n { w.lane d n with sets := 3, everLocked := true }) };
      (s.dev.inSlice d (laneBlock d n) = false) ∧ (s.dev.laneState d n ≠ 1 ∧ (fget v F.LANE_LB_CTRL_MODE = 1 ∨ fget v
      F.LANE_LB_CTRL_MODE = 2))) ∧
    (let d : Die := 1; let n : LaneIx := 4; let w : Word := 3#32; let s : State := State.reset; let s : State :=
      { s with dev := (let w := (s.dev.wr (Reg.LANE_STAT d n) 3#32).wr (Reg.LANE_ALIGN_CTRL d n) 0#32; let w := w.wrF (Reg.LANE_Q_STAT d (quadOf n)) F.LANE_Q_STAT_PLL_LOCK 1; let w := w.wrF (Reg.LANE_CFG d n) F.LANE_CFG_USE 1;  w.setLane d n { w.lane d n with sets := 3, everLocked := true }) };
      (s.dev.inSlice d (laneBlock d n) = false) ∧ (s.dev.laneState d n = 3 ∧ fget w F.LANE_LB_CTRL_MODE = 3)) ∧
    (let d : Die := 1; let n : LaneIx := 4; let w : Word := 3#32; let s : State := State.reset; let s : State :=
      { s with dev := (let w := (s.dev.wr (Reg.LANE_STAT d n) 2#32).wr (Reg.LANE_ALIGN_CTRL d n) 0#32; let w := w.wrF (Reg.LANE_Q_STAT d (quadOf n)) F.LANE_Q_STAT_PLL_LOCK 1; let w := w.wrF (Reg.LANE_CFG d n) F.LANE_CFG_USE 1;  w.setLane d n { w.lane d n with sets := 3, everLocked := true }) };
      (s.dev.inSlice d (laneBlock d n) = false) ∧ (s.dev.laneState d n ≠ 3 ∧ fget w F.LANE_LB_CTRL_MODE = 3)) ∧
    (let d : Die := 1; let n : LaneIx := 4; let s : State := State.reset; let s : State :=
      { s with dev := (let w := (s.dev.wr (Reg.LANE_STAT d n) 5#32).wr (Reg.LANE_ALIGN_CTRL d n) 0#32; let w := w.wrF (Reg.LANE_Q_STAT d (quadOf n)) F.LANE_Q_STAT_PLL_LOCK 1; let w := w.wrF (Reg.LANE_CFG d n) F.LANE_CFG_USE 1; let w := (w.wrF (Reg.LANE_LB_CTRL d n) F.LANE_LB_CTRL_MODE 3).wr (Reg.LANE_LB_STAT d n) 2#32; w.setLane d n { w.lane d n with sets := 0, everLocked := true, lb := 3 }) };
      (s.dev.inSlice d (laneBlock d n) = false) ∧ (s.dev.laneState d n = 5 ∧ s.dev.rdF (Reg.LANE_Q_STAT d (quadOf n))
      F.LANE_Q_STAT_PLL_LOCK = 1 ∧ s.dev.rdF (Reg.LANE_CFG d n) F.LANE_CFG_USE ≠ 0)) ∧
    (let d : Die := 1; let n : LaneIx := 4; let s : State := State.reset; let s : State :=
      { s with dev := (let w := (s.dev.wr (Reg.LANE_STAT d n) 5#32).wr (Reg.LANE_ALIGN_CTRL d n) 0#32; let w := w.wrF (Reg.LANE_Q_STAT d (quadOf n)) F.LANE_Q_STAT_PLL_LOCK 1; let w := w.wrF (Reg.LANE_CFG d n) F.LANE_CFG_USE 1; let w := (w.wrF (Reg.LANE_LB_CTRL d n) F.LANE_LB_CTRL_MODE 3).wr (Reg.LANE_LB_STAT d n) 0#32; w.setLane d n { w.lane d n with sets := 0, everLocked := true, lb := 3 }) };
      (s.dev.inSlice d (laneBlock d n) = false) ∧ (s.dev.laneState d n = 5 ∧ (s.dev.lane d n).lb = 3)) ∧
    (let d : Die := 1; let n : LaneIx := 4; let s : State := State.reset; let s : State :=
      { s with dev := (let w := (s.dev.wr (Reg.LANE_STAT d n) 5#32).wr (Reg.LANE_ALIGN_CTRL d n) 0#32; let w := w.wrF (Reg.LANE_Q_STAT d (quadOf n)) F.LANE_Q_STAT_PLL_LOCK 1; let w := w.wrF (Reg.LANE_CFG d n) F.LANE_CFG_USE 1; let w := (w.wrF (Reg.LANE_LB_CTRL d n) F.LANE_LB_CTRL_MODE 3).wr (Reg.LANE_LB_STAT d n) 0#32; w.setLane d n { w.lane d n with sets := 0, everLocked := true, lb := 3 }) };
      (s.dev.inSlice d (laneBlock d n) = false) ∧ (s.dev.laneState d n = 5 ∧ (s.dev.lane d n).lb = 3 ∧ s.dev.rdF (Reg.LANE_LB_STAT
      d n) F.LANE_LB_STAT_ACTIVE = 0 ∧ s.dev.rdF (Reg.LANE_Q_STAT d (quadOf n)) F.LANE_Q_STAT_PLL_LOCK = 1 ∧ s.dev.rdF
      (Reg.LANE_CFG d n) F.LANE_CFG_USE ≠ 0)) ∧
    (let d : Die := 1; let n : LaneIx := 4; let s : State := State.reset; let s : State :=
      { s with dev := (let w := (s.dev.wr (Reg.LANE_STAT d n) 3#32).wr (Reg.LANE_ALIGN_CTRL d n) 0#32; let w := w.wrF (Reg.LANE_Q_STAT d (quadOf n)) F.LANE_Q_STAT_PLL_LOCK 1; let w := w.wrF (Reg.LANE_CFG d n) F.LANE_CFG_USE 1;  w.setLane d n { w.lane d n with sets := 3, everLocked := true }) };
      (s.dev.inSlice d (laneBlock d n) = false) ∧ (s.dev.locked d n = true)) ∧
    (let d : Die := 1; let n : LaneIx := 4; let s : State := State.reset; let s : State :=
      { s with dev := (let w := (s.dev.wr (Reg.LANE_STAT d n) 2#32).wr (Reg.LANE_ALIGN_CTRL d n) 0#32; let w := w.wrF (Reg.LANE_Q_STAT d (quadOf n)) F.LANE_Q_STAT_PLL_LOCK 1; let w := w.wrF (Reg.LANE_CFG d n) F.LANE_CFG_USE 1;  w.setLane d n { w.lane d n with sets := 3, everLocked := true }) };
      (s.dev.inSlice d (laneBlock d n) = false) ∧ (s.dev.locked d n = false)) ∧
    (let d : Die := 1; let n : LaneIx := 4; let y : EyeTally := ⟨1048576, 3, 5, 0⟩; let s : State := State.reset; let s : State :=
      { s with dev := (s.dev.wr (Reg.LANE_ESCAN_STAT d n) 1#32).wr (Reg.LANE_ESCAN_CTRL d n) 0#32 }; (s.dev.inSlice d (laneBlock d
      n) = false) ∧ (s.dev.rdF (Reg.LANE_ESCAN_STAT d n) F.LANE_ESCAN_STAT_BUSY = 1 ∧ 2 ^ (20 + min 12 (fget (s.dev.rd
      (Reg.LANE_ESCAN_CTRL d n)) F.LANE_ESCAN_CTRL_DWELL)) ≤ (eyeCount (sgn 7 (fget (s.dev.rd (Reg.LANE_ESCAN_CTRL d n))
      F.LANE_ESCAN_CTRL_Y)) y).1)) ∧
    (let d : Die := 1; let n : LaneIx := 4; let y : EyeTally := ⟨5, 1, 2, 3⟩; let s : State := State.reset; let s : State :=
      { s with dev := (s.dev.wr (Reg.LANE_ESCAN_STAT d n) 1#32).wr (Reg.LANE_ESCAN_CTRL d n) 0#32 }; (s.dev.inSlice d (laneBlock d
      n) = false) ∧ (s.dev.rdF (Reg.LANE_ESCAN_STAT d n) F.LANE_ESCAN_STAT_BUSY = 1 ∧ (eyeCount (sgn 7 (fget (s.dev.rd
      (Reg.LANE_ESCAN_CTRL d n)) F.LANE_ESCAN_CTRL_Y)) y).1 < 2 ^ (20 + min 12 (fget (s.dev.rd (Reg.LANE_ESCAN_CTRL d n))
      F.LANE_ESCAN_CTRL_DWELL)))) := by
  refine ⟨?_, ?_, ?_, ?_, ?_, ?_, ?_, ?_, ?_, ?_⟩ <;> decide +kernel
theorem witness_TilesComplete :
    (let d : Die := 1; let q : TileIx := 4; let s : State := State.reset; let s : State :=
      { s with dev := (let w := s.dev.wrF (Reg.LANE_STAT d q) F.LANE_STAT_STATE 3;  w.setLane d q { w.lane d q with queue := [.calib 1 true 2 3 4 5 6], out := none }) };
      (s.dev.locked d q = true ∧ s.dev.inSlice d (laneBlock d q) = false ∧ (nextPacket (s.dev.lane d q)).isSome = true ∧
      ((nextPacket (s.dev.lane d q)).getD .filler).isCalib = true)) ∧
    (let d : Die := 1; let q : TileIx := 4; let s : State := State.reset; let s : State :=
      { s with dev := (let w := s.dev.wrF (Reg.LANE_STAT d q) F.LANE_STAT_STATE 3;  w.setLane d q { w.lane d q with queue := [.cmd 3 0 1 [], .calib 1 true 2 3 4 5 6, .safe 0 0], out := none }) };
      (s.dev.locked d q = true ∧ s.dev.inSlice d (laneBlock d q) = false ∧ (nextPacket (s.dev.lane d q)).isSome = true ∧
      ((nextPacket (s.dev.lane d q)).getD .filler).isCalib = false)) ∧
    (let d : Die := 1; let q : TileIx := 4; let s : State := State.reset; let s : State :=
      { s with dev := s.dev.wrF (Reg.LANE_STAT d q) F.LANE_STAT_STATE 2 }; (s.dev.locked d q = false ∨ (nextPacket (s.dev.lane d
      q)).isNone = true)) ∧
    (let d : Die := 1; let q : TileIx := 4; let o : Outstanding := ⟨.cmd 3 8 1 [], 8, 5⟩; let s : State := State.reset; let s :
      State := { s with dev := s.dev.setLane d q { s.dev.lane d q with out := some o } }; ((s.dev.lane d q).out = some o ∧
      o.repeats < 8)) ∧
    (let d : Die := 1; let q : TileIx := 4; let o : Outstanding := ⟨.cmd 3 8 1 [], 8, 5⟩; let s : State := State.reset; let s :
      State := { s with dev := s.dev.setLane d q { s.dev.lane d q with out := some { o with repeats := 8 } } }; ((s.dev.lane d
      q).out = some { o with repeats := 8 })) ∧
    (let d : Die := 1; let q : TileIx := 4; let s : State := State.reset; let s : State :=
      { s with dev := (s.dev.setDstate d q 1).setLane d q { s.dev.lane d q with waitStatus := true } }; (s.dev.dstate d q = 1 ∧
      (s.dev.lane d q).waitStatus = true)) ∧
    (let d : Die := 1; let q : TileIx := 4; let s : State := State.reset; let s : State :=
      { s with dev := (let w := s.dev.wrF (Reg.LANE_STAT d q) F.LANE_STAT_STATE 3;  w.setLane d q { w.lane d q with out := none }) };
      (s.dev.locked d q = true)) ∧
    (let d : Die := 1; let q : TileIx := 4; let p : StatusPkt :=
      { state := 2#3, cause := 0#3, lock := true, urgent := false, seq := 1#16, ackSeq := 8#16, ackRes := 0#8, slice := 3, pat := false, temp0 := 1#16, temp1 := 2#16, temp2 := 3#16, temp3 := 4#16, sup0 := 5#16, sup1 := 6#16, sup2 := 7#16, sup3 := 8#16, rxErr := 9#32, lastFrame := 10#32, openMap := List.replicate 64 0#8, shortMap := List.replicate 64 0#8, vendor := 11#16, model := 12#16, proto := 1#8, caps := 0#8, fwVer := 13#16 };
      let s : State := State.reset; let s : State :=
      { s with dev := (let w := s.dev.wrF (Reg.LANE_STAT d q) F.LANE_STAT_STATE 3;  w.setLane d q { w.lane d q with out := none }) };
      (s.dev.locked d q = true ∧ p.openMap.length = 64 ∧ p.shortMap.length = 64)) ∧
    (let d : Die := 1; let q : TileIx := 4; let p : StatusPkt :=
      { state := 2#3, cause := 0#3, lock := true, urgent := false, seq := 1#16, ackSeq := 8#16, ackRes := 0#8, slice := 3, pat := false, temp0 := 1#16, temp1 := 2#16, temp2 := 3#16, temp3 := 4#16, sup0 := 5#16, sup1 := 6#16, sup2 := 7#16, sup3 := 8#16, rxErr := 9#32, lastFrame := 10#32, openMap := List.replicate 64 0#8, shortMap := List.replicate 64 0#8, vendor := 11#16, model := 12#16, proto := 1#8, caps := 0#8, fwVer := 13#16 };
      let s : State := State.reset; let s : State :=
      { s with dev := (let w := s.dev.wrF (Reg.LANE_STAT d q) F.LANE_STAT_STATE 3;  w.setLane d q { w.lane d q with out := some ⟨.cmd 3 p.ackSeq.toNat 1 [], p.ackSeq.toNat, 0⟩ }) };
      (s.dev.locked d q = true ∧ p.openMap.length = 64 ∧ p.shortMap.length = 64 ∧ p.ackRes ≠ 4#8 ∧ (s.dev.lane d q).out.all (fun o
      => p.ackSeq.toNat == o.seq) = true)) ∧
    (let d : Die := 1; let q : TileIx := 4; let s : State := State.reset; let s : State :=
      { s with dev := s.dev.wrF (Reg.LANE_STAT d q) F.LANE_STAT_STATE 2 }; (s.dev.locked d q = false)) := by
  refine ⟨?_, ?_, ?_, ?_, ?_, ?_, ?_, ?_, ?_, ?_⟩ <;> decide +kernel
theorem witness_InputLanesComplete :
    (let d : Die := 1; let q : TileIx := 4; let rx : RxSyms := ⟨false, 0, [872#10, 571#10, 535#10]⟩; let s : State := State.reset;
      let s : State :=
      { s with dev := (let w := s.dev.wrF (Reg.LANE_STAT d q) F.LANE_STAT_STATE 3;  w.setLane d q { w.lane d q with out := none }) };
      (s.dev.locked d q = true ∧ (Machine.packetBody (symsOf rx)).all (fun b => !bodyOk true b) = true)) ∧
    (let d : Die := 1; let q : TileIx := 4; let rx : RxSyms := ⟨false, 0, [872#10, 466#10] ++ List.replicate 167 682#10 ++ [668#10,
      469#10, 665#10, 282#10, 744#10]⟩; let s : State := State.reset; let s : State :=
      { s with dev := (let w := s.dev.wrF (Reg.LANE_STAT d q) F.LANE_STAT_STATE 3;  w.setLane d q { w.lane d q with out := none }) };
      (s.dev.locked d q = true ∧ (Machine.packetBody (symsOf rx)).any (fun b => bodyOk true b && b.getD 0 0 == 0x81#8) = true)) ∧
    (let d : Die := 1; let i : Fin 2 := 1; let rx : RxSyms := ⟨false, 0, [872#10, 571#10] ++ List.replicate 9 682#10 ++ [403#10,
      617#10, 586#10, 421#10, 744#10]⟩; let s : State := State.reset; let s : State :=
      { s with dev := (let w := s.dev.wrF (Reg.LANE_STAT d (8 + i)) F.LANE_STAT_STATE 3; let w := (w.wr (Reg.DRC_STAT 0) 0#32).wr (Reg.DRC_STAT 1) 0#32; let w := (w.wrB (Reg.FAB_BRG_STAT 0) 1 true); let w := { w with pwr := { w.pwr with lost := [] } };  w.setInp d i { w.inp d i with inFrame := true }) };
      (s.dev.locked d (8 + i) = true ∧ (Machine.packetBody (symsOf rx)).any (fun b => bodyOk false b && b.getD 0 0 == 0x11#8) =
      true)) ∧
    (let d : Die := 1; let i : Fin 2 := 1; let rx : RxSyms := ⟨false, 0, [872#10, 571#10, 535#10]⟩; let s : State := State.reset;
      let s : State :=
      { s with dev := (let w := s.dev.wrF (Reg.LANE_STAT d (8 + i)) F.LANE_STAT_STATE 3; let w := (w.wr (Reg.DRC_STAT 0) 0#32).wr (Reg.DRC_STAT 1) 0#32; let w := (w.wrB (Reg.FAB_BRG_STAT 0) 1 true); let w := { w with pwr := { w.pwr with lost := [] } };  w.setInp d i { w.inp d i with inFrame := true }) };
      (s.dev.locked d (8 + i) = true ∧ (Machine.packetBody (symsOf rx)).all (fun b => !bodyOk false b) = true ∧ packetType (symsOf
      rx) = 0x11 ∧ (s.dev.inp d i).inFrame = true)) ∧
    (let d : Die := 1; let i : Fin 2 := 1; let rx : RxSyms := ⟨false, 0, [872#10, 315#10, 535#10]⟩; let s : State := State.reset;
      let s : State :=
      { s with dev := (let w := s.dev.wrF (Reg.LANE_STAT d (8 + i)) F.LANE_STAT_STATE 3; let w := (w.wr (Reg.DRC_STAT 0) 0#32).wr (Reg.DRC_STAT 1) 0#32; let w := (w.wrB (Reg.FAB_BRG_STAT 0) 1 true); let w := { w with pwr := { w.pwr with lost := [] } };  w.setInp d i { w.inp d i with inBatch := true }) };
      (s.dev.locked d (8 + i) = true ∧ (Machine.packetBody (symsOf rx)).all (fun b => !bodyOk false b) = true ∧ packetType (symsOf
      rx) = 0x12 ∧ (s.dev.inp d i).inBatch = true)) ∧
    (let d : Die := 1; let i : Fin 2 := 1; let s : State := State.reset; let s : State :=
      { s with dev := s.dev.wrF (Reg.LANE_STAT d (8 + i)) F.LANE_STAT_STATE 2 }; (s.dev.locked d (8 + i) = false)) ∧
    (let d : Die := 1; let i : Fin 2 := 1; let s : State := State.reset; let s : State :=
      { s with dev := s.dev.wrF (Reg.LANE_IN_CFG d (8 + i)) F.LANE_IN_CFG_STALE_T 9 }; (s.dev.rdF (Reg.LANE_IN_CFG d (8 + i))
      F.LANE_IN_CFG_STALE_T ≠ 0)) ∧
    (let d : Die := 1; let i : Fin 2 := 1; let s : State := State.reset; let s : State :=
      { s with dev := (let w := s.dev.wrF (Reg.LANE_STAT d (8 + i)) F.LANE_STAT_STATE 3; let w := (w.wr (Reg.DRC_STAT 0) 0#32).wr (Reg.DRC_STAT 1) 0#32; let w := (w.wrB (Reg.FAB_BRG_STAT 0) 1 true); let w := { w with pwr := { w.pwr with lost := [] } };  w.setInp d i { w.inp d i with inFrame := false }) };
      (s.dev.locked d (8 + i) = true)) ∧
    (let d : Die := 1; let i : Fin 2 := 1; let line : BitVec 16 := 7#16; let x0 : BitVec 16 := 20#16; let data : List Byte := [1#8,
      2#8, 3#8, 4#8]; let s : State := State.reset; let s : State :=
      { s with dev := (let w := s.dev.wrF (Reg.LANE_STAT d (8 + i)) F.LANE_STAT_STATE 3; let w := (w.wr (Reg.DRC_STAT 0) 0#32).wr (Reg.DRC_STAT 1) 0#32; let w := (w.wrB (Reg.FAB_BRG_STAT 0) 1 true); let w := { w with pwr := { w.pwr with lost := [] } }; let w := w.wr (Reg.LANE_IN_MAP d (8 + i)) 0x14#32; let w := w.wr (Reg.LANE_IN_GEOM d (8 + i)) 0x01000100#32; let w := (w.wr (Reg.HEAD_TACT d 1) 0x50200#32).wr (Reg.HEAD_TACT (1 - d.val) 1) 0#32; let w := (w.wr (Reg.LANE_IN_BUFB d (8 + i)) 0x100000#32).wr (Reg.LANE_IN_BUFA d (8 + i)) 0x200000#32; let w := w.wr (Reg.LANE_IN_BUFC d (8 + i)) 0x300000#32; let w := w.wrF (Reg.LANE_IN_STAT d (8 + i)) F.LANE_IN_STAT_WRITING 2; w.setInp d i { w.inp d i with inFrame := true }) };
      ((s.dev.inp d i).inFrame = true ∧ 2 ≤ data.length ∧ data.length ≤ 1024 ∧ data.length % 2 = 0 ∧ line.toNat < fget (s.dev.rd
      (Reg.LANE_IN_GEOM d (8 + i))) F.LANE_IN_GEOM_H ∧ x0.toNat + data.length / 2 ≤ fget (s.dev.rd (Reg.LANE_IN_GEOM d (8 + i)))
      F.LANE_IN_GEOM_W ∧ s.dev.inputFails d (s.dev.fedHeads d i) (s.dev.vidAddr d i line.toNat x0.toNat) data.length = false ∧
      (s.dev.vidAddr d i line.toNat x0.toNat) + data.length ≤ 0x7FF00000 ∧ s.dev.drcRole 0 = 0 ∧ s.dev.drcRole 1 = 0 ∧ s.dev.locked
      d (8 + i) = true)) ∧
    (let d : Die := 1; let i : Fin 2 := 1; let line : BitVec 16 := 7#16; let x0 : BitVec 16 := 20#16; let data : List Byte := [1#8,
      2#8, 3#8, 4#8]; let s : State := State.reset; let s : State :=
      { s with dev := (let w := s.dev.wrF (Reg.LANE_STAT d (8 + i)) F.LANE_STAT_STATE 3; let w := (w.wr (Reg.DRC_STAT 0) 0#32).wr (Reg.DRC_STAT 1) 0#32; let w := (w.wrB (Reg.FAB_BRG_STAT 0) 1 true); let w := { w with pwr := { w.pwr with lost := [] } }; let w := w.wr (Reg.LANE_IN_MAP d (8 + i)) 0x14#32; let w := w.wr (Reg.LANE_IN_GEOM d (8 + i)) 0x01000100#32; let w := (w.wr (Reg.HEAD_TACT d 1) 0x50200#32).wr (Reg.HEAD_TACT (1 - d.val) 1) 0#32; let w := (w.wr (Reg.LANE_IN_BUFB d (8 + i)) 0x100000#32).wr (Reg.LANE_IN_BUFA d (8 + i)) 0x200000#32; let w := w.wr (Reg.LANE_IN_BUFC d (8 + i)) 0x300000#32; let w := w.wrF (Reg.LANE_IN_STAT d (8 + i)) F.LANE_IN_STAT_WRITING 2; w.setInp d i { w.inp d i with inFrame := true, written := 256 * 256 * 2 - data.length }) };
      ((s.dev.inp d i).inFrame = true ∧ 2 ≤ data.length ∧ data.length ≤ 1024 ∧ data.length % 2 = 0 ∧ line.toNat < fget (s.dev.rd
      (Reg.LANE_IN_GEOM d (8 + i))) F.LANE_IN_GEOM_H ∧ x0.toNat + data.length / 2 ≤ fget (s.dev.rd (Reg.LANE_IN_GEOM d (8 + i)))
      F.LANE_IN_GEOM_W ∧ s.dev.inputFails d (s.dev.fedHeads d i) (s.dev.vidAddr d i line.toNat x0.toNat) data.length = false ∧
      (s.dev.vidAddr d i line.toNat x0.toNat) + data.length ≤ 0x7FF00000 ∧ s.dev.drcRole 0 = 0 ∧ s.dev.drcRole 1 = 0 ∧ s.dev.locked
      d (8 + i) = true ∧ (s.dev.inp d i).written + data.length = fget (s.dev.rd (Reg.LANE_IN_GEOM d (8 + i))) F.LANE_IN_GEOM_W *
      fget (s.dev.rd (Reg.LANE_IN_GEOM d (8 + i))) F.LANE_IN_GEOM_H * 2)) ∧
    (let d : Die := 1; let i : Fin 2 := 1; let line : BitVec 16 := 7#16; let x0 : BitVec 16 := 20#16; let data : List Byte := [1#8,
      2#8, 3#8, 4#8]; let s : State := State.reset; let s : State :=
      { s with dev := (let w := s.dev.wrF (Reg.LANE_STAT d (8 + i)) F.LANE_STAT_STATE 3; let w := (w.wr (Reg.DRC_STAT 0) 0#32).wr (Reg.DRC_STAT 1) 0#32; let w := (w.wrB (Reg.FAB_BRG_STAT 0) 1 true); let w := { w with pwr := { w.pwr with lost := [] } }; let w := w.wr (Reg.LANE_IN_MAP d (8 + i)) 0x14#32; let w := w.wr (Reg.LANE_IN_GEOM d (8 + i)) 0x00010001#32; let w := (w.wr (Reg.HEAD_TACT d 1) 0x50200#32).wr (Reg.HEAD_TACT (1 - d.val) 1) 0#32; let w := (w.wr (Reg.LANE_IN_BUFB d (8 + i)) 0x100000#32).wr (Reg.LANE_IN_BUFA d (8 + i)) 0x200000#32; let w := w.wr (Reg.LANE_IN_BUFC d (8 + i)) 0x300000#32; let w := w.wrF (Reg.LANE_IN_STAT d (8 + i)) F.LANE_IN_STAT_WRITING 2; w.setInp d i { w.inp d i with inFrame := true }) };
      ((s.dev.inp d i).inFrame = true ∧ 2 ≤ data.length ∧ data.length ≤ 1024 ∧ data.length % 2 = 0 ∧ (fget (s.dev.rd
      (Reg.LANE_IN_GEOM d (8 + i))) F.LANE_IN_GEOM_H ≤ line.toNat ∨ fget (s.dev.rd (Reg.LANE_IN_GEOM d (8 + i))) F.LANE_IN_GEOM_W <
      x0.toNat + data.length / 2) ∧ s.dev.locked d (8 + i) = true)) ∧
    (let d : Die := 1; let i : Fin 2 := 1; let data : List Byte := [1#8, 2#8, 3#8, 4#8]; let s : State := State.reset; let s :
      State :=
      { s with dev := (let w := s.dev.wrF (Reg.LANE_STAT d (8 + i)) F.LANE_STAT_STATE 3; let w := (w.wr (Reg.DRC_STAT 0) 0#32).wr (Reg.DRC_STAT 1) 0#32; let w := (w.wrB (Reg.FAB_BRG_STAT 0) 1 true); let w := { w with pwr := { w.pwr with lost := [] } }; let w := w.wr (Reg.LANE_IN_MAP d (8 + i)) 0x14#32; let w := w.wr (Reg.LANE_IN_GEOM d (8 + i)) 0x01000100#32; let w := (w.wr (Reg.HEAD_TACT d 1) 0x50200#32).wr (Reg.HEAD_TACT (1 - d.val) 1) 0#32; let w := (w.wr (Reg.LANE_IN_BUFB d (8 + i)) 0x100000#32).wr (Reg.LANE_IN_BUFA d (8 + i)) 0x200000#32; let w := w.wr (Reg.LANE_IN_BUFC d (8 + i)) 0x300000#32; let w := w.wrF (Reg.LANE_IN_STAT d (8 + i)) F.LANE_IN_STAT_WRITING 2; w.setInp d i { w.inp d i with inFrame := true }) };
      ((s.dev.inp d i).inFrame = true ∧ 2 ≤ data.length ∧ data.length ≤ 1024 ∧ data.length % 2 = 0 ∧ s.dev.locked d (8 + i) =
      true)) ∧
    (let d : Die := 1; let i : Fin 2 := 1; let data : List Byte := [1#8, 2#8, 3#8, 4#8]; let n : Head := 2; let slot : Bool :=
      true; let off : BitVec 16 := 0x40#16; let s : State := State.reset; let s : State :=
      { s with dev := (let w := s.dev.wrF (Reg.LANE_STAT d (8 + i)) F.LANE_STAT_STATE 3; let w := (w.wr (Reg.DRC_STAT 0) 0#32).wr (Reg.DRC_STAT 1) 0#32; let w := (w.wrB (Reg.FAB_BRG_STAT 0) 1 true); let w := { w with pwr := { w.pwr with lost := [] } }; let w := w.wrB (Reg.LANE_IN_MAP d (8 + i)) (8 + n.val) true; let w := (w.wr (Reg.HEAD_TACT 0 n) 0x50200#32).wr (Reg.HEAD_TACT 1 n) 0#32; let w := (w.wr (Reg.HEAD_GEN_STAT 0 n) 0#32).wr (Reg.HEAD_GEN_STAT 1 n) 0#32; w.setInp d i { w.inp d i with inBatch := false }) };
      (off.toNat % 4 = 0 ∧ off.toNat + data.length ≤ 0x9300 ∧ data.length ≤ 1024 ∧ data.length % 4 = 0 ∧ s.dev.locked d (8 + i) =
      true ∧ bitOf (s.dev.rd (Reg.LANE_IN_MAP d (8 + i))) (8 + n.val) = true ∧ s.dev.slotLocked n (b2n slot) = false ∧
      s.dev.drcRole 0 = 0 ∧ s.dev.drcRole 1 = 0 ∧ s.dev.inputFails d [n.val] (slotAddr n (b2n slot) + off.toNat) data.length =
      false)) ∧
    (let d : Die := 1; let i : Fin 2 := 1; let data : List Byte := [1#8, 2#8, 3#8, 4#8]; let n : Head := 2; let slot : Bool :=
      true; let batch : BitVec 16 := 5#16; let off : BitVec 16 := 0x40#16; let s : State := State.reset; let s : State :=
      { s with dev := (let w := s.dev.wrF (Reg.LANE_STAT d (8 + i)) F.LANE_STAT_STATE 3; let w := (w.wr (Reg.DRC_STAT 0) 0#32).wr (Reg.DRC_STAT 1) 0#32; let w := (w.wrB (Reg.FAB_BRG_STAT 0) 1 true); let w := { w with pwr := { w.pwr with lost := [] } }; let w := w.wrB (Reg.LANE_IN_MAP d (8 + i)) (8 + n.val) true; let w := (w.wr (Reg.HEAD_TACT 0 n) 0x50200#32).wr (Reg.HEAD_TACT 1 n) 0#32; let w := (w.wr (Reg.HEAD_GEN_STAT 0 n) 0#32).wr (Reg.HEAD_GEN_STAT 1 n) 0#32; w.setInp d i { w.inp d i with inBatch := true, head := n.val, slot := b2n slot, batch := batch.toNat }) };
      (off.toNat % 4 = 0 ∧ off.toNat + data.length ≤ 0x9300 ∧ data.length ≤ 1024 ∧ data.length % 4 = 0 ∧ s.dev.locked d (8 + i) =
      true ∧ bitOf (s.dev.rd (Reg.LANE_IN_MAP d (8 + i))) (8 + n.val) = true ∧ s.dev.slotLocked n (b2n slot) = false ∧
      s.dev.drcRole 0 = 0 ∧ s.dev.drcRole 1 = 0 ∧ s.dev.inputFails d [n.val] (slotAddr n (b2n slot) + off.toNat) data.length =
      false ∧ (s.dev.inp d i).inBatch = true ∧ (s.dev.inp d i).head = n.val ∧ (s.dev.inp d i).slot = b2n slot ∧ (s.dev.inp d
      i).batch = batch.toNat)) ∧
    (let d : Die := 1; let i : Fin 2 := 1; let data : List Byte := [1#8, 2#8, 3#8, 4#8]; let off : BitVec 16 := 0x9300#16; let s :
      State := State.reset; let s : State :=
      { s with dev := (let w := s.dev.wrF (Reg.LANE_STAT d (8 + i)) F.LANE_STAT_STATE 3; let w := (w.wr (Reg.DRC_STAT 0) 0#32).wr (Reg.DRC_STAT 1) 0#32; let w := (w.wrB (Reg.FAB_BRG_STAT 0) 1 true); let w := { w with pwr := { w.pwr with lost := [] } };  w.setInp d i { w.inp d i with inBatch := true }) };
      (s.dev.locked d (8 + i) = true ∧ data.length ≤ 1024 ∧ data.length % 4 = 0 ∧ (s.dev.inp d i).inBatch = true ∧ 0x9300 <
      off.toNat + data.length)) := by
  refine ⟨?_, ?_, ?_, ?_, ?_, ?_, ?_, ?_, ?_, ?_, ?_, ?_, ?_, ?_, ?_⟩ <;> decide +kernel
theorem witness_DramRequestsComplete :
    (let d : Die := 1; let r : DramReq :=
      { port := 3, write := true, addr := 0x12345, data := List.replicate 64 3#8, staging := false, tile := none, line := 0, input := none, orig := 0, urgency := 0 };
      let s : State := State.reset; let s : State :=
      { s with dev := let w := ((((s.dev.wr (Reg.DRC_STAT d) 0#32).wrF (Reg.DRC_CH_STAT d 0) F.DRC_CH_STAT_STATE 2).wrF (Reg.DRC_CH_STAT d 1) F.DRC_CH_STAT_STATE 2)); w.setDrc d { w.drc d with table := [], next := 9 } };
      (r.port ≠ 6 ∧ s.dev.drcRole d = 0 ∧ s.dev.dramRuns d = true ∧ s.dev.mayAccept d r.port = true ∧ s.dev.slotFree d r = true ∧
      s.dev.reqRefusal d { r with addr := r.addr / 64 * 64 } = none)) ∧
    (let d : Die := 1; let c : Fin 2 := 1; let e : DrcEntry :=
      { id := 6, port := 3, p0 := false, req := { port := 3, write := true, addr := 0x40, data := List.replicate 64 7#8, staging := false, tile := none, line := 0, input := none, orig := 0, urgency := 0 }, src := 1, addr := 0x40, at_ := 0, esc := 1, granted := false, got := [], passed := 0, noted := false };
      let s : State := State.reset; let s : State :=
      { s with dev := let w := ((((s.dev.wr (Reg.DRC_STAT d) 0#32).wrF (Reg.DRC_CH_STAT d 0) F.DRC_CH_STAT_STATE 2).wrF (Reg.DRC_CH_STAT d 1) F.DRC_CH_STAT_STATE 2)); w.setDrc d { w.drc d with table := [{ e with id := e.id }], next := 9 } };
      (s.dev.chanRuns d c = true ∧ ((s.dev.burstTry d c).writeTurn d c).nextGrant d c = some e ∧ e.req.write = true ∧ e.id <
      (s.dev.drc d).next)) ∧
    (let d : Die := 1; let c : Fin 2 := 1; let e : DrcEntry :=
      { id := 6, port := 3, p0 := false, req := { port := 3, write := false, addr := 0x40, data := List.replicate 64 7#8, staging := false, tile := none, line := 0, input := none, orig := 0, urgency := 0 }, src := 1, addr := 0x40, at_ := 0, esc := 1, granted := false, got := [], passed := 0, noted := false };
      let s : State := State.reset; let s : State :=
      { s with dev := let w := ((((s.dev.wr (Reg.DRC_STAT d) 0#32).wrF (Reg.DRC_CH_STAT d 0) F.DRC_CH_STAT_STATE 2).wrF (Reg.DRC_CH_STAT d 1) F.DRC_CH_STAT_STATE 2)); w.setDrc d { w.drc d with table := [e], next := 9 } };
      (s.dev.chanRuns d c = true ∧ ((s.dev.burstTry d c).writeTurn d c).nextGrant d c = some e ∧ e.req.write = false)) ∧
    (let d : Die := 1; let e : DrcEntry :=
      { id := 6, port := 3, p0 := false, req := { port := 3, write := false, addr := 0x40, data := List.replicate 64 7#8, staging := false, tile := none, line := 0, input := none, orig := 0, urgency := 0 }, src := 1, addr := 0x40, at_ := 0, esc := 1, granted := true, got := [], passed := 0, noted := false };
      let s : State := State.reset; let s : State :=
      { s with dev := let w := ((((s.dev.wr (Reg.DRC_STAT d) 0#32).wrF (Reg.DRC_CH_STAT d 0) F.DRC_CH_STAT_STATE 2).wrF (Reg.DRC_CH_STAT d 1) F.DRC_CH_STAT_STATE 2)); w.setDrc d { w.drc d with table := [e], next := 9 } };
      ((s.dev.drc d).table.find? (fun f => f.id == e.id && f.granted) = some e ∧ e.id < (s.dev.drc d).next)) ∧
    (let d : Die := 1; let e : DrcEntry :=
      { id := 6, port := 3, p0 := false, req := { port := 3, write := false, addr := 0x40, data := List.replicate 64 7#8, staging := false, tile := none, line := 0, input := none, orig := 0, urgency := 0 }, src := 1, addr := 0x40, at_ := 0, esc := 1, granted := true, got := [], passed := 0, noted := false };
      let s : State := State.reset; let s : State :=
      { s with dev := let w := ((((s.dev.wr (Reg.DRC_STAT d) 0#32).wrF (Reg.DRC_CH_STAT d 0) F.DRC_CH_STAT_STATE 2).wrF (Reg.DRC_CH_STAT d 1) F.DRC_CH_STAT_STATE 2)); w.setDrc d { w.drc d with table := [e], next := 9 } };
      ((s.dev.drc d).table.find? (fun f => f.id == e.id && f.granted) = some e ∧ e.id < (s.dev.drc d).next)) ∧
    (let d : Die := 1; let e : DrcEntry :=
      { id := 6, port := 3, p0 := false, req := { port := 3, write := false, addr := 0x40, data := List.replicate 64 7#8, staging := false, tile := none, line := 0, input := none, orig := 0, urgency := 0 }, src := 1, addr := 0x40, at_ := 0, esc := 1, granted := true, got := [], passed := 0, noted := false };
      let s : State := State.reset; let s : State :=
      { s with dev := let w := ((((s.dev.wr (Reg.DRC_STAT d) 0#32).wrF (Reg.DRC_CH_STAT d 0) F.DRC_CH_STAT_STATE 2).wrF (Reg.DRC_CH_STAT d 1) F.DRC_CH_STAT_STATE 2)); w.setDrc d { w.drc d with table := [e], next := 9 } };
      ((s.dev.drc d).table.find? (fun f => f.id == e.id && f.granted) = some e ∧ e.id < (s.dev.drc d).next)) := by
  refine ⟨?_, ?_, ?_, ?_, ?_, ?_⟩ <;> decide +kernel
theorem witness_DramCareComplete :
    (let d : Die := 1; let c : Fin 2 := 1; let s : State := State.reset; let s : State :=
      { s with dev := let w := ((((s.dev.wr (Reg.DRC_STAT d) 0#32).wrF (Reg.DRC_CH_STAT d 0) F.DRC_CH_STAT_STATE 2).wrF (Reg.DRC_CH_STAT d 1) F.DRC_CH_STAT_STATE 2));  w.setDrcCh d c { w.drcCh d c with burst := false } };
      (s.dev.chanRuns d c = true ∧ s.dev.debt d c < s.dev.refAllow d c ∧ (s.dev.drcCh d c).burst = false)) ∧
    (let d : Die := 1; let c : Fin 2 := 1; let s : State := State.reset; let s : State :=
      { s with dev := let w := ((((s.dev.wr (Reg.DRC_STAT d) 0#32).wrF (Reg.DRC_CH_STAT d 0) F.DRC_CH_STAT_STATE 2).wrF (Reg.DRC_CH_STAT d 1) F.DRC_CH_STAT_STATE 2)); let w := w.wrF (Reg.DRC_CH_STAT d c) F.DRC_CH_STAT_DEBT 8; w.setDrcCh d c { w.drcCh d c with burst := false } };
      (s.dev.chanRuns d c = true ∧ s.dev.refAllow d c < s.dev.debt d c + 1 ∧ (s.dev.drcCh d c).burst = false)) ∧
    (let d : Die := 1; let c : Fin 2 := 1; let s : State := State.reset; let s : State :=
      { s with dev := let w := ((((s.dev.wr (Reg.DRC_STAT d) 0#32).wrF (Reg.DRC_CH_STAT d 0) F.DRC_CH_STAT_STATE 2).wrF (Reg.DRC_CH_STAT d 1) F.DRC_CH_STAT_STATE 2)); let w := w.wrF (Reg.DRC_CH_STAT d c) F.DRC_CH_STAT_DEBT 3; w.setDrcCh d c { w.drcCh d c with burst := false } };
      (s.dev.chanRuns d c = true ∧ s.dev.debt d c ≠ 0 ∧ s.dev.urgentOn d c (max 1 (s.dev.rdF (Reg.DRC_REF_CFG d)
      F.DRC_REF_CFG_DEFER_URG)) = false)) ∧
    (let d : Die := 1; let c : Fin 2 := 1; let s : State := State.reset; let s : State :=
      { s with dev := let w := ((((s.dev.wr (Reg.DRC_STAT d) 0#32).wrF (Reg.DRC_CH_STAT d 0) F.DRC_CH_STAT_STATE 2).wrF (Reg.DRC_CH_STAT d 1) F.DRC_CH_STAT_STATE 2));  w.setDrcCh d c { w.drcCh d c with burst := false } };
      (s.dev.chanRuns d c = true)) ∧
    (let d : Die := 1; let c : Fin 2 := 1; let s : State := State.reset; let s : State :=
      { s with dev := let w := ((((s.dev.wr (Reg.DRC_STAT d) 0#32).wrF (Reg.DRC_CH_STAT d 0) F.DRC_CH_STAT_STATE 2).wrF (Reg.DRC_CH_STAT d 1) F.DRC_CH_STAT_STATE 2));  w.setDrcCh d c { w.drcCh d c with mr4Bad := 0 } };
      (s.dev.chanRuns d c = true ∧ (s.dev.drcCh d c).mr4Bad = 0)) ∧
    (let d : Die := 1; let c : Fin 2 := 1; let s : State := State.reset; let s : State :=
      { s with dev := let w := ((((s.dev.wr (Reg.DRC_STAT d) 0#32).wrF (Reg.DRC_CH_STAT d 0) F.DRC_CH_STAT_STATE 2).wrF (Reg.DRC_CH_STAT d 1) F.DRC_CH_STAT_STATE 2));  w.setDrcCh d c { w.drcCh d c with win := 8200, banks := [(3, ⟨some 5, [(5, 9)]⟩)] } };
      (8192 ≤ (s.dev.drcCh d c).win)) ∧
    (let d : Die := 1; let s : State := State.reset; let s : State :=
      { s with dev := let w := (s.dev.wrF Reg.VSP_PWR_STAT F.VSP_PWR_STAT_STATE 1); (w.wrF (Reg.DRC_CH_STAT d 0) F.DRC_CH_STAT_STATE 1).wrF (Reg.DRC_CH_STAT d 1) F.DRC_CH_STAT_STATE 1 };
      (s.dev.power = 1 ∧ s.dev.rdF (Reg.DRC_CH_STAT d 0) F.DRC_CH_STAT_STATE = 1 ∧ s.dev.rdF (Reg.DRC_CH_STAT d 1)
      F.DRC_CH_STAT_STATE = 1)) ∧
    (let d : Die := 1; let s : State := State.reset; let s : State :=
      { s with dev := let w := (s.dev.wrF Reg.VSP_PWR_STAT F.VSP_PWR_STAT_STATE 1); (w.wrF (Reg.DRC_CH_STAT d 0) F.DRC_CH_STAT_STATE 1).wrF (Reg.DRC_CH_STAT d 1) F.DRC_CH_STAT_STATE 1 };
      (s.dev.power = 1 ∧ s.dev.rdF (Reg.DRC_CH_STAT d 0) F.DRC_CH_STAT_STATE = 1 ∧ s.dev.rdF (Reg.DRC_CH_STAT d 1)
      F.DRC_CH_STAT_STATE = 1)) ∧
    (let d : Die := 1; let c : Fin 2 := 1; let s : State := State.reset; let s : State :=
      { s with dev := let w := ((((s.dev.wr (Reg.DRC_STAT d) 0#32).wrF (Reg.DRC_CH_STAT d 0) F.DRC_CH_STAT_STATE 2).wrF (Reg.DRC_CH_STAT d 1) F.DRC_CH_STAT_STATE 2));  w.setDrcCh d c { w.drcCh d c with burst := false } };
      (s.dev.chanRuns d c = true)) ∧
    (let d : Die := 1; let s : State := State.reset; let s : State :=
      { s with dev := (((s.dev.wrF (Reg.DRC_STAT d) F.DRC_STAT_ROLE 1).wrF (Reg.DRC_STAT d) F.DRC_STAT_HALTED 1).wrB (Reg.FAB_BRG_STAT 0) 0 true).wrB (Reg.FAB_BRG_STAT 0) 1 true };
      (s.dev.drcRole d = 1 ∧ s.dev.rdF (Reg.DRC_STAT d) F.DRC_STAT_HALTED ≠ 0 ∧ 2 ≤ s.dev.linksUp)) := by
  refine ⟨?_, ?_, ?_, ?_, ?_, ?_, ?_, ?_, ?_, ?_⟩ <;> decide +kernel
theorem witness_StringChannelsComplete :
    (let c : Chan := 70; let s : State := State.reset; let s : State :=
      { s with dev := let w := (s.dev.wr (Reg.CH_CFG c) 0x1#32).wrF (Reg.CH_CFG c) F.CH_CFG_USE 1; let w := w.setHv (hvOf c) { w.hv (hvOf c) with mode := 2, strings := true }; let w := (w.wr (Reg.CH_FLT_CAUSE c) 0#32).wr (Reg.CH_SAFE c) 0#32; let w := w.wr (Reg.BST_CTRL (hvOf c)) 0#32; let w := (w.wrF (Reg.CH_DUTY (w.leaderOf c)) F.CH_DUTY_DUTY 30000).wrF (Reg.CH_ISET (w.leaderOf c)) F.CH_ISET_ISET 900; w.setChan c { w.chan c with failed := false } };
      (s.dev.chUse c = 1 ∧ ¬ (s.dev.rdF (Reg.BST_CTRL (hvOf c)) F.BST_CTRL_HOLD = 1 ∧ (s.dev.hv (hvOf c)).mode = 2))) ∧
    (let c : Chan := 70; let s : State := State.reset; let s : State :=
      { s with dev := let w := (s.dev.wr (Reg.CH_CFG c) 0x1#32).wrF (Reg.CH_CFG c) F.CH_CFG_USE 1; let w := w.setHv (hvOf c) { w.hv (hvOf c) with mode := 2, strings := true }; let w := (w.wr (Reg.CH_FLT_CAUSE c) 0#32).wr (Reg.CH_SAFE c) 0#32; let w := w.wr (Reg.BST_CTRL (hvOf c)) 0#32; let w := w.wr (Reg.BST_CTRL (hvOf c)) 1#32; w.setChan c { w.chan c with failed := false } };
      (s.dev.chUse c = 1 ∧ (s.dev.rdF (Reg.BST_CTRL (hvOf c)) F.BST_CTRL_HOLD = 1 ∧ (s.dev.hv (hvOf c)).mode = 2))) ∧
    (let h : Hv := 1; let s : State := State.reset; let s : State :=
      { s with dev := let w := (s.dev.wrB (Reg.BST_LINK_STAT h) 1 true).wrB (Reg.BST_LINK_STAT h) 2 true; w.setHv h { w.hv h with resend := false } };
      (s.dev.linked h = true ∧ (s.dev.hv h).resend = false)) ∧
    (let h : Hv := 1; let s : State := State.reset; let s : State :=
      { s with dev := let w := (s.dev.wrB (Reg.BST_LINK_STAT h) 1 true).wrB (Reg.BST_LINK_STAT h) 2 true; w.setHv h { w.hv h with resend := true } };
      (s.dev.linked h = true ∧ (s.dev.hv h).resend = true)) ∧
    (let c : Chan := 70; let s : State := State.reset; let s : State :=
      { s with dev := let w := (s.dev.wr (Reg.CH_CFG c) 0x1#32).wrF (Reg.CH_CFG c) F.CH_CFG_USE 1; let w := w.setHv (hvOf c) { w.hv (hvOf c) with mode := 2, strings := true }; let w := (w.wr (Reg.CH_FLT_CAUSE c) 0#32).wr (Reg.CH_SAFE c) 0#32; let w := w.wr (Reg.BST_CTRL (hvOf c)) 0#32;  w.setChan c { w.chan c with iset := 900, ton := 500, failed := false, sink := 0 } };
      (s.dev.chUse c ≠ 0 ∧ (s.dev.chan c).iset ≠ 0 ∧ s.dev.sinkOff c = false ∧ 128 ≤ (s.dev.chan c).ton)) ∧
    (let c : Chan := 70; let x : Sample := ⟨400, 9000, 100⟩; let s : State := State.reset; let s : State :=
      { s with dev := let w := (s.dev.wr (Reg.CH_CFG c) 0x1#32).wrF (Reg.CH_CFG c) F.CH_CFG_USE 1; let w := w.setHv (hvOf c) { w.hv (hvOf c) with mode := 2, strings := true }; let w := (w.wr (Reg.CH_FLT_CAUSE c) 0#32).wr (Reg.CH_SAFE c) 0#32; let w := w.wr (Reg.BST_CTRL (hvOf c)) 0#32;  w.setChan c { w.chan c with iset := 3900, ton := 500, failed := false, sink := 7 } };
      (s.dev.chUse c ≠ 0 ∧ (s.dev.chan c).iset ≠ 0 ∧ s.dev.sinkOff c = false ∧ 128 ≤ (s.dev.chan c).ton ∧ 7 ≤ (s.dev.chan c).sink ∧
      300 ≤ x.vpin ∧ sinkBad (s.dev.chan c).iset x.imeas = true)) ∧
    (let c : Chan := 70; let s : State := State.reset; let s : State :=
      { s with dev := let w := (s.dev.wr (Reg.CH_CFG c) 0x1#32).wrF (Reg.CH_CFG c) F.CH_CFG_USE 1; let w := w.setHv (hvOf c) { w.hv (hvOf c) with mode := 2, strings := true }; let w := (w.wr (Reg.CH_FLT_CAUSE c) 0#32).wr (Reg.CH_SAFE c) 0#32; let w := w.wr (Reg.BST_CTRL (hvOf c)) 0#32; let w := (w.wrF (Reg.BST_CFG (hvOf c)) F.BST_CFG_VMAX 160).wrF (Reg.BST_STAT (hvOf c)) F.BST_STAT_VREF 800; w.setChan c { w.chan c with failed := false } };
      (s.dev.chUse c ≠ 0 ∧ s.dev.outOfReach (hvOf c) = true)) ∧
    (let c : Chan := 70; let x : Sample := ⟨400, 9000, 1000⟩; let s : State := State.reset; let s : State :=
      { s with dev := let w := (s.dev.wr (Reg.CH_CFG c) 0x1#32).wrF (Reg.CH_CFG c) F.CH_CFG_USE 1; let w := w.setHv (hvOf c) { w.hv (hvOf c) with mode := 2, strings := true }; let w := (w.wr (Reg.CH_FLT_CAUSE c) 0#32).wr (Reg.CH_SAFE c) 0#32; let w := w.wr (Reg.BST_CTRL (hvOf c)) 0#32; let w := w.wrB (Reg.CH_FLT_CAUSE (w.leaderOf c)) B.CH_OPEN true; w.setChan c { w.chan c with failed := false } };
      (s.dev.faultOff (s.dev.leaderOf c) = true ∧ 150 ≤ x.vpin ∧ x.vpin + 1500 ≤ x.vout)) := by
  refine ⟨?_, ?_, ?_, ?_, ?_, ?_, ?_, ?_⟩ <;> decide +kernel
theorem witness_BoostsAndMatricesComplete :
    (let h : Hv := 1; let s : State := State.reset; let s : State :=
      { s with dev := let w := s.dev.wrF (Reg.BST_STAT h) F.BST_STAT_STATE 2;  w }; (s.dev.boost h = 2 ∧ s.dev.hasCause
      (Reg.BST_FLT_STAT h) B.BST_OCP = false)) ∧
    (let vbat : Nat := 7000; (6000 < vbat)) ∧
    (let h : Hv := 1; let m : Fin 8 := 2; let r : Fin 8 := 1; let s : State := State.reset; let s : State :=
      { s with dev := let w := (s.dev.wr (Reg.BST_MX_CFG h m) 0#32); let w := (w.wrF (Reg.BST_MX_CFG h m) F.BST_MX_CFG_NCOL 3).wrF (Reg.BST_MX_CFG h m) F.BST_MX_CFG_NROW 4; let w := w.wrF (Reg.BST_MX_SYNC h m) F.BST_MX_SYNC_MODE 0; let w := w.setHv h { w.hv h with mode := 2 };  w.setGroup h m { w.group h m with row := some r.val } };
      (s.dev.rdF (Reg.BST_MX_CFG h m) F.BST_MX_CFG_NCOL ≠ 0 ∧ (s.dev.group h m).row = some r.val ∧ r.val + 1 < s.dev.nrow h m)) ∧
    (let h : Hv := 1; let m : Fin 8 := 2; let r : Fin 8 := 1; let s : State := State.reset; let s : State :=
      { s with dev := let w := (s.dev.wr (Reg.BST_MX_CFG h m) 0#32); let w := (w.wrF (Reg.BST_MX_CFG h m) F.BST_MX_CFG_NCOL 3).wrF (Reg.BST_MX_CFG h m) F.BST_MX_CFG_NROW (r.val + 1); let w := w.wrF (Reg.BST_MX_SYNC h m) F.BST_MX_SYNC_MODE 0; let w := w.setHv h { w.hv h with mode := 2 };  w.setGroup h m { w.group h m with row := some r.val, pend := true } };
      (s.dev.rdF (Reg.BST_MX_CFG h m) F.BST_MX_CFG_NCOL ≠ 0 ∧ s.dev.rdF (Reg.BST_MX_SYNC h m) F.BST_MX_SYNC_MODE = 0 ∧ (s.dev.group
      h m).row = some r.val ∧ r.val + 1 = s.dev.nrow h m ∧ (s.dev.group h m).pend = true ∧ (s.dev.hv h).mode ≠ 1)) ∧
    (let h : Hv := 1; let m : Fin 8 := 2; let v : Word := 4#32; let s : State := State.reset; let s : State :=
      { s with dev := let w := (s.dev.wr (Reg.BST_MX_CFG h m) 0#32); let w := (w.wrF (Reg.BST_MX_CFG h m) F.BST_MX_CFG_NCOL 3).wrF (Reg.BST_MX_CFG h m) F.BST_MX_CFG_NROW 4; let w := w.wrF (Reg.BST_MX_SYNC h m) F.BST_MX_SYNC_MODE 0; let w := w.setHv h { w.hv h with mode := 2 }; let w := (w.wrB (Reg.BST_LINK_STAT h) 1 true).wrB (Reg.BST_LINK_STAT h) 2 true; let w := w.setHv h { w.hv h with resend := false }; w.setGroup h m { w.group h m with pend := false } };
      (bitOf v m = true ∧ s.dev.rdF (Reg.BST_MX_CFG h m) F.BST_MX_CFG_NCOL ≠ 0 ∧ (s.dev.hv h).mode ≠ 1 ∧ s.dev.linked h = true ∧
      (s.dev.hv h).resend = false)) ∧
    (let h : Hv := 1; let m : Fin 8 := 2; let s : State := State.reset; let s : State :=
      { s with dev := let w := (s.dev.wr (Reg.BST_MX_CFG h m) 0#32); let w := (w.wrF (Reg.BST_MX_CFG h m) F.BST_MX_CFG_NCOL 3).wrF (Reg.BST_MX_CFG h m) F.BST_MX_CFG_NROW 4; let w := w.wrF (Reg.BST_MX_SYNC h m) F.BST_MX_SYNC_MODE 0; let w := w.setHv h { w.hv h with mode := 2 }; let w := w.wrF (Reg.BST_MX_SYNC h m) F.BST_MX_SYNC_MODE 2; let w := (w.wrB (Reg.BST_LINK_STAT h) 1 true).wrB (Reg.BST_LINK_STAT h) 2 true; w.setGroup h m { w.group h m with edges := 1 } };
      (s.dev.rdF (Reg.BST_MX_CFG h m) F.BST_MX_CFG_NCOL ≠ 0 ∧ s.dev.rdF (Reg.BST_MX_SYNC h m) F.BST_MX_SYNC_MODE = 2 ∧ (s.dev.hv
      h).mode ≠ 1 ∧ s.dev.linked h = true ∧ 1 ≤ (s.dev.group h m).edges)) ∧
    (let h : Hv := 1; let m : Fin 8 := 2; let s : State := State.reset; let s : State :=
      { s with dev := let w := (s.dev.wr (Reg.BST_MX_CFG h m) 0#32); let w := (w.wrF (Reg.BST_MX_CFG h m) F.BST_MX_CFG_NCOL 3).wrF (Reg.BST_MX_CFG h m) F.BST_MX_CFG_NROW 4; let w := w.wrF (Reg.BST_MX_SYNC h m) F.BST_MX_SYNC_MODE 0; let w := w.setHv h { w.hv h with mode := 2 }; let w := w.wrF (Reg.BST_MX_SYNC h m) F.BST_MX_SYNC_MODE 2; w.setGroup h m { w.group h m with edges := 1 } };
      (s.dev.rdF (Reg.BST_MX_CFG h m) F.BST_MX_CFG_NCOL ≠ 0 ∧ s.dev.rdF (Reg.BST_MX_SYNC h m) F.BST_MX_SYNC_MODE = 2)) := by
  refine ⟨?_, ?_, ?_, ?_, ?_, ?_, ?_⟩ <;> decide +kernel
theorem witness_CalibrationCommandsComplete :
    (let d : Die := 1; let q : TileIx := 3; let tiles : BitVec 8 := 8#8; let s : State := State.reset; let s : State :=
      { s with dev := let w := ({ s.dev with cfg := { s.dev.cfg with tiles := [(8 * d.val + q.val, ⟨true, 0, 0, 0⟩)] } }).wrF (Reg.CAL_TSTAT d q) F.CAL_TSTAT_SET 1;  w.setCal d q { w.cal d q with kind := 0 } };
      (tiles.getLsbD q.val = true ∧ s.dev.inRun d q = false)) ∧
    (let d : Die := 1; let q : TileIx := 3; let tiles : BitVec 8 := 8#8; let s : State := State.reset; let s : State :=
      { s with dev := let w := ({ s.dev with cfg := { s.dev.cfg with tiles := [(8 * d.val + q.val, ⟨true, 0, 0, 0⟩)] } }).wrF (Reg.CAL_TSTAT d q) F.CAL_TSTAT_SET 1;  w.setCal d q { w.cal d q with kind := 0 } };
      (tiles.getLsbD q.val = true ∧ s.dev.inRun d q = false)) ∧
    (let d : Die := 1; let q : TileIx := 3; let tiles : BitVec 8 := 8#8; let s : State := State.reset; let s : State :=
      { s with dev := let w := ({ s.dev with cfg := { s.dev.cfg with tiles := [(8 * d.val + q.val, ⟨true, 0, 0, 0⟩)] } }).wrF (Reg.CAL_TSTAT d q) F.CAL_TSTAT_SET 1;  w.setCal d q { w.cal d q with kind := 1, slot := 5 } };
      (tiles.getLsbD q.val = true ∧ s.dev.inRun d q = true)) ∧
    (let d : Die := 1; let q : TileIx := 3; let s : State := State.reset; let s : State :=
      { s with dev := let w := ({ s.dev with cfg := { s.dev.cfg with tiles := [(8 * d.val + q.val, ⟨true, 0, 0, 0⟩)] } }).wrF (Reg.CAL_TSTAT d q) F.CAL_TSTAT_SET 1;  w.setCal d q { w.cal d q with kind := 1, await := true, missed := 2 } };
      ((s.dev.cal d q).await = true ∧ s.dev.inRun d q = true ∧ (s.dev.cal d q).missed < 7)) ∧
    (let d : Die := 1; let q : TileIx := 3; let s : State := State.reset; let s : State :=
      { s with dev := let w := ({ s.dev with cfg := { s.dev.cfg with tiles := [(8 * d.val + q.val, ⟨true, 0, 0, 0⟩)] } }).wrF (Reg.CAL_TSTAT d q) F.CAL_TSTAT_SET 1;  w.setCal d q { w.cal d q with kind := 1, await := true, missed := 7 } };
      ((s.dev.cal d q).await = true ∧ s.dev.inRun d q = true ∧ 7 ≤ (s.dev.cal d q).missed)) ∧
    (let s : State := State.reset; let s : State :=
      { s with nv := { s.nv with trims := [⟨[], 0⟩, ⟨[1#8], 7⟩, ⟨[], 0xFFFF⟩] }, dev := { s.dev.wr Reg.VSP_PWR_STAT 1#32 with pwr := { s.dev.pwr with pen := 4, trims := false, rstHeld := false } } };
      (s.dev.power = 1 ∧ 4 ≤ s.dev.pwr.pen ∧ s.dev.pwr.trims = false ∧ s.dev.pwr.rstHeld = false)) := by
  refine ⟨?_, ?_, ?_, ?_, ?_, ?_⟩ <;> decide +kernel
theorem witness_CalibrationSetsComplete :
    (let d : Die := 1; let q : TileIx := 3; let s : State := State.reset; let s : State :=
      { s with dev := { ({ s.dev with cfg := { s.dev.cfg with tiles := [(8 * d.val + q.val, ⟨true, 0, 0, 0⟩)] } }).wr Reg.VSP_PWR_STAT 1#32 with pwr := { s.dev.pwr with delivered := true, coefs := [], lost := [] }, drcs := [(d.val, { DrcH.init with trained := true })] } };
      (s.dev.coefDue d = true ∧ s.dev.recovery = false ∧ (s.dev.place d q).used = true)) ∧
    (let d : Die := 1; let q : TileIx := 3; let c : Fin 2 := 0; let s : State := State.reset; let s : State :=
      { s with dev := let w := ({ s.dev with cfg := { s.dev.cfg with tiles := [(8 * d.val + q.val, ⟨true, 0, 0, 0⟩)] } }).wrF (Reg.CAL_TSTAT d q) F.CAL_TSTAT_SET 1;  w.setCal d q { w.cal d q with kind := 0, govern := some c.val } };
      ((s.dev.cal d q).govern = some c.val ∧ s.dev.inRun d q = false ∧ s.dev.rdF (Reg.CAL_TSTAT d q) F.CAL_TSTAT_SET ≠ 2)) ∧
    (let d : Die := 1; let q : TileIx := 3; let s : State := State.reset; let s : State :=
      { s with dev := (s.dev.wr Reg.VSP_PWR_STAT 2#32).wr (Reg.CAL_REFSRC d) 0xFFFF0000#32 }; (s.dev.power = 2 ∧ s.dev.inRun d q =
      false ∧ refValid s.mem (8 * d + q) = false)) ∧
    (let s : State := State.reset; (s.dev.power ≠ 2)) ∧
    (let d : Die := 1; let q : TileIx := 3; let s : State := State.reset; let s : State :=
      { s with dev := s.dev.wr Reg.VSP_PWR_STAT 2#32 }; (s.dev.power = 2 ∧ s.dev.inRun d q = false)) ∧
    (let s : State := State.reset; (s.dev.power ≠ 2)) := by
  refine ⟨?_, ?_, ?_, ?_, ?_, ?_⟩ <;> decide +kernel
theorem witness_CalibrationRunsComplete :
    (let d : Die := 1; let q : TileIx := 3; let p : PhotoPkt := ⟨5, 9#16, 2, true, List.replicate 256 5#16, List.replicate 256
      900#16⟩; let s : State := State.reset; let s : State :=
      { s with dev := let w := ({ s.dev with cfg := { s.dev.cfg with tiles := [(8 * d.val + q.val, ⟨true, 0, 0, 0⟩)] } }).wrF (Reg.CAL_TSTAT d q) F.CAL_TSTAT_SET 1; let w := w.wrF (Reg.LANE_STAT d q) F.LANE_STAT_STATE 3; w.setCal d q { w.cal d q with kind := 1, slot := 16 * p.phase.val + p.band.val, await := true, cseq := p.cseq.toNat, tDark := 10, tLit := 10, code := 100 } };
      (s.dev.locked d q = true ∧ s.dev.photoDue d q p = true ∧ p.dark.length = 256 ∧ p.lit.length = 256)) ∧
    (let d : Die := 1; let q : TileIx := 3; let p : PhotoPkt := ⟨5, 9#16, 2, true, List.replicate 256 5#16, List.replicate 256
      900#16⟩; let s : State := State.reset; (s.dev.locked d q = false ∨ (s.dev.photoDue d q p = false ∧ p.dark.length = 256 ∧
      p.lit.length = 256))) ∧
    (let d : Die := 1; let q : TileIx := 3; let s : State := State.reset; let s : State :=
      { s with dev := let w := ({ s.dev with cfg := { s.dev.cfg with tiles := [(8 * d.val + q.val, ⟨true, 0, 0, 0⟩)] } }).wrF (Reg.CAL_TSTAT d q) F.CAL_TSTAT_SET 1;  w.setCal d q { w.cal d q with kind := 1, slot := 1024 } };
      (((s.dev.cal d q).kind = 1 ∨ (s.dev.cal d q).kind = 2) ∧ 1024 ≤ (s.dev.cal d q).slot)) ∧
    (let d : Die := 1; let q : TileIx := 3; let r : Fin 4 := 1; let s : State := State.reset; let s : State :=
      { s with dev := let w := ({ s.dev with cfg := { s.dev.cfg with tiles := [(8 * d.val + q.val, ⟨true, 0, 0, 0⟩)] } }).wrF (Reg.CAL_TSTAT d q) F.CAL_TSTAT_SET 1;  w.setCal d q { w.cal d q with storeDue := true, storing := none, govern := some r.val } };
      ((s.dev.cal d q).storeDue = true ∧ (s.dev.cal d q).storing = none)) ∧
    (let d : Die := 1; let q : TileIx := 3; let s : State := State.reset; let s : State :=
      { s with dev := let w := ({ s.dev with cfg := { s.dev.cfg with tiles := [(8 * d.val + q.val, ⟨true, 0, 0, 0⟩)] } }).wrF (Reg.CAL_TSTAT d q) F.CAL_TSTAT_SET 1;  w.setCal d q { w.cal d q with storing := some { copy := 1, base := 0, seq := 4, acc := ⟨30, 1, 9, []⟩ } } };
      ((s.dev.cal d q).storing.isSome = true)) ∧
    (let d : Die := 1; let q : TileIx := 3; let s : State := State.reset; let s : State :=
      { s with dev := let w := ({ s.dev with cfg := { s.dev.cfg with tiles := [(8 * d.val + q.val, ⟨true, 0, 0, 0⟩)] } }).wrF (Reg.CAL_TSTAT d q) F.CAL_TSTAT_SET 1;  w.setCal d q { w.cal d q with storing := some { copy := 1, base := 0, seq := 4, acc := ⟨30, 1, 9, []⟩ } } };
      ((s.dev.cal d q).storing.isSome = true)) := by
  refine ⟨?_, ?_, ?_, ?_, ?_, ?_⟩ <;> decide +kernel
theorem witness_ThermalManagementComplete :
    (let h : Hv := 1; let k : Fin 18 := 3; let s : State := State.reset; let s : State :=
      { s with dev := s.dev.setSen (24 + 18 * h + k) ⟨true, false, 640, none, 0, 0, 0, false, false, false⟩ }; (s.dev.senUsable (24
      + 18 * h + k) = true)) ∧
    (let f : StatusFrame := ⟨true, 2200, []⟩; (f.valid = true)) ∧
    (let f : StatusFrame := ⟨false, 2200, []⟩; (f.valid = false)) ∧
    (let s : State := State.reset; let s : State :=
      { s with dev := let w := { (s.dev.wr Reg.VSP_PWR_STAT 2#32) with pwr := { s.dev.pwr with pll := true, lost := [] } };  w };
      (s.dev.thmRuns = true)) ∧
    (let s : State := State.reset; let s : State :=
      { s with dev := let w := { (s.dev.wr Reg.VSP_PWR_STAT 2#32) with pwr := { s.dev.pwr with pll := true, lost := [] } };  w };
      (s.dev.thmRuns = true)) ∧
    (let q : Fin 16 := 5; let s : State := State.reset; let s : State :=
      { s with dev := let w := { (s.dev.wr Reg.VSP_PWR_STAT 2#32) with pwr := { s.dev.pwr with pll := true, lost := [] } }; let w := (w.setLane (q.val / 8) (q.val % 8) { w.lane (q.val / 8) (q.val % 8) with statusAt := some 5 }).setSen (64 + 4 * q.val) ⟨true, false, 640, none, 0, 0, 0, false, false, false⟩; w };
      (s.dev.thmRuns = true ∧ (s.dev.lane (q / 8) (q % 8)).statusAt.isSome = true)) ∧
    (let s : State := State.reset; let s : State :=
      { s with dev := let w := { (s.dev.wr Reg.VSP_PWR_STAT 2#32) with pwr := { s.dev.pwr with pll := true, lost := [] } }; let w := (w.wr (Reg.THM_STAT 0) 0#32).wrF (Reg.THM_STAT 0) F.THM_STAT_LR 4; let w := w.wrF (Reg.THM_STAT 0) F.THM_STAT_LEVEL 1; let w := w.wrF (Reg.THM_STAT 0) F.THM_STAT_REQ 1; w };
      (s.dev.reqStands = true)) ∧
    (let s : State := State.reset; let s : State :=
      { s with dev := let w := { (s.dev.wr Reg.VSP_PWR_STAT 2#32) with pwr := { s.dev.pwr with pll := true, lost := [] } }; let w := (w.wr (Reg.THM_STAT 0) 0#32).wrF (Reg.THM_STAT 0) F.THM_STAT_LR 1; let w := w.wrF (Reg.THM_STAT 0) F.THM_STAT_LEVEL 4; w };
      (s.dev.lr < s.dev.level ∧ s.dev.subsInUse = false)) ∧
    (let s : State := State.reset; let s : State :=
      { s with dev := let w := { (s.dev.wr Reg.VSP_PWR_STAT 2#32) with pwr := { s.dev.pwr with pll := true, lost := [] } }; let w := (w.wr (Reg.THM_STAT 0) 0#32).wrF (Reg.THM_STAT 0) F.THM_STAT_LR 1; let w := w.wrF (Reg.THM_STAT 0) F.THM_STAT_LEVEL 1; w };
      (s.dev.subsInUse = true ∨ s.dev.level ≤ s.dev.lr)) ∧
    (let q : Fin 16 := 5; let s : State := State.reset; let s : State :=
      { s with dev := let w := { (s.dev.wr Reg.VSP_PWR_STAT 2#32) with pwr := { s.dev.pwr with pll := true, lost := [] } }; let w := w.wr (Reg.THM_TLIMITS 0) 0x73645F#32; let w := (w.wrF (Reg.THM_TILE 0 q) F.THM_TILE_SHUT 1).setSen (64 + 4 * q.val) ⟨true, false, 640, none, 0, 0, 0, false, false, false⟩; w };
      (s.dev.rdF (Reg.THM_TILE 0 q) F.THM_TILE_SHUT = 1 ∧ (∃ y ∈ tileSens q, (s.dev.senValue y).isSome = true) ∧ (∀ y ∈ tileSens q,
      s.dev.senBelow y (s.dev.limits y).2.1 = true))) ∧
    (let s : State := State.reset; let s : State :=
      { s with dev := let w := { (s.dev.wr Reg.VSP_PWR_STAT 2#32) with pwr := { s.dev.pwr with pll := true, lost := [] } }; let w := w.wrB (Reg.THM_FLT_CAUSE 0) B.THM_SHUTDOWN true; w };
      (s.dev.shutdownPresent = true ∧ s.dev.packageCool = true)) := by
  refine ⟨?_, ?_, ?_, ?_, ?_, ?_, ?_, ?_, ?_, ?_, ?_⟩ <;> decide +kernel
theorem witness_CrcUnitsComplete :
    (let d : Die := 0; let u : Fin 8 := 3; let s : State := State.reset; (s.dev.inSlice d (crcBlock d u) = false)) ∧
    (let d : Die := 0; let u : Fin 8 := 3; let s : State := State.reset; (s.dev.inSlice d (crcBlock d u) = false)) ∧
    (let d : Die := 0; let u : Fin 8 := 3; let s : State := State.reset; (s.dev.inSlice d (crcBlock d u) = false)) ∧
    (let d : Die := 0; let u : Fin 8 := 3; let s : State := State.reset; (s.dev.inSlice d (crcBlock d u) = false ∧ (s.dev.crcArmed
      d u = false))) ∧
    (let d : Die := 0; let u : Fin 8 := 3; let s : State := State.reset; (s.dev.inSlice d (crcBlock d u) = false ∧ (s.dev.crcArmed
      d u = false))) ∧
    (let d : Die := 0; let u : Fin 8 := 3; let s : State := State.reset; let s : State :=
      { s with dev := s.dev.wrF (Reg.CRC_CTRL d u) F.CRC_CTRL_SRC 0 }; (s.dev.inSlice d (crcBlock d u) = false ∧ (s.dev.rdF
      (Reg.CRC_CTRL d u) F.CRC_CTRL_SRC = 0))) ∧
    (let d : Die := 0; let u : Fin 8 := 3; let s : State := State.reset; let s : State :=
      { s with dev := s.dev.wrF (Reg.CRC_CTRL d u) F.CRC_CTRL_SRC 0 }; (s.dev.inSlice d (crcBlock d u) = false ∧ (s.dev.rdF
      (Reg.CRC_CTRL d u) F.CRC_CTRL_SRC = 0))) ∧
    (let d : Die := 0; let u : Fin 8 := 3; let s : State := State.reset; let s : State :=
      { s with dev := s.dev.wrF (Reg.CRC_CTRL d u) F.CRC_CTRL_SRC 0 }; (s.dev.inSlice d (crcBlock d u) = false ∧ (s.dev.rdF
      (Reg.CRC_CTRL d u) F.CRC_CTRL_SRC = 0))) ∧
    (let d : Die := 0; let u : Fin 8 := 3; let s : State := State.reset; let s : State :=
      { s with dev := (s.dev.wr (Reg.CRC_CTRL d u) 0x230#32).wrF (Reg.CRC_STAT d u) F.CRC_STAT_ARMED 0 }; (s.dev.inSlice d
      (crcBlock d u) = false ∧ (s.dev.crcArmed d u = false ∧ s.dev.crcSourceOk d u = true ∧ s.dev.isHeld (crcBlock d u) = false))) ∧
    (let d : Die := 0; let u : Fin 8 := 3; let s : State := State.reset; let s : State :=
      { s with dev := ((s.dev.wrF (Reg.CRC_CTRL d u) F.CRC_CTRL_SRC 3).wrF (Reg.CRC_STAT d u) F.CRC_STAT_ARMED 1).setCrc d u ⟨true, false, false⟩ };
      (s.dev.inSlice d (crcBlock d u) = false ∧ (s.dev.crcArmed d u = true ∧ crcOpenAtArm (s.dev.rdF (Reg.CRC_CTRL d u)
      F.CRC_CTRL_SRC) = true ∧ (s.dev.crc d u).inWin = true ∧ (s.dev.crc d u).missed = false))) ∧
    (let d : Die := 0; let u : Fin 8 := 3; let s : State := State.reset; let s : State :=
      { s with dev := ((s.dev.wrF (Reg.CRC_STAT d u) F.CRC_STAT_ARMED 1).wr (Reg.CRC_CTRL d u) 0x10#32).setCrc d u CrcH.init };
      (s.dev.inSlice d (crcBlock d u) = false ∧ (s.dev.crcArmed d u = true ∧ (s.dev.crc d u).inWin = false ∧ s.dev.rdF
      (Reg.CRC_CTRL d u) F.CRC_CTRL_SRC = 1 ∧ (s.dev.rdF (Reg.CRC_CTRL d u) F.CRC_CTRL_SAMPLE = 0 ∨ (s.dev.rd (Reg.HEAD_FRAME d
      (s.dev.place d (s.dev.crcSel d u)).head)).toNat % 16 = s.dev.rdF (Reg.CRC_CTRL d u) F.CRC_CTRL_NPH)))) ∧
    (let d : Die := 0; let u : Fin 8 := 3; let s : State := State.reset; let s : State :=
      { s with dev := ((s.dev.wrF (Reg.CRC_STAT d u) F.CRC_STAT_ARMED 1).wr (Reg.CRC_CTRL d u) 0x10#32).setCrc d u ⟨true, false, false⟩ };
      (s.dev.inSlice d (crcBlock d u) = false ∧ (s.dev.crcArmed d u = true ∧ s.dev.rdF (Reg.CRC_CTRL d u) F.CRC_CTRL_SRC = 1 ∧
      (s.dev.crc d u).inWin = true ∧ (s.dev.crc d u).missed = false))) ∧
    (let d : Die := 0; let u : Fin 8 := 3; let s : State := State.reset; let s : State :=
      { s with dev := ((s.dev.wrF (Reg.CRC_STAT d u) F.CRC_STAT_ARMED 1).wr (Reg.CRC_CTRL d u) 0x10#32).setCrc d u ⟨true, false, false⟩ };
      (s.dev.inSlice d (crcBlock d u) = false ∧ (s.dev.crcArmed d u = true ∧ s.dev.rdF (Reg.CRC_CTRL d u) F.CRC_CTRL_SRC = 1 ∧
      (s.dev.crc d u).inWin = true))) := by
  refine ⟨?_, ?_, ?_, ?_, ?_, ?_, ?_, ?_, ?_, ?_, ?_, ?_, ?_⟩ <;> decide +kernel
theorem witness_FaultRegistersComplete :
    (let a : Nat := 0x5010; let s : State := State.reset; let s : State := { s with dev := s.dev.wr a 3#32 }; (isFltStat a = true ∧
      s.dev.reach a = true ∧ ((s.dev.regBlock a).all (fun p => !(s.dev.inSlice p.1 p.2))) = true)) ∧
    (let a : Nat := 0x100; (isFltStat a = false)) ∧
    (let a : Nat := 0x5010; let s : State := State.reset; let s : State := { s with dev := s.dev.wr (a + 8) 2#32 }; (isFltStat a =
      true ∧ s.dev.reach a = true ∧ ((s.dev.regBlock (a + 4)).all (fun p => !(s.dev.inSlice p.1 p.2))) = true)) ∧
    (let w : BitVec 16 := 0x1103#16; let s : State := State.reset; let s : State :=
      { s with dev := { s.dev with flt := { s.dev.flt with masks := [⟨w.toNat, 0x1410, true, false⟩] } } }; ((∀ m ∈ s.dev.maskOn
      w.toNat, m.released = true) ∧ s.dev.inSlice (s.dev.engineDie (w.toNat / 0x1000)) w.toNat = false)) ∧
    (let u : DispUnit := .tile 0 1; let s : State := State.reset; let s : State :=
      { s with dev := let w := s.dev.setLane 0 1 { s.dev.lane 0 1 with badViews := 2 }; { w with flt := { w.flt with disputed := [] } } };
      (s.dev.flt.disputed.contains u = false ∧ s.dev.viewsDiffer u = true)) ∧
    (let u : DispUnit := .tile 0 1; let s : State := State.reset; let s : State :=
      { s with dev := let w := s.dev.setLane 0 1 { s.dev.lane 0 1 with goodViews := 2 }; { w with flt := { w.flt with disputed := [u] } } };
      (s.dev.flt.disputed.contains u = true ∧ s.dev.viewsAgree u = true)) := by
  refine ⟨?_, ?_, ?_, ?_, ?_, ?_⟩ <;> decide +kernel
theorem witness_SelfTestComplete :
    (let d : Die := 0; let blk : BitVec 16 := 0x1A03#16; let s : State := State.reset; let s : State :=
      { s with dev := let w := (s.dev.wr Reg.VSP_PWR_STAT 2#32).wr (Reg.BIST_CTRL d) 1#32; let w := forAll (List.range 8) w (fun w u => w.wr (Reg.CRC_CTRL d u) 0#32); let w := w.setEng d { w.eng d with slice := none }; w };
      ((s.dev.power = 2 ∨ s.dev.power = 3) ∧ (s.dev.rdF (Reg.BIST_CTRL d) F.BIST_CTRL_EN ≠ 0 ∨ blk.toNat ∈ (s.dev.eng d).due) ∧
      (s.dev.eng d).slice = none ∧ s.dev.tests d blk.toNat = true ∧ s.dev.opportunity d blk.toNat ((s.dev.eng d).due.contains
      blk.toNat) = true)) ∧
    (let d : Die := 0; let blk : BitVec 16 := 0x1A03#16; let s : State := State.reset; let s : State :=
      { s with dev := s.dev.wr Reg.VSP_PWR_STAT 1#32 }; ((s.dev.power ≠ 2 ∧ s.dev.power ≠ 3 ∧ s.dev.power ≠ 4) ∨ (s.dev.eng
      d).slice.isSome = true ∨ s.dev.tests d blk.toNat = false)) ∧
    (let d : Die := 0; let sl : Slice := { block := 0x1A03, len := 64, prio := false, retest := false, saved := [] }; let s : State
      := State.reset; let s : State :=
      { s with dev := let w := (s.dev.wr Reg.VSP_PWR_STAT 2#32).wr (Reg.BIST_CTRL d) 1#32; let w := forAll (List.range 8) w (fun w u => w.wr (Reg.CRC_CTRL d u) 0#32); w.setEng d { w.eng d with slice := some sl } |> fun w => w };
      ((s.dev.eng d).slice = some sl ∧ sl.len < 65536 ∧ sl.block < 65536 ∧ sl.retest = false)) ∧
    (let d : Die := 0; let sl : Slice := { block := 0x1A03, len := 64, prio := false, retest := false, saved := [] }; let s : State
      := State.reset; let s : State :=
      { s with dev := let w := (s.dev.wr Reg.VSP_PWR_STAT 2#32).wr (Reg.BIST_CTRL d) 1#32; let w := forAll (List.range 8) w (fun w u => w.wr (Reg.CRC_CTRL d u) 0#32); w.setEng d { w.eng d with slice := some sl } |> fun w => w };
      ((s.dev.eng d).slice = some sl ∧ sl.len < 65536 ∧ sl.block < 65536 ∧ sl.saved = [])) ∧
    (let d : Die := 0; let sl : Slice := { block := 0x1A03, len := 64, prio := false, retest := false, saved := [] }; let s : State
      := State.reset; let s : State :=
      { s with dev := let w := (s.dev.wr Reg.VSP_PWR_STAT 2#32).wr (Reg.BIST_CTRL d) 1#32; let w := forAll (List.range 8) w (fun w u => w.wr (Reg.CRC_CTRL d u) 0#32); w.setEng d { w.eng d with slice := some sl } |> fun w => w };
      ((s.dev.eng d).slice = some sl ∧ sl.block < 65536)) ∧
    (let d : Die := 0; let sl : Slice := { block := 0x1A03, len := 64, prio := false, retest := false, saved := [] }; let s : State
      := State.reset; let s : State :=
      { s with dev := let w := (s.dev.wr Reg.VSP_PWR_STAT 2#32).wr (Reg.BIST_CTRL d) 1#32; let w := forAll (List.range 8) w (fun w u => w.wr (Reg.CRC_CTRL d u) 0#32); w.setEng d { w.eng d with slice := some sl } |> fun w => w };
      ((s.dev.eng d).slice = some sl ∧ sl.block < 65536 ∧ sliceYields sl.block = true ∧ ((sl.prio = false ∧ sl.retest = false) ∨
      sl.block / 0x100 % 0x10 = 0xA))) ∧
    (let d : Die := 0; let blk : BitVec 16 := 0x1A03#16; let s : State := State.reset; (s.dev.tests d blk.toNat = true)) ∧
    (let s : State := State.reset; let s : State :=
      { s with dev := let w := s.dev.wr Reg.VSP_PWR_STAT 1#32; { w with pwr := { w.pwr with delivered := true, tested := false }, drcs := [(0, { DrcH.init with trained := true }), (1, { DrcH.init with trained := true })] } };
      (s.dev.power = 1 ∧ s.dev.pwr.delivered = true ∧ s.dev.pwr.tested = false ∧ (∀ e ∈ List.range 2, (s.dev.drc e).trained =
      true))) := by
  refine ⟨?_, ?_, ?_, ?_, ?_, ?_, ?_, ?_⟩ <;> decide +kernel
theorem witness_HostInterfaceComplete :
    (let s : State := State.reset; let s : State :=
      { s with dev := let w := (s.dev.wr Reg.VSP_PWR_STAT 2#32); let w := { w with pwr := { w.pwr with vbat := 0, rstHeld := false, lost := [], delivered := true } };  w };
      (s.dev.hostUp = true)) ∧
    (let s : State := State.reset; let s : State :=
      { s with dev := let w := (s.dev.wr Reg.VSP_PWR_STAT 2#32); let w := { w with pwr := { w.pwr with vbat := 0, rstHeld := false, lost := [], delivered := true } };  w };
      (s.dev.hostUp = true)) ∧
    (let s : State := State.reset; let s : State :=
      { s with dev := let w := (s.dev.wr Reg.VSP_PWR_STAT 2#32); let w := { w with pwr := { w.pwr with vbat := 0, rstHeld := false, lost := [], delivered := true } };  w };
      (s.dev.hostUp = true)) ∧
    (let off : Nat := 0x40; let data : List Byte := [1#8, 2#8]; let s : State := State.reset; let s : State :=
      { s with dev := let w := (s.dev.wr Reg.VSP_PWR_STAT 2#32); let w := { w with pwr := { w.pwr with vbat := 0, rstHeld := false, lost := [], delivered := true } }; let w := { w with img := { w.img with job := 0 } }; w };
      (s.dev.hostUp = true ∧ s.dev.stageBusy = false ∧ off + data.length ≤ 0x800000 ∧ off < 0x800000)) ∧
    (let off : Nat := 0x40; let s : State := State.reset; let s : State :=
      { s with dev := let w := (s.dev.wr Reg.VSP_PWR_STAT 2#32); let w := { w with pwr := { w.pwr with vbat := 0, rstHeld := false, lost := [], delivered := true } }; let w := { w with img := { w.img with job := 1 } }; w };
      (s.dev.hostUp = true ∧ s.dev.stageBusy = true ∧ off < 0x800000)) ∧
    (let off : Nat := 0x40; let data : List Byte := [1#8, 2#8]; let s : State := State.reset; let s : State :=
      { s with dev := let w := (s.dev.wr Reg.VSP_PWR_STAT 2#32); let w := { w with pwr := { w.pwr with vbat := 0, rstHeld := false, lost := [], delivered := true } };  w };
      (s.dev.hostUp = true ∧ off + data.length ≤ 0x10000)) ∧
    (let s : State := State.reset; let s : State :=
      { s with dev := let w := (s.dev.wr Reg.VSP_PWR_STAT 2#32); let w := { w with pwr := { w.pwr with vbat := 0, rstHeld := false, lost := [], delivered := true } };  w };
      (s.dev.hostUp = true)) ∧
    (let s : State := State.reset; let s : State := { s with dev := s.dev.wr Reg.VSP_PWR_STAT 0#32 }; (s.dev.hostUp = false)) ∧
    (let s : State := State.reset; let s : State :=
      { s with dev := let w := (s.dev.wr Reg.VSP_PWR_STAT 2#32); let w := { w with pwr := { w.pwr with vbat := 0, rstHeld := false, lost := [], delivered := true } };  w };
      (s.dev.hostUp = true)) ∧
    (let s : State := State.reset; let s : State :=
      { s with dev := let w := (s.dev.wr Reg.VSP_PWR_STAT 2#32); let w := { w with pwr := { w.pwr with vbat := 0, rstHeld := false, lost := [], delivered := true } };  w };
      (s.dev.hostUp = true)) ∧
    (let r : Fin 8 := 2; let s : State := State.reset; let s : State :=
      { s with dev := let w := (s.dev.wr Reg.VSP_PWR_STAT 2#32); let w := { w with pwr := { w.pwr with vbat := 0, rstHeld := false, lost := [], delivered := true } }; let w := (w.wr (Reg.PZP_DMA_CTRL r) 1#32); let w := { w with host := { w.host with dmaQ := r.val :: w.host.dmaQ } }; w };
      (s.dev.hostUp = true ∧ s.dev.dmaNext = some r.val)) ∧
    (let r : Fin 8 := 2; let s : State := State.reset; (s.dev.dmaNext ≠ some r.val ∨ s.dev.hostUp = false)) := by
  refine ⟨?_, ?_, ?_, ?_, ?_, ?_, ?_, ?_, ?_, ?_, ?_, ?_⟩ <;> decide +kernel
theorem witness_SafetySpiComplete :
    (let s : State := State.reset; let s : State :=
      { s with dev := let w := (s.dev.wr Reg.VSP_PWR_STAT 2#32); let w := { w with pwr := { w.pwr with vbat := 0, rstHeld := false, lost := [], delivered := true } };  w };
      (s.dev.spiOn = true)) ∧
    (let s : State := State.reset; let s : State :=
      { s with dev := let w := (s.dev.wr Reg.VSP_PWR_STAT 2#32); let w := { w with pwr := { w.pwr with vbat := 0, rstHeld := false, lost := [], delivered := true } };  w };
      (s.dev.spiOn = true)) ∧
    (let a : BitVec 24 := 0#24; let s : State := State.reset; let s : State :=
      { s with dev := let w := (s.dev.wr Reg.VSP_PWR_STAT 2#32); let w := { w with pwr := { w.pwr with vbat := 0, rstHeld := false, lost := [], delivered := true } }; let w := w.wr Reg.VSP_SPI_CFG 1#32; w };
      (s.dev.spiOn = true ∧ s.dev.rdF Reg.VSP_SPI_CFG F.VSP_SPI_CFG_SPI_RO = 1 ∧ isFltStat (4 * a.toNat) = false ∧ 4 * a.toNat ≠
      Reg.VSP_EVT_HOLD)) ∧
    (let s : State := State.reset; let s : State :=
      { s with dev := let w := (s.dev.wr Reg.VSP_PWR_STAT 2#32); let w := { w with pwr := { w.pwr with vbat := 0, rstHeld := false, lost := [], delivered := true } };  w };
      (s.dev.spiOn = true)) ∧
    (let s : State := State.reset; let s : State :=
      { s with dev := let w := (s.dev.wr Reg.VSP_PWR_STAT 2#32); let w := { w with pwr := { w.pwr with vbat := 0, rstHeld := false, lost := [], delivered := true } };  w };
      (s.dev.spiOn = true)) ∧
    (let s : State := State.reset; let s : State :=
      { s with dev := let w := (s.dev.wr Reg.VSP_PWR_STAT 2#32); let w := { w with pwr := { w.pwr with vbat := 0, rstHeld := false, lost := [], delivered := true } };  w };
      (s.dev.spiOn = true)) ∧
    (let v : Word := 5#32; let s : State := State.reset; let s : State :=
      { s with dev := let w := (s.dev.wr Reg.VSP_PWR_STAT 2#32); let w := { w with pwr := { w.pwr with vbat := 0, rstHeld := false, lost := [], delivered := true } };  w };
      (s.dev.spiOn = true ∧ v ≠ 0x5AFE#32 ∧ v ≠ 0#32)) ∧
    (let e : Nat := 40; let s : State := State.reset; let s : State :=
      { s with dev := let w := (s.dev.wr Reg.VSP_PWR_STAT 2#32); let w := { w with pwr := { w.pwr with vbat := 0, rstHeld := false, lost := [], delivered := true } };  w };
      (s.dev.spiOn = true ∧ e ≠ 88)) ∧
    (let bs : List Byte := [1#8, 2#8, 3#8, 4#8, 5#8]; let s : State := State.reset; let s : State :=
      { s with dev := let w := (s.dev.wr Reg.VSP_PWR_STAT 2#32); let w := { w with pwr := { w.pwr with vbat := 0, rstHeld := false, lost := [], delivered := true } };  w };
      (s.dev.spiOn = true ∧ crc16 ((spiReceived 88 bs).take 9) ≠ beNat (slice (spiReceived 88 bs) 9 2))) ∧
    (let s : State := State.reset; let s : State :=
      { s with dev := let w := (s.dev.wr Reg.VSP_PWR_STAT 2#32); let w := { w with pwr := { w.pwr with vbat := 0, rstHeld := false, lost := [], delivered := true } }; let w := w.wr Reg.VSP_SPI_CFG 2#32; w };
      ((s.dev.power = 2 ∨ s.dev.power = 3) ∧ s.dev.rdF Reg.VSP_SPI_CFG F.VSP_SPI_CFG_WDOG = 1)) ∧
    (let s : State := State.reset; let s : State :=
      { s with dev := let w := (s.dev.wr Reg.VSP_PWR_STAT 2#32); let w := { w with pwr := { w.pwr with vbat := 0, rstHeld := false, lost := [], delivered := true } }; let w := w.wr Reg.VSP_SPI_CFG 0#32; w };
      ((s.dev.power ≠ 2 ∧ s.dev.power ≠ 3) ∨ s.dev.rdF Reg.VSP_SPI_CFG F.VSP_SPI_CFG_WDOG = 0)) := by
  refine ⟨?_, ?_, ?_, ?_, ?_, ?_, ?_, ?_, ?_, ?_, ?_⟩ <;> decide +kernel
theorem witness_IsobusComplete :
    (let p : Fin 2 := 1; let sa : Byte := 0x85#8; let nm : BitVec 64 := 0x1234#64; let s : State := State.reset; let s : State :=
      { s with dev := let w := (s.dev.wr Reg.VSP_PWR_STAT 2#32); let w := { w with pwr := { w.pwr with vbat := 0, rstHeld := false, lost := [], delivered := true } }; let w := (((w.wr (Reg.PZP_CAN_STAT p) 0#32).wrF (Reg.PZP_CAN_STAT p) F.PZP_CAN_STAT_ADDR (sa.toNat)).wrF (Reg.PZP_CAN_STAT p) F.PZP_CAN_STAT_CLAIM 2); let w := w.setCan p { w.can p with name := nm.toNat + 1 }; w };
      (s.dev.portUp p = true ∧ (s.dev.rdF (Reg.PZP_CAN_STAT p) F.PZP_CAN_STAT_CLAIM = 1 ∨ s.dev.rdF (Reg.PZP_CAN_STAT p)
      F.PZP_CAN_STAT_CLAIM = 2) ∧ s.dev.rdF (Reg.PZP_CAN_STAT p) F.PZP_CAN_STAT_ADDR = sa.toNat ∧ sa ≠ 254#8 ∧ nm.toNat <
      (s.dev.can p).name)) ∧
    (let p : Fin 2 := 1; let sa : Byte := 0x85#8; let nm : BitVec 64 := 0x1234#64; let s : State := State.reset; let s : State :=
      { s with dev := let w := (s.dev.wr Reg.VSP_PWR_STAT 2#32); let w := { w with pwr := { w.pwr with vbat := 0, rstHeld := false, lost := [], delivered := true } }; let w := (((w.wr (Reg.PZP_CAN_STAT p) 0#32).wrF (Reg.PZP_CAN_STAT p) F.PZP_CAN_STAT_ADDR (sa.toNat)).wrF (Reg.PZP_CAN_STAT p) F.PZP_CAN_STAT_CLAIM 1); let w := w.setCan p { w.can p with name := nm.toNat - 1 }; w };
      (s.dev.portUp p = true ∧ (s.dev.rdF (Reg.PZP_CAN_STAT p) F.PZP_CAN_STAT_CLAIM = 1 ∨ s.dev.rdF (Reg.PZP_CAN_STAT p)
      F.PZP_CAN_STAT_CLAIM = 2) ∧ s.dev.rdF (Reg.PZP_CAN_STAT p) F.PZP_CAN_STAT_ADDR = sa.toNat ∧ (s.dev.can p).name < nm.toNat)) ∧
    (let p : Fin 2 := 1; let sa : Byte := 0x85#8; let s : State := State.reset; let s : State :=
      { s with dev := let w := (s.dev.wr Reg.VSP_PWR_STAT 2#32); let w := { w with pwr := { w.pwr with vbat := 0, rstHeld := false, lost := [], delivered := true } }; let w := (((w.wr (Reg.PZP_CAN_STAT p) 0#32).wrF (Reg.PZP_CAN_STAT p) F.PZP_CAN_STAT_ADDR (sa.toNat + 1)).wrF (Reg.PZP_CAN_STAT p) F.PZP_CAN_STAT_CLAIM 2);  w };
      (s.dev.portUp p = true ∧ s.dev.rdF (Reg.PZP_CAN_STAT p) F.PZP_CAN_STAT_ADDR ≠ sa.toNat ∧ sa ≠ 254#8)) ∧
    (let p : Fin 2 := 1; let s : State := State.reset; let s : State :=
      { s with dev := let w := (s.dev.wr Reg.VSP_PWR_STAT 2#32); let w := { w with pwr := { w.pwr with vbat := 0, rstHeld := false, lost := [], delivered := true } }; let w := (((w.wr (Reg.PZP_CAN_STAT p) 0#32).wrF (Reg.PZP_CAN_STAT p) F.PZP_CAN_STAT_ADDR (0x85)).wrF (Reg.PZP_CAN_STAT p) F.PZP_CAN_STAT_CLAIM 1);  w };
      (s.dev.portUp p = true ∧ s.dev.rdF (Reg.PZP_CAN_STAT p) F.PZP_CAN_STAT_CLAIM = 1)) ∧
    (let p : Fin 2 := 1; let s : State := State.reset; let s : State :=
      { s with dev := let w := (s.dev.wr Reg.VSP_PWR_STAT 2#32); let w := { w with pwr := { w.pwr with vbat := 0, rstHeld := false, lost := [], delivered := true } }; let w := (((w.wr (Reg.PZP_CAN_STAT p) 0#32).wrF (Reg.PZP_CAN_STAT p) F.PZP_CAN_STAT_ADDR (0x85)).wrF (Reg.PZP_CAN_STAT p) F.PZP_CAN_STAT_CLAIM 2);  w };
      (s.dev.portUp p = true)) ∧
    (let p : Fin 2 := 1; let s : State := State.reset; let s : State :=
      { s with dev := let w := (s.dev.wr Reg.VSP_PWR_STAT 2#32); let w := { w with pwr := { w.pwr with vbat := 0, rstHeld := false, lost := [], delivered := true } }; let w := (((w.wr (Reg.PZP_CAN_STAT p) 0#32).wrF (Reg.PZP_CAN_STAT p) F.PZP_CAN_STAT_ADDR (0x85)).wrF (Reg.PZP_CAN_STAT p) F.PZP_CAN_STAT_CLAIM 0); let w := w.wrF (Reg.PZP_CAN_STAT p) F.PZP_CAN_STAT_BUSOFF 1; w };
      (s.dev.canUp = true ∧ s.dev.portUp p = false)) ∧
    (let p : Fin 2 := 1; let sa : Byte := 0x85#8; let fn : Nat := 3; let z : Fin 2048 := 9; let s : State := State.reset; let s :
      State :=
      { s with dev := let w := (s.dev.wr Reg.VSP_PWR_STAT 2#32); let w := { w with pwr := { w.pwr with vbat := 0, rstHeld := false, lost := [], delivered := true } }; let w := (((w.wr (Reg.PZP_CAN_STAT p) 0#32).wrF (Reg.PZP_CAN_STAT p) F.PZP_CAN_STAT_ADDR (0x84)).wrF (Reg.PZP_CAN_STAT p) F.PZP_CAN_STAT_CLAIM 2); let w := w.setCan p { w.can p with others := [(sa.toNat, 77)] }; let w := { w with cfg := { w.cfg with zhead := { w.cfg.zhead with tecu := 77, lighting := [(fn, z.val)] }, zones := [(z.val, ⟨1, 15, 0, 0, [], 0, 0⟩)] } }; w };
      (s.dev.claimed p = true ∧ s.dev.nameAt p sa.toNat = some s.dev.cfg.zhead.tecu ∧ s.dev.cfg.zhead.lighting.find? (fun m => m.1
      == fn) = some (fn, z.val) ∧ s.dev.zoneUsed z = true ∧ (s.dev.zone z).classes.testBit 1 = true ∧ s.dev.roomFor 1024 z = true)) ∧
    (let p : Fin 2 := 1; let sa : Byte := 0x85#8; let s : State := State.reset; (s.dev.claimed p = false ∨ s.dev.nameAt p sa.toNat
      ≠ some s.dev.cfg.zhead.tecu)) ∧
    (let s : State := State.reset; let s : State :=
      { s with dev := let w := (s.dev.wr Reg.VSP_PWR_STAT 2#32); let w := { w with pwr := { w.pwr with vbat := 0, rstHeld := false, lost := [], delivered := true } };  w };
      (s.dev.canUp = true)) ∧
    (let p : Fin 2 := 1; let s : State := State.reset; let s : State :=
      { s with dev := let w := (s.dev.wr Reg.VSP_PWR_STAT 2#32); let w := { w with pwr := { w.pwr with vbat := 0, rstHeld := false, lost := [], delivered := true } }; let w := (((w.wr (Reg.PZP_CAN_STAT p) 0#32).wrF (Reg.PZP_CAN_STAT p) F.PZP_CAN_STAT_ADDR (0x85)).wrF (Reg.PZP_CAN_STAT p) F.PZP_CAN_STAT_CLAIM 2);  w };
      (s.dev.claimed p = true)) ∧
    (let p : Fin 2 := 1; let s : State := State.reset; let s : State :=
      { s with dev := let w := (s.dev.wr Reg.VSP_PWR_STAT 2#32); let w := { w with pwr := { w.pwr with vbat := 0, rstHeld := false, lost := [], delivered := true } }; let w := (((w.wr (Reg.PZP_CAN_STAT p) 0#32).wrF (Reg.PZP_CAN_STAT p) F.PZP_CAN_STAT_ADDR (0x85)).wrF (Reg.PZP_CAN_STAT p) F.PZP_CAN_STAT_CLAIM 2);  w };
      (s.dev.claimed p = true)) ∧
    (let p : Fin 2 := 1; let s : State := State.reset; let s : State :=
      { s with dev := let w := (s.dev.wr Reg.VSP_PWR_STAT 2#32); let w := { w with pwr := { w.pwr with vbat := 0, rstHeld := false, lost := [], delivered := true } }; let w := (((w.wr (Reg.PZP_CAN_STAT p) 0#32).wrF (Reg.PZP_CAN_STAT p) F.PZP_CAN_STAT_ADDR (0x85)).wrF (Reg.PZP_CAN_STAT p) F.PZP_CAN_STAT_CLAIM 2);  w };
      (s.dev.portUp p = true)) ∧
    (let p : Fin 2 := 1; let s : State := State.reset; let s : State :=
      { s with dev := let w := (s.dev.wr Reg.VSP_PWR_STAT 2#32); let w := { w with pwr := { w.pwr with vbat := 0, rstHeld := false, lost := [], delivered := true } }; let w := (((w.wr (Reg.PZP_CAN_STAT p) 0#32).wrF (Reg.PZP_CAN_STAT p) F.PZP_CAN_STAT_ADDR (0x85)).wrF (Reg.PZP_CAN_STAT p) F.PZP_CAN_STAT_CLAIM 2);  w };
      (s.dev.portUp p = true)) ∧
    (let p : Fin 2 := 1; let s : State := State.reset; let s : State :=
      { s with dev := let w := (s.dev.wr Reg.VSP_PWR_STAT 2#32); let w := { w with pwr := { w.pwr with vbat := 0, rstHeld := false, lost := [], delivered := true } }; let w := (((w.wr (Reg.PZP_CAN_STAT p) 0#32).wrF (Reg.PZP_CAN_STAT p) F.PZP_CAN_STAT_ADDR (0x85)).wrF (Reg.PZP_CAN_STAT p) F.PZP_CAN_STAT_CLAIM 2);  w };
      (s.dev.claimed p = true)) ∧
    (let p : Fin 2 := 1; let pgn : BitVec 18 := 12#18; let s : State := State.reset; let s : State :=
      { s with dev := let w := (s.dev.wr Reg.VSP_PWR_STAT 2#32); let w := { w with pwr := { w.pwr with vbat := 0, rstHeld := false, lost := [], delivered := true } }; let w := (((w.wr (Reg.PZP_CAN_STAT p) 0#32).wrF (Reg.PZP_CAN_STAT p) F.PZP_CAN_STAT_ADDR (0x85)).wrF (Reg.PZP_CAN_STAT p) F.PZP_CAN_STAT_CLAIM 2);  w };
      (s.dev.claimed p = true ∧ pgn.toNat ∉ [60928, 65226, 65227, 65228, 65235, 65242, 64965, 64818, 65089])) := by
  refine ⟨?_, ?_, ?_, ?_, ?_, ?_, ?_, ?_, ?_, ?_, ?_, ?_, ?_, ?_, ?_⟩ <;> decide +kernel
theorem witness_ZoneSessionsComplete :
    (let p : Fin 2 := 1; let sa : Byte := 0x85#8; let k : Fin 1024 := 0; let cls : Byte := 1#8; let tmo : Byte := 10#8; let s :
      State := State.reset; let s : State :=
      { s with dev := let w := (s.dev.wr Reg.VSP_PWR_STAT 2#32); let w := { w with pwr := { w.pwr with vbat := 0, rstHeld := false, lost := [], delivered := true } }; let w := (((w.wr (Reg.PZP_CAN_STAT p) 0#32).wrF (Reg.PZP_CAN_STAT p) F.PZP_CAN_STAT_ADDR (0x84)).wrF (Reg.PZP_CAN_STAT p) F.PZP_CAN_STAT_CLAIM 2); let w := w.setCan p { w.can p with others := [(sa.toNat, 77)] }; let w := { w with cfg := { w.cfg with zhead := { w.cfg.zhead with clients := [(77, 0xFF, 0)], refhead := 0xFF }, zones := [(9, ⟨2, 15, 0, 0, [0, 2], 0, 0⟩), (10, ⟨1, 15, 0, 0, [], 0, 0⟩), (11, ⟨1, 15, 0, 0, [], 0, 0⟩)] }, pzp := { w.pzp with tok := [], ptok := [], nackAt := [] } }; let w := { w with pzp := { w.pzp with sess := [] } }; w };
      (s.dev.claimed p = true ∧ cls.toNat ≤ 3 ∧ 5 ≤ tmo.toNat ∧ tmo.toNat ≤ 100 ∧ (s.dev.nameAt p sa.toNat).isSome = true ∧
      s.dev.mayOpen ((s.dev.nameAt p sa.toNat).getD 0) cls.toNat = true ∧ (s.dev.pzp.sess.filter (fun y => y.2.any (fun u => u.name
      == (s.dev.nameAt p sa.toNat).getD 0))).length < 4 ∧ s.dev.freeSess = some k.val)) ∧
    (let p : Fin 2 := 1; let sa : Byte := 0x85#8; let cls : Byte := 1#8; let tmo : Byte := 3#8; let s : State := State.reset; let s
      : State :=
      { s with dev := let w := (s.dev.wr Reg.VSP_PWR_STAT 2#32); let w := { w with pwr := { w.pwr with vbat := 0, rstHeld := false, lost := [], delivered := true } }; let w := (((w.wr (Reg.PZP_CAN_STAT p) 0#32).wrF (Reg.PZP_CAN_STAT p) F.PZP_CAN_STAT_ADDR (0x84)).wrF (Reg.PZP_CAN_STAT p) F.PZP_CAN_STAT_CLAIM 2); let w := w.setCan p { w.can p with others := [(sa.toNat, 77)] }; let w := { w with cfg := { w.cfg with zhead := { w.cfg.zhead with clients := [(77, 0xFF, 0)], refhead := 0xFF }, zones := [(9, ⟨2, 15, 0, 0, [0, 2], 0, 0⟩), (10, ⟨1, 15, 0, 0, [], 0, 0⟩), (11, ⟨1, 15, 0, 0, [], 0, 0⟩)] }, pzp := { w.pzp with tok := [], ptok := [], nackAt := [] } };  w };
      (s.dev.claimed p = true ∧ (3 < cls.toNat ∨ tmo.toNat < 5 ∨ 100 < tmo.toNat))) ∧
    (let p : Fin 2 := 1; let sa : Byte := 0x85#8; let k : Fin 1024 := 5; let x : Sess :=
      { port := 1, name := 77, sa := 0x85, cls := 1, timeout := 10, tag := 3, lost := false }; let s : State := State.reset; let s
      : State :=
      { s with dev := let w := (s.dev.wr Reg.VSP_PWR_STAT 2#32); let w := { w with pwr := { w.pwr with vbat := 0, rstHeld := false, lost := [], delivered := true } }; let w := (((w.wr (Reg.PZP_CAN_STAT p) 0#32).wrF (Reg.PZP_CAN_STAT p) F.PZP_CAN_STAT_ADDR (0x84)).wrF (Reg.PZP_CAN_STAT p) F.PZP_CAN_STAT_CLAIM 2); let w := w.setCan p { w.can p with others := [(sa.toNat, 77)] }; let w := { w with cfg := { w.cfg with zhead := { w.cfg.zhead with clients := [(77, 0xFF, 0)], refhead := 0xFF }, zones := [(9, ⟨2, 15, 0, 0, [0, 2], 0, 0⟩), (10, ⟨1, 15, 0, 0, [], 0, 0⟩), (11, ⟨1, 15, 0, 0, [], 0, 0⟩)] }, pzp := { w.pzp with tok := [], ptok := [], nackAt := [] } }; let w := w.setSess k (some { x with port := p }); w };
      (s.dev.claimed p = true ∧ s.dev.sess k = some x ∧ x.port = p ∧ s.dev.nameAt p sa.toNat = some x.name ∧ 0 < s.dev.tokens k ∧ 0
      < s.dev.portTokens p)) ∧
    (let p : Fin 2 := 1; let sa : Byte := 0x85#8; let k : Fin 1024 := 5; let x : Sess :=
      { port := 1, name := 77, sa := 0x85, cls := 1, timeout := 10, tag := 3, lost := false }; let s : State := State.reset; let s
      : State :=
      { s with dev := let w := (s.dev.wr Reg.VSP_PWR_STAT 2#32); let w := { w with pwr := { w.pwr with vbat := 0, rstHeld := false, lost := [], delivered := true } }; let w := (((w.wr (Reg.PZP_CAN_STAT p) 0#32).wrF (Reg.PZP_CAN_STAT p) F.PZP_CAN_STAT_ADDR (0x84)).wrF (Reg.PZP_CAN_STAT p) F.PZP_CAN_STAT_CLAIM 2); let w := w.setCan p { w.can p with others := [(sa.toNat, 77)] }; let w := { w with cfg := { w.cfg with zhead := { w.cfg.zhead with clients := [(77, 0xFF, 0)], refhead := 0xFF }, zones := [(9, ⟨2, 15, 0, 0, [0, 2], 0, 0⟩), (10, ⟨1, 15, 0, 0, [], 0, 0⟩), (11, ⟨1, 15, 0, 0, [], 0, 0⟩)] }, pzp := { w.pzp with tok := [], ptok := [], nackAt := [] } }; let w := w.setSess k (some { x with port := p }); w };
      (s.dev.claimed p = true ∧ s.dev.sess k = some x ∧ x.port = p ∧ s.dev.nameAt p sa.toNat = some x.name ∧ 0 < s.dev.tokens k ∧ 0
      < s.dev.portTokens p)) ∧
    (let p : Fin 2 := 1; let sa : Byte := 0x85#8; let k : Fin 1024 := 5; let s : State := State.reset; let s : State :=
      { s with dev := let w := (s.dev.wr Reg.VSP_PWR_STAT 2#32); let w := { w with pwr := { w.pwr with vbat := 0, rstHeld := false, lost := [], delivered := true } }; let w := (((w.wr (Reg.PZP_CAN_STAT p) 0#32).wrF (Reg.PZP_CAN_STAT p) F.PZP_CAN_STAT_ADDR (0x84)).wrF (Reg.PZP_CAN_STAT p) F.PZP_CAN_STAT_CLAIM 2); let w := w.setCan p { w.can p with others := [(sa.toNat, 77)] }; let w := { w with cfg := { w.cfg with zhead := { w.cfg.zhead with clients := [(77, 0xFF, 0)], refhead := 0xFF }, zones := [(9, ⟨2, 15, 0, 0, [0, 2], 0, 0⟩), (10, ⟨1, 15, 0, 0, [], 0, 0⟩), (11, ⟨1, 15, 0, 0, [], 0, 0⟩)] }, pzp := { w.pzp with tok := [], ptok := [], nackAt := [] } };  w };
      (s.dev.claimed p = true ∧ s.dev.sess k = none)) ∧
    (let p : Fin 2 := 1; let sa : Byte := 0x85#8; let k : Fin 1024 := 5; let x : Sess :=
      { port := 1, name := 77, sa := 0x85, cls := 1, timeout := 10, tag := 3, lost := false }; let s : State := State.reset; let s
      : State :=
      { s with dev := let w := (s.dev.wr Reg.VSP_PWR_STAT 2#32); let w := { w with pwr := { w.pwr with vbat := 0, rstHeld := false, lost := [], delivered := true } }; let w := (((w.wr (Reg.PZP_CAN_STAT p) 0#32).wrF (Reg.PZP_CAN_STAT p) F.PZP_CAN_STAT_ADDR (0x84)).wrF (Reg.PZP_CAN_STAT p) F.PZP_CAN_STAT_CLAIM 2); let w := w.setCan p { w.can p with others := [(sa.toNat, 77)] }; let w := { w with cfg := { w.cfg with zhead := { w.cfg.zhead with clients := [(77, 0xFF, 0)], refhead := 0xFF }, zones := [(9, ⟨2, 15, 0, 0, [0, 2], 0, 0⟩), (10, ⟨1, 15, 0, 0, [], 0, 0⟩), (11, ⟨1, 15, 0, 0, [], 0, 0⟩)] }, pzp := { w.pzp with tok := [], ptok := [], nackAt := [] } }; let w := w.setSess k (some x); w };
      (s.dev.sess k = some x)) ∧
    (let p : Fin 2 := 1; let sa : Byte := 0x85#8; let k : Fin 1024 := 5; let x : Sess :=
      { port := 1, name := 77, sa := 0x85, cls := 1, timeout := 10, tag := 3, lost := true }; let s : State := State.reset; let s :
      State :=
      { s with dev := let w := (s.dev.wr Reg.VSP_PWR_STAT 2#32); let w := { w with pwr := { w.pwr with vbat := 0, rstHeld := false, lost := [], delivered := true } }; let w := (((w.wr (Reg.PZP_CAN_STAT p) 0#32).wrF (Reg.PZP_CAN_STAT p) F.PZP_CAN_STAT_ADDR (0x84)).wrF (Reg.PZP_CAN_STAT p) F.PZP_CAN_STAT_CLAIM 2); let w := w.setCan p { w.can p with others := [(sa.toNat, 77)] }; let w := { w with cfg := { w.cfg with zhead := { w.cfg.zhead with clients := [(77, 0xFF, 0)], refhead := 0xFF }, zones := [(9, ⟨2, 15, 0, 0, [0, 2], 0, 0⟩), (10, ⟨1, 15, 0, 0, [], 0, 0⟩), (11, ⟨1, 15, 0, 0, [], 0, 0⟩)] }, pzp := { w.pzp with tok := [], ptok := [], nackAt := [] } }; let w := w.setSess k (some x); w };
      (s.dev.sess k = some x ∧ x.lost = true)) ∧
    (let k : Fin 1024 := 5; let s : State := State.reset; ((s.dev.sess k).any (fun y => y.lost) = false)) := by
  refine ⟨?_, ?_, ?_, ?_, ?_, ?_, ?_, ?_⟩ <;> decide +kernel
theorem witness_ZoneRequestsComplete :
    (let p : Fin 2 := 1; let sa : Byte := 0x85#8; let k : Fin 1024 := 5; let x : Sess :=
      { port := 1, name := 77, sa := 0x85, cls := 1, timeout := 10, tag := 3, lost := false }; let z : Fin 2048 := 9; let lv : Byte
      := 200#8; let s : State := State.reset; let s : State :=
      { s with dev := let w := (s.dev.wr Reg.VSP_PWR_STAT 2#32); let w := { w with pwr := { w.pwr with vbat := 0, rstHeld := false, lost := [], delivered := true } }; let w := (((w.wr (Reg.PZP_CAN_STAT p) 0#32).wrF (Reg.PZP_CAN_STAT p) F.PZP_CAN_STAT_ADDR (0x84)).wrF (Reg.PZP_CAN_STAT p) F.PZP_CAN_STAT_CLAIM 2); let w := w.setCan p { w.can p with others := [(sa.toNat, 77)] }; let w := { w with cfg := { w.cfg with zhead := { w.cfg.zhead with clients := [(77, 0xFF, 0)], refhead := 0xFF }, zones := [(9, ⟨2, 15, 0, 0, [0, 2], 0, 0⟩), (10, ⟨1, 15, 0, 0, [], 0, 0⟩), (11, ⟨1, 15, 0, 0, [], 0, 0⟩)] }, pzp := { w.pzp with tok := [], ptok := [], nackAt := [] } }; let w := w.setSess k (some { x with port := p }); w };
      (s.dev.claimed p = true ∧ s.dev.sess k = some x ∧ x.port = p ∧ s.dev.nameAt p sa.toNat = some x.name ∧ 0 < s.dev.tokens k ∧ 0
      < s.dev.portTokens p ∧ (s.dev.zoneUsed z = true ∧ (s.dev.zone z).classes.testBit x.cls = true) ∧ s.dev.roomFor k z = true ∧
      lv.toNat ≤ 250)) ∧
    (let p : Fin 2 := 1; let sa : Byte := 0x85#8; let k : Fin 1024 := 5; let x : Sess :=
      { port := 1, name := 77, sa := 0x85, cls := 1, timeout := 10, tag := 3, lost := false }; let z : Fin 2048 := 9; let s : State
      := State.reset; let s : State :=
      { s with dev := let w := (s.dev.wr Reg.VSP_PWR_STAT 2#32); let w := { w with pwr := { w.pwr with vbat := 0, rstHeld := false, lost := [], delivered := true } }; let w := (((w.wr (Reg.PZP_CAN_STAT p) 0#32).wrF (Reg.PZP_CAN_STAT p) F.PZP_CAN_STAT_ADDR (0x84)).wrF (Reg.PZP_CAN_STAT p) F.PZP_CAN_STAT_CLAIM 2); let w := w.setCan p { w.can p with others := [(sa.toNat, 77)] }; let w := { w with cfg := { w.cfg with zhead := { w.cfg.zhead with clients := [(77, 0xFF, 0)], refhead := 0xFF }, zones := [(9, ⟨2, 15, 0, 0, [0, 2], 0, 0⟩), (10, ⟨1, 15, 0, 0, [], 0, 0⟩), (11, ⟨1, 15, 0, 0, [], 0, 0⟩)] }, pzp := { w.pzp with tok := [], ptok := [], nackAt := [] } }; let w := w.setSess k (some { x with port := p });let w := w.putReq ⟨k, x.cls, z, 3⟩; w };
      (s.dev.claimed p = true ∧ s.dev.sess k = some x ∧ x.port = p ∧ s.dev.nameAt p sa.toNat = some x.name ∧ 0 < s.dev.tokens k ∧ 0
      < s.dev.portTokens p ∧ (s.dev.zoneUsed z = true ∧ (s.dev.zone z).classes.testBit x.cls = true))) ∧
    (let p : Fin 2 := 1; let sa : Byte := 0x85#8; let k : Fin 1024 := 5; let x : Sess :=
      { port := 1, name := 77, sa := 0x85, cls := 1, timeout := 10, tag := 3, lost := false }; let lv : Byte := 251#8; let s :
      State := State.reset; let s : State :=
      { s with dev := let w := (s.dev.wr Reg.VSP_PWR_STAT 2#32); let w := { w with pwr := { w.pwr with vbat := 0, rstHeld := false, lost := [], delivered := true } }; let w := (((w.wr (Reg.PZP_CAN_STAT p) 0#32).wrF (Reg.PZP_CAN_STAT p) F.PZP_CAN_STAT_ADDR (0x84)).wrF (Reg.PZP_CAN_STAT p) F.PZP_CAN_STAT_CLAIM 2); let w := w.setCan p { w.can p with others := [(sa.toNat, 77)] }; let w := { w with cfg := { w.cfg with zhead := { w.cfg.zhead with clients := [(77, 0xFF, 0)], refhead := 0xFF }, zones := [(9, ⟨2, 15, 0, 0, [0, 2], 0, 0⟩), (10, ⟨1, 15, 0, 0, [], 0, 0⟩), (11, ⟨1, 15, 0, 0, [], 0, 0⟩)] }, pzp := { w.pzp with tok := [], ptok := [], nackAt := [] } }; let w := w.setSess k (some { x with port := p }); w };
      (s.dev.claimed p = true ∧ s.dev.sess k = some x ∧ x.port = p ∧ s.dev.nameAt p sa.toNat = some x.name ∧ 0 < s.dev.tokens k ∧ 0
      < s.dev.portTokens p ∧ 250 < lv.toNat)) ∧
    (let p : Fin 2 := 1; let sa : Byte := 0x85#8; let k : Fin 1024 := 5; let x : Sess :=
      { port := 1, name := 77, sa := 0x85, cls := 1, timeout := 10, tag := 3, lost := false }; let lv : Byte := 200#8; let s :
      State := State.reset; let s : State :=
      { s with dev := let w := (s.dev.wr Reg.VSP_PWR_STAT 2#32); let w := { w with pwr := { w.pwr with vbat := 0, rstHeld := false, lost := [], delivered := true } }; let w := (((w.wr (Reg.PZP_CAN_STAT p) 0#32).wrF (Reg.PZP_CAN_STAT p) F.PZP_CAN_STAT_ADDR (0x84)).wrF (Reg.PZP_CAN_STAT p) F.PZP_CAN_STAT_CLAIM 2); let w := w.setCan p { w.can p with others := [(sa.toNat, 77)] }; let w := { w with cfg := { w.cfg with zhead := { w.cfg.zhead with clients := [(77, 0xFF, 0)], refhead := 0xFF }, zones := [(9, ⟨2, 15, 0, 0, [0, 2], 0, 0⟩), (10, ⟨1, 15, 0, 0, [], 0, 0⟩), (11, ⟨1, 15, 0, 0, [], 0, 0⟩)] }, pzp := { w.pzp with tok := [], ptok := [], nackAt := [] } }; let w := w.setSess k (some { x with port := p }); w };
      (s.dev.claimed p = true ∧ s.dev.sess k = some x ∧ x.port = p ∧ s.dev.nameAt p sa.toNat = some x.name ∧ 0 < s.dev.tokens k ∧ 0
      < s.dev.portTokens p ∧ lv.toNat ≤ 250 ∧ s.dev.pzp.reqs.length + 9 ≤ 8192 ∧ (s.dev.pzp.reqs.filter (fun y => y.sess ==
      k.val)).length + 9 ≤ 256)) ∧
    (let p : Fin 2 := 1; let sa : Byte := 0x85#8; let k : Fin 1024 := 5; let x : Sess :=
      { port := 1, name := 77, sa := 0x85, cls := 1, timeout := 10, tag := 3, lost := false }; let z : Fin 2048 := 9; let s : State
      := State.reset; let s : State :=
      { s with dev := let w := (s.dev.wr Reg.VSP_PWR_STAT 2#32); let w := { w with pwr := { w.pwr with vbat := 0, rstHeld := false, lost := [], delivered := true } }; let w := (((w.wr (Reg.PZP_CAN_STAT p) 0#32).wrF (Reg.PZP_CAN_STAT p) F.PZP_CAN_STAT_ADDR (0x84)).wrF (Reg.PZP_CAN_STAT p) F.PZP_CAN_STAT_CLAIM 2); let w := w.setCan p { w.can p with others := [(sa.toNat, 77)] }; let w := { w with cfg := { w.cfg with zhead := { w.cfg.zhead with clients := [(77, 0xFF, 0)], refhead := 0xFF }, zones := [(9, ⟨2, 15, 0, 0, [0, 2], 0, 0⟩), (10, ⟨1, 15, 0, 0, [], 0, 0⟩), (11, ⟨1, 15, 0, 0, [], 0, 0⟩)] }, pzp := { w.pzp with tok := [], ptok := [], nackAt := [] } }; let w := w.setSess k (some { x with port := p }); w };
      (s.dev.claimed p = true ∧ s.dev.sess k = some x ∧ x.port = p ∧ s.dev.nameAt p sa.toNat = some x.name ∧ 0 < s.dev.tokens k ∧ 0
      < s.dev.portTokens p ∧ s.dev.zoneUsed z = true)) ∧
    (let p : Fin 2 := 1; let sa : Byte := 0x85#8; let z : Fin 2048 := 9; let v : Word := (fset (fset (fset 0#32 F.PZP_HOST_SET_ZONE
      9) F.PZP_HOST_SET_LEVEL 100) F.PZP_HOST_SET_CLASS 3); let s : State := State.reset; let s : State :=
      { s with dev := let w := (s.dev.wr Reg.VSP_PWR_STAT 2#32); let w := { w with pwr := { w.pwr with vbat := 0, rstHeld := false, lost := [], delivered := true } }; let w := (((w.wr (Reg.PZP_CAN_STAT p) 0#32).wrF (Reg.PZP_CAN_STAT p) F.PZP_CAN_STAT_ADDR (0x84)).wrF (Reg.PZP_CAN_STAT p) F.PZP_CAN_STAT_CLAIM 2); let w := w.setCan p { w.can p with others := [(sa.toNat, 77)] }; let w := { w with cfg := { w.cfg with zhead := { w.cfg.zhead with clients := [(77, 0xFF, 0)], refhead := 0xFF }, zones := [(9, ⟨2, 15, 0, 0, [0, 2], 0, 0⟩), (10, ⟨1, 15, 0, 0, [], 0, 0⟩), (11, ⟨1, 15, 0, 0, [], 0, 0⟩)] }, pzp := { w.pzp with tok := [], ptok := [], nackAt := [] } };  w };
      (s.dev.hostUp = true ∧ 0 < s.dev.tokens 1025 ∧ fget v F.PZP_HOST_SET_LEVEL ≤ 250 ∧ fget v F.PZP_HOST_SET_WITHDRAW = 0 ∧ fget
      v F.PZP_HOST_SET_ZONE = z.val ∧ s.dev.cfg.zhead.hostClass ≤ fget v F.PZP_HOST_SET_CLASS ∧ s.dev.zoneUsed z = true ∧
      (s.dev.zone z).classes.testBit (fget v F.PZP_HOST_SET_CLASS) = true ∧ s.dev.roomFor 1025 z = true)) ∧
    (let p : Fin 2 := 1; let sa : Byte := 0x85#8; let v : Word := 5#32; let s : State := State.reset; let s : State :=
      { s with dev := let w := (s.dev.wr Reg.VSP_PWR_STAT 2#32); let w := { w with pwr := { w.pwr with vbat := 0, rstHeld := false, lost := [], delivered := true } }; let w := (((w.wr (Reg.PZP_CAN_STAT p) 0#32).wrF (Reg.PZP_CAN_STAT p) F.PZP_CAN_STAT_ADDR (0x84)).wrF (Reg.PZP_CAN_STAT p) F.PZP_CAN_STAT_CLAIM 2); let w := w.setCan p { w.can p with others := [(sa.toNat, 77)] }; let w := { w with cfg := { w.cfg with zhead := { w.cfg.zhead with clients := [(77, 0xFF, 0)], refhead := 0xFF }, zones := [(9, ⟨2, 15, 0, 0, [0, 2], 0, 0⟩), (10, ⟨1, 15, 0, 0, [], 0, 0⟩), (11, ⟨1, 15, 0, 0, [], 0, 0⟩)] }, pzp := { w.pzp with tok := [], ptok := [], nackAt := [] } }; let w := { w with cfg := { w.cfg with zhead := { w.cfg.zhead with hostClass := 8 } } }; w };
      (s.dev.hostUp = true ∧ 0 < s.dev.tokens 1025 ∧ fget v F.PZP_HOST_SET_LEVEL ≤ 250 ∧ fget v F.PZP_HOST_SET_CLASS <
      s.dev.cfg.zhead.hostClass)) ∧
    (let p : Fin 2 := 1; let sa : Byte := 0x85#8; let s : State := State.reset; let s : State :=
      { s with dev := let w := (s.dev.wr Reg.VSP_PWR_STAT 2#32); let w := { w with pwr := { w.pwr with vbat := 0, rstHeld := false, lost := [], delivered := true } }; let w := (((w.wr (Reg.PZP_CAN_STAT p) 0#32).wrF (Reg.PZP_CAN_STAT p) F.PZP_CAN_STAT_ADDR (0x84)).wrF (Reg.PZP_CAN_STAT p) F.PZP_CAN_STAT_CLAIM 2); let w := w.setCan p { w.can p with others := [(sa.toNat, 77)] }; let w := { w with cfg := { w.cfg with zhead := { w.cfg.zhead with clients := [(77, 0xFF, 0)], refhead := 0xFF }, zones := [(9, ⟨2, 15, 0, 0, [0, 2], 0, 0⟩), (10, ⟨1, 15, 0, 0, [], 0, 0⟩), (11, ⟨1, 15, 0, 0, [], 0, 0⟩)] }, pzp := { w.pzp with tok := [], ptok := [], nackAt := [] } };  w };
      (s.dev.cfg.zhead.refhead = 0xFF ∧ s.dev.pwr.delivered = true ∧ s.dev.power ≠ 0)) ∧
    (let s : State := State.reset; let s : State := { s with dev := s.dev.wr Reg.VSP_PWR_STAT 0#32 }; (s.dev.cfg.zhead.refhead ≠
      0xFF ∨ s.dev.pwr.delivered = false ∨ s.dev.power = 0)) := by
  refine ⟨?_, ?_, ?_, ?_, ?_, ?_, ?_, ?_, ?_⟩ <;> decide +kernel
theorem witness_PowerStateCommandsComplete :
    (let s : State := State.reset; let s : State :=
      { s with dev := let w := (s.dev.wr Reg.VSP_PWR_STAT 2#32); let w := { w with pwr := { w.pwr with vbat := 0, rstHeld := false, lost := [] } };  w };
      (s.dev.power = 2 ∧ s.dev.safeStands = false)) ∧
    (let s : State := State.reset; let s : State :=
      { s with dev := let w := (s.dev.wr Reg.VSP_PWR_STAT 3#32); let w := { w with pwr := { w.pwr with vbat := 0, rstHeld := false, lost := [] } };  w };
      (s.dev.power ≠ 2 ∨ s.dev.safeStands = true)) ∧
    (let s : State := State.reset; let s : State :=
      { s with dev := let w := (s.dev.wr Reg.VSP_PWR_STAT 3#32); let w := { w with pwr := { w.pwr with vbat := 0, rstHeld := false, lost := [] } };  w };
      (s.dev.power = 3)) ∧
    (let s : State := State.reset; let s : State :=
      { s with dev := let w := (s.dev.wr Reg.VSP_PWR_STAT 2#32); let w := { w with pwr := { w.pwr with vbat := 0, rstHeld := false, lost := [] } };  w };
      (s.dev.power ≠ 3)) ∧
    (let s : State := State.reset; let s : State :=
      { s with dev := let w := (s.dev.wr Reg.VSP_PWR_STAT 1#32); let w := { w with pwr := { w.pwr with vbat := 0, rstHeld := false, lost := [] } }; let w := forAll [0, 1] w (fun w d => forAll (List.range 10) w (fun w n => w.wrF (Reg.LANE_CFG d n) F.LANE_CFG_USE 0)); let w := { w with pwr := { w.pwr with delivered := true, tested := true, barred := false, imgFail := false, lost := [0, 1] } }; w };
      (s.dev.mayReady = true)) ∧
    (let s : State := State.reset; let s : State :=
      { s with dev := let w := (s.dev.wr Reg.VSP_PWR_STAT 0#32); let w := { w with pwr := { w.pwr with vbat := 0, rstHeld := false, lost := [] } };  w };
      (s.dev.mayReady = false)) := by
  refine ⟨?_, ?_, ?_, ?_, ?_, ?_⟩ <;> decide +kernel
theorem witness_WakeAndResetComplete :
    (let s : State := State.reset; let s : State :=
      { s with dev := let w := (s.dev.wr Reg.VSP_PWR_STAT 0#32); let w := { w with pwr := { w.pwr with vbat := 0, rstHeld := false, lost := [] } }; let w := w.wrF Reg.VSP_PWR_CFG F.VSP_PWR_CFG_WAKE_EN 1; let w := { w with pwr := { w.pwr with vbat := 0 } }; w };
      (s.dev.power = 0 ∧ s.dev.pwr.vbat = 0 ∧ s.dev.rdF Reg.VSP_PWR_CFG F.VSP_PWR_CFG_WAKE_EN = 1)) ∧
    (let s : State := State.reset; let s : State :=
      { s with dev := let w := (s.dev.wr Reg.VSP_PWR_STAT 0#32); let w := { w with pwr := { w.pwr with vbat := 0, rstHeld := false, lost := [] } }; let w := w.wrF Reg.VSP_PWR_CFG F.VSP_PWR_CFG_WAKE_EN 1; let w := { w with pwr := { w.pwr with vbat := 0 } };let w := (w.wrF Reg.VSP_PWR_CFG F.VSP_PWR_CFG_TMR_EN 1).wr Reg.VSP_WAKE_TMR 5#32; w };
      (s.dev.power = 0 ∧ s.dev.pwr.vbat = 0 ∧ s.dev.rdF Reg.VSP_PWR_CFG F.VSP_PWR_CFG_TMR_EN = 1 ∧ s.dev.rd Reg.VSP_WAKE_TMR ≠
      0#32)) ∧
    (let s : State := State.reset; let s : State :=
      { s with dev := let w := (s.dev.wr Reg.VSP_PWR_STAT 0#32); let w := { w with pwr := { w.pwr with vbat := 0, rstHeld := false, lost := [] } }; let w := w.wrF Reg.VSP_PWR_CFG F.VSP_PWR_CFG_WAKE_EN 1; let w := { w with pwr := { w.pwr with vbat := 0 } };let w := (w.wrF Reg.VSP_PWR_CFG F.VSP_PWR_CFG_TMR_EN 1).wr Reg.VSP_WAKE_TMR 5#32; w };
      (s.dev.power = 0 ∧ s.dev.pwr.vbat = 0 ∧ s.dev.rdF Reg.VSP_PWR_CFG F.VSP_PWR_CFG_TMR_EN = 1 ∧ s.dev.rd Reg.VSP_WAKE_TMR ≠
      0#32)) ∧
    (let s : State := State.reset; let s : State :=
      { s with dev := let w := (s.dev.wr Reg.VSP_PWR_STAT 2#32); let w := { w with pwr := { w.pwr with vbat := 0, rstHeld := false, lost := [] } };  w };
      (s.dev.power ≠ 0 ∨ s.dev.rdF Reg.VSP_PWR_CFG F.VSP_PWR_CFG_TMR_EN = 0)) ∧
    (let s : State := State.reset; let s : State :=
      { s with dev := let w := (s.dev.wr Reg.VSP_PWR_STAT 0#32); let w := { w with pwr := { w.pwr with vbat := 0, rstHeld := false, lost := [] } }; let w := w.wrF Reg.VSP_PWR_CFG F.VSP_PWR_CFG_IGN_EN 1; let w := { w with pwr := { w.pwr with vbat := 0, wakePin := false } }; w };
      (s.dev.power = 0 ∧ s.dev.pwr.vbat = 0 ∧ s.dev.pwr.wakePin = false ∧ s.dev.rdF Reg.VSP_PWR_CFG F.VSP_PWR_CFG_IGN_EN = 1)) ∧
    (let s : State := State.reset; let s : State :=
      { s with dev := let w := (s.dev.wr Reg.VSP_PWR_STAT 3#32); let w := { w with pwr := { w.pwr with vbat := 0, rstHeld := false, lost := [] } };  w };
      (s.dev.power ≠ 0 ∧ s.dev.pwr.vbat ≠ 2)) ∧
    (let s : State := State.reset; let s : State :=
      { s with dev := let w := (s.dev.wr Reg.VSP_PWR_STAT 0#32); let w := { w with pwr := { w.pwr with vbat := 0, rstHeld := false, lost := [] } };  w };
      (s.dev.power = 0 ∨ s.dev.pwr.vbat = 2)) ∧
    (let s : State := State.reset; let s : State :=
      { s with dev := let w := (s.dev.wr Reg.VSP_PWR_STAT 3#32); let w := { w with pwr := { w.pwr with vbat := 0, rstHeld := false, lost := [] } };  w };
      (s.dev.power ≠ 0 ∧ s.dev.pwr.vbat ≠ 2 ∧ s.dev.pwr.rstHeld = false)) ∧
    (let s : State := State.reset; let s : State :=
      { s with dev := let w := (s.dev.wr Reg.VSP_PWR_STAT 1#32); let w := { w with pwr := { w.pwr with vbat := 0, rstHeld := false, lost := [] } }; let w := { w with pwr := { w.pwr with rstHeld := true } }; w };
      (s.dev.pwr.rstHeld = true)) ∧
    (let s : State := State.reset; let s : State :=
      { s with dev := let w := (s.dev.wr Reg.VSP_PWR_STAT 0#32); let w := { w with pwr := { w.pwr with vbat := 0, rstHeld := false, lost := [] } }; let w := { w with pwr := { w.pwr with vbat := 2 } }; w };
      (s.dev.pwr.vbat = 2)) := by
  refine ⟨?_, ?_, ?_, ?_, ?_, ?_, ?_, ?_, ?_, ?_⟩ <;> decide +kernel
theorem witness_SleepAndSuppliesComplete :
    (let s : State := State.reset; let s : State :=
      { s with dev := let w := (s.dev.wr Reg.VSP_PWR_STAT 3#32); let w := { w with pwr := { w.pwr with vbat := 0, rstHeld := false, lost := [] } }; let w := { (w.wr Reg.VSP_KEEP 0#32).wr Reg.VSP_PWR_CFG 0#32 with pwr := { w.pwr with sleep := 0 }, img := { w.img with job := 0 } }; w };
      (s.dev.awakeHeld = false ∧ s.dev.pwr.sleep = 0 ∧ (s.dev.power = 2 ∨ s.dev.power = 3 ∨ s.dev.power = 4) ∧ s.dev.img.job = 0)) ∧
    (let s : State := State.reset; let s : State :=
      { s with dev := let w := (s.dev.wr Reg.VSP_PWR_STAT 3#32); let w := { w with pwr := { w.pwr with vbat := 0, rstHeld := false, lost := [] } }; let w := w.wr Reg.VSP_KEEP 1#32; w };
      (s.dev.awakeHeld = true ∨ s.dev.pwr.sleep ≠ 0)) ∧
    (let s : State := State.reset; let s : State :=
      { s with dev := let w := (s.dev.wr Reg.VSP_PWR_STAT 2#32); let w := { w with pwr := { w.pwr with vbat := 0, rstHeld := false, lost := [] } }; let w := { w with pwr := { w.pwr with sleep := 1 } }; w };
      (s.dev.pwr.sleep = 1 ∧ s.dev.storing = false)) ∧
    (let s : State := State.reset; let s : State :=
      { s with dev := let w := (s.dev.wr Reg.VSP_PWR_STAT 2#32); let w := { w with pwr := { w.pwr with vbat := 0, rstHeld := false, lost := [] } }; let w := { w with pwr := { w.pwr with sleep := 0 } }; w };
      (s.dev.pwr.sleep = 0)) ∧
    (let s : State := State.reset; let s : State :=
      { s with dev := let w := (s.dev.wr Reg.VSP_PWR_STAT 3#32); let w := { w with pwr := { w.pwr with vbat := 0, rstHeld := false, lost := [] } };  w };
      (s.dev.pwr.vbat = 0)) ∧
    (let s : State := State.reset; let s : State :=
      { s with dev := let w := (s.dev.wr Reg.VSP_PWR_STAT 3#32); let w := { w with pwr := { w.pwr with vbat := 0, rstHeld := false, lost := [] } };  w };
      (s.dev.pwr.vbat ≠ 2)) ∧
    (let s : State := State.reset; let s : State :=
      { s with dev := let w := (s.dev.wr Reg.VSP_PWR_STAT 1#32); let w := { w with pwr := { w.pwr with vbat := 0, rstHeld := false, lost := [] } }; let w := { w with pwr := { w.pwr with rails := false, pen := 2 } }; w };
      (s.dev.power = 1 ∧ s.dev.pwr.rails = false ∧ 1 ≤ s.dev.pwr.pen ∧ s.dev.pwr.pen < 4)) ∧
    (let s : State := State.reset; let s : State :=
      { s with dev := let w := (s.dev.wr Reg.VSP_PWR_STAT 1#32); let w := { w with pwr := { w.pwr with vbat := 0, rstHeld := false, lost := [] } }; let w := { w with pwr := { w.pwr with rails := false, pen := 2 } }; w };
      (s.dev.power = 1 ∧ s.dev.pwr.rails = false ∧ 1 ≤ s.dev.pwr.pen)) ∧
    (let s : State := State.reset; let s : State :=
      { s with dev := let w := (s.dev.wr Reg.VSP_PWR_STAT 1#32); let w := { w with pwr := { w.pwr with vbat := 0, rstHeld := false, lost := [] } }; let w := { w with pwr := { w.pwr with trims := true, pll := false } }; w };
      (s.dev.power = 1 ∧ s.dev.pwr.trims = true ∧ s.dev.pwr.pll = false ∧ s.dev.pwr.rstHeld = false)) ∧
    (let s : State := State.reset; let s : State :=
      { s with dev := let w := (s.dev.wr Reg.VSP_PWR_STAT 2#32); let w := { w with pwr := { w.pwr with vbat := 0, rstHeld := false, lost := [] } }; let w := { w with pwr := { w.pwr with rails := true } }; w };
      (s.dev.power ≠ 0 ∧ s.dev.pwr.rails = true)) ∧
    (let d : Die := 1; let s : State := State.reset; let s : State :=
      { s with dev := let w := (s.dev.wr Reg.VSP_PWR_STAT 2#32); let w := { w with pwr := { w.pwr with vbat := 0, rstHeld := false, lost := [] } }; let w := { w with pwr := { w.pwr with rails := true } }; let w := w.wrF (Reg.DRC_CH_STAT d 0) F.DRC_CH_STAT_STATE 2; w };
      (s.dev.power ≠ 0 ∧ s.dev.pwr.rails = true ∧ s.dev.chanRuns d 0 = true)) ∧
    (let s : State := State.reset; let s : State :=
      { s with dev := let w := (s.dev.wr Reg.VSP_PWR_STAT 0#32); let w := { w with pwr := { w.pwr with vbat := 0, rstHeld := false, lost := [] } };  w };
      (s.dev.power = 0 ∨ s.dev.pwr.rails = false)) ∧
    (let s : State := State.reset; let s : State :=
      { s with dev := let w := (s.dev.wr Reg.VSP_PWR_STAT 2#32); let w := { w with pwr := { w.pwr with vbat := 0, rstHeld := false, lost := [] } };  w };
      (s.dev.pwr.vbat ≠ 2)) := by
  refine ⟨?_, ?_, ?_, ?_, ?_, ?_, ?_, ?_, ?_, ?_, ?_, ?_, ?_⟩ <;> decide +kernel
theorem witness_SecurityCommandsComplete :
    (let ri : RunImg :=
      { copy := 0, secver := 9, build := 1, slot := 2, digest := [], secs := [], trial := false, fallback := false }; let s : State
      := State.reset; let s : State :=
      { s with nv := { s.nv with locked := false, floor := 5, slots := List.replicate 8 ⟨none, false⟩, keys := List.replicate 16 none, policy := 0x155 }, dev := let w := (s.dev.wr Reg.VSP_PWR_STAT 2#32); let w := { w with pwr := { w.pwr with vbat := 0, rstHeld := false }, img := { w.img with running := some ri } }; w };
      (s.dev.secUp = true ∧ s.nv.locked = false ∧ s.dev.img.running = some ri ∧ ri.trial = false ∧ ri.fallback = false ∧ ri.copy ≠
      2)) ∧
    (let ri : RunImg :=
      { copy := 0, secver := 9, build := 1, slot := 2, digest := [], secs := [], trial := false, fallback := false }; let s : State
      := State.reset; let s : State :=
      { s with nv := { s.nv with locked := true, floor := 5, slots := List.replicate 8 ⟨none, false⟩, keys := List.replicate 16 none, policy := 0x155 }, dev := let w := (s.dev.wr Reg.VSP_PWR_STAT 2#32); let w := { w with pwr := { w.pwr with vbat := 0, rstHeld := false }, img := { w.img with running := some ri } }; w };
      (s.dev.secUp = true ∧ (s.nv.locked = true ∨ s.dev.img.running = none))) ∧
    (let ri : RunImg :=
      { copy := 0, secver := 9, build := 1, slot := 2, digest := [], secs := [], trial := false, fallback := false }; let s : State
      := State.reset; let s : State :=
      { s with nv := { s.nv with locked := false, floor := 5, slots := List.replicate 8 ⟨none, false⟩, keys := List.replicate 16 none, policy := 0x155 }, dev := let w := (s.dev.wr Reg.VSP_PWR_STAT 2#32); let w := { w with pwr := { w.pwr with vbat := 0, rstHeld := false }, img := { w.img with running := some ri } }; w };
      (s.dev.secUp = true ∧ s.nv.locked = false)) ∧
    (let ri : RunImg :=
      { copy := 0, secver := 9, build := 1, slot := 2, digest := [], secs := [], trial := false, fallback := false }; let s : State
      := State.reset; let s : State :=
      { s with nv := { s.nv with locked := true, floor := 5, slots := List.replicate 8 ⟨none, false⟩, keys := List.replicate 16 none, policy := 0x155 }, dev := let w := (s.dev.wr Reg.VSP_PWR_STAT 2#32); let w := { w with pwr := { w.pwr with vbat := 0, rstHeld := false }, img := { w.img with running := some ri } }; w };
      (s.dev.secUp = true ∧ s.nv.locked = true)) ∧
    (let ri : RunImg :=
      { copy := 0, secver := 9, build := 1, slot := 2, digest := [], secs := [], trial := false, fallback := false }; let s : State
      := State.reset; let s : State :=
      { s with nv := { s.nv with locked := true, floor := 5, slots := List.replicate 8 ⟨none, false⟩, keys := List.replicate 16 none, policy := 0x155 }, dev := let w := (s.dev.wr Reg.VSP_PWR_STAT 2#32); let w := { w with pwr := { w.pwr with vbat := 0, rstHeld := false }, img := { w.img with running := some ri } }; w };
      (s.dev.secUp = true)) ∧
    (let k : Fin 8 := 3; let ri : RunImg :=
      { copy := 0, secver := 9, build := 1, slot := 2, digest := [], secs := [], trial := false, fallback := false }; let s : State
      := State.reset; let s : State :=
      { s with nv := { s.nv with locked := false, floor := 5, slots := List.replicate 8 ⟨none, false⟩, keys := List.replicate 16 none, policy := 0x155 }, dev := let w := (s.dev.wr Reg.VSP_PWR_STAT 2#32); let w := { w with pwr := { w.pwr with vbat := 0, rstHeld := false }, img := { w.img with running := some ri } }; w };
      (s.dev.secUp = true ∧ s.nv.locked = false ∧ s.dev.power = 2 ∧ k ≠ 0 ∧ k.val < s.nv.slots.length ∧ (s.nv.slots.getD k
      default).hash = none ∧ (s.nv.slots.getD k default).revoked = false)) ∧
    (let k : Fin 8 := 3; let ri : RunImg :=
      { copy := 0, secver := 9, build := 1, slot := 2, digest := [], secs := [], trial := false, fallback := false }; let s : State
      := State.reset; let s : State :=
      { s with nv := { s.nv with locked := false, floor := 5, slots := List.replicate 8 ⟨some [], false⟩, keys := List.replicate 16 none, policy := 0x155 }, dev := let w := (s.dev.wr Reg.VSP_PWR_STAT 2#32); let w := { w with pwr := { w.pwr with vbat := 0, rstHeld := false }, img := { w.img with running := some ri } }; w };
      (s.dev.secUp = true ∧ (s.nv.locked = true ∨ s.dev.power ≠ 2 ∨ k = 0 ∨ (s.nv.slots.getD k default).hash.isSome = true ∨
      (s.nv.slots.getD k default).revoked = true))) ∧
    (let k : Fin 8 := 3; let ri : RunImg :=
      { copy := 0, secver := 9, build := 1, slot := 2, digest := [], secs := [], trial := false, fallback := false }; let s : State
      := State.reset; let s : State :=
      { s with nv := { s.nv with locked := false, floor := 5, slots := List.replicate 8 ⟨some [], false⟩, keys := List.replicate 16 none, policy := 0x155 }, dev := let w := (s.dev.wr Reg.VSP_PWR_STAT 2#32); let w := { w with pwr := { w.pwr with vbat := 0, rstHeld := false }, img := { w.img with running := some ri } }; w };
      (s.dev.secUp = true ∧ k ≠ 0 ∧ s.dev.power = 2 ∧ s.dev.img.running = some ri ∧ ri.slot ≠ k.val ∧ s.nv.oemSlot ri.slot = true ∧
      k.val < s.nv.slots.length)) ∧
    (let k : Fin 8 := 3; let ri : RunImg :=
      { copy := 0, secver := 9, build := 1, slot := 2, digest := [], secs := [], trial := false, fallback := false }; let s : State
      := State.reset; let s : State :=
      { s with nv := { s.nv with locked := false, floor := 5, slots := List.replicate 8 ⟨none, false⟩, keys := List.replicate 16 none, policy := 0x155 }, dev := let w := (s.dev.wr Reg.VSP_PWR_STAT 2#32); let w := { w with pwr := { w.pwr with vbat := 0, rstHeld := false }, img := { w.img with running := some ri } }; w };
      (s.dev.secUp = true ∧ (k = 0 ∨ s.dev.power ≠ 2 ∨ s.dev.img.running = none ∨ (s.dev.img.running = some ri ∧ (ri.slot = k.val ∨
      s.nv.oemSlot ri.slot = false))))) ∧
    (let ri : RunImg :=
      { copy := 0, secver := 9, build := 1, slot := 2, digest := [], secs := [], trial := false, fallback := false }; let s : State
      := State.reset; let s : State :=
      { s with nv := { s.nv with locked := false, floor := 5, slots := List.replicate 8 ⟨none, false⟩, keys := List.replicate 16 none, policy := 0x155 }, dev := let w := (s.dev.wr Reg.VSP_PWR_STAT 2#32); let w := { w with pwr := { w.pwr with vbat := 0, rstHeld := false }, img := { w.img with running := some ri } }; w };
      (s.dev.pwr.vbat ≠ 2)) ∧
    (let ri : RunImg :=
      { copy := 0, secver := 9, build := 1, slot := 2, digest := [], secs := [], trial := false, fallback := false }; let s : State
      := State.reset; let s : State :=
      { s with nv := { s.nv with locked := false, floor := 5, slots := List.replicate 8 ⟨none, false⟩, keys := List.replicate 16 none, policy := 0x155 }, dev := let w := (s.dev.wr Reg.VSP_PWR_STAT 2#32); let w := { w with pwr := { w.pwr with vbat := 0, rstHeld := false, debugFails := 2 }, img := { w.img with running := some ri } }; w };
      (s.dev.pwr.vbat ≠ 2 ∧ s.dev.pwr.debugFails < 3)) := by
  refine ⟨?_, ?_, ?_, ?_, ?_, ?_, ?_, ?_, ?_, ?_, ?_⟩ <;> decide +kernel
theorem witness_RegisterWritesComplete :
    (let a : Nat := 0x3000000 - 0x3000000 + Reg.VSP_EVT_HOLD; let s : State := State.reset; let s : State :=
      { s with dev := let w := (s.dev.wr Reg.VSP_PWR_STAT 2#32); let w := { w with pwr := { w.pwr with vbat := 0, rstHeld := false, lost := [] } }; let w := (w.wrF (Reg.FAB_DIE_STAT 0) F.FAB_DIE_STAT_SUP_UP 1).wrF (Reg.FAB_DIE_STAT 1) F.FAB_DIE_STAT_SUP_UP 1; let w := (w.wrB (Reg.FAB_BRG_STAT 0) 0 true).wrB (Reg.FAB_BRG_STAT 0) 1 true; w };
      (s.dev.hostUp = true ∧ s.dev.hostReach a = true ∧ a < 0x1000000 ∧ a ∉ [Reg.VSP_PWR_CMD, Reg.VSP_PWR_CFG, Reg.VSP_KEEP,
      Reg.VSP_IMG_UPD_CTRL, Reg.SEC_CMD] ∧ (regAt a).isSome = true ∧ (∀ y ∈ (regAt a).map Prod.fst, y.acc ≠ .ro) ∧ isFltStat a =
      false ∧ isFltStat (a - 4) = false)) ∧
    (let a : Nat := Reg.LANE_LB_USER 0 4; let s : State := State.reset; let s : State :=
      { s with dev := let w := (s.dev.wr Reg.VSP_PWR_STAT 2#32); let w := { w with pwr := { w.pwr with vbat := 0, rstHeld := false, lost := [] } }; let w := (w.wrF (Reg.FAB_DIE_STAT 0) F.FAB_DIE_STAT_SUP_UP 1).wrF (Reg.FAB_DIE_STAT 1) F.FAB_DIE_STAT_SUP_UP 1; let w := (w.wrB (Reg.FAB_BRG_STAT 0) 0 true).wrB (Reg.FAB_BRG_STAT 0) 1 true; w };
      (s.dev.hostUp = true ∧ s.dev.hostReach a = true ∧ 0x1000000 ≤ a ∧ a < 0x3000000 ∧ a % 0x1000000 < 0x40000 ∧ a % 0x1000 ∉ [4,
      0x34, 0x40, 0x64] ∧ (regAt a).isSome = true ∧ (∀ y ∈ (regAt a).map Prod.fst, y.acc ≠ .ro) ∧ isFltStat a = false ∧ isFltStat
      (a - 4) = false ∧ ((s.dev.regBlock a).all (fun y => !(s.dev.inSlice y.1 y.2))) = true)) ∧
    (let d : Die := 1; let s : State := State.reset; let s : State :=
      { s with dev := let w := (s.dev.wr Reg.VSP_PWR_STAT 2#32); let w := { w with pwr := { w.pwr with vbat := 0, rstHeld := false, lost := [] } }; let w := (w.wrF (Reg.FAB_DIE_STAT 0) F.FAB_DIE_STAT_SUP_UP 1).wrF (Reg.FAB_DIE_STAT 1) F.FAB_DIE_STAT_SUP_UP 1; let w := (w.wrB (Reg.FAB_BRG_STAT 0) 0 true).wrB (Reg.FAB_BRG_STAT 0) 1 true; w };
      (s.dev.hostUp = true ∧ s.dev.hostReach (Reg.CAL_LIMITS d) = true)) ∧
    (let s : State := State.reset; let s : State :=
      { s with dev := let w := (s.dev.wr Reg.VSP_PWR_STAT 2#32); let w := { w with pwr := { w.pwr with vbat := 0, rstHeld := false, lost := [] } }; let w := (w.wrF (Reg.FAB_DIE_STAT 0) F.FAB_DIE_STAT_SUP_UP 1).wrF (Reg.FAB_DIE_STAT 1) F.FAB_DIE_STAT_SUP_UP 1; let w := (w.wrB (Reg.FAB_BRG_STAT 0) 0 true).wrB (Reg.FAB_BRG_STAT 0) 1 true; w };
      (s.dev.hostUp = true ∧ s.dev.hostWay 0 = true)) ∧
    (let s : State := State.reset; let s : State :=
      { s with dev := let w := (s.dev.wr Reg.VSP_PWR_STAT 2#32); let w := { w with pwr := { w.pwr with vbat := 0, rstHeld := false, lost := [] } }; let w := (w.wrF (Reg.FAB_DIE_STAT 0) F.FAB_DIE_STAT_SUP_UP 1).wrF (Reg.FAB_DIE_STAT 1) F.FAB_DIE_STAT_SUP_UP 1; let w := (w.wrB (Reg.FAB_BRG_STAT 0) 0 true).wrB (Reg.FAB_BRG_STAT 0) 1 true; w };
      (s.dev.hostUp = true ∧ s.dev.hostWay 0 = true)) ∧
    (let a : Nat := Reg.BST_CTRL 1; let s : State := State.reset; let s : State :=
      { s with dev := let w := (s.dev.wr Reg.VSP_PWR_STAT 2#32); let w := { w with pwr := { w.pwr with vbat := 0, rstHeld := false, lost := [] } }; let w := (w.wrF (Reg.FAB_DIE_STAT 0) F.FAB_DIE_STAT_SUP_UP 1).wrF (Reg.FAB_DIE_STAT 1) F.FAB_DIE_STAT_SUP_UP 1; let w := (w.wrB (Reg.FAB_BRG_STAT 0) 0 true).wrB (Reg.FAB_BRG_STAT 0) 1 true;let w := (w.wrB (Reg.BST_LINK_STAT 0) 1 true).wrB (Reg.BST_LINK_STAT 0) 2 true; let w := (w.wrB (Reg.BST_LINK_STAT 1) 1 true).wrB (Reg.BST_LINK_STAT 1) 2 true; let w := (w.setHv 0 { w.hv 0 with resend := false }).setHv 1 { w.hv 1 with resend := false }; w };
      (s.dev.hostUp = true ∧ s.dev.hostReach a = true ∧ 0x3000000 ≤ a ∧ a < 0x3800000 ∧ a % 0x400000 ≠ 0x20100 ∧ ¬ (0x40 ≤ a %
      0x400000 ∧ a % 0x400000 < 0x50) ∧ (s.dev.hv (hvAt a)).resend = false ∧ ¬ (0x10000 ≤ a % 0x400000 ∧ a % 0x400000 < 0x11000) ∧
      (regAt a).isSome = true ∧ (∀ y ∈ (regAt a).map Prod.fst, y.acc ≠ .ro) ∧ isFltStat a = false ∧ isFltStat (a - 4) = false)) ∧
    (let v : Word := 1#32; let s : State := State.reset; let s : State :=
      { s with dev := let w := (s.dev.wr Reg.VSP_PWR_STAT 2#32); let w := { w with pwr := { w.pwr with vbat := 0, rstHeld := false, lost := [] } }; let w := (w.wrF (Reg.FAB_DIE_STAT 0) F.FAB_DIE_STAT_SUP_UP 1).wrF (Reg.FAB_DIE_STAT 1) F.FAB_DIE_STAT_SUP_UP 1; let w := (w.wrB (Reg.FAB_BRG_STAT 0) 0 true).wrB (Reg.FAB_BRG_STAT 0) 1 true; w };
      (s.dev.hostUp = true ∧ s.dev.hostReach Reg.VSP_PWR_CMD = true ∧ fget v F.VSP_PWR_CMD_CMD = 1)) ∧
    (let v : Word := 1#32; let s : State := State.reset; let s : State :=
      { s with dev := let w := (s.dev.wr Reg.VSP_PWR_STAT 2#32); let w := { w with pwr := { w.pwr with vbat := 0, rstHeld := false, lost := [] } }; let w := (w.wrF (Reg.FAB_DIE_STAT 0) F.FAB_DIE_STAT_SUP_UP 1).wrF (Reg.FAB_DIE_STAT 1) F.FAB_DIE_STAT_SUP_UP 1; let w := (w.wrB (Reg.FAB_BRG_STAT 0) 0 true).wrB (Reg.FAB_BRG_STAT 0) 1 true; w };
      (s.dev.hostUp = true ∧ s.dev.hostReach Reg.SEC_CMD = true ∧ fget v F.SEC_CMD_CMD = 1)) ∧
    (let v : Word := 1#32; let s : State := State.reset; let s : State :=
      { s with dev := let w := (s.dev.wr Reg.VSP_PWR_STAT 2#32); let w := { w with pwr := { w.pwr with vbat := 0, rstHeld := false, lost := [] } }; let w := (w.wrF (Reg.FAB_DIE_STAT 0) F.FAB_DIE_STAT_SUP_UP 1).wrF (Reg.FAB_DIE_STAT 1) F.FAB_DIE_STAT_SUP_UP 1; let w := (w.wrB (Reg.FAB_BRG_STAT 0) 0 true).wrB (Reg.FAB_BRG_STAT 0) 1 true; w };
      (s.dev.hostUp = true ∧ s.dev.hostWay 0 = true ∧ fget v F.CAL_CMD_CMD = 1)) ∧
    (let v : Word := 1#32; let u : Fin 8 := 3; let s : State := State.reset; let s : State :=
      { s with dev := let w := (s.dev.wr Reg.VSP_PWR_STAT 2#32); let w := { w with pwr := { w.pwr with vbat := 0, rstHeld := false, lost := [] } }; let w := (w.wrF (Reg.FAB_DIE_STAT 0) F.FAB_DIE_STAT_SUP_UP 1).wrF (Reg.FAB_DIE_STAT 1) F.FAB_DIE_STAT_SUP_UP 1; let w := (w.wrB (Reg.FAB_BRG_STAT 0) 0 true).wrB (Reg.FAB_BRG_STAT 0) 1 true; w };
      (s.dev.hostUp = true ∧ s.dev.hostWay 0 = true ∧ fget v ⟨0, 3⟩ = 1 ∧ s.dev.inSlice 0 (crcBlock 0 u) = false)) ∧
    (let a : Nat := Reg.LANE_FLT_STAT 0 1; let s : State := State.reset; let s : State :=
      { s with dev := let w := (s.dev.wr Reg.VSP_PWR_STAT 2#32); let w := { w with pwr := { w.pwr with vbat := 0, rstHeld := false, lost := [] } }; let w := (w.wrF (Reg.FAB_DIE_STAT 0) F.FAB_DIE_STAT_SUP_UP 1).wrF (Reg.FAB_DIE_STAT 1) F.FAB_DIE_STAT_SUP_UP 1; let w := (w.wrB (Reg.FAB_BRG_STAT 0) 0 true).wrB (Reg.FAB_BRG_STAT 0) 1 true; w };
      (s.dev.hostUp = true ∧ s.dev.hostReach a = true ∧ isFltStat a = true ∧ a < 0x2000000)) ∧
    (let a : Nat := 0x100; let s : State := State.reset; let s : State :=
      { s with dev := let w := (s.dev.wr Reg.VSP_PWR_STAT 2#32); let w := { w with pwr := { w.pwr with vbat := 0, rstHeld := false, lost := [] } }; let w := (w.wrF (Reg.FAB_DIE_STAT 0) F.FAB_DIE_STAT_SUP_UP 1).wrF (Reg.FAB_DIE_STAT 1) F.FAB_DIE_STAT_SUP_UP 1; let w := (w.wrB (Reg.FAB_BRG_STAT 0) 0 true).wrB (Reg.FAB_BRG_STAT 0) 1 true; w };
      (s.dev.hostUp = true ∧ s.dev.hostReach a = true ∧ a < 0x4000000 ∧ ((s.dev.regBlock a).all (fun y => !(s.dev.inSlice y.1
      y.2))) = true ∧ isFltStat a = false ∧ isFltStat (a - 4) = false ∧ (∀ y ∈ (regAt a).map Prod.fst, y.acc = .ro))) ∧
    (let a : Nat := 0x2000010; let s : State := State.reset; let s : State :=
      { s with dev := let w := (s.dev.wr Reg.VSP_PWR_STAT 2#32); let w := { w with pwr := { w.pwr with vbat := 0, rstHeld := false, lost := [] } }; let w := { w with pwr := { w.pwr with lost := [1] } }; w };
      (s.dev.hostUp = true ∧ a < 0x4000000 ∧ s.dev.hostReach a = false)) ∧
    (let a : Nat := 0x8000; let s : State := State.reset; let s : State :=
      { s with dev := let w := (s.dev.wr Reg.VSP_PWR_STAT 0#32); let w := { w with pwr := { w.pwr with vbat := 0, rstHeld := false, lost := [] } };  w };
      (s.dev.hostUp = false ∧ a < 0x4000000)) := by
  refine ⟨?_, ?_, ?_, ?_, ?_, ?_, ?_, ?_, ?_, ?_, ?_, ?_, ?_, ?_⟩ <;> decide +kernel
theorem witness_CheckUnitCommandsKeepOtherState :
    (let d : Die := 1; let u : Fin 8 := 3; ∃ t, exec (.crcInit d u) State.reset = .next t) ∧
    (let d : Die := 1; let u : Fin 8 := 3; State.reset.dev.inSlice d (crcBlock d u) = false) := ⟨⟨_, rfl⟩, by decide +kernel⟩
theorem witness_CorrectionLuminanceAndCalibrationKeepOtherState :
    (let d : Die := 1; let n : Head := 1; let v : Word := 5#32; ∃ t, exec (.headCorrHost d n v) State.reset = .next t) := ⟨_, rfl⟩
theorem witness_PowerDieCommandsKeepOtherState :
    (let ch : Chan := 5; ∃ t, exec (.pwmPeriodStart ch) State.reset = .next t) := ⟨_, rfl⟩
theorem witness_CanCommandsKeepOtherState :
    (let p : Fin 2 := 1; let sa : Byte := 0x85#8; let nm : BitVec 64 := 9#64; ∃ t, exec (.addressClaimRx p sa nm) State.reset = .next t) := ⟨_, rfl⟩
theorem witness_SecurityCommandsKeepOtherState :
    (∃ t, exec (.advance) State.reset = .next t) := ⟨_, rfl⟩
theorem witness_DramCareKeepsOtherState :
    (let d : Die := 1; let id : Nat := 3; ∃ t, exec (.urgencyEscalate d id) State.reset = .next t) ∧
    (let d : Die := 1; let c2 : Fin 2 := 0; let op : Option Byte := some 3#8; (op = none → (State.reset.dev.drcCh d c2).mr4Bad = 0)) := ⟨⟨_, rfl⟩, by decide +kernel⟩
theorem witness_FaultWritesKeepOtherState :
    (let ad : Nat := Reg.SEC_FLT_STAT; let v : Word := 5#32; ∃ t, exec (.fltStatClear ad v) State.reset = .next t) ∧
    ((State.reset.dev.eng 0).slice = none ∧ (State.reset.dev.eng 1).slice = none) := ⟨⟨_, rfl⟩, by decide +kernel⟩
theorem witness_LaneCommandsKeepOtherState :
    (let d : Die := 1; let n : LaneIx := 3; let rx : RxSyms := ⟨false, 0, []⟩; ∃ t, exec (.trainingSetRx d n rx) State.reset = .next t) ∧
    (let d : Die := 1; (State.reset.dev.eng d).slice = none) := ⟨⟨_, rfl⟩, by decide +kernel⟩
theorem witness_TileAndInputCommandsKeepOtherState :
    (let d : Die := 1; let ti : TileIx := 2; ∃ t, exec (.packetSend d ti) State.reset = .next t) ∧
    (let d : Die := 1; let n : LaneIx := 3; let rx : RxSyms := ⟨false, 0, []⟩; (State.reset.dev.eng d).slice = none ∧ (Machine.packetBody (symsOf rx)).all (fun b => !bodyOk (decide (n.val < 8)) b) = true) := ⟨⟨_, rfl⟩, by decide +kernel⟩

end Sys2Proof.Tests
end

section
/-! SUPPORT. What a step does at the front of the queue and on an empty one, and what every register holds after reset. -/

namespace Sys2Proof.Machine

theorem step_of_pending (c : Instr) (rest : List Instr) (s : State) :
    step { s with pending := c :: rest } = exec c { s with pending := rest } := rfl

theorem step_of_empty (s : State) (h : s.pending = []) : step s = .next s.idle := by
  rw [step, h]

/-- Settles O1: the step on a queue that is not empty. -/
theorem stepTakesTheFrontCommand : Obligations.StepTakesTheFrontCommand := step_of_pending

/-- Settles O2: the idle step. -/
theorem anEmptyQueueLetsAMicrosecondPass : Obligations.AnEmptyQueueLetsAMicrosecondPass := step_of_empty

/-- No register is listed in the reset state, so each reads its Reset value. -/
theorem Dev.reset_rd (a : Nat) : Dev.reset.rd a = regReset a := rfl

theorem Dev.reset_power : Dev.reset.power = 1 := by
  rw [Dev.power, Dev.rdF, Dev.reset_rd]
  decide

/-- Settles O3: the registers by `Dev.reset_rd`, the rest as the reset state lists it. -/
theorem resetLeavesEveryRegisterAtItsResetValue : Obligations.ResetLeavesEveryRegisterAtItsResetValue :=
  ⟨Dev.reset_rd, rfl, rfl, rfl, Dev.reset_power, rfl, rfl⟩

end Sys2Proof.Machine
end

section
/-! SUPPORT. A register write on its way to its register (R11, R13, R17, R313, R324): the bridge it crosses, the slice it meets, and
the window that takes it. -/

namespace Sys2Proof.Machine

/-! ## The way to the register -/

theorem Dev.brgSend_regs (s : Dev) (d vc : Nat) : (s.brgSend d vc).regs = s.regs := by
  unfold Dev.brgSend Dev.brgPump
  split
  · rfl
  · dsimp only
    split <;> rfl

theorem Dev.crossWay_restEq (s : Dev) (a : Nat) : s.restEq (s.crossWay a) := by
  unfold Dev.crossWay
  split
  · exact Dev.restEq_trans (Dev.brgSend_eq _ _ _) (Dev.brgSend_eq _ _ _)
  · exact Dev.restEq_refl _

theorem Dev.crossWay_regs (s : Dev) (a : Nat) : (s.crossWay a).regs = s.regs := by
  unfold Dev.crossWay
  split
  · rw [Dev.brgSend_regs, Dev.brgSend_regs]
  · rfl

/-- The vesper die and CD0 are reached without the bridge. -/
theorem Dev.crossWay_near (s : Dev) (a : Nat) (h : a < 0x2000000 ∨ 0x3800000 ≤ a) : s.crossWay a = s :=
  if_neg (by omega)

theorem Dev.crossWay_bist (s : Dev) (a : Nat) : (s.crossWay a).bist = s.bist := by
  rw [(show _ = _ from s.crossWay_restEq a)]

theorem Dev.crossWay_hv (s : Dev) (a h : Nat) : (s.crossWay a).hv h = s.hv h := by
  rw [Dev.hv, (show _ = _ from s.crossWay_restEq a)]
  rfl

/-- The bridge changes neither the register that a block is looked up by nor a block's slice. -/
theorem Dev.crossWay_regBlock (s : Dev) (a b : Nat) : (s.crossWay a).regBlock b = s.regBlock b := by
  simp only [Dev.regBlock, Dev.engineDie, Dev.rdF, Dev.rd, Dev.crossWay_regs]

/-- The register at `a` belongs to no block that is in a slice. -/
def Dev.meetsNoSlice (s : Dev) (a : Nat) : Bool := (s.regBlock a).all (fun y => !(s.inSlice y.1 y.2))

/-- Where no block is looked up, none is in a slice. -/
theorem Dev.meetsNoSlice_of_none (s : Dev) (a : Nat) (h : s.regBlock a = none) : s.meetsNoSlice a = true := by
  rw [Dev.meetsNoSlice, h, Option.all_none]

theorem Dev.crossWay_meetsNoSlice (s : Dev) (a b : Nat) : (s.crossWay a).meetsNoSlice b = s.meetsNoSlice b := by
  simp only [Dev.meetsNoSlice, Dev.crossWay_regBlock, Dev.inSlice_congr _ _ _ _ (s.crossWay_bist a)]

/-- An access to a register of no block in a slice abandons none (R313). -/
theorem Dev.touchReg_idle (s : Dev) (a : Nat) (h : s.meetsNoSlice a = true) : s.touchReg a = s := by
  unfold Dev.touchReg
  cases hb : s.regBlock a with
  | none => rfl
  | some p =>
    rw [Dev.meetsNoSlice, hb] at h
    exact Dev.touch_idle s p.1 p.2 (by simpa using h)

theorem Dev.touchReg_crossWay_idle (s : Dev) (a : Nat) (h : s.meetsNoSlice a = true) :
    (s.crossWay a).touchReg a = s.crossWay a :=
  Dev.touchReg_idle _ a (by rw [Dev.crossWay_meetsNoSlice, h])

/-- No block of R313 is reached by an address of the vesper die. -/
theorem Dev.regBlock_vesper (s : Dev) (a : Nat) (h : a < 0x1000000 ∨ 0x3800000 ≤ a) : s.regBlock a = none := by
  rw [Dev.regBlock, if_neg (by omega), if_neg (by omega)]

/-- No block of R313 is reached in a power die but its channels. -/
theorem Dev.regBlock_hv (s : Dev) (a : Nat) (hlo : 0x3000000 ≤ a)
    (h : ¬ (0x10000 ≤ a % 0x400000 ∧ a % 0x400000 < 0x11000)) : s.regBlock a = none := by
  rw [Dev.regBlock, if_neg (by omega), if_neg (by tauto)]

/-! ## Where a write has an effect of its own -/

/-- `a` belongs to a fault triple: its status register or the enable register after it. -/
def isTriple (a : Nat) : Bool := isFltStat a || isFltStat (a - 4)

theorem isTriple_eq_false (a : Nat) (hs : isFltStat a = false) (he : isFltStat (a - 4) = false) : isTriple a = false := by
  simp [isTriple, hs, he]

/-- A register outside the fault triples whose access code lets it be written. -/
def takesWrites (a : Nat) : Bool := !isTriple a && (regAt a).any (fun e => e.1.acc != .ro)

theorem takesWrites_of (a : Nat) (hsome : (regAt a).isSome = true) (hacc : ∀ y ∈ (regAt a).map Prod.fst, y.acc ≠ .ro)
    (hs : isFltStat a = false) (he : isFltStat (a - 4) = false) : takesWrites a = true := by
  obtain ⟨e, hr⟩ := Option.isSome_iff_exists.mp hsome
  have hw : e.1.acc ≠ .ro := hacc e.1 (by simp [hr])
  simp [takesWrites, isTriple_eq_false a hs he, hr, hw]

/-- A write outside the fault triples that reaches a block in no slice: what the register there makes of it. -/
theorem State.writeReg_takes (s : State) (a : Nat) (v : Word) (h : takesWrites a = true) (hi : s.dev.touchReg a = s.dev) :
    s.writeReg a v =
      if 0x1000000 ≤ a ∧ a < 0x3000000 then s.writeCd (dieOf a) (a % 0x1000000) v
      else if 0x3000000 ≤ a ∧ a < 0x3800000 then { s with dev := s.dev.writeHv (hvAt a) (a % 0x400000) v }
      else s.writeVsp a v := by
  obtain ⟨⟨hs, he⟩, e, hr, hw⟩ : (isFltStat a = false ∧ isFltStat (a - 4) = false) ∧ ∃ e, regAt a = some e ∧ e.1.acc ≠ .ro := by
    simpa [takesWrites, isTriple, Option.any_eq_true] using h
  obtain ⟨b, i⟩ := e
  simp only [State.writeReg, hs, he, hi, hr, if_neg hw, and_false, Bool.false_eq_true, if_false]

/-- A write where there is no register, or a read-only one, changes nothing (R11, R13). -/
theorem State.writeReg_ignored (s : State) (a : Nat) (v : Word) (h : isTriple a = false) (hi : s.dev.touchReg a = s.dev)
    (hro : ∀ y ∈ (regAt a).map Prod.fst, y.acc = .ro) : s.writeReg a v = s := by
  obtain ⟨hs, he⟩ : isFltStat a = false ∧ isFltStat (a - 4) = false := by simpa [isTriple] using h
  simp only [State.writeReg, hs, he, hi, and_false, Bool.false_eq_true, if_false]
  cases hr : regAt a with
  | none => rfl
  | some e => exact if_pos (hro e.1 (by simp [hr]))

/-! ## A write that the host sends -/

theorem exec_registerWrite (a : Nat) (v : Word) (s : State) : exec (.registerWrite a v) s = execRegisterWrite a v s := rfl

/-- A write that reaches its die (R324). -/
theorem exec_registerWrite_reached (a : Nat) (v : Word) (s : State) (hup : s.dev.hostUp = true) (hr : s.dev.hostReach a = true)
    (ha : a < 0x4000000) :
    exec (.registerWrite a v) s = .next ({ s with dev := s.dev.crossWay a }.writeReg a v) := by
  simp [exec_registerWrite, execRegisterWrite, hup, hr, show ¬ 0x4000000 ≤ a by omega]

/-- A write to a register of the vesper die or of the security unit. -/
theorem exec_registerWrite_vesper (a : Nat) (v : Word) (s : State) (hup : s.dev.hostUp = true) (hr : s.dev.hostReach a = true)
    (ht : takesWrites a = true) (ha : a < 0x1000000 ∨ 0x3800000 ≤ a ∧ a < 0x4000000) :
    exec (.registerWrite a v) s = .next (s.writeVsp a v) := by
  have hi : s.dev.touchReg a = s.dev := s.dev.touchReg_idle a (s.dev.meetsNoSlice_of_none a (s.dev.regBlock_vesper a (by omega)))
  rw [exec_registerWrite_reached a v s hup hr (by omega), Dev.crossWay_near s.dev a (by omega),
    State.writeReg_takes s a v ht hi, if_neg (by omega), if_neg (by omega)]

/-- A write to a register of a compositor die, of a block in no slice. -/
theorem exec_registerWrite_cd (a : Nat) (v : Word) (s : State) (hup : s.dev.hostUp = true) (hr : s.dev.hostReach a = true)
    (ht : takesWrites a = true) (ha : 0x1000000 ≤ a ∧ a < 0x3000000) (hb : s.dev.meetsNoSlice a = true) :
    exec (.registerWrite a v) s = .next ({ s with dev := s.dev.crossWay a }.writeCd (dieOf a) (a % 0x1000000) v) := by
  rw [exec_registerWrite_reached a v s hup hr (by omega),
    State.writeReg_takes { s with dev := s.dev.crossWay a } a v ht (s.dev.touchReg_crossWay_idle a hb), if_pos ha]

/-- A write to a register of a power die, its channels apart. -/
theorem exec_registerWrite_hv (a : Nat) (v : Word) (s : State) (hup : s.dev.hostUp = true) (hr : s.dev.hostReach a = true)
    (ht : takesWrites a = true) (ha : 0x3000000 ≤ a ∧ a < 0x3800000)
    (hc : ¬ (0x10000 ≤ a % 0x400000 ∧ a % 0x400000 < 0x11000)) :
    exec (.registerWrite a v) s = .next { s with dev := (s.dev.crossWay a).writeHv (hvAt a) (a % 0x400000) v } := by
  have hb : s.dev.meetsNoSlice a = true := s.dev.meetsNoSlice_of_none a (s.dev.regBlock_hv a ha.1 hc)
  rw [exec_registerWrite_reached a v s hup hr (by omega),
    State.writeReg_takes { s with dev := s.dev.crossWay a } a v ht (s.dev.touchReg_crossWay_idle a hb), if_neg (by omega), if_pos ha]

/-! ## Writes that store their value -/

/-- The host's write of `v` at `a` stores it through the implemented bits there, and changes no memory and no fuse. -/
def State.storesAt (s : State) (a : Nat) (v : Word) : Prop :=
  ∃ t, exec (.registerWrite a v) s = .next t ∧ t.dev.rd a = v &&& regMask a ∧ t.mem = s.mem ∧ t.nv = s.nv

/-- Where the write answers a state whose device is some `w` with `v` stored at `a`, the implemented bits of `v` are read there. -/
theorem storesAt_of_eq_wr {a : Nat} {v : Word} {s : State} {w : Dev}
    (h : exec (.registerWrite a v) s = .next { s with dev := w.wr a v }) : s.storesAt a v :=
  ⟨_, h, Dev.rd_wr_same w a v, rfl, rfl⟩

theorem State.writeVsp_plain (s : State) (a : Nat) (v : Word)
    (h : a ∉ [Reg.VSP_PWR_CMD, Reg.VSP_PWR_CFG, Reg.VSP_KEEP, Reg.VSP_IMG_UPD_CTRL, Reg.SEC_CMD]) :
    s.writeVsp a v = { s with dev := s.dev.wr a v } := by
  simp only [List.mem_cons, List.not_mem_nil, or_false, not_or] at h
  obtain ⟨hcmd, hcfg, hkeep, hupd, hsec⟩ := h
  rw [State.writeVsp, if_neg hcmd, if_neg hcfg, if_neg hkeep, if_neg hupd, if_neg hsec]

theorem Dev.writeLane_plain (s : Dev) (d n o : Nat) (v : Word) (h : o ∉ [4, 0x34, 0x40, 0x64]) :
    s.writeLane d n o v = s.wr (Reg.LANE_CFG d n + o) v := by
  simp only [List.mem_cons, List.not_mem_nil, or_false, not_or] at h
  obtain ⟨hcmd, hslip, hlb, hscan⟩ := h
  rw [Dev.writeLane, if_neg hcmd, if_neg hslip, if_neg hlb, if_neg hscan]

/-- Below the timing generators a compositor die stores what it is written, but for the command registers of a lane. -/
theorem State.writeCd_low (s : State) (d o : Nat) (v : Word) (ho : o < 0x40000) (hl : o % 0x1000 ∉ [4, 0x34, 0x40, 0x64]) :
    s.writeCd d o v = { s with dev := s.dev.wr (Reg.cd d + o) v } := by
  by_cases hw : 0x10000 ≤ o ∧ o < 0x1C000
  · rw [State.writeCd, if_pos hw, Dev.writeLane_plain _ _ _ _ _ hl,
      show Reg.LANE_CFG d ((o - 0x10000) / 0x1000) + o % 0x1000 = Reg.cd d + o by simp only [Reg.LANE_CFG]; omega]
  · simp (disch := omega) only [State.writeCd, ↓if_neg]

/-- A power die with its state carried stores what it is written outside its channels, its period registers and BST_MX_SWAP. -/
theorem Dev.writeHv_plain (s : Dev) (h o : Nat) (v : Word) (hs : (s.hv h).resend = false) (hswap : o ≠ 0x20100)
    (hper : ¬ (0x40 ≤ o ∧ o < 0x50)) (hch : ¬ (0x10000 ≤ o ∧ o < 0x11000)) :
    s.writeHv h o v = (s.dcSend h false (.write (Reg.hv h + o) v)).wr (Reg.hv h + o) v := by
  simp only [Dev.writeHv, hs, Dev.hvTake, if_neg hswap, if_neg hper, Bool.false_eq_true, if_false]
  exact if_neg (by tauto)

theorem cd_dieOf (a : Nat) (h : 0x1000000 ≤ a) : Reg.cd (dieOf a) + a % 0x1000000 = a := by
  simp only [Reg.cd, dieOf]; omega

theorem hv_hvAt (a : Nat) (h : 0x3000000 ≤ a) : Reg.hv (hvAt a) + a % 0x400000 = a := by
  simp only [Reg.hv, hvAt]; omega

end Sys2Proof.Machine
end

section
/-! SUPPORT. The statement on register writes: the registers that store their value, and the commands that a write stands for. -/

namespace Sys2Proof.Machine

/-! ## Registers that store their value -/

/-- A compositor register that `writeCd` stores, of a block in no slice, takes the host's write. -/
theorem cd_storesAt {a : Nat} {v : Word} {s : State} (hup : s.dev.hostUp = true) (hr : s.dev.hostReach a = true)
    (ht : takesWrites a = true) (ha : 0x1000000 ≤ a ∧ a < 0x3000000) (hb : s.dev.meetsNoSlice a = true)
    (hw : ∀ w : State, w.writeCd (dieOf a) (a % 0x1000000) v =
      { w with dev := w.dev.wr (Reg.cd (dieOf a) + a % 0x1000000) v }) : s.storesAt a v := by
  have he := exec_registerWrite_cd a v s hup hr ht ha hb
  rw [hw, cd_dieOf a ha.1] at he
  exact storesAt_of_eq_wr he

theorem calLimits_storesAt (d : Die) (v : Word) (s : State) (hup : s.dev.hostUp = true)
    (hr : s.dev.hostReach (Reg.CAL_LIMITS d) = true) : s.storesAt (Reg.CAL_LIMITS d) v := by
  fin_cases d <;> exact cd_storesAt hup hr (by decide) (by decide) rfl (fun _ => rfl)

theorem thmCfg_storesAt (v : Word) (s : State) (hup : s.dev.hostUp = true) (hr : s.dev.hostWay 0 = true) : s.storesAt (Reg.THM_CFG 0) v :=
  cd_storesAt hup hr (by decide) (by decide) rfl (fun _ => rfl)

theorem phoBudget_storesAt (v : Word) (s : State) (hup : s.dev.hostUp = true) (hr : s.dev.hostWay 0 = true) : s.storesAt (Reg.PHO_BUDGET 0) v :=
  cd_storesAt hup hr (by decide) (by decide) rfl (fun _ => rfl)

/-- A power die's register that the host's write reaches with the state carried (R226). -/
theorem hv_storesAt (a : Nat) (v : Word) (s : State) (hup : s.dev.hostUp = true) (hr : s.dev.hostReach a = true)
    (ht : takesWrites a = true) (ha : 0x3000000 ≤ a ∧ a < 0x3800000) (hswap : a % 0x400000 ≠ 0x20100)
    (hper : ¬ (0x40 ≤ a % 0x400000 ∧ a % 0x400000 < 0x50)) (hs : (s.dev.hv (hvAt a)).resend = false)
    (hc : ¬ (0x10000 ≤ a % 0x400000 ∧ a % 0x400000 < 0x11000)) : s.storesAt a v := by
  have he := exec_registerWrite_hv a v s hup hr ht ha hc
  rw [Dev.writeHv_plain _ _ _ v (by rw [Dev.crossWay_hv]; exact hs) hswap hper hc, hv_hvAt a ha.1] at he
  exact storesAt_of_eq_wr he

/-! ## Writes that are commands -/

/-- CMD 1 of VSP_PWR_CMD is LIT (Table 16-9). -/
theorem exec_registerWrite_pwrCmd_lit (v : Word) (s : State) (hup : s.dev.hostUp = true)
    (hr : s.dev.hostReach Reg.VSP_PWR_CMD = true) (hv : fget v F.VSP_PWR_CMD_CMD = 1) :
    exec (.registerWrite Reg.VSP_PWR_CMD v) s = exec .pwrLit s := by
  rw [exec_registerWrite_vesper _ v s hup hr (by decide) (by decide), State.writeVsp, if_pos rfl, State.pwrCmd, hv]
  rfl

/-- CMD 1 of SEC_CMD is ADVANCE (Table 16-11). -/
theorem exec_registerWrite_secCmd_advance (v : Word) (s : State) (hup : s.dev.hostUp = true)
    (hr : s.dev.hostReach Reg.SEC_CMD = true) (hv : fget v F.SEC_CMD_CMD = 1) :
    exec (.registerWrite Reg.SEC_CMD v) s = exec .advance s := by
  have hw : s.writeVsp Reg.SEC_CMD v = s.secCmd v := rfl
  rw [exec_registerWrite_vesper _ v s hup hr (by decide) (by decide), hw, State.secCmd, hv]
  rfl

/-- CMD 1 of CAL_CMD is START (Table 11-9). -/
theorem exec_registerWrite_calCmd_start (v : Word) (s : State) (hup : s.dev.hostUp = true) (hr : s.dev.hostWay 0 = true)
    (hv : fget v F.CAL_CMD_CMD = 1) :
    exec (.registerWrite (Reg.CAL_CMD 0) v) s = exec (.calStart 0 (BitVec.ofNat 8 (fget v F.CAL_CMD_TILES))) s := by
  have hw : s.writeCd (dieOf (Reg.CAL_CMD 0)) (Reg.CAL_CMD 0 % 0x1000000) v = s.calCmd 0 v := rfl
  rw [exec_registerWrite_cd (Reg.CAL_CMD 0) v s hup hr (by decide) (by decide) rfl, Dev.crossWay_near s.dev _ (by decide), hw,
    State.calCmd, hv]
  rfl

/-- CRC_CMDu is a command register (Table 13-3). -/
theorem State.writeCd_crcCmd (s : State) (d o u : Nat) (v : Word) (hu : u < 8) (ho : o = 0xA0004 + 0x100 * u) :
    s.writeCd d o v = { s with dev := s.dev.crcCmd d u v } := by
  have hw : 0xA0000 ≤ o ∧ o < 0xA0800 := by omega
  have hm : o % 0x100 = 4 := by omega
  have hi : (o - 0xA0000) / 0x100 = u := by omega
  simp (disch := omega) only [State.writeCd, ↓if_neg, ↓if_pos hw, hm, hi]

theorem Dev.regBlock_crcCmd (s : Dev) (u : Nat) (hu : u < 8) : s.regBlock (Reg.CRC_CMD 0 u) = some (0, crcBlock 0 u) := by
  have ha : 0x1000000 ≤ Reg.CRC_CMD 0 u ∧ Reg.CRC_CMD 0 u < 0x3000000 := by simp only [Reg.CRC_CMD, Reg.cd]; omega
  have ho : Reg.CRC_CMD 0 u % 0x1000000 = 0xA0004 + 0x100 * u := by simp only [Reg.CRC_CMD, Reg.cd]; omega
  have hd : dieOf (Reg.CRC_CMD 0 u) = 0 := by simp only [dieOf, Reg.CRC_CMD, Reg.cd]; omega
  have hi : (0xA0004 + 0x100 * u - 0xA0000) / 0x100 = u := by omega
  simp (disch := omega) only [Dev.regBlock, ho, hd, ↓if_neg, ↓if_pos, hi]

/-- CMD 1 of CRC_CMD is INIT (Table 13-3). -/
theorem exec_registerWrite_crcCmd_init (v : Word) (u : Fin 8) (s : State) (hup : s.dev.hostUp = true) (hr : s.dev.hostWay 0 = true)
    (hv : fget v ⟨0, 3⟩ = 1) (hs : s.dev.inSlice 0 (crcBlock 0 u) = false) :
    exec (.registerWrite (Reg.CRC_CMD 0 u) v) s = exec (.crcInit 0 u) s := by
  have ht : takesWrites (Reg.CRC_CMD 0 u) = true := by clear hs; revert u; decide
  have ha : 0x1000000 ≤ Reg.CRC_CMD 0 u ∧ Reg.CRC_CMD 0 u < 0x2000000 := by simp only [Reg.CRC_CMD, Reg.cd]; omega
  have hd : dieOf (Reg.CRC_CMD 0 u) = 0 := by simp only [dieOf]; omega
  have hreach : s.dev.hostReach (Reg.CRC_CMD 0 u) = true := by
    rw [Dev.hostReach, if_neg (by omega), if_pos (by omega), hd]
    exact hr
  have hb : s.dev.meetsNoSlice (Reg.CRC_CMD 0 u) = true := by
    simp [Dev.meetsNoSlice, Dev.regBlock_crcCmd s.dev u u.isLt, hs]
  rw [exec_registerWrite_cd (Reg.CRC_CMD 0 u) v s hup hreach ht (by omega) hb, Dev.crossWay_near s.dev _ (by omega),
    State.writeCd_crcCmd s _ _ u v u.isLt (by simp only [Reg.CRC_CMD, Reg.cd]; omega), hd, Dev.crcCmd, hv]
  rfl

/-- A write of a fault status register of CD0 or the vesper die is FLT_STAT_CLEAR (R304). -/
theorem exec_registerWrite_fltStat (a : Nat) (v : Word) (s : State) (hup : s.dev.hostUp = true) (hr : s.dev.hostReach a = true)
    (hf : isFltStat a = true) (ha : a < 0x2000000) : exec (.registerWrite a v) s = exec (.fltStatClear a v) s := by
  rw [exec_registerWrite_reached a v s hup hr (by omega), Dev.crossWay_near s.dev a (by omega), State.writeReg, if_pos hf]
  rfl

/-! ## Writes that store nothing -/

/-- A write that meets no register or a read-only one. -/
theorem exec_registerWrite_ignored (a : Nat) (v : Word) (s : State) (hup : s.dev.hostUp = true) (hr : s.dev.hostReach a = true)
    (ha : a < 0x4000000) (hb : s.dev.meetsNoSlice a = true) (ht : isTriple a = false)
    (hro : ∀ y ∈ (regAt a).map Prod.fst, y.acc = .ro) :
    exec (.registerWrite a v) s = .next { s with dev := s.dev.crossWay a } := by
  rw [exec_registerWrite_reached a v s hup hr ha,
    State.writeReg_ignored { s with dev := s.dev.crossWay a } a v ht (s.dev.touchReg_crossWay_idle a hb) hro]

/-- A write that cannot reach its die counts in DROPPED (R324); the fault it raises leaves the count alone. -/
theorem Dev.barDrop_dropped (s : Dev) :
    s.barDrop.rdF Reg.PZP_PCIE_ERR F.PZP_PCIE_ERR_DROPPED = satAdd 16 (s.rdF Reg.PZP_PCIE_ERR F.PZP_PCIE_ERR_DROPPED) 1 := by
  have hlt : satAdd 16 (s.rdF Reg.PZP_PCIE_ERR F.PZP_PCIE_ERR_DROPPED) 1 < 2 ^ 16 := by rw [satAdd]; omega
  rw [Dev.barDrop, Dev.rdF, Dev.raise_rd _ _ _ _ (by decide) (by decide), ← Dev.rdF, Dev.satF,
    Dev.rdF_wrF_same _ _ _ _ (by decide) (by decide)]
  exact Nat.mod_eq_of_lt hlt

theorem exec_registerWrite_dropped (a : Nat) (v : Word) (s : State) (hup : s.dev.hostUp = true) (ha : a < 0x4000000)
    (hr : s.dev.hostReach a = false) : exec (.registerWrite a v) s = .next { s with dev := s.dev.barDrop } := by
  simp [exec_registerWrite, execRegisterWrite, State.onDev, hup, hr, show ¬ 0x4000000 ≤ a by omega]

theorem exec_registerWrite_down (a : Nat) (v : Word) (s : State) (hup : s.dev.hostUp = false) (ha : a < 0x4000000) :
    exec (.registerWrite a v) s = .next s := by
  simp [exec_registerWrite, execRegisterWrite, hup, show ¬ 0x4000000 ≤ a by omega]

/-- Settles O51: each window of BAR0 by the lemma that says what a write there does. -/
theorem registerWritesComplete : Obligations.RegisterWritesComplete := by
  intro a v d u s
  refine ⟨?_, ?_, ?_, ?_, ?_, ?_, ?_, ?_, ?_, ?_, ?_, ?_, ?_, ?_⟩
  · rintro ⟨hup, hr, ha, hn, hsome, hacc, hs, he⟩
    have hw := exec_registerWrite_vesper a v s hup hr (takesWrites_of a hsome hacc hs he) (.inl ha)
    rw [State.writeVsp_plain s a v hn] at hw
    exact ⟨_, hw, Dev.rd_wr_same s.dev a v, rfl, rfl, rfl⟩
  · rintro ⟨hup, hr, hlo, hhi, ho, hl, hsome, hacc, hs, he, hb⟩
    exact cd_storesAt hup hr (takesWrites_of a hsome hacc hs he) ⟨hlo, hhi⟩ hb
      (fun w => w.writeCd_low _ _ v ho (by rwa [Nat.mod_mod_of_dvd a (by decide)]))
  · rintro ⟨hup, hr⟩
    exact calLimits_storesAt d v s hup hr
  · rintro ⟨hup, hr⟩
    exact thmCfg_storesAt v s hup hr
  · rintro ⟨hup, hr⟩
    exact phoBudget_storesAt v s hup hr
  · rintro ⟨hup, hr, hlo, hhi, hswap, hper, hs, hc, hsome, hacc, hf, he⟩
    exact hv_storesAt a v s hup hr (takesWrites_of a hsome hacc hf he) ⟨hlo, hhi⟩ hswap hper hs hc
  · rintro ⟨hup, hr, hv⟩
    exact ⟨_, exec_registerWrite_pwrCmd_lit v s hup hr hv, rfl⟩
  · rintro ⟨hup, hr, hv⟩
    exact ⟨_, exec_registerWrite_secCmd_advance v s hup hr hv, rfl⟩
  · rintro ⟨hup, hr, hv⟩
    exact ⟨_, exec_registerWrite_calCmd_start v s hup hr hv, rfl⟩
  · rintro ⟨hup, hr, hv, hs⟩
    exact ⟨_, exec_registerWrite_crcCmd_init v u s hup hr hv hs, rfl⟩
  · rintro ⟨hup, hr, hf, ha⟩
    exact ⟨_, exec_registerWrite_fltStat a v s hup hr hf ha, rfl⟩
  · rintro ⟨hup, hr, ha, hb, hs, he, hro⟩
    exact ⟨_, exec_registerWrite_ignored a v s hup hr ha hb (isTriple_eq_false a hs he) hro, Dev.crossWay_regs _ _, rfl, rfl⟩
  · rintro ⟨hup, ha, hr⟩
    exact ⟨_, exec_registerWrite_dropped a v s hup ha hr, Dev.barDrop_dropped _, rfl, rfl⟩
  · rintro ⟨hup, ha⟩
    exact ⟨s, exec_registerWrite_down a v s hup ha, rfl⟩

end Sys2Proof.Machine
end

section
/-! SUPPORT. The statement on data channels: a channel that is down already keeps every register where the register file is in
canonical form and holds no reserved bit, and not otherwise. -/

namespace Sys2Proof.Machine

/-! ## A write of what a register holds -/

theorem SMap.get_below {α : Type} [DecidableEq α] (df : Nat → α) (m : SMap α) (lo k : Nat) (w : SMap.wfFrom df lo m = true)
    (h : k < lo) : m.get df k = df k := by
  induction m generalizing lo with
  | nil => rfl
  | cons e m ih =>
    obtain ⟨j, v⟩ := e
    simp only [SMap.wfFrom, Bool.and_eq_true, decide_eq_true_eq] at w
    obtain ⟨⟨hj, -⟩, hm⟩ := w
    rw [SMap.get, if_neg (by omega), ih (j + 1) hm (by omega)]

/-- A canonical map is kept by a write of what it reads. -/
theorem SMap.put_get {α : Type} [DecidableEq α] (df : Nat → α) (m : SMap α) (lo k : Nat) (w : SMap.wfFrom df lo m = true) :
    SMap.put df m k (m.get df k) = m := by
  induction m generalizing lo with
  | nil => simp [SMap.get, SMap.put]
  | cons e m ih =>
    obtain ⟨j, v⟩ := e
    simp only [SMap.wfFrom, Bool.and_eq_true, decide_eq_true_eq] at w
    obtain ⟨⟨-, hv⟩, hm⟩ := w
    by_cases hk : k = j
    · subst hk
      simp [SMap.get, SMap.put, hv]
    · have hlt : ¬ (k < j ∧ SMap.get df m k ≠ df k) := fun h => h.2 (SMap.get_below df m (j + 1) k hm (by omega))
      rw [SMap.get, if_neg hk, SMap.put, if_neg hk, if_neg hlt, ih (j + 1) hm]

theorem bitPut_bitOf (w : Word) (k : Nat) (hk : k < 32) : bitPut w k (bitOf w k) = w := by
  apply BitVec.eq_of_getLsbD_eq
  intro i _
  have hi := bitOf_bitPut w k i (bitOf w k) hk
  rw [← bitOf, ← bitOf, hi]
  split
  · next h => rw [h]
  · rfl

theorem and_mask_of_unreserved (w m : Word) (h : w &&& ~~~ m = 0#32) : w &&& m = w := by
  apply BitVec.eq_of_getLsbD_eq
  intro i hi
  have hbit : (w &&& ~~~ m).getLsbD i = false := by rw [h]; simp
  simpa [hi] using hbit

/-- A bit written with what it reads, in a canonical register file with no reserved bit set in the register. -/
theorem Dev.wrB_self (s : Dev) (a k : Nat) (hk : k < 32) (hwf : s.regsWf = true) (hres : s.rd a &&& ~~~ regMask a = 0#32) :
    (s.wrB a k (s.rdB a k)).regs = s.regs := by
  rw [Dev.wrB, Dev.rdB, bitPut_bitOf _ _ hk, Dev.wr, and_mask_of_unreserved _ _ hres]
  exact SMap.put_get regReset s.regs 0 a hwf

/-! ## A data channel that is down already -/

theorem exec_dcChannelDown (h : Hv) (c : Fin 2) (why : DcDownCause) (s : State) :
    exec (.dcChannelDown h c why) s = .next { s with dev := s.dev.dcDown h c } := by
  cases why <;> rfl

/-- The clause of O15 under the invariant that it lacks. -/
theorem dcChannelDown_keeps_registers (h : Hv) (c : Fin 2) (why : DcDownCause) (s : State) (hdown : s.dev.linkUp h c = false)
    (hwf : s.dev.regsWf = true) (hres : s.dev.rd (Reg.BST_LINK_STAT h) &&& ~~~ regMask (Reg.BST_LINK_STAT h) = 0#32) :
    ∃ t, exec (.dcChannelDown h c why) s = .next t ∧ t.dev.regs = s.dev.regs := by
  refine ⟨_, exec_dcChannelDown h c why s, ?_⟩
  have hself := s.dev.wrB_self (Reg.BST_LINK_STAT h) (1 + c) (by omega) hwf hres
  rw [← Dev.linkUp, hdown] at hself
  simpa [Dev.dcDown, hdown] using hself

/-- Refutes O15: BST_LINK_STAT of HV0 holds a reserved bit, which R11 excludes and no command sets. Both channels of HV0 read down;
the one declared down once more has its bit of the register written, and the write clears the reserved bit. -/
theorem not_dataChannelsComplete : ¬ Obligations.DataChannelsComplete := by
  intro hall
  let v : Dev := { Dev.reset with regs := [(Reg.BST_LINK_STAT 0, 0x10#32)] }
  obtain ⟨-, -, -, -, -, -, -, -, -, hdown, -, -, -⟩ :=
    hall 0 0 true ⟨.idle, 0#8, 0#8, 0#96, 0#16⟩ 0#8 .noFrame { State.reset with dev := v }
  obtain ⟨t, ht, hregs, -⟩ := hdown (by decide)
  rw [exec_dcChannelDown] at ht
  injection ht with ht
  have hread : t.dev.rd (Reg.BST_LINK_STAT 0) = 0#32 := by rw [← ht]; decide
  rw [Dev.rd, hregs] at hread
  exact absurd hread (by decide)

end Sys2Proof.Machine
end

section
/-! SUPPORT. What the registers of the vesper die keep while the other dies enter SAFE (R357), and what a slice broken off puts back
(R302). -/

namespace Sys2Proof.Machine

/-! ## What spares the vesper die -/

/-- From `s` to `t` every register of the vesper die but VSP_EVT_HOLD, which any event may write (R308), and every self-test engine
stay as they are. -/
structure Dev.sparesVesper (s t : Dev) : Prop where
  rd : ∀ b, b < 0x1000000 → b ≠ Reg.VSP_EVT_HOLD → t.rd b = s.rd b
  bist : t.bist = s.bist

theorem Dev.sparesVesper.of_eq {s t : Dev} (h : t.regs = s.regs) (hb : t.bist = s.bist) : s.sparesVesper t :=
  ⟨fun b _ _ => by rw [Dev.rd, h, Dev.rd], hb⟩

theorem Dev.sparesVesper.refl (s : Dev) : s.sparesVesper s := ⟨fun _ _ _ => rfl, rfl⟩

theorem Dev.sparesVesper.trans {s t u : Dev} (h : s.sparesVesper t) (g : t.sparesVesper u) : s.sparesVesper u :=
  ⟨fun b hb he => (g.rd b hb he).trans (h.rd b hb he), g.bist.trans h.bist⟩

theorem Dev.sparesVesper.behind {s t u : Dev} (g : t.sparesVesper u) (h : t.regs = s.regs) (hb : t.bist = s.bist) :
    s.sparesVesper u :=
  (Dev.sparesVesper.of_eq h hb).trans g

theorem Dev.sparesVesper.ite {s t u : Dev} {c : Prop} [Decidable c] (h : s.sparesVesper t) (g : s.sparesVesper u) :
    s.sparesVesper (if c then t else u) := by
  split <;> assumption

theorem Dev.sparesVesper.forAll {α : Type} {f : Dev → α → Dev} {l : List α} (h : ∀ s, ∀ a ∈ l, Dev.sparesVesper s (f s a))
    (s : Dev) : s.sparesVesper (Machine.forAll l s f) := by
  induction l generalizing s with
  | nil => exact .refl s
  | cons a l ih =>
    exact (h s a List.mem_cons_self).trans (ih (fun s b hb => h s b (List.mem_cons_of_mem a hb)) (f s a))

/-- A write beyond the vesper die's window. -/
theorem Dev.wr_sparesVesper (s : Dev) (a : Nat) (v : Word) (h : 0x1000000 ≤ a) : s.sparesVesper (s.wr a v) :=
  ⟨fun b hb _ => Dev.rd_wr_other s a b v (by omega), rfl⟩

theorem Dev.wrF_sparesVesper (s : Dev) (a : Nat) (f : Fld) (v : Nat) (h : 0x1000000 ≤ a) : s.sparesVesper (s.wrF a f v) :=
  s.wr_sparesVesper a _ h

theorem Dev.emit_sparesVesper (s : Dev) (m : OutMsg) : s.sparesVesper (s.emit m) := .of_eq rfl rfl

theorem faultReg_vesper (b : Nat) (hb : b < 0x1000000) (he : b ≠ Reg.VSP_EVT_HOLD) : faultReg b = false := by
  have hcq : ∀ d, cqReg d b = false := by
    intro d
    simp only [cqReg, Reg.BIST_CQ_PTR, Reg.BIST_CQ_CNT, Reg.BIST_FLT_STAT, Reg.BIST_CQ_LOG, Reg.cd, Bool.or_eq_false_iff,
      beq_eq_false_iff_ne, List.any_eq_false, beq_iff_eq]
    exact ⟨⟨⟨by omega, by omega⟩, by omega⟩, fun i _ => by omega⟩
  simp [faultReg, hcq, he]

theorem Dev.raise_sparesVesper (s : Dev) (a k : Nat) (h : 0x1000000 ≤ a) : s.sparesVesper (s.raise a k) :=
  ⟨fun b hb he => Dev.raise_rd s a k b (faultReg_vesper b hb he) (by omega), Dev.raise_bist s a k⟩

theorem Dev.causeOn_sparesVesper (s : Dev) (a k : Nat) (h : 0x1000000 ≤ a) : s.sparesVesper (s.causeOn a k) :=
  ⟨fun b hb he => Dev.causeOn_rd s a k b (faultReg_vesper b hb he) (by omega) (by omega), Dev.causeOn_bist s a k⟩

theorem Dev.causeIs_sparesVesper (s : Dev) (a k : Nat) (x : Bool) (h : 0x1000000 ≤ a) : s.sparesVesper (s.causeIs a k x) :=
  ⟨fun b hb he => Dev.causeIs_rd s a k b x (faultReg_vesper b hb he) (by omega) (by omega), Dev.causeIs_bist s a k x⟩

theorem Dev.latchFault_sparesVesper (s : Dev) (a k : Nat) (h : 0x1000000 ≤ a) : s.sparesVesper (s.latchFault a k) :=
  ⟨fun b hb he => Dev.latchFault_rd s a k b he (by omega), by rw [(show _ = _ from s.latchFault_eq a k)]⟩

/-! ## Tiles, runs and rebuilds that entry to SAFE breaks off -/

theorem Dev.enqueue_sparesVesper (s : Dev) (d t : Nat) (p : Pkt) : s.sparesVesper (s.enqueue d t p) := by
  unfold Dev.enqueue Dev.offer
  split
  · exact .refl s
  · split
    · exact .refl s
    · exact .of_eq rfl rfl

theorem Dev.setDstate_sparesVesper (s : Dev) (d t v : Nat) : s.sparesVesper (s.setDstate d t v) :=
  s.wrF_sparesVesper _ _ _ (by simp only [Reg.LANE_TILE_STAT, Reg.cd]; omega)

theorem Dev.queueSafe_sparesVesper (s : Dev) (d t : Nat) : s.sparesVesper (s.queueSafe d t) := Dev.enqueue_sparesVesper _ _ _ _

theorem Dev.safeFill_sparesVesper (s : Dev) (d t : Nat) (c : SafeCause) : s.sparesVesper (s.safeFill d t c) := by
  unfold Dev.safeFill
  refine .ite (.trans ?_ (Dev.queueSafe_sparesVesper _ d t)) (.ite (.trans ?_ (Dev.queueSafe_sparesVesper _ d t)) (.of_eq rfl rfl))
  · exact .behind (Dev.setDstate_sparesVesper _ d t 3) rfl rfl
  · exact .of_eq rfl rfl

theorem Dev.stopDie_sparesVesper (s : Dev) (d : Nat) (c : SafeCause) : s.sparesVesper (s.stopDie d c) := by
  refine .trans ?_ (.forAll (fun s t _ => s.safeFill_sparesVesper d t c) _)
  refine .forAll (fun _ _ _ => ?_) s
  exact .of_eq rfl rfl

theorem Dev.setTstat_sparesVesper (s : Dev) (d t : Nat) (f : Fld) (v : Nat) : s.sparesVesper (s.setTstat d t f v) :=
  s.wrF_sparesVesper _ _ _ (by simp only [Reg.CAL_TSTAT, Reg.cd]; omega)

theorem Reg.CAL_FLT_STAT_ge (d : Nat) : 0x1000000 ≤ Reg.CAL_FLT_STAT d := by simp only [Reg.CAL_FLT_STAT, Reg.cd]; omega

theorem Dev.calFailed_sparesVesper (s : Dev) (d t : Nat) : s.sparesVesper (s.calFailed d t) := by
  unfold Dev.calFailed
  refine .ite (.trans ?_ (Dev.causeOn_sparesVesper _ _ _ (Reg.CAL_FLT_STAT_ge d))) (.of_eq rfl rfl)
  exact .behind (Dev.setTstat_sparesVesper _ d t _ _) rfl rfl

theorem Dev.showCal_sparesVesper (s : Dev) (d t : Nat) : s.sparesVesper (s.showCal d t) := Dev.setTstat_sparesVesper s d t _ _

theorem Dev.abandonRun_sparesVesper (s : Dev) (d t why : Nat) : s.sparesVesper (s.abandonRun d t why) := by
  unfold Dev.abandonRun
  dsimp only
  refine .ite (.refl s) (.trans ?_ (Dev.emit_sparesVesper _ _))
  refine .trans ?_ (Dev.showCal_sparesVesper _ d t)
  refine .trans ?_ (.ite (Dev.raise_sparesVesper _ _ _ (Reg.CAL_FLT_STAT_ge d)) (.refl _))
  refine .trans ?_ (.ite (.refl _) (Dev.calFailed_sparesVesper _ d t))
  refine .trans ?_ (Dev.setTstat_sparesVesper _ d t _ _)
  exact .behind (Dev.setTstat_sparesVesper _ d t _ _) rfl rfl

theorem Dev.rbFail_sparesVesper (s : Dev) (n err : Nat) : s.sparesVesper (s.rbFail n err) := by
  have hstat : ∀ (w : Dev) (d : Nat) (f : Fld) (v : Nat), w.sparesVesper (w.wrF (Reg.FAB_RB_STAT d) f v) := fun w d f v =>
    w.wrF_sparesVesper _ _ _ (by simp only [Reg.FAB_RB_STAT, Reg.cd]; omega)
  refine .trans ?_ (.trans (.forAll (fun w d _ => hstat w d _ _) _) (.of_eq rfl rfl))
  refine .forAll (fun w d _ => .trans ?_ (Dev.raise_sparesVesper _ _ _ (by simp only [Reg.FAB_FLT_STAT, Reg.cd]; omega))) s
  exact .trans ((hstat w d _ _).trans (hstat _ d _ _)) (.of_eq rfl rfl)

theorem Dev.rbFailAll_sparesVesper (s : Dev) (err : Nat) : s.sparesVesper (s.rbFailAll err) :=
  .forAll (fun w _ _ => .ite (w.rbFail_sparesVesper _ err) (.refl w)) s

/-! ## A power die that applies its safe set points -/

theorem Dev.showChan_sparesVesper (s : Dev) (c : Nat) : s.sparesVesper (s.showChan c) := by
  have hs : 0x1000000 ≤ Reg.CH_STAT c := by simp only [Reg.CH_STAT, Reg.hv]; omega
  have hm : 0x1000000 ≤ Reg.CH_MEAS c := by simp only [Reg.CH_MEAS, Reg.hv]; omega
  exact ((Dev.wrF_sparesVesper _ _ _ _ hs).trans (Dev.wrF_sparesVesper _ _ _ _ hs)).trans
    ((Dev.wrF_sparesVesper _ _ _ _ hs).trans (Dev.wrF_sparesVesper _ _ _ _ hm))

theorem Dev.setChan_showChan_sparesVesper (s : Dev) (c : Nat) (x : ChanH) : s.sparesVesper ((s.setChan c x).showChan c) :=
  .behind (Dev.showChan_sparesVesper _ c) rfl rfl

theorem Dev.columnSlot_sparesVesper (s : Dev) (h g r c : Nat) : s.sparesVesper (s.columnSlot h g r c) := by
  unfold Dev.columnSlot
  refine .trans (t := s.setRun c (s.row0 h g + r) _) (.of_eq rfl rfl) (.ite (Dev.setChan_showChan_sparesVesper _ c _) (.ite ?_ ?_))
  · exact .trans (Dev.setChan_showChan_sparesVesper _ c _)
      (.ite (Dev.wrF_sparesVesper _ _ _ _ (by simp only [Reg.CH_CNT, Reg.hv]; omega)) (.refl _))
  · exact Dev.setChan_showChan_sparesVesper _ c _

theorem Dev.driveNow_sparesVesper (s : Dev) (h : Nat) : s.sparesVesper (s.driveNow h) := by
  refine .trans ?_ (.forAll (fun w k _ => ?_) _)
  · refine .forAll (fun _ _ _ => ?_) s
    exact .of_eq rfl rfl
  · dsimp only
    split
    · exact Dev.setChan_showChan_sparesVesper w _ _
    · split
      · exact Dev.columnSlot_sparesVesper _ _ _ _ _
      · exact .refl w
    · exact .refl w

theorem Dev.dropSwaps_sparesVesper (s : Dev) (h : Nat) : s.sparesVesper (s.dropSwaps h) := by
  refine .forAll (fun w g _ => ?_) s
  exact .behind (Dev.wrF_sparesVesper _ _ _ _ (by simp only [Reg.BST_MX_STAT, Reg.hv]; omega)) rfl rfl

theorem Dev.boostStart_sparesVesper (s : Dev) (h : Nat) : s.sparesVesper (s.boostStart h) := by
  have hs : 0x1000000 ≤ Reg.BST_STAT h := by simp only [Reg.BST_STAT, Reg.hv]; omega
  exact .ite (.refl s) ((Dev.wrF_sparesVesper _ _ _ _ hs).trans (Dev.wrF_sparesVesper _ _ _ _ hs))

theorem Dev.applySafe_sparesVesper (s : Dev) (h : Nat) : s.sparesVesper (s.applySafe h) := by
  refine .ite (.refl s) (.trans ?_ (Dev.driveNow_sparesVesper _ h))
  refine .trans ?_ (.ite (Dev.boostStart_sparesVesper _ h) (.refl _))
  refine .trans ?_ (Dev.dropSwaps_sparesVesper _ h)
  exact .behind (Dev.wrF_sparesVesper _ _ _ _ (by simp only [Reg.BST_LINK_STAT, Reg.hv]; omega)) rfl rfl

/-! ## The slice that entry to SAFE breaks off -/

theorem watcherStats_ge (w : Nat) : ∀ a ∈ watcherStats w, 0x1000000 ≤ a := by
  have hlane : ∀ d n, 0x1000000 ≤ Reg.LANE_FLT_STAT d n ∧ 0x1000000 ≤ Reg.LANE_TILE_FLT_STAT d n := by
    intro d n; simp only [Reg.LANE_FLT_STAT, Reg.LANE_TILE_FLT_STAT, Reg.cd]; omega
  have hbrg : ∀ d, 0x1000000 ≤ Reg.FAB_BRG_FLT_STAT d := by intro d; simp only [Reg.FAB_BRG_FLT_STAT, Reg.cd]; omega
  have hbst : ∀ h, 0x1000000 ≤ Reg.BST_FLT_STAT h := by intro h; simp only [Reg.BST_FLT_STAT, Reg.hv]; omega
  unfold watcherStats
  dsimp only
  split
  · split
    · split <;> simp [hlane]
    · split <;> simp [hbrg]
  · split <;> simp [hbst]

theorem Dev.unmask_sparesVesper (s : Dev) (w : Nat) : s.sparesVesper (s.unmask w) := by
  refine .trans ?_ (.forAll (fun v a ha => .forAll (fun v k _ => ?_) v) _)
  · exact .of_eq rfl rfl
  · exact .ite (v.latchFault_sparesVesper a k (watcherStats_ge w a ha)) (.refl v)

theorem Dev.sliceLink_sparesVesper (s : Dev) (blk : Nat) (on : Bool) : s.sparesVesper (s.sliceLink blk on) :=
  .ite (.forAll (fun w d _ => w.wr_sparesVesper _ _ (by simp only [Reg.FAB_BRG_STAT, Reg.cd]; omega)) s) (.refl s)

/-- No slice on a die: nothing to break off. -/
theorem Dev.abandonSlice_idle (s : Dev) (d why : Nat) (h : (s.eng d).slice = none) : s.abandonSlice d why = s := by
  rw [Dev.abandonSlice, h]

/-- The engine of a die whose slice SAFE has broken off: a RETEST stays due (R313). -/
def Dev.broken (s : Dev) (d : Nat) (sl : Slice) : Dev :=
  s.setEng d { s.eng d with slice := none, due := if sl.retest then (s.eng d).due ++ [sl.block] else (s.eng d).due }

/-- A slice that SAFE breaks off puts back the registers saved for it (R302); of the vesper die it changes no other. -/
theorem Dev.abandonSlice_restores (s : Dev) (d : Nat) (sl : Slice) (h : (s.eng d).slice = some sl) :
    ((s.broken d sl).restore sl.saved).sparesVesper (s.abandonSlice d 3) := by
  have hstat : 0x1000000 ≤ Reg.BIST_STAT d := by simp only [Reg.BIST_STAT, Reg.cd]; omega
  have hres : 0x1000000 ≤ Reg.BIST_RES d := by simp only [Reg.BIST_RES, Reg.cd]; omega
  have hcnt : 0x1000000 ≤ Reg.BIST_RESCNT d := by simp only [Reg.BIST_RESCNT, Reg.cd]; omega
  rw [Dev.abandonSlice, h]
  dsimp only
  rw [if_neg (by decide)]
  refine .trans ?_ (.ite (Dev.unmask_sparesVesper _ _) (.refl _))
  refine .trans (.trans ?_ (Dev.wr_sparesVesper _ _ _ hcnt)) (.of_eq rfl rfl)
  refine .trans (.trans ?_ (Dev.wr_sparesVesper _ _ _ hres)) (.of_eq rfl rfl)
  refine .trans (.trans ?_ (Dev.wrF_sparesVesper _ _ _ _ hstat)) (Dev.wrF_sparesVesper _ _ _ _ hstat)
  refine .trans ?_ (.ite (.refl _) (Dev.sliceLink_sparesVesper _ _ _))
  exact .of_eq (by simp [Dev.broken]) (by simp [Dev.broken])

/-- The slices in progress have saved no register of the vesper die. -/
def Dev.slicesSpareVesper (s : Dev) : Prop := ∀ d sl, (s.eng d).slice = some sl → ∀ e ∈ sl.saved, 0x1000000 ≤ e.1

theorem Dev.sparesVesper.eng {s t : Dev} (h : s.sparesVesper t) (d : Nat) : t.eng d = s.eng d := by
  rw [Dev.eng, h.bist, Dev.eng]

theorem Dev.sparesVesper.slices {s t : Dev} (h : s.sparesVesper t) (hs : s.slicesSpareVesper) : t.slicesSpareVesper :=
  fun d sl hd => hs d sl (by rwa [← h.eng d])

/-- An engine set to a state whose slice spares the vesper die. -/
theorem Dev.setEng_slicesSpareVesper (s : Dev) (d : Nat) (x : BistH) (hs : s.slicesSpareVesper)
    (hx : ∀ sl, x.slice = some sl → ∀ e ∈ sl.saved, 0x1000000 ≤ e.1) : (s.setEng d x).slicesSpareVesper := by
  intro e sl he
  by_cases hed : e = d
  · subst hed
    rw [Dev.setEng_eng_same] at he
    exact hx sl he
  · rw [Dev.setEng_eng_other _ _ _ _ hed] at he
    exact hs e sl he

/-- What self-test saves for a slice are registers of check-value units. -/
theorem Dev.savedRegs_ge (s : Dev) (d blk : Nat) : ∀ e ∈ s.savedRegs d blk, 0x1000000 ≤ e.1 := by
  unfold Dev.savedRegs
  split
  · simp [Reg.CRC_VALUE, Reg.CRC_CNT, Reg.CRC_EXP, Reg.CRC_CTRL, Reg.cd, add_assoc]
  · simp

theorem Dev.maskAssert_sparesVesper (s : Dev) (blk : Nat) : s.sparesVesper (s.maskAssert blk) := .of_eq rfl rfl

/-- The start of a slice keeps the invariant (R302). -/
theorem Dev.sliceStart_slicesSpareVesper (s : Dev) (d blk len : Nat) (hs : s.slicesSpareVesper) :
    (s.sliceStart d blk len).slicesSpareVesper := by
  refine iteInduction (motive := Dev.slicesSpareVesper) (fun _ => hs) (fun _ => ?_)
  have hreg : 0x1000000 ≤ Reg.BIST_STAT d := by simp only [Reg.BIST_STAT, Reg.cd]; omega
  refine (Dev.sliceLink_sparesVesper _ blk false).slices ((Dev.maskAssert_sparesVesper _ blk).slices
    ((Dev.wr_sparesVesper _ _ _ hreg).slices (s.setEng_slicesSpareVesper d _ hs ?_)))
  rintro sl ⟨⟩
  exact s.savedRegs_ge d blk

/-! ## Entry to SAFE -/

theorem Dev.abandonDie_sparesVesper (s : Dev) (d why : Nat) : s.sparesVesper (s.abandonDie d why) :=
  .forAll (fun w t _ => w.abandonRun_sparesVesper d t why) s

theorem Dev.dcSend_bist (s : Dev) (h : Nat) (up : Bool) (w : DcWhat) : (s.dcSend h up w).bist = s.bist := by
  rw [(show _ = _ from s.dcSend_eq h up w)]

theorem Dev.dcSend_sparesVesper (s : Dev) (h : Nat) (up : Bool) (w : DcWhat) : s.sparesVesper (s.dcSend h up w) :=
  ⟨fun b _ _ => s.dcSend_rd h up w b, s.dcSend_bist h up w⟩

theorem Dev.noTemp_sparesVesper (s : Dev) : s.sparesVesper s.noTemp :=
  .forAll (fun w d _ => w.causeIs_sparesVesper _ _ _ (by simp only [Reg.PHO_FLT_STAT, Reg.cd]; omega)) s

/-- A change of the power state, apart from STATE itself. -/
theorem Dev.setPower_sparesVesper (s : Dev) (st : Nat) (h : s.power ≠ st) :
    (s.wrF Reg.VSP_PWR_STAT F.VSP_PWR_STAT_STATE st).sparesVesper (s.setPower st) := by
  rw [Dev.setPower, if_neg h]
  refine .trans ?_ (Dev.noTemp_sparesVesper _)
  refine .trans ?_ (Dev.dcSend_sparesVesper _ 1 false _)
  exact .trans (Dev.emit_sparesVesper _ _) (Dev.dcSend_sparesVesper _ 0 false _)

/-- What entry to SAFE breaks off on compositor die `d`: its composition, its calibration runs and its slice. -/
def Dev.safeDie (s : Dev) (d : Nat) : Dev := ((s.stopDie d .safe).abandonDie d 5).abandonSlice d 3

theorem Dev.safeDie_before_slice (s : Dev) (d : Nat) : s.sparesVesper ((s.stopDie d .safe).abandonDie d 5) :=
  (s.stopDie_sparesVesper d .safe).trans (Dev.abandonDie_sparesVesper _ d 5)

theorem Dev.safeDie_idle (s : Dev) (d : Nat) (h : (s.eng d).slice = none) : s.sparesVesper (s.safeDie d) := by
  have hpre := s.safeDie_before_slice d
  rw [Dev.safeDie, Dev.abandonSlice_idle _ d 3 (by rw [hpre.eng, h])]
  exact hpre

/-- A die whose slice has saved the register at `a` alone. -/
theorem Dev.safeDie_restores (s : Dev) (d a : Nat) (v : Word) (sl : Slice) (h : (s.eng d).slice = some sl)
    (hsl : sl.saved = [(a, v)]) (ha : a < 0x1000000) (he : a ≠ Reg.VSP_EVT_HOLD) : (s.safeDie d).rd a = v &&& regMask a := by
  have hpre := s.safeDie_before_slice d
  rw [Dev.safeDie, (Dev.abandonSlice_restores _ d sl (by rw [hpre.eng, h])).rd a ha he, hsl]
  exact Dev.rd_wr_same _ a v

theorem forAll_two (s : Dev) (f : Dev → Nat → Dev) : forAll (List.range 2) s f = f (f s 0) 1 := rfl

/-- Entry to SAFE reads, in the vesper die, as its part on the two compositor dies leaves it. -/
theorem Dev.enterSafe_eq (s : Dev) : ∃ w, (s.setPower 4).sparesVesper w ∧
    ∀ b, b < 0x1000000 → b ≠ Reg.VSP_EVT_HOLD → s.enterSafe.rd b = ((w.safeDie 0).safeDie 1).rd b := by
  unfold Dev.enterSafe
  generalize s.setPower 4 = u
  refine ⟨if u.safeSource 3 then { u with thm := { u.thm with after := true } } else u, .ite (.of_eq rfl rfl) (.refl u),
    fun b hb he => ?_⟩
  dsimp only
  rw [(Dev.sparesVesper.forAll (fun w h _ => w.applySafe_sparesVesper h) _).rd b hb he, (Dev.rbFailAll_sparesVesper _ 7).rd b hb he]
  simp only [forAll_two, Dev.setEng_rd, Dev.safeDie]

theorem Dev.restore_sparesVesper (s : Dev) (l : List (Nat × Word)) (h : ∀ e ∈ l, 0x1000000 ≤ e.1) :
    s.sparesVesper (s.restore l) :=
  .forAll (fun w e he => w.wr_sparesVesper e.1 e.2 (h e he)) s

/-- Slices that spare the vesper die are broken off without a trace in its registers. -/
theorem Dev.safeDie_spared (s : Dev) (d : Nat) (h : s.slicesSpareVesper) : (s.safeDie d).slicesSpareVesper ∧
    ∀ b, b < 0x1000000 → b ≠ Reg.VSP_EVT_HOLD → (s.safeDie d).rd b = s.rd b := by
  have hpre := s.safeDie_before_slice d
  unfold Dev.safeDie
  generalize (s.stopDie d .safe).abandonDie d 5 = w at *
  cases hw : (w.eng d).slice with
  | none =>
    rw [Dev.abandonSlice_idle w d 3 hw]
    exact ⟨hpre.slices h, hpre.rd⟩
  | some sl =>
    have hsaved := Dev.restore_sparesVesper (w.broken d sl) sl.saved (hpre.slices h d sl hw)
    have hend := hsaved.trans (Dev.abandonSlice_restores w d sl hw)
    have hbroken : (w.broken d sl).slicesSpareVesper := w.setEng_slicesSpareVesper d _ (hpre.slices h) (by rintro _ ⟨⟩)
    exact ⟨hend.slices hbroken, fun b hb he => (hend.rd b hb he).trans (hpre.rd b hb he)⟩

/-- Entry to SAFE where the slices spare the vesper die: of its registers only the power state's has changed. -/
theorem Dev.enterSafe_rd (s : Dev) (h : s.slicesSpareVesper) (hp : s.power ≠ 4) (b : Nat) (hb : b < 0x1000000)
    (he : b ≠ Reg.VSP_EVT_HOLD) : s.enterSafe.rd b = (s.wrF Reg.VSP_PWR_STAT F.VSP_PWR_STAT_STATE 4).rd b := by
  obtain ⟨w, hw, hrd⟩ := s.enterSafe_eq
  have hsafe : (s.wrF Reg.VSP_PWR_STAT F.VSP_PWR_STAT_STATE 4).sparesVesper w := (s.setPower_sparesVesper 4 hp).trans hw
  obtain ⟨h0, hrd0⟩ := w.safeDie_spared 0 (hsafe.slices h)
  obtain ⟨-, hrd1⟩ := (w.safeDie 0).safeDie_spared 1 h0
  rw [hrd b hb he, hrd1 b hb he, hrd0 b hb he, hsafe.rd b hb he]

/-- Entry to SAFE where a slice of CD1 has saved the register at `a` alone: it holds what was saved. -/
theorem Dev.enterSafe_restores (s : Dev) (a : Nat) (v : Word) (sl : Slice) (hp : s.power ≠ 4) (h0 : (s.eng 0).slice = none)
    (h1 : (s.eng 1).slice = some sl) (hsl : sl.saved = [(a, v)]) (ha : a < 0x1000000) (he : a ≠ Reg.VSP_EVT_HOLD) :
    s.enterSafe.rd a = v &&& regMask a := by
  obtain ⟨w, hw, hrd⟩ := s.enterSafe_eq
  have heng : ∀ d, w.eng d = s.eng d := ((s.setPower_sparesVesper 4 hp).trans hw).eng
  have hidle := w.safeDie_idle 0 (by rw [heng, h0])
  rw [hrd a ha he]
  exact (w.safeDie 0).safeDie_restores 1 a v sl (by rw [hidle.eng, heng, h1]) hsl ha he

/-- A SAFE request in READY or LIT enters SAFE at once (R356). -/
theorem Dev.requestSafe_enters (s : Dev) (k : Nat) (h : (s.wrB Reg.VSP_PWR_STAT (16 + k) true).power = 2 ∨
    (s.wrB Reg.VSP_PWR_STAT (16 + k) true).power = 3) : s.requestSafe k = (s.wrB Reg.VSP_PWR_STAT (16 + k) true).enterSafe := by
  have h4 : ¬ (k = 3 ∧ (s.wrB Reg.VSP_PWR_STAT (16 + k) true).power = 4) := by omega
  rw [Dev.requestSafe]
  simp only [if_neg h4, if_pos h]

/-- Bits outside a field leave it alone. -/
theorem Dev.rdF_wrB_other (s : Dev) (a k : Nat) (x : Bool) (f : Fld) (hk : k < 32) (hf : f.lo + f.len ≤ 32)
    (hm : regMask a &&& f.mask = f.mask) (h : k < f.lo ∨ f.lo + f.len ≤ k) : (s.wrB a k x).rdF a f = s.rdF a f := by
  rw [Dev.wrB, Dev.rdF_wr_same _ _ _ _ hf hm, Dev.rdF]
  apply Nat.eq_of_testBit_eq
  intro i
  rw [fget_testBit, fget_testBit]
  by_cases hi : i < f.len
  · have hbit := bitOf_bitPut (s.rd a) k (f.lo + i) x hk
    rw [if_neg (by omega), bitOf, bitOf] at hbit
    rw [hbit]
  · simp [hi]

theorem Dev.rdB_wrF_other (s : Dev) (a i v : Nat) (f : Fld) (hi : i < 32) (hm : bitOf (regMask a) i = true)
    (h : i < f.lo ∨ f.lo + f.len ≤ i) : (s.wrF a f v).rdB a i = s.rdB a i := by
  have hout : ¬ (f.lo ≤ i ∧ i < f.lo + f.len) := by omega
  rw [Dev.rdB, Dev.wrF, Dev.rd_wr_same, bitOf_and, hm, Bool.and_true, bitOf, fset_bit _ _ _ _ hi, if_neg hout, Dev.rdB, bitOf]

theorem Dev.power_wrB_source (s : Dev) (k : Nat) (x : Bool) (hk : k < 8) : (s.wrB Reg.VSP_PWR_STAT (16 + k) x).power = s.power :=
  s.rdF_wrB_other _ _ _ _ (by omega) (by decide) (by decide) (.inr (Nat.le_add_right_of_le (by decide)))

theorem Dev.sparesVesper.power {s t : Dev} (h : s.sparesVesper t) : t.power = s.power := by
  rw [Dev.power, Dev.rdF, h.rd _ (by decide) (by decide), Dev.power, Dev.rdF]

/-- A SAFE request in READY or LIT leaves SAFE as the power state, where the slices in progress spare the vesper die. -/
theorem Dev.requestSafe_power (s : Dev) (k : Fin 8) (h : s.slicesSpareVesper) (hp : s.power = 2 ∨ s.power = 3) :
    (s.requestSafe k).power = 4 := by
  have hpow := s.power_wrB_source k true k.isLt
  have hrd := Dev.enterSafe_rd (s.wrB Reg.VSP_PWR_STAT (16 + k) true) h (by omega) Reg.VSP_PWR_STAT (by decide) (by decide)
  rw [s.requestSafe_enters k (by omega), Dev.power, Dev.rdF, hrd, ← Dev.rdF]
  exact Dev.rdF_wrF_same _ _ _ _ (by decide) (by decide)

/-- The source of a SAFE request in READY or LIT stands, where the slices in progress spare the vesper die. -/
theorem Dev.requestSafe_source (s : Dev) (k : Fin 8) (h : s.slicesSpareVesper) (hp : s.power = 2 ∨ s.power = 3) :
    (s.requestSafe k).safeSource k = true := by
  have hbit : bitOf (regMask Reg.VSP_PWR_STAT) (16 + k) = true := by clear h hp; revert k; decide
  have hpow := s.power_wrB_source k true k.isLt
  have hrd := Dev.enterSafe_rd (s.wrB Reg.VSP_PWR_STAT (16 + k) true) h (by omega) Reg.VSP_PWR_STAT (by decide) (by decide)
  rw [s.requestSafe_enters k (by omega), Dev.safeSource, Dev.rdB, hrd, ← Dev.rdB,
    Dev.rdB_wrF_other _ _ _ _ _ (by omega) hbit (.inr (Nat.le_add_right_of_le (by decide))), Dev.rdB_wrB _ _ _ _ _ _ (by omega)]
  simp [hbit]

end Sys2Proof.Machine
end

section
/-! SUPPORT. The statements on links and on the thermal manager: SAFE requests where a slice in progress has saved the power state
register, and where none has. -/

namespace Sys2Proof.Machine

/-! ## A slice that has saved the power state register -/

/-- A slice whose saved context is the power state register alone, with the value 0. -/
def pwrStatSlice : Slice := { block := 0x2A00, len := 0, prio := false, retest := false, saved := [(Reg.VSP_PWR_STAT, 0#32)] }

/-- No slice on CD0, and on CD1 the slice that has saved the power state register. -/
structure Dev.savedPwrStat (s : Dev) : Prop where
  cd0 : (s.eng 0).slice = none
  cd1 : (s.eng 1).slice = some pwrStatSlice

theorem Dev.sparesVesper.savedPwrStat {s t : Dev} (h : s.sparesVesper t) (hs : s.savedPwrStat) : t.savedPwrStat :=
  ⟨by rw [h.eng, hs.cd0], by rw [h.eng, hs.cd1]⟩

/-- Broken off by a SAFE request, the slice puts back the power state register: neither SAFE nor a source is read there. -/
theorem Dev.requestSafe_restores (s : Dev) (k : Fin 8) (hp : s.power = 2) (hs : s.savedPwrStat) :
    (s.requestSafe k).rd Reg.VSP_PWR_STAT = 0#32 := by
  have hpow := (s.power_wrB_source k true k.isLt).trans hp
  rw [s.requestSafe_enters k (.inl hpow)]
  exact Dev.enterSafe_restores _ _ 0#32 pwrStatSlice (by omega) hs.cd0 hs.cd1 rfl (by decide) (by decide)

/-! ## Loss of the supervisor link of CD0 -/

theorem exec_supLinkLost (d : Die) (s : State) : exec (.supLinkLost d) s = .next { s with dev := s.dev.supLost d } := rfl

/-- Loss of CD0's supervisor link is a request of source 4 (R17, Table 16-5). -/
theorem Dev.supLost_cd0 (s : Dev) : ∃ w, s.sparesVesper w ∧ s.supLost 0 = w.requestSafe 4 := by
  refine ⟨(s.wrF (Reg.FAB_DIE_STAT 0) F.FAB_DIE_STAT_SUP_UP 0).causeOn (Reg.FAB_DIE_FLT_STAT 0) B.FAB_DIE_SUP_LINK, ?_, ?_⟩
  · exact .trans (s.wrF_sparesVesper _ _ _ (by decide)) (Dev.causeOn_sparesVesper _ _ _ (by decide))
  · rw [Dev.supLost]
    exact if_pos rfl

/-- The clause of O16 on CD0, in READY and LIT, under the invariant that it lacks. -/
theorem supLinkLost_cd0_source (s : State) (hp : s.dev.power = 2 ∨ s.dev.power = 3) (hs : s.dev.slicesSpareVesper) :
    ∃ t, exec (.supLinkLost 0) s = .next t ∧ t.dev.safeSource 4 = true := by
  obtain ⟨w, hw, hlost⟩ := s.dev.supLost_cd0
  refine ⟨_, exec_supLinkLost 0 s, ?_⟩
  exact hlost ▸ w.requestSafe_source 4 (hw.slices hs) (by rwa [hw.power])

/-- Refutes O16: READY, with a slice on CD1 that has saved the power state register, which no slice start does (R302). Loss of CD0's
supervisor link enters SAFE, which breaks the slice off; what is put back holds no SAFE source. -/
theorem not_bridgeAndDieLinksComplete : ¬ Obligations.BridgeAndDieLinksComplete := by
  intro hall
  let v : Dev := { Dev.reset.wr Reg.VSP_PWR_STAT 2#32 with bist := [(1, { BistH.init with slice := some pwrStatSlice })] }
  obtain ⟨-, -, -, -, -, -, -, ⟨t, ht, -, -, hstands⟩, -, -⟩ := hall 0 0 0 ⟨[], 0#32⟩ { State.reset with dev := v }
  rw [exec_supLinkLost] at ht
  injection ht with ht
  obtain ⟨w, hw, hlost⟩ := v.supLost_cd0
  have hzero : t.dev.rd Reg.VSP_PWR_STAT = 0#32 := by
    have hsaved : v.savedPwrStat := ⟨by decide, by decide⟩
    rw [← ht]
    exact hlost ▸ w.requestSafe_restores 4 (hw.power.trans (by decide)) (hw.savedPwrStat hsaved)
  rw [if_pos rfl, Dev.safeSource, Dev.rdB, hzero] at hstands
  exact absurd hstands (by decide)

/-! ## A shutdown by status frames -/

theorem exec_statusFrameRx (h : Hv) (f : StatusFrame) (s : State) :
    exec (.statusFrameRx h f) s = .next { s with dev := s.dev.takeStatusFrame h f } := rfl

theorem forAll_mirror {α : Type} (g : Dev → α → SMap Word) (l : List α) (s : Dev) :
    ∃ m, forAll l s (fun s e => { s with mirror := g s e }) = { s with mirror := m } := by
  induction l generalizing s with
  | nil => exact ⟨s.mirror, rfl⟩
  | cons e l ih => exact ih { s with mirror := g s e }

/-- The second valid status frame in a row at or above 135 °C, with no shutdown present, is a request of source 3 (R287). -/
theorem Dev.takeStatusFrame_second (s : Dev) (h : Nat) (f : StatusFrame) (hv : f.valid = true) (hhot : 2160 ≤ f.hot)
    (hrow : 1 ≤ (s.statOf h).over135) (hcool : s.shutdownPresent = false) :
    ∃ w, s.sparesVesper w ∧ s.takeStatusFrame h f = w.requestSafe 3 := by
  have hrun : 2 ≤ (s.statOf h).over135 + 1 := by omega
  obtain ⟨m, hm⟩ := forAll_mirror (fun s e => s.mirror.put (fun _ => 0#32) e.1 e.2)
    (f.flt.filter (fun e => (hvStats h).contains e.1)) s
  let x : StatH := { hot := some f.hot, over135 := (s.statOf h).over135 + 1, stale := false }
  let u := (({ s with mirror := m } : Dev).setStat h x).causeOff Reg.VSP_LINK_FLT_STAT h
  have hu : s.sparesVesper u := .behind (Dev.wr_sparesVesper (Dev.setStat _ h _) _ _ (by decide)) rfl rfl
  have hcool' : u.shutdownPresent = false := by
    rw [Dev.shutdownPresent, Dev.rdB, Dev.causeOff_rd _ _ _ _ (by decide)]
    exact hcool
  refine ⟨u.causeOn (Reg.THM_FLT_STAT 0) B.THM_SHUTDOWN, hu.trans (u.causeOn_sparesVesper _ _ (by decide)), ?_⟩
  have htake : s.takeStatusFrame h f = u.shutdownOn := by
    rw [Dev.takeStatusFrame, hm]
    simp only [hv, Bool.not_true, Bool.false_eq_true, if_false, if_pos hhot]
    exact if_pos hrun
  rw [htake, Dev.shutdownOn, hcool']
  rfl

/-- The clause of O38 on shutdown by status frames under the invariant that it lacks. -/
theorem statusFrameRx_shutdown_safe (h : Hv) (f : StatusFrame) (s : State) (hv : f.valid = true) (hhot : 2160 ≤ f.hot)
    (hrow : 1 ≤ (s.dev.statOf h).over135) (hcool : s.dev.shutdownPresent = false) (hp : s.dev.power = 2 ∨ s.dev.power = 3)
    (hs : s.dev.slicesSpareVesper) :
    ∃ t, exec (.statusFrameRx h f) s = .next t ∧ t.dev.power = 4 ∧ t.dev.safeSource 3 = true := by
  obtain ⟨w, hw, hreq⟩ := s.dev.takeStatusFrame_second h f hv hhot hrow hcool
  have hpw : w.power = 2 ∨ w.power = 3 := by rwa [hw.power]
  refine ⟨_, exec_statusFrameRx h f s, ?_⟩
  exact hreq ▸ ⟨w.requestSafe_power 3 (hw.slices hs) hpw, w.requestSafe_source 3 (hw.slices hs) hpw⟩

/-- Refutes O38: READY, one hot status frame of HV0 behind it, and a slice on CD1 that has saved the power state register, which no
slice start does (R302). The second hot frame enters SAFE, which breaks the slice off; what is put back reads SLEEP. -/
theorem not_thermalManagementComplete : ¬ Obligations.ThermalManagementComplete := by
  intro hall
  let f : StatusFrame := ⟨true, 2160, []⟩
  let v : Dev := { Dev.reset.wr Reg.VSP_PWR_STAT 2#32 with
    bist := [(1, { BistH.init with slice := some pwrStatSlice })], stat := [(0, { hot := none, over135 := 1, stale := false })] }
  obtain ⟨-, hframe, -⟩ := hall 0 f 0 0 [] [] 0 0 { State.reset with dev := v }
  obtain ⟨t, ht, -, -, -, hshut⟩ := hframe rfl
  rw [exec_statusFrameRx] at ht
  injection ht with ht
  obtain ⟨w, hw, hreq⟩ := v.takeStatusFrame_second 0 f rfl (by decide) (by decide) (by decide)
  have hzero : t.dev.rd Reg.VSP_PWR_STAT = 0#32 := by
    have hsaved : v.savedPwrStat := ⟨by decide, by decide⟩
    rw [← ht]
    exact hreq ▸ w.requestSafe_restores 3 (hw.power.trans (by decide)) (hw.savedPwrStat hsaved)
  obtain ⟨hsafe, -⟩ := (hshut ⟨by decide, by decide⟩).2 ⟨by decide, .inl (by decide)⟩
  rw [Dev.power, Dev.rdF, hzero] at hsafe
  exact absurd hsafe (by decide)

end Sys2Proof.Machine
end

section
/-! SUPPORT. What a command does to the queue and to the memories (R45, R205, R322): the queue stays, memories in canonical form stay in
it, and the flash, the ring memory and host memory change by the commands that may change them. -/

namespace Sys2Proof.Machine

/-- From `s` to `t` the queue stays and memories in canonical form stay in it; the flash, the ring memory and host memory stay but
where `flash`, `rings`, `host` say that they may change. -/
structure State.movesMem (s t : State) (flash rings host : Bool) : Prop where
  pending : t.pending = s.pending
  wf : s.mem.wf = true → t.mem.wf = true
  flash : flash = false → t.mem.flash = s.mem.flash
  rings : rings = false → t.mem.ring = s.mem.ring
  host : host = false → t.mem.host = s.mem.host

/-! ## Rows of stores -/

/-- Stores to the flash: memories in canonical form stay in it, and no other memory changes. -/
structure Mems.movesFlash (m n : Mems) : Prop where
  wf : m.wf = true → n.wf = true
  others : n = { m with flash := n.flash }

theorem Mems.movesFlash.refl (m : Mems) : m.movesFlash m := ⟨id, rfl⟩

theorem Mems.movesFlash.write {m n : Mems} (c : m.movesFlash n) (a : Nat) (bs : List Byte) : m.movesFlash (n.flashWrite a bs) :=
  ⟨fun w => Mems.flashWrite_wf _ _ _ (c.wf w), by rw [c.others]; rfl⟩

theorem Mems.movesFlash.erase {m n : Mems} (c : m.movesFlash n) (a k : Nat) : m.movesFlash (n.flashErase a k) :=
  ⟨fun w => Mems.flashErase_wf _ _ _ (c.wf w), by rw [c.others]; rfl⟩

theorem Mems.movesFlash.writes {α : Type} {m n : Mems} (c : m.movesFlash n) (k : α → Nat) (b : α → List Byte) (l : List α) :
    m.movesFlash (l.foldl (fun m e => m.flashWrite (k e) (b e)) n) := by
  induction l generalizing n with
  | nil => exact c
  | cons e l ih => exact ih (c.write _ _)

theorem Dev.loadRows_others (v : Dev) (m : Mems) (d g base : Nat) (rows : List (List Byte)) :
    v.loadRows m d g base rows = { m with dram := (v.loadRows m d g base rows).dram } := by
  unfold Dev.loadRows
  generalize (List.range 512).zip rows = l
  exact Dev.dieWrites_others v false (fun e => (d, base + 2112 * e.1, taggedRow g e.1 e.2)) l m

section
variable {s t u : State} {f r h : Bool}

/-! ## Rules -/

theorem State.movesMem.kept (hp : t.pending = s.pending) (hm : t.mem = s.mem) : s.movesMem t f r h :=
  ⟨hp, fun w => by rwa [hm], fun _ => by rw [hm], fun _ => by rw [hm], fun _ => by rw [hm]⟩

theorem State.movesMem.trans (a : s.movesMem t f r h) (b : t.movesMem u f r h) : s.movesMem u f r h :=
  ⟨b.pending.trans a.pending, fun w => b.wf (a.wf w), fun e => (b.flash e).trans (a.flash e), fun e => (b.rings e).trans (a.rings e),
    fun e => (b.host e).trans (a.host e)⟩

theorem State.movesMem.ite {c : Prop} [Decidable c] (a : s.movesMem t f r h) (b : s.movesMem u f r h) :
    s.movesMem (if c then t else u) f r h := by
  split <;> assumption

/-- A branch that changes the device alone. -/
theorem State.movesMem.orDev {c : Prop} [Decidable c] {v : Dev} (a : s.movesMem t f r h) :
    s.movesMem (if c then { s with dev := v } else t) f r h :=
  .ite (.kept rfl rfl) a

/-- The device stands for nothing in what the memories hold. -/
theorem State.movesMem.after {v : Dev} (a : ({ s with dev := v } : State).movesMem t f r h) : s.movesMem t f r h :=
  ⟨a.pending, a.wf, a.flash, a.rings, a.host⟩

theorem State.movesMem.part (w : Nv) (v : Dev) : s.movesMem { s with nv := w, dev := v } f r h := .kept rfl rfl

theorem State.movesMem.before {v : Dev} (a : s.movesMem t f r h) : s.movesMem { t with dev := v } f r h :=
  ⟨a.pending, a.wf, a.flash, a.rings, a.host⟩

/-- A store that reaches the DRAM alone. -/
theorem State.movesMem.dram (hp : t.pending = s.pending) (hw : s.mem.wf = true → t.mem.wf = true)
    (ho : t.mem = { s.mem with dram := t.mem.dram }) : s.movesMem t f r h :=
  ⟨hp, hw, fun _ => by rw [ho], fun _ => by rw [ho], fun _ => by rw [ho]⟩

/-- A change of the device, with a change of the DRAM. -/
theorem State.movesMem.dramOf (v : Dev) (m : Mems) (hw : s.mem.wf = true → m.wf = true) (ho : m = { s.mem with dram := m.dram }) :
    s.movesMem { s with dev := v, mem := m } f r h :=
  .dram rfl hw ho

/-- A change of the device, with stores to the flash. -/
theorem State.movesMem.flashOf (v : Dev) {m : Mems} (a : s.mem.movesFlash m) : s.movesMem { s with dev := v, mem := m } true r h :=
  ⟨rfl, a.wf, by simp, fun _ => by rw [a.others], fun _ => by rw [a.others]⟩

/-- A change of the device, with a row of writes of a die to its DRAM. -/
theorem State.movesMem.dieWrites {α : Type} (v x : Dev) (d : Nat) (st : Bool) (k : α → Nat) (b : α → List Byte) (l : List α) :
    s.movesMem { s with dev := v, mem := l.foldl (fun m e => x.dieWrite m d st (k e) (b e)) s.mem } f r h :=
  .dramOf v _ (Dev.dieWrites_wf x st (fun e => (d, k e, b e)) l s.mem) (Dev.dieWrites_others x st (fun e => (d, k e, b e)) l s.mem)

/-- The in-package DRAM and the ring memory lose their contents. -/
theorem State.movesMem.drop (v : Dev) : s.movesMem { s with dev := v, mem := s.mem.drop } f true h :=
  ⟨rfl, Mems.drop_eq_wf _, fun _ => rfl, by simp, fun _ => rfl⟩

/-- The ring memory loses its contents. -/
theorem State.movesMem.dropRing (v : Dev) : s.movesMem { s with dev := v, mem := { s.mem with ring := [] } } f true h :=
  ⟨rfl, Mems.dropRing_wf _, fun _ => rfl, by simp, fun _ => rfl⟩

theorem State.movesMem.foldl {α : Type} {g : State → α → State} (l : List α)
    (hg : ∀ (s : State) (a : α), s.movesMem (g s a) f r h) (s : State) : s.movesMem (l.foldl g s) f r h := by
  induction l generalizing s with
  | nil => exact .kept rfl rfl
  | cons a l ih => exact (hg s a).trans (ih (g s a))

/-- The answer of a command that is known. -/
theorem State.movesMem.answer {o : Host.Outcome State Fault Refusal} (ho : o = .next t) (hu : o = .next u)
    (m : s.movesMem u f r h) : s.movesMem t f r h := by
  rw [hu] at ho
  injection ho with ho
  exact ho ▸ m

/-! ## Images and rebuilds -/

theorem State.imgCmd_movesMem (s : State) (k : Nat) : s.movesMem (s.imgCmd k) f r h :=
  .orDev (.orDev (.orDev (.kept rfl rfl)))

theorem State.eraseHeader_movesMem (s : State) : s.movesMem s.eraseHeader true r h := .flashOf _ (.erase (.refl _) _ _)

theorem State.imgVerified_movesMem (s : State) : s.movesMem s.imgVerified true r h := by
  unfold State.imgVerified
  refine .orDev ?_
  dsimp only
  split
  · exact .kept rfl rfl
  · exact .orDev (.after (State.eraseHeader_movesMem _))

theorem State.ruinCopy_movesMem (s : State) : s.movesMem s.ruinCopy true r h := by
  unfold State.ruinCopy
  exact .flashOf _ (.write (.erase (.refl _) _ _) _ _)

theorem State.leaveCopy_movesMem (s : State) : s.movesMem s.leaveCopy true r h := by
  unfold State.leaveCopy
  exact .flashOf _ (.write (.erase (.refl _) _ _) _ _)

theorem State.breakCopy_movesMem (s : State) : s.movesMem s.breakCopy true r h :=
  .after (.ite (State.ruinCopy_movesMem _) (State.leaveCopy_movesMem _))

theorem State.imgProgrammed_movesMem (s : State) (good : Bool) : s.movesMem (s.imgProgrammed good) true r h := by
  unfold State.imgProgrammed
  exact .orDev (.ite (.flashOf _ (.write (.erase (.refl _) _ _) _ _)) (.before (State.ruinCopy_movesMem s)))

theorem State.imgAbort_movesMem (s : State) : s.movesMem s.imgAbort true r h :=
  .orDev (.before (.ite (State.breakCopy_movesMem s) (.kept rfl rfl)))

theorem State.runImage_movesMem (s : State) (c : Nat) (fallback trial : Bool) (l : List Section) :
    s.movesMem (s.runImage c fallback trial l) f r h := by
  unfold State.runImage
  exact .part _ _

theorem State.tryAll_movesMem (s : State) (pref : Nat) (trial : Bool) (l : List Nat) : s.movesMem (s.tryAll pref trial l) f r h := by
  induction l generalizing s with
  | nil => exact .kept rfl rfl
  | cons c l ih =>
    unfold State.tryAll
    dsimp only
    split
    · exact .after (ih _)
    · exact .after (State.runImage_movesMem _ _ _ _ _)

theorem State.imageLoad_movesMem (s : State) : s.movesMem s.imageLoad f r h := by
  unfold State.imageLoad
  exact .orDev (.trans (.part _ _) (State.tryAll_movesMem _ _ _ _))

theorem State.rbLoad_movesMem (s : State) (d n : Nat) (run : Bool) : s.movesMem (s.rbLoad d n run) f r h :=
  .orDev (.orDev (.orDev (.kept rfl rfl)))

theorem State.rbBuilt_movesMem (s : State) (d : Nat) : s.movesMem (s.rbBuilt d) f r h := by
  unfold State.rbBuilt
  refine .orDev ?_
  dsimp only
  split
  · exact .kept rfl rfl
  · exact .orDev (.orDev (.kept rfl rfl))

/-! ## Bulk data -/

theorem State.staging_movesMem (s : State) (off : Nat) (data : List Byte) : s.movesMem (s.staging off data) f r h :=
  .orDev (.orDev (.dram rfl (Dev.slotWrite_wf _ _ _ _ _ _ _) (Dev.slotWrite_others _ _ _ _ _ _ _)))

theorem State.stageImage_movesMem (s : State) (off : Nat) (data : List Byte) : s.movesMem (s.stageImage off data) f true h := by
  refine .orDev (.ite ?_ (.orDev (.dram rfl (Dev.dieWrite_wf _ _ _ _ _ _) (Dev.dieWrite_others _ _ _ _ _ _))))
  exact ⟨rfl, Mems.ringWrite_wf _ _ _, fun _ => rfl, by simp, fun _ => rfl⟩

theorem State.dramGrant_movesMem (s : State) (d c : Nat) : s.movesMem (s.dramGrant d c) f r h := by
  refine .orDev ?_
  split
  · exact .kept rfl rfl
  · refine .dram rfl (fun w => ?_) ?_
    · dsimp only
      split
      · exact Mems.dramWrite_wf _ _ _ _ w
      · exact w
    · dsimp only
      split <;> rfl

theorem State.vidPayload_movesMem (s : State) (d i : Nat) (p : VidPkt) : s.movesMem (s.vidPayload d i p) f r h := by
  refine .orDev (.orDev (.orDev (.orDev (.dram rfl ?_ ?_))))
  · exact Dev.dieWrites_wf s.dev false (fun e => (e, _, p.texels)) _ s.mem
  · exact Dev.dieWrites_others s.dev false (fun e => (e, _, p.texels)) _ s.mem

theorem State.vidRx_movesMem (s : State) (d i : Nat) (p : VidPkt) : s.movesMem (s.vidRx d i p) f r h :=
  .orDev (.orDev (.after (State.vidPayload_movesMem _ d i p)))

theorem State.objRx_movesMem (s : State) (d i : Nat) (p : ObjPkt) : s.movesMem (s.objRx d i p) f r h := by
  refine .orDev (.orDev (.orDev (.orDev (.orDev ?_))))
  exact .dram rfl (Dev.slotWrite_wf _ _ _ _ _ _ _) (Dev.slotWrite_others _ _ _ _ _ _ _)

/-! ## Calibration -/

theorem State.flashList_mem (s : State) (d : Nat) (l : List (Nat × Nat)) : (s.flashList d l).mem = s.mem := by
  induction l generalizing s with
  | nil => rfl
  | cons e l ih => exact ih (s.flashTo d e.1 e.2)

theorem State.flashList_pending (s : State) (d : Nat) (l : List (Nat × Nat)) : (s.flashList d l).pending = s.pending := by
  induction l generalizing s with
  | nil => rfl
  | cons e l ih => exact ih (s.flashTo d e.1 e.2)

theorem State.flashList_movesMem (s : State) (d : Nat) (l : List (Nat × Nat)) : s.movesMem (s.flashList d l) f r h :=
  .kept (s.flashList_pending d l) (s.flashList_mem d l)

theorem State.photo_movesMem (s : State) (d t : Nat) (p : PhotoPkt) : s.movesMem (s.photo d t p) f r h := by
  unfold State.photo
  exact .orDev (.trans (.dieWrites _ _ _ _ _ _ _) (State.flashList_movesMem _ _ _))

theorem State.photoRx_movesMem (s : State) (d t : Nat) (p : PhotoPkt) : s.movesMem (s.photoRx d t p) f r h :=
  .orDev (.orDev (State.photo_movesMem s d t p))

theorem State.packetBody_movesMem (s : State) (d : Die) (n : LaneIx) (b : List Byte) : s.movesMem (s.packetBody d n b) f r h := by
  unfold State.packetBody
  split
  · exact .orDev (State.photo_movesMem _ _ _ _)
  · exact .ite (State.vidRx_movesMem _ _ _ _) (State.objRx_movesMem _ _ _ _)

theorem State.packetRx_movesMem (s : State) (d : Die) (n : LaneIx) (rx : RxSyms) : s.movesMem (s.packetRx d n rx) f r h := by
  unfold State.packetRx
  dsimp only
  refine .orDev ?_
  split
  · exact .ite (.after (State.packetBody_movesMem _ _ _ _)) (.kept rfl rfl)
  · exact .kept rfl rfl

theorem State.coefTile_movesMem (s : State) (d t : Nat) : s.movesMem (s.coefTile d t) f r h := by
  unfold State.coefTile
  dsimp only
  refine .orDev ?_
  split
  · refine .trans (.kept ?_ ?_) (.dramOf _ _ (Dev.loadRows_wf _ _ _ _ _ _) (Dev.loadRows_others _ _ _ _ _ _))
    · exact State.flashList_pending _ _ _
    · exact State.flashList_mem _ _ _
  · refine .trans (.kept ?_ ?_) (.part _ _)
    · exact State.flashList_pending _ _ _
    · exact State.flashList_mem _ _ _

theorem State.coefDie_movesMem (s : State) (d : Nat) : s.movesMem (s.coefDie d) f r h :=
  .ite (.before (.foldl _ (fun s t => s.coefTile_movesMem d t) s)) (.kept rfl rfl)

theorem State.calRestoreCmd_movesMem (s : State) (d : Nat) (tiles : BitVec 8) (row : Nat) :
    s.movesMem (s.calRestoreCmd d tiles row) f r h := by
  unfold State.calRestoreCmd
  -- The kernel would evaluate the check of the row where it compares the two cases that the split leaves.
  obtain ⟨rowOf, hr⟩ : ∃ f, f = setRow := ⟨_, rfl⟩
  rw [← hr]
  dsimp only
  split
  · refine .orDev (.orDev ?_)
    split
    · exact .kept rfl rfl
    · split
      · exact .trans (State.flashList_movesMem s d _) (.part _ _)
      · exact .trans (State.flashList_movesMem s d _) (.dramOf _ _ (Dev.dieWrite_wf _ _ _ _ _ _) (Dev.dieWrite_others _ _ _ _ _ _))
  · exact .kept rfl rfl

theorem State.refProgCmd_movesMem (s : State) (d : Nat) (tiles : BitVec 8) : s.movesMem (s.refProgCmd d tiles) true r h := by
  refine .orDev ?_
  split
  · refine .orDev (.orDev ?_)
    split
    · exact .kept rfl rfl
    · exact .flashOf _ (.write (.refl _) _ _)
  · exact .kept rfl rfl

theorem State.refEraseCmd_movesMem (s : State) (d : Nat) (tiles : BitVec 8) : s.movesMem (s.refEraseCmd d tiles) true r h := by
  refine .orDev ?_
  split
  · exact .orDev (.flashOf _ (.erase (.refl _) _ _))
  · exact .kept rfl rfl

theorem State.calEval_movesMem (s : State) (d t : Nat) : s.movesMem (s.calEval d t) f r h := by
  unfold State.calEval
  exact .orDev (.orDev (.orDev (.dieWrites _ _ _ _ _ _ _)))

theorem State.storeStart_movesMem (s : State) (d t : Nat) : s.movesMem (s.storeStart d t) true r h :=
  .orDev (.flashOf _ (.erase (.refl _) _ _))

theorem State.storeDone_movesMem (s : State) (d t : Nat) (good : Bool) : s.movesMem (s.storeDone d t good) true r h := by
  unfold State.storeDone
  dsimp only
  split
  · exact .kept rfl rfl
  · exact .ite (.flashOf _ (.write (.write (.write (.writes (.refl _) _ _ _) _ _) _ _) _ _)) (.kept rfl rfl)

/-! ## Descriptors and resets -/

theorem Dev.descMove_wf (v : Dev) (m : Mems) (x : Desc) (hx : Option (List Byte)) (w : m.wf = true) : (v.descMove m x hx).wf = true := by
  unfold Dev.descMove
  split
  · exact Mems.hostPut_wf _ _ _ w
  · exact Dev.dieWrite_wf _ _ _ _ _ _ w

theorem Dev.descMove_flash (v : Dev) (m : Mems) (x : Desc) (hx : Option (List Byte)) : (v.descMove m x hx).flash = m.flash := by
  unfold Dev.descMove
  split
  · rfl
  · rw [Dev.dieWrite_others]

theorem State.dmaDone_movesMem (s : State) (q : Nat) (hx : Option (List Byte)) : s.movesMem (s.dmaDone q hx) f true true := by
  refine .orDev ⟨rfl, fun w => Mems.ringWrite_wf _ _ _ ?_, fun _ => ?_, by simp, by simp⟩
  · split
    · exact Dev.descMove_wf _ _ _ _ w
    · exact w
  · dsimp only [Mems.ringWrite]
    split
    · exact Dev.descMove_flash _ _ _ _
    · rfl

theorem State.functionReset_movesMem (s : State) : s.movesMem s.functionReset f true h := by
  unfold State.functionReset
  exact .dropRing _

theorem State.pcieReset_movesMem (s : State) (k : PcieReset) : s.movesMem (s.pcieReset k) f true h :=
  .orDev (.before s.functionReset_movesMem)

theorem State.removeRails_movesMem (s : State) : s.movesMem s.removeRails true true h := by
  unfold State.removeRails
  exact s.imgAbort_movesMem.trans (.drop _)

theorem State.coldStart_movesMem (s : State) (k : Nat) : s.movesMem (s.coldStart k) f true h := .drop _

theorem State.powerUp_movesMem (s : State) : s.movesMem s.powerUp f true h := .ite (s.coldStart_movesMem 4) (.kept rfl rfl)

theorem State.setWake_movesMem (s : State) (w : WakeSrc) (on : Bool) : s.movesMem (s.setWake w on) f true h := by
  unfold State.setWake
  dsimp only
  refine .ite ?_ (.kept rfl rfl)
  split
  · exact .drop _
  · exact .kept rfl rfl

theorem State.timerWake_movesMem (s : State) : s.movesMem s.timerWake f true h := .ite (s.coldStart_movesMem 3) (.kept rfl rfl)

theorem State.sleepEntry_movesMem (s : State) : s.movesMem s.sleepEntry true r h :=
  .orDev (.ite (.after (State.imgAbort_movesMem _)) (.kept rfl rfl))

theorem State.sleepOff_movesMem (s : State) : s.movesMem s.sleepOff true true h := .ite s.removeRails_movesMem (.kept rfl rfl)

theorem State.railRetry_movesMem (s : State) : s.movesMem s.railRetry true true h := by
  refine .orDev (.ite (.before ?_) ?_) <;> exact .after (State.removeRails_movesMem _)

theorem State.warm_movesMem (s : State) : s.movesMem s.warm true true h := by
  unfold State.warm
  exact (s.imgAbort_movesMem.trans (State.functionReset_movesMem _)).trans (.drop _)

theorem State.warmReset_movesMem (s : State) (held : Bool) : s.movesMem (s.warmReset held) true true h :=
  .orDev (.ite (.before s.warm_movesMem) (.before s.warm_movesMem))

theorem State.warmCmd_movesMem (s : State) : s.movesMem s.warmCmd true true h :=
  .ite (.kept rfl rfl) (.after (.ite (.kept rfl rfl) (State.warmReset_movesMem _ false)))

theorem State.vbatLow_movesMem (s : State) : s.movesMem s.vbatLow true true h :=
  .ite (.kept rfl rfl) (.after (.ite (.kept rfl rfl) (State.removeRails_movesMem _)))

theorem State.vbatGone_movesMem (s : State) : s.movesMem s.vbatGone true true h :=
  .orDev (.trans (.ite s.breakCopy_movesMem (.kept rfl rfl)) (.drop _))

theorem State.vbatBack_movesMem (s : State) (lost : Bool) : s.movesMem (s.vbatBack lost) f true h := by
  refine s.powerUp_movesMem.trans (.ite (.ite (State.coldStart_movesMem _ 5) (.kept rfl rfl)) (.ite ?_ (.kept rfl rfl)))
  split
  · exact State.coldStart_movesMem _ _
  · exact .kept rfl rfl

/-! ## The security unit -/

theorem State.secAdvance_movesMem (s : State) : s.movesMem s.secAdvance f r h := by
  refine .orDev (.orDev ?_)
  split
  · exact .kept rfl rfl
  · exact .orDev (.kept rfl rfl)

theorem State.secProvision_movesMem (s : State) : s.movesMem s.secProvision f r h := by
  refine .orDev (.orDev ?_)
  dsimp only
  split <;> exact .kept rfl rfl

theorem State.secUnlock_movesMem (s : State) : s.movesMem s.secUnlock f r h :=
  .ite (.kept rfl rfl) (.ite (.kept rfl rfl) (.kept rfl rfl))

theorem State.secProgslot_movesMem (s : State) (k : Nat) : s.movesMem (s.secProgslot k) f r h :=
  .orDev (.orDev (.orDev (.orDev (.kept rfl rfl))))

theorem State.secRevoke_movesMem (s : State) (k : Nat) : s.movesMem (s.secRevoke k) f r h := by
  refine .orDev (.orDev (.orDev ?_))
  split
  · exact .kept rfl rfl
  · exact .ite (.kept rfl rfl) (.kept rfl rfl)

theorem State.detect_movesMem (s : State) (k : Nat) : s.movesMem (s.detect k) f r h := .orDev (.kept rfl rfl)

theorem State.debugTry_movesMem (s : State) (good : Bool) : s.movesMem (s.debugTry good) f r h :=
  .orDev (.before (s.detect_movesMem 4))

/-! ## Register and SPI writes -/

theorem State.pwrCmd_movesMem (s : State) (v : Word) : s.movesMem (s.pwrCmd v) true true h := by
  unfold State.pwrCmd
  split
  case h_5 => exact s.warmCmd_movesMem
  all_goals exact .kept rfl rfl

theorem State.secCmd_movesMem (s : State) (v : Word) : s.movesMem (s.secCmd v) f r h := by
  unfold State.secCmd
  split
  · exact s.secAdvance_movesMem
  · exact s.secProvision_movesMem
  · exact s.secUnlock_movesMem
  · exact s.secProgslot_movesMem _
  · exact s.secRevoke_movesMem _
  · exact .kept rfl rfl

theorem State.rbCtrl_movesMem (s : State) (d : Nat) (v : Word) : s.movesMem (s.rbCtrl d v) f r h :=
  .ite (s.rbLoad_movesMem d _ _) (.kept rfl rfl)

theorem State.calCmd_movesMem (s : State) (d : Nat) (v : Word) : s.movesMem (s.calCmd d v) true r h := by
  unfold State.calCmd
  dsimp only
  split
  case h_4 => exact s.calRestoreCmd_movesMem d _ _
  case h_5 => exact s.refProgCmd_movesMem d _
  case h_6 => exact s.refEraseCmd_movesMem d _
  all_goals exact .kept rfl rfl

/-- Two registers of a compositor die stand for more than a change of the device: FAB_RB_CTRL and CAL_CMD. -/
theorem State.writeCd_movesMem (s : State) (d o : Nat) (v : Word) : s.movesMem (s.writeCd d o v) true r h := by
  unfold State.writeCd
  refine .orDev <| .orDev <| .orDev <| .orDev <| .orDev <| .orDev <| .ite (s.rbCtrl_movesMem d v) ?_
  refine .orDev <| .orDev <| .orDev <| .orDev <| .ite (.orDev (.kept rfl rfl)) <| .ite (s.calCmd_movesMem d v) ?_
  exact .orDev <| .orDev <| .orDev <| .orDev <| .orDev <| .orDev <| .orDev <| .orDev <| .kept rfl rfl

theorem State.writeVsp_movesMem (s : State) (a : Nat) (v : Word) : s.movesMem (s.writeVsp a v) true true h :=
  .ite (s.pwrCmd_movesMem v) (.orDev (.orDev (.ite (s.imgCmd_movesMem _)
    (.ite (s.secCmd_movesMem v) (.kept rfl rfl)))))

theorem State.writeReg_movesMem (s : State) (a : Nat) (v : Word) : s.movesMem (s.writeReg a v) true true h := by
  refine .orDev (.orDev ?_)
  dsimp only
  split
  · exact .kept rfl rfl
  · exact .after (.ite (.kept rfl rfl) (.ite (State.writeCd_movesMem _ _ _ v) (.ite (.kept rfl rfl) (State.writeVsp_movesMem _ a v))))

theorem execRegisterWrite_movesMem (s t : State) (a : Nat) (v : Word) (ht : execRegisterWrite a v s = .next t) :
    s.movesMem t true true h := by
  unfold execRegisterWrite at ht
  split at ht
  · cases ht
  · split at ht
    · exact .answer ht rfl (.kept rfl rfl)
    · split at ht
      · exact .answer ht rfl (.kept rfl rfl)
      · exact .answer ht rfl (.after (State.writeReg_movesMem _ a v))

theorem State.spiWriteCmd_movesMem (s : State) (seq waddr : Nat) (data : Word) : s.movesMem (s.spiWriteCmd seq waddr data) true true h := by
  unfold State.spiWriteCmd
  exact .orDev (.orDev (.after (.before (State.writeReg_movesMem _ _ data))))

theorem State.spiBad_movesMem (s : State) (edges : Nat) (bytes : List Byte) : s.movesMem (s.spiBad edges bytes) true true h := by
  refine .orDev (.orDev ?_)
  split
  case h_3 => exact s.spiWriteCmd_movesMem _ _ _
  all_goals exact .kept rfl rfl

end

/-! ## The commands -/

/-- A command that acts on the device alone answers a change of the device. -/
theorem exec_of_deviceOnly (c : Instr) (s : State) (h : c.deviceOnly = true) : ∃ v : Dev, exec c s = .next { s with dev := v } := by
  cases c with
  | imageLoadDone | verify | program | select | confirm | imgVerifyDone | imgProgramDone => cases h
  | rebuildLoad | rebuildBuilt | stagingWrite | coefLoad | calRestore | refProg | refErase => cases h
  | photoRx | badPacketRx | calEvalDone | calStoreStart | calStoreDone | dramGrant | vidRx | objRx => cases h
  | imageStagingWrite | dmaDescDone | pcieFunctionReset | registerWrite | spiWrite | spiBadFrame => cases h
  | pwrWarm | warmReset | wake | wakeTimer | wakeSourceChange | sleepEntry | sleepRailsOff => cases h
  | railGroupEnable | railRetry | vbatLow | vbatLost | vbatReturn => cases h
  | advance | provision | unlock | progslot | revoke | tamperDetect | debugUnlockAttempt => cases h
  | _ => exact ⟨_, rfl⟩

/-- The commands that may change host memory: a descriptor's completion. -/
def Instr.movesHost : Instr → Bool
  | .dmaDescDone _ _ => true
  | _ => false

/-- What a command may do to the queue and to the memories. -/
theorem exec_movesMem (c : Instr) (s t : State) (ht : exec c s = .next t) :
    s.movesMem t c.mayChangeFlash c.mayChangeRings (Instr.movesHost c) := by
  by_cases hd : c.deviceOnly = true
  · obtain ⟨v, hv⟩ := exec_of_deviceOnly c s hd
    exact .answer ht hv (.kept rfl rfl)
  cases c with
  | imageLoadDone => exact .answer ht rfl s.imageLoad_movesMem
  | verify | program | select | confirm => exact .answer ht rfl (s.imgCmd_movesMem _)
  | imgVerifyDone => exact .answer ht rfl s.imgVerified_movesMem
  | imgProgramDone good => exact .answer ht rfl (s.imgProgrammed_movesMem good)
  | rebuildLoad d n run => exact .answer ht rfl (s.rbLoad_movesMem d n run)
  | rebuildBuilt d => exact .answer ht rfl (s.rbBuilt_movesMem d)
  | stagingWrite off data => exact .answer ht rfl (s.staging_movesMem off data)
  | coefLoad d => exact .answer ht rfl (s.coefDie_movesMem d)
  | calRestore d tiles row => exact .answer ht rfl (s.calRestoreCmd_movesMem d tiles row.toNat)
  | refProg d tiles => exact .answer ht rfl (s.refProgCmd_movesMem d tiles)
  | refErase d tiles => exact .answer ht rfl (s.refEraseCmd_movesMem d tiles)
  | photoRx d t p => exact .answer ht rfl (s.photoRx_movesMem d t p)
  | badPacketRx d n rx => exact .answer ht rfl (s.packetRx_movesMem d n rx)
  | calEvalDone d t => exact .answer ht rfl (s.calEval_movesMem d t)
  | calStoreStart d t => exact .answer ht rfl (s.storeStart_movesMem d t)
  | calStoreDone d t good => exact .answer ht rfl (s.storeDone_movesMem d t good)
  | dramGrant d c => exact .answer ht rfl (s.dramGrant_movesMem d c)
  | vidRx d i p => exact .answer ht rfl (s.vidRx_movesMem d i p)
  | objRx d i p => exact .answer ht rfl (s.objRx_movesMem d i p)
  | imageStagingWrite off data => exact .answer ht rfl (s.stageImage_movesMem off data)
  | dmaDescDone q hx => exact .answer ht rfl (s.dmaDone_movesMem q hx)
  | pcieFunctionReset k => exact .answer ht rfl (s.pcieReset_movesMem k)
  | registerWrite a v => exact execRegisterWrite_movesMem s t a v ht
  | spiWrite seq a v => exact .answer ht rfl (.ite (s.spiWriteCmd_movesMem _ _ v) (.kept rfl rfl))
  | spiBadFrame n bytes => exact .answer ht rfl (.ite (s.spiBad_movesMem n bytes) (.kept rfl rfl))
  | pwrWarm => exact .answer ht rfl s.warmCmd_movesMem
  | warmReset => exact .answer ht rfl (s.warmReset_movesMem true)
  | wake w =>
    cases w with
    | timer => exact .answer ht rfl s.timerWake_movesMem
    | wakePin | ign | keep => exact .answer ht rfl (s.setWake_movesMem _ true)
  | wakeTimer => exact .answer ht rfl s.timerWake_movesMem
  | wakeSourceChange w on => exact .answer ht rfl (s.setWake_movesMem w on)
  | sleepEntry => exact .answer ht rfl s.sleepEntry_movesMem
  | sleepRailsOff => exact .answer ht rfl s.sleepOff_movesMem
  | railGroupEnable => exact .answer ht rfl (.before s.powerUp_movesMem)
  | railRetry => exact .answer ht rfl s.railRetry_movesMem
  | vbatLow => exact .answer ht rfl s.vbatLow_movesMem
  | vbatLost => exact .answer ht rfl s.vbatGone_movesMem
  | vbatReturn lost => exact .answer ht rfl (s.vbatBack_movesMem lost)
  | advance => exact .answer ht rfl s.secAdvance_movesMem
  | provision => exact .answer ht rfl s.secProvision_movesMem
  | unlock => exact .answer ht rfl s.secUnlock_movesMem
  | progslot k => exact .answer ht rfl (s.secProgslot_movesMem k)
  | revoke k => exact .answer ht rfl (s.secRevoke_movesMem k)
  | tamperDetect det => exact .answer ht rfl (s.detect_movesMem _)
  | debugUnlockAttempt good => exact .answer ht rfl (s.debugTry_movesMem good)
  | _ => exact absurd rfl hd

/-- Settles O6: a command keeps the form by what it may do to the memories, and the idle step reaches no memory. -/
theorem memoriesKeepTheirForm : Obligations.MemoriesKeepTheirForm := by
  intro s t w ht
  cases hp : s.pending with
  | nil =>
    rw [step_of_empty s hp] at ht
    exact (State.movesMem.answer (f := false) (r := false) (h := false) ht rfl (.kept rfl rfl)).wf w
  | cons c rest =>
    rw [step, hp] at ht
    exact (exec_movesMem c _ t ht).wf w

/-- Settles O5: such a command answers a change of the device. -/
theorem deviceCommandsKeepFusesAndMemories : Obligations.DeviceCommandsKeepFusesAndMemories := by
  intro c s t hc ht
  obtain ⟨v, hv⟩ := exec_of_deviceOnly c s hc
  obtain rfl : { s with dev := v } = t := Host.Outcome.next.inj (hv.symm.trans ht)
  exact ⟨rfl, rfl⟩

/-- Settles O11, from what a command may do to the queue and to the memories. -/
theorem flashHostRingsAndQueueChangeByTheirCommandsOnly : Obligations.FlashHostRingsAndQueueChangeByTheirCommandsOnly := by
  intro c s t ht
  obtain ⟨hp, -, hf, hr, hh⟩ := exec_movesMem c s t ht
  refine ⟨hf, hr, fun hc => hh ?_, hp⟩
  cases c with
  | dmaDescDone r x => exact absurd rfl (hc r x)
  | _ => rfl

/-- Settles O7: after reset no byte of a memory and no register is listed. -/
theorem resetMemoriesHaveTheirForm : Obligations.ResetMemoriesHaveTheirForm := ⟨rfl, rfl⟩

end Sys2Proof.Machine
end

section
/-! SUPPORT. Rebuilds (R57 to R60): what the commands of FAB_RB_CTRL read and write. -/

namespace Sys2Proof.Machine

/-! ## Folds over the dies -/

/-- What every step of a fold keeps, the fold keeps. -/
theorem forAll_keeps {α β : Type} (g : Dev → β) {f : Dev → α → Dev} (h : ∀ s a, g (f s a) = g s) (l : List α) (s : Dev) :
    g (forAll l s f) = g s := by
  induction l generalizing s with
  | nil => rfl
  | cons a l ih => exact (ih (f s a)).trans (h s a)

/-- What the step of an element establishes, and every later step keeps, holds after the fold. -/
theorem forAll_establishes {α : Type} {P : Dev → Prop} {f : Dev → α → Dev} {a : α} (here : ∀ s, P (f s a))
    (keeps : ∀ s b, P s → P (f s b)) {l : List α} (ha : a ∈ l) (s : Dev) : P (forAll l s f) := by
  have later : ∀ (l : List α) (s : Dev), P s → P (forAll l s f) := by
    intro l
    induction l with
    | nil => exact fun _ hs => hs
    | cons b l ih => exact fun s hs => ih _ (keeps s b hs)
  induction l generalizing s with
  | nil => cases ha
  | cons b l ih =>
    rcases List.mem_cons.mp ha with rfl | ha
    · exact later l _ (here s)
    · exact ih ha (f s b)

/-! ## The registers of a rebuild -/

/-- From `s` to `t` no register but FAB_RB_CTRL and FAB_RB_STAT changes. -/
def Dev.movesRb (s t : Dev) : Prop := ∀ a, (∀ d, a ≠ Reg.FAB_RB_CTRL d ∧ a ≠ Reg.FAB_RB_STAT d) → t.rd a = s.rd a

section
variable {s t u : Dev}

theorem Dev.movesRb.refl (s : Dev) : s.movesRb s := fun _ _ => rfl

theorem Dev.movesRb.trans (h : s.movesRb t) (k : t.movesRb u) : s.movesRb u := fun a ha => (k a ha).trans (h a ha)

theorem Dev.movesRb.ctrl (s : Dev) (d : Nat) (f : Fld) (v : Nat) : s.movesRb (s.wrF (Reg.FAB_RB_CTRL d) f v) :=
  fun _ ha => Dev.rd_wrF_other _ _ _ _ _ (ha d).1

theorem Dev.movesRb.stat (s : Dev) (d : Nat) (f : Fld) (v : Nat) : s.movesRb (s.wrF (Reg.FAB_RB_STAT d) f v) :=
  fun _ ha => Dev.rd_wrF_other _ _ _ _ _ (ha d).2

theorem Dev.movesRb.setRb (s : Dev) (d : Nat) (x : RbH) : s.movesRb (s.setRb d x) := fun _ _ => rfl

theorem Dev.movesRb.forAll {α : Type} {f : Dev → α → Dev} (h : ∀ (s : Dev) (a : α), s.movesRb (f s a)) (l : List α)
    (s : Dev) : s.movesRb (forAll l s f) :=
  fun a ha => forAll_keeps (fun s => s.rd a) (fun s b => h s b a ha) l s

theorem Dev.movesRb.tact (h : s.movesRb t) (d n : Nat) (hn : n < 4) : t.rd (Reg.HEAD_TACT d n) = s.rd (Reg.HEAD_TACT d n) :=
  h _ fun e => by simp only [Reg.HEAD_TACT, Reg.FAB_RB_CTRL, Reg.FAB_RB_STAT, Reg.cd]; omega

theorem Dev.movesRb.isMaster (h : s.movesRb t) (d n : Nat) (hn : n < 4) : t.isMaster d n = s.isMaster d n := by
  simp only [Dev.isMaster, Dev.usedOn, Dev.rdF, h.tact d n hn]

theorem Dev.movesRb.diesOf (h : s.movesRb t) (n : Nat) (hn : n < 4) : t.diesOf n = s.diesOf n := by
  simp only [Dev.diesOf, Dev.usedOn, Dev.rdF, h.tact _ n hn]

end

theorem Dev.mem_diesOf (s : Dev) (d n : Nat) : d ∈ s.diesOf n ↔ d < 2 ∧ s.usedOn d n = true := by
  simp [Dev.diesOf]

/-! ## STATE and ERR -/

theorem regMask_rbStat (e : Die) : regMask (Reg.FAB_RB_STAT e) = 0x31FF#32 := by
  match e with
  | 0 => decide
  | 1 => decide

theorem Dev.rbState_setState (s : Dev) (e : Die) (st : Nat) (h : st < 8) :
    (s.wrF (Reg.FAB_RB_STAT e) F.FAB_RB_STAT_STATE st).rbState e = st := by
  rw [Dev.rbState, Dev.rdF_wrF_same _ _ _ _ (by decide) (by rw [regMask_rbStat]; decide)]
  exact Nat.mod_eq_of_lt h

theorem Reg.FAB_RB_STAT_ne {d e : Nat} (h : d ≠ e) : Reg.FAB_RB_STAT d ≠ Reg.FAB_RB_STAT e := by
  simp only [Reg.FAB_RB_STAT, Reg.cd]; omega

theorem Dev.rbState_other (s : Dev) (d e : Nat) (f : Fld) (v : Nat) (h : d ≠ e) :
    (s.wrF (Reg.FAB_RB_STAT d) f v).rbState e = s.rbState e :=
  Dev.rdF_wrF_other _ _ _ _ _ _ (Reg.FAB_RB_STAT_ne h.symm)

/-- A field of FAB_RB_STAT above STATE leaves STATE as it is. -/
theorem Dev.rbState_field (s : Dev) (d : Nat) (e : Die) (f : Fld) (v : Nat) (h : 3 ≤ f.lo) :
    (s.wrF (Reg.FAB_RB_STAT d) f v).rbState e = s.rbState e := by
  by_cases hd : d = e
  · subst hd
    exact Dev.rdF_wrF_field _ _ _ _ _ (by decide) (by rw [regMask_rbStat]; decide) (.inr h)
  · exact s.rbState_other d e f v hd

theorem Dev.rbState_ctrl (s : Dev) (d e : Nat) (f : Fld) (v : Nat) : (s.wrF (Reg.FAB_RB_CTRL d) f v).rbState e = s.rbState e :=
  Dev.rdF_wrF_other _ _ _ _ _ _ (by simp only [Reg.FAB_RB_STAT, Reg.FAB_RB_CTRL, Reg.cd]; omega)

theorem Dev.rbRefuse_err (s : Dev) (d : Die) (err : Nat) (h : err < 16) :
    (s.rbRefuse d err).rdF (Reg.FAB_RB_STAT d) F.FAB_RB_STAT_ERR = err := by
  rw [Dev.rbRefuse, Dev.rdF_wrF_same _ _ _ _ (by decide) (by rw [regMask_rbStat]; decide)]
  exact Nat.mod_eq_of_lt h

theorem Dev.rbRefuse_rbState (s : Dev) (d : Nat) (e : Die) (err : Nat) : (s.rbRefuse d err).rbState e = s.rbState e :=
  s.rbState_field d e _ err (by decide)

theorem Dev.setRbState_rb (s : Dev) (n st e : Nat) : (s.setRbState n st).rb e = s.rb e :=
  forAll_keeps (fun s => s.rb e) (f := fun s d => s.wrF (Reg.FAB_RB_STAT d) F.FAB_RB_STAT_STATE st) (fun _ _ => rfl) (s.diesOf n) s

theorem Dev.setRbState_rbState (s : Dev) (n st : Nat) (e : Die) (hst : st < 8) (he : s.usedOn e n = true) :
    (s.setRbState n st).rbState e = st := by
  refine forAll_establishes (P := fun s => s.rbState e = st) (f := fun s d => s.wrF (Reg.FAB_RB_STAT d) F.FAB_RB_STAT_STATE st)
    (fun s => s.rbState_setState e st hst) (fun s b hs => ?_) ((s.mem_diesOf e n).mpr ⟨e.isLt, he⟩) s
  by_cases hb : b = e
  · subst hb
    exact s.rbState_setState e st hst
  · exact (s.rbState_other b e _ st hb).trans hs

theorem Dev.rbForget_movesRb (s : Dev) (n : Nat) : s.movesRb (s.rbForget n) :=
  .forAll (fun _ _ => .trans (.setRb _ _ _) (.stat _ _ _ _)) _ s

/-! ## LOAD -/

/-- HEAD and SRC of FAB_RB_CTRL as a LOAD writes them. -/
def Dev.rbAsk (s : Dev) (d n : Nat) (run : Bool) : Dev :=
  (s.wrF (Reg.FAB_RB_CTRL d) F.FAB_RB_CTRL_HEAD n).wrF (Reg.FAB_RB_CTRL d) F.FAB_RB_CTRL_SRC (b2n run)

/-- A die takes up a rebuild of head `n`. -/
def Dev.rbTakeUp (n : Nat) (run : Bool) (s : Dev) (e : Nat) : Dev :=
  (((s.setRb e { head := n, fromRunning := run, build := none, revert := false }).wrF (Reg.FAB_RB_STAT e) F.FAB_RB_STAT_ERR 0).wrF
    (Reg.FAB_RB_STAT e) F.FAB_RB_STAT_REVERTIBLE 0).wrF (Reg.FAB_RB_STAT e) F.FAB_RB_STAT_LAST_HEAD n

/-- The dies of head `n` drop the previous build of what they held. -/
def Dev.rbDropOld (s : Dev) (n : Nat) : Dev := forAll (s.diesOf n) s (fun s e => s.rbForget (s.rb e).head)

/-- A LOAD is accepted: every die of the head takes it up, and goes to LOADING. -/
def Dev.rbAccept (s : Dev) (n : Nat) (run : Bool) : Dev :=
  (forAll ((s.rbDropOld n).diesOf n) (s.rbDropOld n) (Dev.rbTakeUp n run)).setRbState n 1

theorem Dev.rbAsk_movesRb (s : Dev) (d n : Nat) (run : Bool) : s.movesRb (s.rbAsk d n run) :=
  .trans (.ctrl _ _ _ _) (.ctrl _ _ _ _)

theorem Dev.rbAsk_rbState (s : Dev) (d n : Nat) (run : Bool) (e : Nat) : (s.rbAsk d n run).rbState e = s.rbState e :=
  (Dev.rbState_ctrl _ _ _ _ _).trans (Dev.rbState_ctrl _ _ _ _ _)

theorem Dev.rbAsk_rbBusy (s : Dev) (d n : Nat) (run : Bool) : (s.rbAsk d n run).rbBusy = s.rbBusy := by
  funext e
  simp only [Dev.rbBusy, Dev.rbAsk_rbState]

theorem Dev.rbTakeUp_movesRb (s : Dev) (n : Nat) (run : Bool) (e : Nat) : s.movesRb (s.rbTakeUp n run e) :=
  .trans (.setRb _ _ _) (.trans (.stat _ _ _ _) (.trans (.stat _ _ _ _) (.stat _ _ _ _)))

theorem Dev.rbTakeUp_rb (s : Dev) (n : Nat) (run : Bool) (e b : Nat) :
    (s.rbTakeUp n run b).rb e = if e = b then { head := n, fromRunning := run, build := none, revert := false } else s.rb e := by
  split
  · next h => exact h ▸ s.setRb_rb_same _ _
  · next h => exact s.setRb_rb_other _ _ _ h

/-- An accepted LOAD occupies the dies that are in use in the head. -/
theorem Dev.rbAccept_occupies (s : Dev) (n : Nat) (run : Bool) (hn : n < 4) (e : Die) (he : s.usedOn e n = true) :
    (s.rbAccept n run).rbState e = 1 ∧ (s.rbAccept n run).rb e = { head := n, fromRunning := run, build := none, revert := false } := by
  have ho : s.movesRb (s.rbDropOld n) := .forAll (fun s e => s.rbForget_movesRb _) _ s
  have hd : e.val ∈ (s.rbDropOld n).diesOf n := (ho.diesOf n hn).symm ▸ (s.mem_diesOf e n).mpr ⟨e.isLt, he⟩
  have ht := Dev.movesRb.forAll (f := Dev.rbTakeUp n run) (fun s e => s.rbTakeUp_movesRb n run e) ((s.rbDropOld n).diesOf n) (s.rbDropOld n)
  constructor
  · refine Dev.setRbState_rbState _ n 1 e (by decide) ?_
    exact ((Dev.mem_diesOf _ e n).mp ((ht.diesOf n hn).symm ▸ hd)).2
  · rw [Dev.rbAccept, Dev.setRbState_rb]
    refine forAll_establishes (P := fun s => s.rb e = _) (fun s => ?_) (fun s b hs => ?_) hd _
    · rw [Dev.rbTakeUp_rb, if_pos rfl]
    · rw [Dev.rbTakeUp_rb, hs, ite_self]

section
variable (s : State) (d n : Nat) (run : Bool)

theorem State.rbLoad_busy (hn : n < 4) (hm : s.dev.isMaster d n = true) (hb : (s.dev.diesOf n).any s.dev.rbBusy = true) :
    s.rbLoad d n run = { s with dev := (s.dev.rbAsk d n run).rbRefuse d 1 } := by
  have ha := s.dev.rbAsk_movesRb d n run
  rw [← ha.isMaster d n hn] at hm
  rw [← ha.diesOf n hn, ← s.dev.rbAsk_rbBusy d n run] at hb
  exact (if_neg (by simpa [Dev.rbAsk] using hm)).trans (if_pos hb)

theorem State.rbLoad_accepted (hn : n < 4) (hm : s.dev.isMaster d n = true) (hb : (s.dev.diesOf n).any s.dev.rbBusy = false)
    (hl : s.nv.locked = false ∨ run = true) : s.rbLoad d n run = { s with dev := (s.dev.rbAsk d n run).rbAccept n run } := by
  have ha := s.dev.rbAsk_movesRb d n run
  rw [← ha.isMaster d n hn] at hm
  rw [← ha.diesOf n hn, ← s.dev.rbAsk_rbBusy d n run] at hb
  have hl' : ¬ (s.nv.locked = true ∧ (!run) = true) := by
    rcases hl with h | h <;> simp [h]
  exact (if_neg (by simpa [Dev.rbAsk] using hm)).trans ((if_neg (by rw [← Dev.rbAsk, hb]; decide)).trans (if_neg hl'))

end

theorem exec_rebuildLoad (d : Die) (n : Head) (run : Bool) (s : State) :
    exec (.rebuildLoad d n run) s = .next (s.rbLoad d n run) := rfl

/-- Settles O13: a LOAD finds a die of the head busy, or occupies them all. -/
theorem aDieRunsOneRebuildAtATime : Obligations.ADieRunsOneRebuildAtATime := by
  intro d n run s hm
  refine ⟨fun hb => ⟨_, (exec_rebuildLoad d n run s).trans (congrArg _ (s.rbLoad_busy d n run n.isLt hm hb)), ?_⟩,
    fun hb hl => ⟨_, (exec_rebuildLoad d n run s).trans (congrArg _ (s.rbLoad_accepted d n run n.isLt hm hb hl)), fun e he => ?_,
      rfl, rfl⟩⟩
  · refine ⟨Dev.rbRefuse_err _ d 1 (by decide), rfl, fun e => ?_, rfl, rfl⟩
    exact (Dev.rbRefuse_rbState _ d e 1).trans (Dev.rbAsk_rbState _ d n run e)
  · have hu : (s.dev.rbAsk d n run).usedOn e n = true := by
      simpa only [Dev.usedOn, Dev.rdF, (s.dev.rbAsk_movesRb d n run).tact e n n.isLt] using he
    obtain ⟨hst, hrb⟩ := Dev.rbAccept_occupies _ n run n.isLt e hu
    exact ⟨hst, congrArg RbH.head hrb⟩

end Sys2Proof.Machine
end

section
/-! SUPPORT. The commands of the image loader (R48, R49, R51): what each leaves in VSP_IMG_UPD_STAT. -/

namespace Sys2Proof.Machine

/-! ## Fields of VSP_IMG_UPD_STAT -/

section
variable (s : Dev) (f g : Fld) (v : Nat)

theorem Dev.updStat_same (hf : f.lo + f.len ≤ 32) (hm : regMask Reg.VSP_IMG_UPD_STAT &&& f.mask = f.mask) (hv : v < 2 ^ f.len) :
    (s.updStat f v).rdF Reg.VSP_IMG_UPD_STAT f = v :=
  (Dev.rdF_wrF_same _ _ _ _ hf hm).trans (Nat.mod_eq_of_lt hv)

theorem Dev.updStat_field (hg : g.lo + g.len ≤ 32) (hm : regMask Reg.VSP_IMG_UPD_STAT &&& g.mask = g.mask)
    (h : f.lo + f.len ≤ g.lo ∨ g.lo + g.len ≤ f.lo) :
    (s.updStat f v).rdF Reg.VSP_IMG_UPD_STAT g = s.rdF Reg.VSP_IMG_UPD_STAT g :=
  Dev.rdF_wrF_field _ _ _ _ _ hg hm h

end

theorem Dev.showBoot_updStat (s : Dev) (nv : Nv) (g : Fld) :
    (s.showBoot nv).rdF Reg.VSP_IMG_UPD_STAT g = s.rdF Reg.VSP_IMG_UPD_STAT g :=
  Dev.rdF_wr_other _ _ _ _ _ (by decide)

theorem Dev.imgAccept_refused (s : Dev) : s.imgAccept.rdF Reg.VSP_IMG_UPD_STAT F.VSP_IMG_UPD_STAT_REFUSED = 0 :=
  Dev.updStat_same _ _ _ (by decide) (by decide) (by decide)

theorem Dev.imgAccept_busy (s : Dev) : s.imgAccept.rdF Reg.VSP_IMG_UPD_STAT F.VSP_IMG_UPD_STAT_BUSY = 0 := by
  simp (disch := decide) only [Dev.imgAccept, Dev.updStat_field, Dev.updStat_same]

/-- A command that ends well is DONE. -/
theorem Dev.imgEnd_done (s : Dev) : (s.imgEnd true 0).rdF Reg.VSP_IMG_UPD_STAT F.VSP_IMG_UPD_STAT_STATE = 5 := by
  simp (disch := decide) only [Dev.imgEnd, if_true, Dev.emit_rdF, Dev.updStat_field, Dev.updStat_same]

/-- The end of a command leaves REFUSED as it is. -/
theorem Dev.imgEnd_refused (s : Dev) :
    (s.imgEnd true 0).rdF Reg.VSP_IMG_UPD_STAT F.VSP_IMG_UPD_STAT_REFUSED = s.rdF Reg.VSP_IMG_UPD_STAT F.VSP_IMG_UPD_STAT_REFUSED := by
  simp (disch := decide) only [Dev.imgEnd, if_true, Dev.emit_rdF, Dev.updStat_field]
  rfl

/-! ## The commands -/

/-- The running image is no trial. -/
def Dev.endTrial (s : Dev) : Dev :=
  { s with img := { s.img with running := s.img.running.map (fun x => { x with trial := false }) } }

section
variable (s : State) (k : Nat)

theorem State.imgCmd_busy (hj : s.dev.img.job ≠ 0) : s.imgCmd k = { s with dev := s.dev.imgRefuse true } := if_pos hj

theorem State.imgCmd_begins (hj : s.dev.img.job = 0) (hl : s.nv.locked = false) (hk : k = 1 ∨ k = 2) : s.imgCmd k = s.imgBegin k := by
  have hr : ¬ (k < 1 ∨ 4 < k ∨ (k = 3 ∧ (!s.dev.img.passed.contains s.targetCopy) = true) ∨ (s.nv.locked = true ∧ k ≠ 4)) := by
    rcases hk with rfl | rfl <;> simp [hl]
  exact (if_neg (not_not_intro hj)).trans ((if_neg hr).trans (if_pos hk))

theorem State.imgCmd_select (hj : s.dev.img.job = 0) (hl : s.nv.locked = false)
    (hp : s.dev.img.passed.contains s.targetCopy = true) :
    s.imgCmd 3 = { s with nv := s.nv.writeBoot s.targetCopy true false,
                          dev := (s.dev.imgAccept.imgEnd true 0).showBoot (s.nv.writeBoot s.targetCopy true false) } := by
  have hr : ¬ (3 < 1 ∨ 4 < 3 ∨ (3 = 3 ∧ (!s.dev.img.passed.contains s.targetCopy) = true) ∨ (s.nv.locked = true ∧ 3 ≠ 4)) := by
    rw [hl, hp]
    decide
  exact (if_neg (not_not_intro hj)).trans (if_neg hr)

theorem State.imgCmd_select_refused (hj : s.dev.img.job = 0) (hp : s.dev.img.passed.contains s.targetCopy = false) :
    s.imgCmd 3 = { s with dev := s.dev.imgRefuse false } :=
  (if_neg (not_not_intro hj)).trans (if_pos (.inr (.inr (.inl ⟨rfl, by rw [hp]; rfl⟩))))

theorem State.imgCmd_confirm (hj : s.dev.img.job = 0) :
    s.imgCmd 4 = (let nv := if s.nv.bootRec.trial then s.nv.writeBoot s.nv.bootRec.pref false false else s.nv
      { s with nv := nv, dev := (s.dev.endTrial.imgAccept.imgEnd true 0).showBoot nv }) := by
  have hr : ¬ (4 < 1 ∨ 4 < 4 ∨ (4 = 3 ∧ (!s.dev.img.passed.contains s.targetCopy) = true) ∨ (s.nv.locked = true ∧ 4 ≠ 4)) := by omega
  exact (if_neg (not_not_intro hj)).trans (if_neg hr)

/-- VERIFY and PROGRAM begin in STATE 1 with PROGRESS 0 and BUSY and REFUSED clear. -/
theorem State.imgBegin_stat :
    (s.imgBegin k).dev.rdF Reg.VSP_IMG_UPD_STAT F.VSP_IMG_UPD_STAT_STATE = 1 ∧
    (s.imgBegin k).dev.rdF Reg.VSP_IMG_UPD_STAT F.VSP_IMG_UPD_STAT_PROGRESS = 0 ∧
    (s.imgBegin k).dev.rdF Reg.VSP_IMG_UPD_STAT F.VSP_IMG_UPD_STAT_BUSY = 0 ∧
    (s.imgBegin k).dev.rdF Reg.VSP_IMG_UPD_STAT F.VSP_IMG_UPD_STAT_REFUSED = 0 := by
  simp (disch := decide) only [State.imgBegin, Dev.updStat_field, Dev.updStat_same, true_and]
  exact ⟨s.dev.imgAccept_busy, s.dev.imgAccept_refused⟩

end

/-- Settles O17: a command that is accepted begins or is DONE at once, and one that is not is refused. -/
theorem imageCommandsComplete : Obligations.ImageCommandsComplete := by
  intro s
  refine ⟨fun ⟨hj, hl⟩ => ?_, fun ⟨hj, hl⟩ => ?_, fun ⟨hj, hl, hp⟩ => ?_, fun ⟨hj, hp⟩ => ?_, fun ⟨hj, ht⟩ => ?_, fun ⟨hj, ht⟩ => ?_,
    fun hj => ?_⟩
  · obtain ⟨hst, hpr, hbu, hre⟩ := s.imgBegin_stat 1
    exact ⟨_, congrArg Host.Outcome.next (s.imgCmd_begins 1 hj hl (.inl rfl)), rfl, rfl, hst, hpr, hbu, hre, rfl, rfl⟩
  · obtain ⟨hst, hpr, hbu, hre⟩ := s.imgBegin_stat 2
    exact ⟨_, congrArg Host.Outcome.next (s.imgCmd_begins 2 hj hl (.inr rfl)), rfl, rfl, hst, hpr, hbu, hre, rfl, rfl⟩
  · refine ⟨_, congrArg Host.Outcome.next (s.imgCmd_select hj hl hp), rfl, ?_, ?_, rfl, rfl⟩
    · exact (Dev.showBoot_updStat _ _ _).trans (Dev.imgEnd_done _)
    · exact (Dev.showBoot_updStat _ _ _).trans ((Dev.imgEnd_refused _).trans (Dev.imgAccept_refused _))
  · refine ⟨_, congrArg Host.Outcome.next (s.imgCmd_select_refused hj hp), rfl, ?_, rfl⟩
    exact Dev.updStat_same _ _ _ (by decide) (by decide) (by decide)
  · refine ⟨_, congrArg Host.Outcome.next (s.imgCmd_confirm hj), if_pos ht, ?_, rfl, ?_, rfl⟩
    · exact (Dev.showBoot_updStat _ _ _).trans (Dev.imgEnd_done _)
    · exact Option.map_map ..
  · refine ⟨_, congrArg Host.Outcome.next (s.imgCmd_confirm hj), if_neg (by rw [ht]; decide), ?_, rfl⟩
    exact (Dev.showBoot_updStat _ _ _).trans (Dev.imgEnd_done _)
  · refine ⟨_, congrArg Host.Outcome.next (s.imgCmd_busy 1 hj), rfl, ?_, rfl, rfl⟩
    exact Dev.updStat_same _ _ _ (by decide) (by decide) (by decide)

end Sys2Proof.Machine
end

section
/-! SUPPORT. A rebuild from the running configuration is built (R57, R58), and the slices that it takes back from self-test (R313). -/

namespace Sys2Proof.Machine

/-! ## A build from the running configuration -/

/-- The dies of head `n` with what their shadow columns would hold of the running configuration. -/
def Dev.builds (s : Dev) (n : Nat) : List (Nat × Option Build) := (s.diesOf n).map (fun e => (e, s.makeBuild e n none))

/-- A die takes its columns back from self-test and holds its build. -/
def Dev.takeBuild (s : Dev) (p : Nat × Option Build) : Dev :=
  (s.serveCols p.1 (p.2.elim 0 Build.cols)).setRb p.1 { s.rb p.1 with build := p.2 }

theorem exec_rebuildBuilt (d : Die) (s : State) : exec (.rebuildBuilt d) s = .next (s.rbBuilt d) := rfl

theorem State.rbBuilt_running (s : State) (d n : Nat) (hm : s.dev.isMaster d n = true) (hn : (s.dev.rb d).head = n)
    (hst : s.dev.rbState d = 1) (hrun : (s.dev.rb d).fromRunning = true)
    (hb : ∀ e ∈ s.dev.diesOf n, (s.dev.makeBuild e n none).isSome = true) :
    s.rbBuilt d = { s with dev := (forAll (s.dev.builds n) s.dev Dev.takeBuild).setRbState n 2 } := by
  subst hn
  have hgo : ¬ (s.dev.rbState d ≠ 1 ∨ (!s.dev.isMaster d (s.dev.rb d).head) = true) := by simp [hst, hm]
  have hall (f : Nat → Bool) : ¬ (s.dev.builds (s.dev.rb d).head).any (fun p => f p.1 && p.2.isNone) = true := by
    simp only [Dev.builds, List.any_map, Bool.not_eq_true, List.any_eq_false, Function.comp]
    intro e he
    simp [Option.isNone_eq_false_iff.mpr (hb e he)]
  rw [State.rbBuilt, if_neg hgo]
  simp only [hrun, if_true]
  exact (if_neg (hall (· == d))).trans (if_neg (hall (fun _ => true)))

/-- No slice on a die: its columns are taken back at once. -/
theorem Dev.serveCols_idle (s : Dev) (d cols : Nat) (h : (s.eng d).slice = none) : s.serveCols d cols = s := by
  have hserve (k : Nat) : s.serve d (blockId (d + 1) 4 (0x40 + k)) = s := s.serve_idle d _ (by rw [Dev.inSlice, h])
  unfold Dev.serveCols
  induction (List.range 64).filter cols.testBit with
  | nil => rfl
  | cons k l ih => exact (congrArg (fun v => forAll l v _) (hserve k)).trans ih

/-- A die holds build `x`. -/
def Dev.holdBuild (x : Nat → Option Build) (s : Dev) (e : Nat) : Dev := s.setRb e { s.rb e with build := x e }

theorem Dev.takeBuilds_idle (x : Nat → Option Build) (l : List Nat) (s : Dev) (h : ∀ e ∈ l, (s.eng e).slice = none) :
    forAll (l.map (fun e => (e, x e))) s Dev.takeBuild = forAll l s (Dev.holdBuild x) := by
  induction l generalizing s with
  | nil => rfl
  | cons e l ih =>
    have htake : s.takeBuild (e, x e) = s.holdBuild x e := by
      rw [Dev.takeBuild, s.serveCols_idle e _ (h e List.mem_cons_self), Dev.holdBuild]
    exact (congrArg (fun v => forAll (l.map _) v Dev.takeBuild) htake).trans
      (ih _ fun b hb => h b (List.mem_cons_of_mem e hb))

theorem Dev.holdBuild_rb (x : Nat → Option Build) (s : Dev) (b e : Nat) (h : b = e ∨ ((s.rb e).build = x e)) :
    ((s.holdBuild x b).rb e).build = x e := by
  by_cases hb : b = e
  · subst hb
    rw [Dev.holdBuild, Dev.setRb_rb_same]
  · rw [Dev.holdBuild, Dev.setRb_rb_other _ _ _ _ (Ne.symm hb)]
    exact h.resolve_left hb

/-- The clause of O19 on a build from the running configuration where self-test has no slice on a die of the head. -/
theorem rebuildBuilt_running_idle (d : Die) (n : Head) (s : State) (hm : s.dev.isMaster d n = true) (hn : (s.dev.rb d).head = n)
    (hst : s.dev.rbState d = 1) (hrun : (s.dev.rb d).fromRunning = true)
    (hb : ∀ e ∈ s.dev.diesOf n, (s.dev.makeBuild e n none).isSome = true) (hs : ∀ e ∈ s.dev.diesOf n, (s.dev.eng e).slice = none) :
    ∃ t, exec (.rebuildBuilt d) s = .next t ∧ ∀ e ∈ s.dev.diesOf n, t.dev.rbState e = 2 ∧ (t.dev.rb e).build.isSome = true := by
  refine ⟨_, (exec_rebuildBuilt d s).trans (congrArg _ (s.rbBuilt_running d n hm hn hst hrun hb)), fun e he => ?_⟩
  let x : Nat → Option Build := fun e => s.dev.makeBuild e n none
  have hold : forAll (s.dev.builds n) s.dev Dev.takeBuild = forAll (s.dev.diesOf n) s.dev (Dev.holdBuild x) :=
    Dev.takeBuilds_idle x _ s.dev hs
  obtain ⟨hlt, hu⟩ := (s.dev.mem_diesOf e n).mp he
  have hkeep : (forAll (s.dev.diesOf n) s.dev (Dev.holdBuild x)).regs = s.dev.regs :=
    forAll_keeps Dev.regs (f := Dev.holdBuild x) (fun _ _ => rfl) _ _
  constructor
  · refine Dev.setRbState_rbState _ n 2 ⟨e, hlt⟩ (by decide) ?_
    simpa only [hold, Dev.usedOn, Dev.rdF, Dev.rd, hkeep] using hu
  · have hrb := forAll_establishes (P := fun v => (v.rb e).build = x e) (f := Dev.holdBuild x) (a := e)
      (fun v => v.holdBuild_rb x e e (.inl rfl)) (fun v b hv => v.holdBuild_rb x b e (.inr hv)) he s.dev
    rw [Dev.setRbState_rb, hold, hrb]
    exact hb e he

theorem Dev.setRbState_idle (s : Dev) (d n st : Nat) (h : s.diesOf n = []) : (s.setRbState n st).rbState d = s.rbState d := by
  rw [Dev.setRbState, h]
  rfl

/-! ## A slice that a request takes back -/

section
variable (s : Dev) (d : Nat) (sl : Slice)

theorem Dev.sliceUnmask_none (blk : Nat) (h : s.flt.masks = []) : (s.maskRelease blk).sliceUnmask blk = s.maskRelease blk := by
  refine if_neg ?_
  simp [Dev.maskRelease, h]

/-- The registers of the engine of die `d` that tell of a slice. -/
def Reg.tellsOfSlice (d a : Nat) : Prop := a = Reg.BIST_STAT d ∨ a = Reg.BIST_RES d ∨ a = Reg.BIST_RESCNT d

theorem Dev.countAbandon_rd (b : Nat) (hp : sl.prio = false) : (s.countAbandon d sl).rd b = s.rd b := by
  simp only [Dev.countAbandon, hp, Bool.false_eq_true, if_false]
  split <;> rfl

theorem Dev.countAbandon_slice (hp : sl.prio = false) : ((s.countAbandon d sl).eng d).slice = (s.eng d).slice := by
  simp only [Dev.countAbandon, hp, Bool.false_eq_true, if_false]
  split
  · rfl
  · rw [Dev.setEng_eng_same]

theorem Dev.restore_eng (l : List (Nat × Word)) : (s.restore l).eng d = s.eng d :=
  forAll_keeps (fun s => s.eng d) (f := fun (s : Dev) (e : Nat × Word) => s.wr e.1 e.2) (fun _ _ => rfl) l s

theorem Dev.restore_flt (l : List (Nat × Word)) : (s.restore l).flt = s.flt :=
  forAll_keeps Dev.flt (f := fun (s : Dev) (e : Nat × Word) => s.wr e.1 e.2) (fun _ _ => rfl) l s

/-- The registers of the engine that tell of a slice, written at its end. -/
def Dev.tellEnd (s : Dev) (d : Nat) (sl : Slice) (why : Nat) : Dev :=
  let s := (s.wrF (Reg.BIST_STAT d) F.BIST_STAT_RUNNING 0).wrF (Reg.BIST_STAT d) F.BIST_STAT_PRIORITY 0
  let s := s.wr (Reg.BIST_RES d) (BitVec.ofNat 32 (2 + 16 * why + 0x10000 * sl.block))
  let x := s.free
  x.2.wr (Reg.BIST_RESCNT d) (BitVec.ofNat 32 (x.1 % (sl.len + 1) + 0x10000 * sl.len))

theorem Dev.tellEnd_rd (why b : Nat) (hb : ¬ Reg.tellsOfSlice d b) : (s.tellEnd d sl why).rd b = s.rd b := by
  obtain ⟨hstat, hres, hcnt⟩ : b ≠ Reg.BIST_STAT d ∧ b ≠ Reg.BIST_RES d ∧ b ≠ Reg.BIST_RESCNT d := by
    simpa only [Reg.tellsOfSlice, not_or] using hb
  exact (Dev.rd_wr_other _ _ _ _ hcnt).trans ((Dev.rd_wr_other _ _ _ _ hres).trans
    ((Dev.rd_wrF_other _ _ _ _ _ hstat).trans (Dev.rd_wrF_other _ _ _ _ _ hstat)))

/-- A slice that is not on a bridge link, taken back by a request with no watcher masked: what it has saved is put back. -/
theorem Dev.abandonSlice_request (h : (s.eng d).slice = some sl) (hl : sl.block / 0x100 % 0x10 ≠ 0xD) (hm : s.flt.masks = []) :
    s.abandonSlice d 1 = ((((s.broken d sl).restore sl.saved).tellEnd d sl 1).maskRelease sl.block).countAbandon d sl := by
  have hlink : ∀ v : Dev, (if v.isHeld sl.block then v else v.sliceLink sl.block true) = v := by
    intro v
    have hsame : v.sliceLink sl.block true = v := if_neg (fun h => hl h.1)
    rw [hsame, ite_self]
  have hmasks : (((s.broken d sl).restore sl.saved).tellEnd d sl 1).flt.masks = [] := by
    simpa [Dev.tellEnd, Dev.free, Dev.restore_flt, Dev.broken] using hm
  rw [← Dev.sliceUnmask_none _ _ hmasks, Dev.abandonSlice, h]
  dsimp only
  rw [hlink]
  simp [Dev.broken, Dev.tellEnd]

theorem Dev.serve_takes (h : (s.eng d).slice = some sl) (hp : sl.prio = false) (hr : sl.retest = false) :
    s.serve d sl.block = s.abandonSlice d 1 := by
  rw [Dev.serve, h]
  exact if_pos (by simp [hp, hr])

theorem Dev.abandonSlice_request_rd (h : (s.eng d).slice = some sl) (hl : sl.block / 0x100 % 0x10 ≠ 0xD) (hp : sl.prio = false)
    (hm : s.flt.masks = []) (b : Nat) (hb : ¬ Reg.tellsOfSlice d b) :
    (s.abandonSlice d 1).rd b = ((s.broken d sl).restore sl.saved).rd b := by
  rw [s.abandonSlice_request d sl h hl hm, Dev.countAbandon_rd _ _ _ _ hp]
  exact Dev.tellEnd_rd _ _ _ _ _ hb

theorem Dev.abandonSlice_request_idle (h : (s.eng d).slice = some sl) (hl : sl.block / 0x100 % 0x10 ≠ 0xD) (hp : sl.prio = false)
    (hm : s.flt.masks = []) : ((s.abandonSlice d 1).eng d).slice = none := by
  rw [s.abandonSlice_request d sl h hl hm, Dev.countAbandon_slice _ _ _ hp]
  have hrest : ((s.broken d sl).restore sl.saved).eng d = (s.broken d sl).eng d := Dev.restore_eng _ _ _
  exact (congrArg BistH.slice hrest).trans (congrArg BistH.slice (Dev.setEng_eng_same _ _ _))

end

/-! ## The rebuild of a die whose columns self-test has taken -/

/-- A slice of column 0 of CD0 whose saved context is HEAD_TACT of head 0 alone, with the value 0. -/
def tactSlice : Slice :=
  { block := blockId 1 4 0x40, len := 0, prio := false, retest := false, saved := [(Reg.HEAD_TACT 0 0, 0#32)] }

/-- CD0 carries head 0 alone and loads it from the running configuration, with the slice on its column 0. -/
def loadingInSlice : Dev :=
  { (Dev.reset.wr (Reg.HEAD_TACT 0 0) 0x50000#32).wr (Reg.FAB_RB_STAT 0) 1#32 with
    rbs := [(0, { head := 0, fromRunning := true, build := none, revert := false })]
    bist := [(0, { BistH.init with slice := some tactSlice })] }

theorem loadingInSlice_builds :
    ∃ x : Option Build, loadingInSlice.builds 0 = [(0, x)] ∧ x.isSome = true ∧ x.elim 0 Build.cols = 3 :=
  ⟨_, by rw [Dev.builds, show loadingInSlice.diesOf 0 = [0] by decide]; rfl, by decide, by decide⟩

/-- Its columns 0 and 1 are taken back, and with them the slice. -/
theorem loadingInSlice_serveCols : loadingInSlice.serveCols 0 3 = loadingInSlice.abandonSlice 0 1 := by
  have hcols : (List.range 64).filter (3).testBit = [0, 1] := by decide
  have hidle := loadingInSlice.abandonSlice_request_idle 0 tactSlice rfl (by decide) rfl rfl
  have htake : loadingInSlice.serve 0 (blockId 1 4 0x40) = loadingInSlice.abandonSlice 0 1 :=
    loadingInSlice.serve_takes 0 tactSlice rfl rfl rfl
  rw [Dev.serveCols, hcols]
  show (loadingInSlice.serve 0 (blockId 1 4 0x40)).serve 0 (blockId 1 4 0x41) = _
  rw [htake]
  exact Dev.serve_idle _ _ _ (by rw [Dev.inSlice, hidle])

/-- What the rebuild reads then: no register but HEAD_TACT of head 0 has changed, and the engine's own. -/
theorem loadingInSlice_taken (b : Nat) (hb : ¬ Reg.tellsOfSlice 0 b) :
    (forAll (loadingInSlice.builds 0) loadingInSlice Dev.takeBuild).rd b = (loadingInSlice.wr (Reg.HEAD_TACT 0 0) 0#32).rd b := by
  obtain ⟨x, hx, -, hcols⟩ := loadingInSlice_builds
  have htake : (loadingInSlice.takeBuild (0, x)).rd b = (loadingInSlice.serveCols 0 (x.elim 0 Build.cols)).rd b := rfl
  rw [hx]
  refine htake.trans ?_
  rw [hcols, loadingInSlice_serveCols, loadingInSlice.abandonSlice_request_rd 0 tactSlice rfl (by decide) rfl rfl b hb]
  rfl

/-- Refutes O19: CD0 loads head 0 from the running configuration while a slice of its column 0 has saved HEAD_TACT of the head, which
no slice start does (R302). The build takes the column back, what is put back takes the die out of the head, and the die stays in
LOADING. -/
theorem not_rebuildsComplete : ¬ Obligations.RebuildsComplete := by
  intro hall
  obtain ⟨-, -, -, -, -, -, hbuilt, -⟩ := hall 0 0 true 0 { State.reset with dev := loadingInSlice }
  have hbuild : ∀ e ∈ loadingInSlice.diesOf 0, (loadingInSlice.makeBuild e 0 none).isSome = true := by decide
  obtain ⟨t, ht, hdies⟩ := hbuilt ⟨by decide, rfl, by decide, rfl, hbuild⟩
  have hnext := State.rbBuilt_running { State.reset with dev := loadingInSlice } 0 0 (by decide) rfl (by decide) rfl hbuild
  obtain rfl := Host.Outcome.next.inj ((congrArg Host.Outcome.next hnext).symm.trans ht)
  obtain ⟨hst, -⟩ := hdies 0 (by decide)
  have htact (e : Nat) (he : e < 2) : ¬ Reg.tellsOfSlice 0 (Reg.HEAD_TACT e 0) := by
    simp only [Reg.tellsOfSlice, Reg.HEAD_TACT, Reg.BIST_STAT, Reg.BIST_RES, Reg.BIST_RESCNT, Reg.cd]; omega
  have hout : (forAll (loadingInSlice.builds 0) loadingInSlice Dev.takeBuild).diesOf 0 = [] := by
    refine (List.filter_congr fun e he => ?_).trans (show (loadingInSlice.wr (Reg.HEAD_TACT 0 0) 0#32).diesOf 0 = [] by decide)
    simp only [Dev.usedOn, Dev.rdF, loadingInSlice_taken _ (htact e (List.mem_range.mp he))]
  have hstat : ¬ Reg.tellsOfSlice 0 (Reg.FAB_RB_STAT 0) := by unfold Reg.tellsOfSlice; decide
  rw [Dev.setRbState_idle _ _ _ _ hout, Dev.rbState, Dev.rdF, loadingInSlice_taken _ hstat] at hst
  exact absurd hst (by decide)

end Sys2Proof.Machine
end

section
/-! SUPPORT. What fault reporting, the bridge and the check-value units leave alone, as the composition of beams meets them (R23, R294, R304,
R310). -/

namespace Sys2Proof.Machine

/-- What the step of every element of a list keeps, the fold keeps. -/
theorem forAll_keeps_of_mem {α β : Type} (g : Dev → β) {f : Dev → α → Dev} {l : List α} (h : ∀ s, ∀ a ∈ l, g (f s a) = g s)
    (s : Dev) : g (forAll l s f) = g s := by
  induction l generalizing s with
  | nil => rfl
  | cons a l ih => exact (ih (fun s b hb => h s b (List.mem_cons_of_mem a hb)) (f s a)).trans (h s a List.mem_cons_self)

/-! ## Registers that fault reporting leaves alone -/

/-- The consequential logs lie in the self-test windows of the compositor dies, and VSP_EVT_HOLD in the window of the vesper die. -/
theorem faultReg_eq_false (b : Nat) (h : 0x1000000 ≤ b)
    (ho : b % 0x1000000 < 0xB0000 ∨ 0xB0180 ≤ b % 0x1000000 ∨ b % 0x100 = 8) : faultReg b = false := by
  have hcq : ∀ d, d < 2 → cqReg d b = false := by
    intro d hd
    simp only [cqReg, Reg.BIST_CQ_PTR, Reg.BIST_CQ_CNT, Reg.BIST_FLT_STAT, Reg.BIST_CQ_LOG, Reg.cd, Bool.or_eq_false_iff,
      beq_eq_false_iff_ne, List.any_eq_false, beq_iff_eq, List.mem_range]
    exact ⟨⟨⟨by omega, by omega⟩, by omega⟩, fun i _ => by omega⟩
  have hv : b ≠ Reg.VSP_EVT_HOLD := by simp only [Reg.VSP_EVT_HOLD]; omega
  simp [faultReg, hcq, hv]

/-- A fault with no watcher of its own that is enabled stands latched once it has been raised (R304). -/
theorem Dev.raise_latches (s : Dev) (a k : Nat) (hw : watcherOf a k = none) (hk : k < 32) (hm : bitOf (regMask a) k = true)
    (ha : a ≠ Reg.VSP_EVT_HOLD) (hen : s.rdB (a + 4) k = true) : (s.raise a k).rdB a k = true := by
  have hraise : s.raise a k = s.latchFault a k := by rw [Dev.raise, hw]; rfl
  rw [hraise, Dev.latchFault]
  split
  · rw [Dev.rdB, Dev.event_rd _ _ _ ha, ← Dev.rdB, Dev.rdB_wrB _ _ _ _ _ _ hk]
    simp [hm]
  · next h =>
    simpa [hen] using h

/-! ## Which dies a head has -/

/-- The master die of a head is a compositor die. -/
theorem Dev.masterOf_lt (s : Dev) (n : Nat) : s.masterOf n < 2 := by
  unfold Dev.masterOf
  split <;> decide

/-- From `s` to `t` the registers that tell of the halves of head `n` stay as they are. -/
def Dev.sameHead (s t : Dev) (n : Nat) : Prop := ∀ d, d < 2 → t.rd (Reg.HEAD_TACT d n) = s.rd (Reg.HEAD_TACT d n)

section
variable {s t u : Dev} {n : Nat}

theorem Dev.sameHead.of_regs (h : t.regs = s.regs) : s.sameHead t n := fun _ _ => by rw [Dev.rd, h, Dev.rd]

theorem Dev.sameHead.trans (h : s.sameHead t n) (g : t.sameHead u n) : s.sameHead u n := fun d hd => (g d hd).trans (h d hd)

theorem Dev.sameHead.usedOn (h : s.sameHead t n) (d : Nat) (hd : d < 2) : t.usedOn d n = s.usedOn d n := by
  rw [Dev.usedOn, Dev.rdF, h d hd, ← Dev.rdF, Dev.usedOn]

theorem Dev.sameHead.isMaster (h : s.sameHead t n) (d : Nat) (hd : d < 2) : t.isMaster d n = s.isMaster d n := by
  rw [Dev.isMaster, h.usedOn d hd, Dev.rdF, h d hd, ← Dev.rdF, Dev.isMaster]

theorem Dev.sameHead.diesOf (h : s.sameHead t n) : t.diesOf n = s.diesOf n :=
  List.filter_congr fun d hd => h.usedOn d (List.mem_range.mp hd)

end

/-- A write outside the timing windows of the compositor dies. -/
theorem Dev.wr_sameHead (s : Dev) (a : Nat) (v : Word) (n : Nat) (h : ∀ d, d < 2 → a ≠ Reg.HEAD_TACT d n) :
    s.sameHead (s.wr a v) n :=
  fun d hd => Dev.rd_wr_other _ _ _ _ (h d hd).symm

theorem faultReg_HEAD_TACT (d n : Nat) : faultReg (Reg.HEAD_TACT d n) = false :=
  faultReg_eq_false _ (by simp only [Reg.HEAD_TACT, Reg.cd]; omega) (by simp only [Reg.HEAD_TACT, Reg.cd]; omega)

theorem Dev.raise_sameHead (s : Dev) (a k n : Nat) (h : ∀ d, d < 2 → a ≠ Reg.HEAD_TACT d n) : s.sameHead (s.raise a k) n :=
  fun d hd => s.raise_rd a k _ (faultReg_HEAD_TACT d n) (h d hd).symm

/-! ## The bridge -/

/-- What writes of the bridge's ends keep, a flit that is sent keeps. -/
theorem Dev.brgSend_keeps {β : Type} (s : Dev) (g : Dev → β) (h : ∀ (s : Dev) d x, g (s.setBrg d x) = g s) (d vc : Nat) :
    g (s.brgSend d vc) = g s := by
  unfold Dev.brgSend Dev.brgPump
  split
  · rfl
  · dsimp only
    split
    · exact h _ _ _
    · exact (h _ _ _).trans (h _ _ _)

@[simp] theorem Dev.brgSend_out (s : Dev) (d vc : Nat) : (s.brgSend d vc).out = s.out :=
  s.brgSend_keeps Dev.out (fun _ _ _ => rfl) d vc

/-- Die `d` tells the other die of a spanning head on virtual channel `vc` (R81, R84). -/
def Dev.tellOther (s : Dev) (d n vc : Nat) : Dev := if s.spansDies n then s.brgSend d vc else s

theorem Dev.tellOther_keeps {β : Type} (s : Dev) (g : Dev → β) (h : ∀ (s : Dev) d x, g (s.setBrg d x) = g s) (d n vc : Nat) :
    g (s.tellOther d n vc) = g s := by
  unfold Dev.tellOther
  split
  · exact s.brgSend_keeps g h d vc
  · rfl

section
variable (s : Dev) (d n vc : Nat)

theorem Dev.tellOther_rd (b : Nat) : (s.tellOther d n vc).rd b = s.rd b := s.tellOther_keeps (fun s => s.rd b) (fun _ _ _ => rfl) d n vc
theorem Dev.tellOther_half (e i : Nat) : (s.tellOther d n vc).half e i = s.half e i :=
  s.tellOther_keeps (fun s => s.half e i) (fun _ _ _ => rfl) d n vc
theorem Dev.tellOther_out : (s.tellOther d n vc).out = s.out := s.tellOther_keeps Dev.out (fun _ _ _ => rfl) d n vc
theorem Dev.tellOther_pwr : (s.tellOther d n vc).pwr = s.pwr := s.tellOther_keeps Dev.pwr (fun _ _ _ => rfl) d n vc

end

end Sys2Proof.Machine
end

section
/-! SUPPORT. The generation staging area (R77, R80, R207): what a BAR2 write to a slot stores, and where it reads back. -/

namespace Sys2Proof.Machine

/-! ## Which slot an offset names -/

section
variable (s : State) (n : Head) (slot : Bool) (o : Nat) (data : List Byte)

theorem exec_stagingWrite (off : Nat) : exec (.stagingWrite off data) s = .next (s.staging off data) := rfl

/-- The head, the slot and the offset within it of an offset of the staging area (R207). -/
theorem stagingOffset_parts (ho : o < 0x10000) :
    ((2 * n.val + b2n slot) * 0x10000 + o) / 0x10000 = 2 * n + b2n slot ∧ (2 * n.val + b2n slot) / 2 = n ∧
    (2 * n.val + b2n slot) % 2 = b2n slot ∧ ((2 * n.val + b2n slot) * 0x10000 + o) % 0x10000 = o := by
  have hslot : b2n slot < 2 := by cases slot <;> decide
  refine ⟨?_, ?_, ?_, ?_⟩ <;> omega

/-- The device after a write to a slot that is not locked. -/
def Dev.afterSlotWrite (v : Dev) (m : Mems) (n slot o len : Nat) : Dev :=
  ((v.crossWrite 0 (v.waysOf 0 n)).slotRefused 0 n slot o len).snoopSlot m 0 n slot o len 4

theorem State.staging_locked (ho : o < 0x10000) (hup : s.dev.cdUp 0 = true) (hused : s.dev.headUsed n = true)
    (hl : s.dev.slotLocked n (b2n slot) = true) :
    s.staging ((2 * n + b2n slot) * 0x10000 + o) data =
      { s with dev := s.dev.raise (Reg.HEAD_CMP_FLT_STAT (s.dev.masterOf n) n) B.HEAD_CMP_STAGE_LOCKED } := by
  obtain ⟨hi, hn, hs, -⟩ := stagingOffset_parts n slot o ho
  have hgo : ¬ (8 ≤ 2 * n.val + b2n slot ∨ (!s.dev.cdUp 0) = true ∨ (!s.dev.headUsed n) = true) := by
    simp only [hup, hused]
    cases slot <;> simp [b2n] <;> omega
  simp only [State.staging, hi, hn, hs, if_neg hgo, if_pos hl]

theorem State.staging_open (ho : o < 0x10000) (hup : s.dev.cdUp 0 = true) (hused : s.dev.headUsed n = true)
    (hl : s.dev.slotLocked n (b2n slot) = false) :
    s.staging ((2 * n + b2n slot) * 0x10000 + o) data =
      { s with dev := s.dev.afterSlotWrite (s.dev.slotWrite s.mem 0 n (b2n slot) o data) n (b2n slot) o data.length,
               mem := s.dev.slotWrite s.mem 0 n (b2n slot) o data } := by
  obtain ⟨hi, hn, hs, hoff⟩ := stagingOffset_parts n slot o ho
  have hgo : ¬ (8 ≤ 2 * n.val + b2n slot ∨ (!s.dev.cdUp 0) = true ∨ (!s.dev.headUsed n) = true) := by
    simp only [hup, hused]
    cases slot <;> simp [b2n] <;> omega
  simp only [State.staging, hi, hn, hs, hoff, if_neg hgo, hl, Bool.false_eq_true, if_false, Dev.afterSlotWrite]

end

/-! ## The locked slot -/

/-- STAGE_LOCKED has no watcher of its own, and is implemented in every head's fault status register. -/
theorem stageLocked_plain : ∀ (d : Fin 2) (n : Head), watcherOf (Reg.HEAD_CMP_FLT_STAT d n) B.HEAD_CMP_STAGE_LOCKED = none ∧
    bitOf (regMask (Reg.HEAD_CMP_FLT_STAT d n)) B.HEAD_CMP_STAGE_LOCKED = true := by decide

/-- Settles O10: a locked slot by `State.staging_locked`, a slot that is not locked by `State.staging_open`. -/
theorem lockedSlotsDiscardWrites : Obligations.LockedSlotsDiscardWrites := by
  intro n slot o data s ho hup hused
  have hoff : 0x20000 * n.val + 0x10000 * b2n slot + o = (2 * n.val + b2n slot) * 0x10000 + o := by omega
  rw [hoff]
  refine ⟨fun hl => ?_, fun hl => ?_⟩
  · refine ⟨_, congrArg Host.Outcome.next (s.staging_locked n slot o data ho hup hused hl), rfl, rfl, fun hen => ?_⟩
    obtain ⟨hw, hm⟩ := stageLocked_plain ⟨s.dev.masterOf n, s.dev.masterOf_lt n⟩ n
    exact Dev.raise_latches _ _ _ hw (by decide) hm (by simp only [Reg.HEAD_CMP_FLT_STAT, Reg.VSP_EVT_HOLD, Reg.cd]; omega) hen
  · exact ⟨_, congrArg Host.Outcome.next (s.staging_open n slot o data ho hup hused hl), rfl, rfl⟩

/-! ## A die with its own DRAM -/

section
variable (s : Dev) (m : Mems) (d a : Nat)

/-- A die whose DRAM is its own serves its own addresses (R205). -/
theorem Dev.drcMap_own (hr : s.drcRole d = 0) (ha : a < 0x80000000) : s.drcMap d a = .ok (d, a) := by
  unfold Dev.drcMap
  dsimp only
  rw [if_neg (by omega), hr]
  rfl

/-- A staging write of such a die stores every byte in its own DRAM. -/
theorem Dev.dieWrite_own (hr : s.drcRole d = 0) (bs : List Byte) (ha : a + bs.length ≤ 0x80000000) :
    s.dieWrite m d true a bs = m.dramWrite d a bs := by
  induction bs generalizing m a with
  | nil => rfl
  | cons b bs ih =>
    simp only [List.length_cons] at ha
    simp only [Dev.dieWrite, s.drcMap_own d a hr (by omega), rsvRefused, Bool.not_true, Bool.and_false, Bool.false_eq_true, if_false]
    exact ih (m.dramWrite d a [b]) (a + 1) (by omega)

theorem mapM_of_forall_some {α β : Type} {g : α → Option β} {f : α → β} {l : List α} (h : ∀ x ∈ l, g x = some (f x)) :
    l.mapM g = some (l.map f) := by
  induction l with
  | nil => rfl
  | cons x l ih =>
    rw [List.mapM_cons, h x List.mem_cons_self, ih fun y hy => h y (List.mem_cons_of_mem x hy)]
    rfl

/-- Such a die reads its own DRAM. -/
theorem Dev.dieRead_own (hr : s.drcRole d = 0) (n : Nat) (ha : a + n ≤ 0x80000000) :
    s.dieRead m d a n = some (m.dramRead d a n) := by
  refine mapM_of_forall_some fun k hk => ?_
  rw [s.drcMap_own d (a + k) hr (by have := List.mem_range.mp hk; omega)]

end

/-! ## Bytes read back -/

section
variable (m : Mems) (d e a : Nat) (bs : List Byte)

theorem Mems.dramRead_dramWrite : (m.dramWrite d a bs).dramRead d a bs.length = bs := by
  refine List.ext_getElem (by simp [Mems.dramRead]) fun i hi hj => ?_
  have hget := putBytes_get_inside dramDefault m.dram (2147483648 * d + a) i bs hj
  simpa [Mems.dramRead, Mems.dramAt, Mems.dramWrite, add_assoc, hj] using hget

theorem Mems.dramRead_dramWrite_other (hne : e ≠ d) (n : Nat) (ha : a + bs.length ≤ 0x80000000) (hn : a + n ≤ 0x80000000) :
    (m.dramWrite d a bs).dramRead e a n = m.dramRead e a n := by
  refine List.map_congr_left fun k hk => ?_
  have hk := List.mem_range.mp hk
  exact putBytes_get_outside _ _ _ _ _ (by omega)

/-- One store on each of several dies reads back on each of them. -/
theorem Mems.dramRead_dramWrites (l : List Nat) (ha : a + bs.length ≤ 0x80000000)
    (h : e ∈ l ∨ m.dramRead e a bs.length = bs) :
    (l.foldl (fun m d => m.dramWrite d a bs) m).dramRead e a bs.length = bs := by
  induction l generalizing m with
  | nil => exact h.resolve_left (by simp)
  | cons d l ih =>
    refine ih (m.dramWrite d a bs) ?_
    by_cases hd : e = d
    · exact .inr (hd ▸ m.dramRead_dramWrite d a bs)
    · rw [m.dramRead_dramWrite_other d e a bs hd _ ha ha]
      exact h.imp_left fun he => (List.mem_cons.mp he).resolve_left hd

end

theorem Dev.mem_waysOf (s : Dev) (e d n : Nat) (h : d ∈ s.waysOf e n) : d < 2 := by
  simp only [Dev.waysOf, Dev.diesOf, List.mem_filter, List.mem_range] at h
  exact h.1.1

theorem slotAddr_le (n : Head) (slot : Bool) (o len : Nat) (h : o + len ≤ 0x10000) :
    slotAddr n (b2n slot) + o + len ≤ 0x80000000 := by
  have hslot : b2n slot < 2 := by cases slot <;> decide
  unfold slotAddr
  omega

/-- A write within a slot is one store in the own DRAM of each die that it reaches. -/
theorem Dev.slotWrite_own (s : Dev) (m : Mems) (n : Head) (slot : Bool) (o : Nat) (data : List Byte) (hr : ∀ d, d < 2 → s.drcRole d = 0)
    (h : o + data.length ≤ 0x10000) :
    s.slotWrite m 0 n (b2n slot) o data =
      (s.waysOf 0 n).foldl (fun m d => m.dramWrite d (slotAddr n (b2n slot) + o) data) m := by
  refine List.foldl_ext _ _ m fun m d hd => ?_
  rw [List.take_of_length_le (by omega)]
  exact s.dieWrite_own m d _ (hr d (s.mem_waysOf 0 d n hd)) data (slotAddr_le n slot o _ h)

/-! ## The role of a die's DRAM after a write -/

/-- The register at `b` is no register that snooped bytes reach (R294). -/
def Reg.unsnooped (b : Nat) : Prop := ∀ d u, u < 8 → b ≠ Reg.CRC_VALUE d u ∧ b ≠ Reg.CRC_CNT d u

theorem Dev.watchersOfSrc_lt (s : Dev) (d src : Nat) (q : Nat → Bool) : ∀ u ∈ s.watchersOfSrc d src q, u < 8 := fun _ hu =>
  List.mem_range.mp (List.mem_of_mem_filter hu)

section
variable (s : Dev) {b : Nat} (hb : Reg.unsnooped b)
include hb

theorem Dev.snoopUnit_rd (d u : Nat) (hu : u < 8) (bs : List Byte) : (s.snoopUnit d u bs).rd b = s.rd b := by
  obtain ⟨hval, hcnt⟩ := hb d u hu
  have hfeed : ∀ v : Dev, (v.crcFeed d u bs).rd b = v.rd b := fun v =>
    (Dev.rd_wr_other _ _ _ _ hcnt).trans (Dev.rd_wr_other _ _ _ _ hval)
  have hrestart : ∀ v : Dev, (v.crcRestart d u).rd b = v.rd b := fun v =>
    (Dev.rd_wr_other _ _ _ _ hcnt).trans (Dev.rd_wr_other _ _ _ _ hval)
  unfold Dev.snoopUnit
  split
  · rfl
  · dsimp only
    rw [hfeed]
    split
    · exact (Dev.setCrc_rd _ _ _ _ _).trans (hrestart s)
    · rfl

theorem Dev.snoopDram_rd (d port addr : Nat) (bs : List Byte) : (s.snoopDram d port addr bs).rd b = s.rd b := by
  refine forAll_keeps_of_mem (fun s => s.rd b) (fun v u hu => ?_) s
  split
  · exact v.snoopUnit_rd hb d u (s.watchersOfSrc_lt d 3 _ u hu) bs
  · rfl

theorem Dev.snoopWrite_rd (m : Mems) (d p a n : Nat) : (s.snoopWrite m d p a n).rd b = s.rd b := by
  unfold Dev.snoopWrite
  split
  · rfl
  · refine forAll_keeps (fun s => s.rd b) (fun v k => ?_) _ s
    split
    · exact v.snoopDram_rd hb _ _ _ _
    · rfl

end

theorem Dev.crossWrite_rd (s : Dev) (e : Nat) (l : List Nat) (b : Nat) : (s.crossWrite e l).rd b = s.rd b := by
  unfold Dev.crossWrite
  split
  · exact s.brgSend_rd e 3 b
  · rfl

theorem Dev.raiseRefused_rd (s : Dev) (d a n : Nat) (w st : Bool) (b : Nat) (h : faultReg b = false)
    (hd : b ≠ Reg.DRC_FLT_STAT d) : (s.raiseRefused d a n w st).rd b = s.rd b :=
  forAll_keeps (fun s => s.rd b) (fun v k => v.raise_rd _ k b h hd) _ s

/-- A write to a staging slot leaves the role of a die's DRAM as it is. -/
theorem Dev.afterSlotWrite_drcRole (s : Dev) (m : Mems) (n slot o len d : Nat) :
    (s.afterSlotWrite m n slot o len).drcRole d = s.drcRole d := by
  have hfault : faultReg (Reg.DRC_STAT d) = false :=
    faultReg_eq_false _ (by simp only [Reg.DRC_STAT, Reg.cd]; omega) (by simp only [Reg.DRC_STAT, Reg.cd]; omega)
  have hsnoop : Reg.unsnooped (Reg.DRC_STAT d) := by
    intro e u _
    simp only [Reg.DRC_STAT, Reg.CRC_VALUE, Reg.CRC_CNT, Reg.cd]
    omega
  have hrd : (s.afterSlotWrite m n slot o len).rd (Reg.DRC_STAT d) = s.rd (Reg.DRC_STAT d) :=
    calc
      _ = ((s.crossWrite 0 (s.waysOf 0 n)).slotRefused 0 n slot o len).rd (Reg.DRC_STAT d) :=
        forAll_keeps (fun s => s.rd _) (fun v e => v.snoopWrite_rd hsnoop m e _ _ _) _ _
      _ = (s.crossWrite 0 (s.waysOf 0 n)).rd (Reg.DRC_STAT d) :=
        forAll_keeps (fun s => s.rd _)
          (fun v e => v.raiseRefused_rd e _ _ _ _ _ hfault (by simp only [Reg.DRC_STAT, Reg.DRC_FLT_STAT, Reg.cd]; omega)) _ _
      _ = _ := s.crossWrite_rd 0 _ _
  rw [Dev.drcRole, Dev.rdF, hrd, ← Dev.rdF, Dev.drcRole]

/-- A write within a slot reads back on every die that it reaches. -/
theorem Dev.slotWrite_reads_back (s : Dev) (m : Mems) (n : Head) (slot : Bool) (o : Nat) (data : List Byte)
    (hr : ∀ d, d < 2 → s.drcRole d = 0) (h : o + data.length ≤ 0x10000) (v : Dev) (hv : ∀ d, v.drcRole d = s.drcRole d) (e : Nat)
    (he : e ∈ s.waysOf 0 n) :
    v.dieRead (s.slotWrite m 0 n (b2n slot) o data) e (slotAddr n (b2n slot) + o) data.length = some data := by
  have ha := slotAddr_le n slot o _ h
  rw [v.dieRead_own _ e _ ((hv e).trans (hr e (s.mem_waysOf 0 e n he))) _ ha, s.slotWrite_own m n slot o data hr h,
    Mems.dramRead_dramWrites m e _ data _ ha (.inl he)]

end Sys2Proof.Machine
end

section
/-! SUPPORT. Commits of generations and the end of their binning (R79, R81, R202): what HEAD_GEN_STAT of each die shows. -/

namespace Sys2Proof.Machine

/-! ## HEAD_GEN_STAT -/

/-- The fields of HEAD_GEN_STAT (Table 3-9). -/
def genStatFlds : List Fld :=
  [F.HEAD_GEN_STAT_BUSY, F.HEAD_GEN_STAT_RESULT, F.HEAD_GEN_STAT_SKIPPED, F.HEAD_GEN_STAT_LOCK]

theorem regMask_genStat : ∀ (d : Fin 2) (n : Head), regMask (Reg.HEAD_GEN_STAT d n) = 0xF0FF0003#32 := by decide

theorem genStat_implemented : ∀ f ∈ genStatFlds, f.lo + f.len ≤ 32 ∧ 0xF0FF0003#32 &&& f.mask = f.mask := by decide

theorem genStat_disjoint : ∀ f ∈ genStatFlds, ∀ g ∈ genStatFlds, f ≠ g → f.lo + f.len ≤ g.lo ∨ g.lo + g.len ≤ f.lo := by decide

section
variable (s : Dev) (d : Die) (n : Head) {f g : Fld} (v : Nat)

theorem Dev.genStat_wrF_same (hf : f ∈ genStatFlds) :
    (s.wrF (Reg.HEAD_GEN_STAT d n) f v).rdF (Reg.HEAD_GEN_STAT d n) f = v % 2 ^ f.len := by
  obtain ⟨hlen, hm⟩ := genStat_implemented f hf
  exact Dev.rdF_wrF_same _ _ _ _ hlen (regMask_genStat d n ▸ hm)

/-- A field of HEAD_GEN_STAT keeps its value where another field of it is written, on whichever die. -/
theorem Dev.genStat_wrF_field (e : Nat) (hf : f ∈ genStatFlds) (hg : g ∈ genStatFlds) (h : f ≠ g) :
    (s.wrF (Reg.HEAD_GEN_STAT e n) f v).rdF (Reg.HEAD_GEN_STAT d n) g = s.rdF (Reg.HEAD_GEN_STAT d n) g := by
  by_cases he : Reg.HEAD_GEN_STAT d n = Reg.HEAD_GEN_STAT e n
  · obtain ⟨hlen, hm⟩ := genStat_implemented g hg
    rw [← he]
    exact Dev.rdF_wrF_field _ _ _ _ _ hlen (regMask_genStat d n ▸ hm) (genStat_disjoint f hf g hg h)
  · exact Dev.rdF_wrF_other _ _ _ _ _ _ he

/-- A field set on every die of the head reads so on each of them. -/
theorem Dev.setGenStat_same (hf : f ∈ genStatFlds) (hd : d.val ∈ s.diesOf n) :
    (s.setGenStat n f v).rdF (Reg.HEAD_GEN_STAT d n) f = v % 2 ^ f.len := by
  refine forAll_establishes (P := fun s => s.rdF (Reg.HEAD_GEN_STAT d n) f = _)
    (f := fun s (e : Nat) => s.wrF (Reg.HEAD_GEN_STAT e n) f v) (fun s => s.genStat_wrF_same d n v hf) (fun s e hs => ?_) hd s
  by_cases he : Reg.HEAD_GEN_STAT d n = Reg.HEAD_GEN_STAT e n
  · rw [← he]
    exact s.genStat_wrF_same d n v hf
  · exact (Dev.rdF_wrF_other _ _ _ _ _ _ he).trans hs

theorem Dev.setGenStat_field (hf : f ∈ genStatFlds) (hg : g ∈ genStatFlds) (h : f ≠ g) :
    (s.setGenStat n f v).rdF (Reg.HEAD_GEN_STAT d n) g = s.rdF (Reg.HEAD_GEN_STAT d n) g :=
  forAll_keeps (fun s => s.rdF (Reg.HEAD_GEN_STAT d n) g) (fun s e => s.genStat_wrF_field d n v e hf hg h) _ s

end

section
variable (s : Dev) (n : Nat) (f : Fld) (v : Nat)

theorem Dev.setGenStat_half (e i : Nat) : (s.setGenStat n f v).half e i = s.half e i :=
  forAll_keeps (fun s => s.half e i) (f := fun s (d : Nat) => s.wrF (Reg.HEAD_GEN_STAT d n) f v) (fun _ _ => rfl) _ s

theorem Dev.setGenStat_out : (s.setGenStat n f v).out = s.out :=
  forAll_keeps Dev.out (f := fun s (d : Nat) => s.wrF (Reg.HEAD_GEN_STAT d n) f v) (fun _ _ => rfl) _ s

theorem Dev.forAll_sameHead {α : Type} {g : Dev → α → Dev} (l : List α) (h : ∀ (s : Dev), ∀ a ∈ l, s.sameHead (g s a) n) (s : Dev) :
    s.sameHead (forAll l s g) n := by
  induction l generalizing s with
  | nil => exact fun _ _ => rfl
  | cons a l ih => exact (h s a List.mem_cons_self).trans (ih (fun s b hb => h s b (List.mem_cons_of_mem a hb)) (g s a))

theorem Dev.setGenStat_sameHead : s.sameHead (s.setGenStat n f v) n :=
  Dev.forAll_sameHead n _ (fun s e he => s.wr_sameHead _ _ n fun d hd => by
    simp only [Reg.HEAD_GEN_STAT, Reg.HEAD_TACT, Reg.cd]; omega) s

end

/-! ## A commit -/

theorem exec_headGenCommit (d : Die) (n : Head) (slot : Bool) (s : State) :
    exec (.headGenCommit d n slot) s = .next { s with dev := s.dev.commit d n (b2n slot) } := rfl

theorem Dev.usedOn_of_isMaster {s : Dev} {d n : Nat} (h : s.isMaster d n = true) : s.usedOn d n = true :=
  (Bool.and_eq_true_iff.mp h).1

/-- Where a commit is not refused, the die that takes it is the head's master. -/
theorem Dev.isMaster_of_commitRefusal {s : Dev} {d n : Nat} (h : s.commitRefusal d n = none) : s.isMaster d n = true := by
  rw [Dev.commitRefusal] at h
  split at h
  · cases h
  · split at h
    · cases h
    · next hm => simpa using hm

/-- BUSY and LOCK set on every die of a head whose commit of `slot` has been taken. -/
def Dev.markBusy (s : Dev) (n slot : Nat) : Dev :=
  (s.setGenStat n F.HEAD_GEN_STAT_BUSY 1).setGenStat n F.HEAD_GEN_STAT_LOCK (2 ^ slot)

theorem Dev.commit_taken (s : Dev) (d n slot : Nat) (h : s.commitRefusal d n = none) :
    s.commit d n slot = ((s.markBusy n slot).tellOther d n 2).setHalf d n
      { ((s.markBusy n slot).tellOther d n 2).half d n with binning := some slot } := by
  rw [Dev.commit, h]
  rfl

theorem Dev.markBusy_busy (s : Dev) (d : Die) (n : Head) (slot : Nat) (hd : d.val ∈ s.diesOf n) :
    (s.markBusy n slot).rdF (Reg.HEAD_GEN_STAT d n) F.HEAD_GEN_STAT_BUSY = 1 :=
  (Dev.setGenStat_field _ d n _ (by decide) (by decide) (by decide)).trans (s.setGenStat_same d n 1 (by decide) hd)

theorem Dev.markBusy_lock (s : Dev) (d : Die) (n : Head) (slot : Bool) (hd : d.val ∈ s.diesOf n) :
    (s.markBusy n (b2n slot)).rdF (Reg.HEAD_GEN_STAT d n) F.HEAD_GEN_STAT_LOCK = 2 ^ b2n slot := by
  have hd' : d.val ∈ (s.setGenStat n F.HEAD_GEN_STAT_BUSY 1).diesOf n := (s.setGenStat_sameHead n _ _).diesOf ▸ hd
  rw [Dev.markBusy, Dev.setGenStat_same _ d n _ (by decide) hd']
  cases slot <;> rfl

/-! ## A refused commit -/

theorem genStat_fault (d : Die) (n : Head) : faultReg (Reg.HEAD_GEN_STAT d n) = false :=
  faultReg_eq_false _ (by simp only [Reg.HEAD_GEN_STAT, Reg.cd]; omega) (by simp only [Reg.HEAD_GEN_STAT, Reg.cd]; omega)

/-- RESULT written by a refusal: on every die of the head by its master, and on the die alone by another. -/
def Dev.putResult (s : Dev) (d n result : Nat) : Dev :=
  if s.isMaster d n then s.setGenStat n F.HEAD_GEN_STAT_RESULT result
  else s.wrF (Reg.HEAD_GEN_STAT d n) F.HEAD_GEN_STAT_RESULT result

theorem Dev.refuseCommit_eq (s : Dev) (d n r : Nat) :
    s.refuseCommit d n r =
      ((s.putResult d n r).raise (Reg.HEAD_CMP_FLT_STAT d n) B.HEAD_CMP_REFUSED).emit (.msix (8 + 2 * n + d)) := rfl

section
variable (s : Dev) (d : Die) (n : Head) (r : Nat)

theorem Dev.refuseCommit_rdF (e : Die) (f : Fld) :
    (s.refuseCommit d n r).rdF (Reg.HEAD_GEN_STAT e n) f = (s.putResult d n r).rdF (Reg.HEAD_GEN_STAT e n) f := by
  have hne : Reg.HEAD_GEN_STAT e n ≠ Reg.HEAD_CMP_FLT_STAT d n := by
    simp only [Reg.HEAD_GEN_STAT, Reg.HEAD_CMP_FLT_STAT, Reg.cd]; omega
  rw [Dev.refuseCommit_eq, Dev.emit_rdF, Dev.rdF, Dev.raise_rd _ _ _ _ (genStat_fault e n) hne, ← Dev.rdF]

theorem Dev.refuseCommit_result (hr : r < 8) :
    (s.refuseCommit d n r).rdF (Reg.HEAD_GEN_STAT d n) F.HEAD_GEN_STAT_RESULT = r := by
  rw [Dev.refuseCommit_rdF, Dev.putResult]
  split
  · next hm =>
    rw [s.setGenStat_same d n r (by decide) ((s.mem_diesOf d n).mpr ⟨d.isLt, Dev.usedOn_of_isMaster hm⟩)]
    exact Nat.mod_eq_of_lt hr
  · rw [s.genStat_wrF_same d n r (by decide)]
    exact Nat.mod_eq_of_lt hr

/-- A refusal writes no field of HEAD_GEN_STAT but RESULT. -/
theorem Dev.refuseCommit_field (e : Die) {g : Fld} (hg : g ∈ genStatFlds) (h : F.HEAD_GEN_STAT_RESULT ≠ g) :
    (s.refuseCommit d n r).rdF (Reg.HEAD_GEN_STAT e n) g = s.rdF (Reg.HEAD_GEN_STAT e n) g := by
  rw [Dev.refuseCommit_rdF, Dev.putResult]
  split
  · exact s.setGenStat_field e n r (by decide) hg h
  · exact s.genStat_wrF_field e n r d (by decide) hg h

theorem Dev.refuseCommit_half (e i : Nat) : (s.refuseCommit d n r).half e i = s.half e i := by
  rw [Dev.refuseCommit_eq, Dev.emit_half, Dev.raise_half, Dev.putResult]
  split
  · exact s.setGenStat_half n _ r e i
  · rfl

end

theorem Dev.commit_refused (s : Dev) (d n slot r : Nat) (h : s.commitRefusal d n = some r) : s.commit d n slot = s.refuseCommit d n r := by
  rw [Dev.commit, h]

theorem Dev.commitRefusal_lt (s : Dev) (d n r : Nat) (h : s.commitRefusal d n = some r) : r < 8 := by
  unfold Dev.commitRefusal at h
  split at h
  · cases h; decide
  · split at h
    · cases h; decide
    · split at h
      · cases h; decide
      · cases h

/-! ## The notice -/

theorem exec_commitNotice (n : Head) (s : State) : exec (.commitNotice n) s = .next { s with dev := s.dev.notice n } := rfl

theorem Dev.notice_taken (s : Dev) (n d slot : Nat) (hm : s.masterOf n = d) (hspan : s.spansDies n = true)
    (hway : s.dieWay d (1 - d) = true) (hb : (s.half d n).binning = some slot) :
    s.notice n = s.setHalf (1 - d) n { s.half (1 - d) n with binning := some slot } := by
  subst hm
  simp only [Dev.notice, hb, hspan, hway, and_self, if_true]

/-! ## The outcome of binning -/

/-- A refusal: its RESULT, and the bin of BIN_OVER (Table 3-5, R83). -/
abbrev BinRefusal := Nat × Option (Nat × Nat × Nat × Nat)

/-- The outcome of binning a slot on a die. -/
abbrev BinOut := Except BinRefusal Gen

/-- One more outcome joined to the refusal so far (R79). -/
def joinRefusal (m : Option BinRefusal) (e : BinOut) :
    Option BinRefusal :=
  match e, m with
  | .error r, none => some r
  | .error r, some o => if refusalOrder r.1 < refusalOrder o.1 then some r else m
  | .ok _, _ => m

theorem firstRefusal_eq (l : List BinOut) : firstRefusal l = l.foldl joinRefusal none := rfl

theorem joinRefusal_eq_some {m : Option BinRefusal}
    {e : BinOut} {x : BinRefusal} (h : joinRefusal m e = some x) :
    m = some x ∨ e = .error x := by
  unfold joinRefusal at h
  split at h
  · exact .inr (by rw [Option.some.inj h])
  · split at h
    · exact .inr (by rw [Option.some.inj h])
    · exact .inl h
  · exact .inl h

theorem joinRefusal_eq_none {m : Option BinRefusal}
    {e : BinOut} (h : joinRefusal m e = none) : m = none ∧ ∃ g, e = .ok g := by
  unfold joinRefusal at h
  split at h
  · cases h
  · split at h <;> cases h
  · exact ⟨h, _, rfl⟩

theorem foldl_joinRefusal_eq_some {l : List BinOut}
    {m : Option BinRefusal} {x : BinRefusal}
    (h : l.foldl joinRefusal m = some x) : m = some x ∨ .error x ∈ l := by
  induction l generalizing m with
  | nil => exact .inl h
  | cons e l ih =>
    rcases ih h with hm | hl
    · exact (joinRefusal_eq_some hm).imp_right fun he => by rw [he]; exact List.mem_cons_self
    · exact .inr (List.mem_cons_of_mem e hl)

theorem foldl_joinRefusal_eq_none {l : List BinOut}
    {m : Option BinRefusal} (h : l.foldl joinRefusal m = none) :
    m = none ∧ ∀ e ∈ l, ∃ g, e = .ok g := by
  induction l generalizing m with
  | nil => exact ⟨h, by simp⟩
  | cons e l ih =>
    obtain ⟨hm, hl⟩ := ih h
    obtain ⟨hm, he⟩ := joinRefusal_eq_none hm
    exact ⟨hm, List.forall_mem_cons.mpr ⟨he, hl⟩⟩

/-- The RESULT of a slot that is refused is one of Table 3-5. -/
theorem binSlot_error_lt {types : Word} {passes w h margin num : Nat} {slot : Option (List Byte)}
    {x : BinRefusal} (hx : binSlot types passes w h margin num slot = .error x) : x.1 < 8 := by
  unfold binSlot at hx
  split at hx
  · cases hx; decide
  · dsimp only at hx
    split at hx
    · cases hx; decide
    · split at hx
      · cases hx; decide
      · split at hx
        · cases hx
          show 4 < 8
          decide
        · cases hx

/-- A generation that is accepted takes the number given. -/
theorem binSlot_ok_num {types : Word} {passes w h margin num : Nat} {slot : Option (List Byte)} {g : Gen}
    (hx : binSlot types passes w h margin num slot = .ok g) : g.num = num := by
  unfold binSlot at hx
  split at hx
  · cases hx
  · dsimp only at hx
    split at hx
    · cases hx
    · split at hx
      · cases hx
      · split at hx
        · cases hx
        · cases hx; rfl

/-! ## The end of binning -/

/-- The outcomes of a slot on the dies of a head. -/
def Dev.binOuts (s : Dev) (m : Mems) (n slot : Nat) : List BinOut :=
  (s.diesOf n).map (fun e => s.binOn m e n slot)

/-- BUSY and LOCK cleared on every die of a head. -/
def Dev.clearBusy (s : Dev) (n : Nat) : Dev := (s.setGenStat n F.HEAD_GEN_STAT_BUSY 0).setGenStat n F.HEAD_GEN_STAT_LOCK 0

/-- HEAD_BIN_OVER shows the bin of a refusal BIN_OVER on every die of a head (R83). -/
def Dev.showOver (s : Dev) (n : Nat) (loc : Option (Nat × Nat × Nat × Nat)) : Dev :=
  match loc with
  | none => s
  | some (need, layer, span, band) =>
    forAll (s.diesOf n) s (fun s d => s.wr (Reg.HEAD_BIN_OVER d n)
      (BitVec.ofNat 32 (min need 63 * 0x4000000 + layer * 0x100000 + span * 256 + band)))

/-- Every half of a head stops binning. -/
def Dev.dropBinning (s : Dev) (n : Nat) : Dev :=
  forAll (s.diesOf n) s (fun s d => s.setHalf d n { s.half d n with binning := none })

/-- A die takes the generation that its half accepts. -/
def Dev.takeOut (s : Dev) (n e : Nat) (x : BinOut) : Dev :=
  match x with | .ok g => s.takeGen e n g | .error _ => s

/-- Every die of a head takes the generation that it has binned. -/
def Dev.takeOuts (s : Dev) (n : Nat) (l : List BinOut) : Dev :=
  forAll ((s.diesOf n).zip l) s (fun s p => s.takeOut n p.1 p.2)

/-- RESULT and SKIPPED of an accepted commit on every die of a head with master `md`. -/
def Dev.showAccepted (s : Dev) (md n : Nat) : Dev :=
  (s.setGenStat n F.HEAD_GEN_STAT_RESULT 1).setGenStat n F.HEAD_GEN_STAT_SKIPPED
    (min 255 ((s.setGenStat n F.HEAD_GEN_STAT_RESULT 1).half md n).newest.skipped)

section
variable {s : Dev} {m : Mems} {n slot : Nat} (hb : (s.half (s.masterOf n) n).binning = some slot)
  (hall : ∀ e ∈ s.diesOf n, (s.half e n).binning.isSome = true)
include hb hall

theorem Dev.binDone_refused {r : Nat} {loc : Option (Nat × Nat × Nat × Nat)} (hr : firstRefusal (s.binOuts m n slot) = some (r, loc)) :
    s.binDone m n =
      ((((s.clearBusy n).showOver n loc).dropBinning n).refuseCommit (s.masterOf n) n r).reportWaiting n r := by
  have hsome : ¬ (s.diesOf n).any (fun d => (s.half d n).binning.isNone) = true := by
    simpa [Option.isSome_iff_ne_none] using hall
  rw [Dev.binDone]
  simp only [hb, if_neg hsome]
  rw [Dev.binOuts] at hr
  simp only [hr]
  rfl

theorem Dev.binDone_accepted (hr : firstRefusal (s.binOuts m n slot) = none) :
    s.binDone m n = ((((s.clearBusy n).takeOuts n (s.binOuts m n slot)).showAccepted (s.masterOf n) n).emit
      (.msix (8 + 2 * n + s.masterOf n))).reportWaiting n 1 := by
  have hsome : ¬ (s.diesOf n).any (fun d => (s.half d n).binning.isNone) = true := by
    simpa [Option.isSome_iff_ne_none] using hall
  rw [Dev.binDone]
  simp only [hb, if_neg hsome]
  rw [Dev.binOuts] at hr ⊢
  simp only [hr]
  rfl

end

/-! ## What a report to the sources of the batches leaves alone -/

section
variable (s : Dev) (n r : Nat)

theorem Dev.sendSrcstat_regs (d i : Nat) : (s.sendSrcstat d i).regs = s.regs := by
  unfold Dev.sendSrcstat
  split <;> rfl

theorem Dev.sendSrcstat_halves (d i : Nat) : (s.sendSrcstat d i).halves = s.halves := by
  unfold Dev.sendSrcstat
  split <;> rfl

theorem Dev.reportWaiting_regs : (s.reportWaiting n r).regs = s.regs := by
  refine forAll_keeps Dev.regs (fun v k => ?_) _ s
  dsimp only
  split
  · exact Dev.sendSrcstat_regs _ _ _
  · rfl

theorem Dev.reportWaiting_halves : (s.reportWaiting n r).halves = s.halves := by
  refine forAll_keeps Dev.halves (fun v k => ?_) _ s
  dsimp only
  split
  · exact Dev.sendSrcstat_halves _ _ _
  · rfl

theorem Dev.reportWaiting_rdF (a : Nat) (f : Fld) : (s.reportWaiting n r).rdF a f = s.rdF a f := by
  rw [Dev.rdF, Dev.rd, Dev.reportWaiting_regs, ← Dev.rd, ← Dev.rdF]

theorem Dev.reportWaiting_half (d i : Nat) : (s.reportWaiting n r).half d i = s.half d i := by
  rw [Dev.half, Dev.reportWaiting_halves, ← Dev.half]

end

/-! ## HEAD_GEN_STAT and the halves at the end of binning -/

section
variable (s : Dev) (d : Die) (n : Head)

theorem Dev.clearBusy_busy (hd : d.val ∈ s.diesOf n) :
    (s.clearBusy n).rdF (Reg.HEAD_GEN_STAT d n) F.HEAD_GEN_STAT_BUSY = 0 :=
  (Dev.setGenStat_field _ d n _ (by decide) (by decide) (by decide)).trans (s.setGenStat_same d n 0 (by decide) hd)

theorem Dev.clearBusy_lock (hd : d.val ∈ s.diesOf n) :
    (s.clearBusy n).rdF (Reg.HEAD_GEN_STAT d n) F.HEAD_GEN_STAT_LOCK = 0 := by
  have hd' : d.val ∈ (s.setGenStat n F.HEAD_GEN_STAT_BUSY 0).diesOf n := (s.setGenStat_sameHead n _ _).diesOf ▸ hd
  exact Dev.setGenStat_same _ d n 0 (by decide) hd'

theorem Dev.clearBusy_half (e i : Nat) : (s.clearBusy n).half e i = s.half e i :=
  (Dev.setGenStat_half _ _ _ _ _ _).trans (Dev.setGenStat_half _ _ _ _ _ _)

theorem Dev.clearBusy_sameHead : s.sameHead (s.clearBusy n) n :=
  (s.setGenStat_sameHead n _ _).trans (Dev.setGenStat_sameHead _ _ _ _)

theorem Dev.showOver_genStat (loc : Option (Nat × Nat × Nat × Nat)) (f : Fld) :
    (s.showOver n loc).rdF (Reg.HEAD_GEN_STAT d n) f = s.rdF (Reg.HEAD_GEN_STAT d n) f := by
  unfold Dev.showOver
  split
  · rfl
  · exact forAll_keeps (fun s => s.rdF (Reg.HEAD_GEN_STAT d n) f) (fun s e => Dev.rdF_wr_other _ _ _ _ _ (by
      simp only [Reg.HEAD_GEN_STAT, Reg.HEAD_BIN_OVER, Reg.cd]; omega)) _ s

theorem Dev.showOver_half (loc : Option (Nat × Nat × Nat × Nat)) (e i : Nat) : (s.showOver n loc).half e i = s.half e i := by
  unfold Dev.showOver
  split
  · rfl
  · refine forAll_keeps (fun s => s.half e i) (fun _ _ => ?_) _ s
    rfl

theorem Dev.showOver_sameHead (loc : Option (Nat × Nat × Nat × Nat)) : s.sameHead (s.showOver n loc) n := by
  unfold Dev.showOver
  split
  · exact fun _ _ => rfl
  · exact Dev.forAll_sameHead n.val _ (fun s e _ => s.wr_sameHead _ _ n fun d hd => by
      simp only [Reg.HEAD_BIN_OVER, Reg.HEAD_TACT, Reg.cd]; omega) s

/-- The half of a head on another die is another half. -/
theorem Dev.setHalf_half_die (s : Dev) (d n e : Nat) (x : HalfH) (h : e ≠ d) : (s.setHalf e n x).half d n = s.half d n :=
  s.setHalf_half_other e n d n x (by omega)

theorem Dev.dropBinning_genStat (f : Fld) :
    (s.dropBinning n).rdF (Reg.HEAD_GEN_STAT d n) f = s.rdF (Reg.HEAD_GEN_STAT d n) f := by
  refine forAll_keeps (fun s => s.rdF (Reg.HEAD_GEN_STAT d n) f) (fun _ _ => ?_) _ s
  rfl

theorem Dev.dropBinning_newest : ((s.dropBinning n).half d n).newest = (s.half d n).newest := by
  refine forAll_keeps (fun s => (s.half d n).newest) (fun v e => ?_) _ s
  by_cases he : e = d
  · rw [he, Dev.setHalf_half_same]
  · rw [v.setHalf_half_die d n e _ he]

theorem Dev.dropBinning_binning (hd : d.val ∈ s.diesOf n) : ((s.dropBinning n).half d n).binning = none := by
  refine forAll_establishes (P := fun s => (s.half d n).binning = none) (fun v => ?_) (fun v e hv => ?_) hd s
  · rw [Dev.setHalf_half_same]
  · by_cases he : e = d
    · rw [he, Dev.setHalf_half_same]
    · rw [v.setHalf_half_die d n e _ he, hv]

/-- A generation taken leaves HEAD_GEN_STAT alone. -/
theorem Dev.takeOut_genStat (e : Nat) (x : BinOut) (f : Fld) :
    (s.takeOut n e x).rdF (Reg.HEAD_GEN_STAT d n) f = s.rdF (Reg.HEAD_GEN_STAT d n) f := by
  have hsuper : Reg.HEAD_GEN_STAT d n ≠ Reg.HEAD_GEN_SUPER e n := by simp only [Reg.HEAD_GEN_STAT, Reg.HEAD_GEN_SUPER, Reg.cd]; omega
  have hnewest : Reg.HEAD_GEN_STAT d n ≠ Reg.HEAD_GEN_NEWEST e n := by simp only [Reg.HEAD_GEN_STAT, Reg.HEAD_GEN_NEWEST, Reg.cd]; omega
  have htag : Reg.HEAD_GEN_STAT d n ≠ Reg.HEAD_GEN_TAG e n := by simp only [Reg.HEAD_GEN_STAT, Reg.HEAD_GEN_TAG, Reg.cd]; omega
  unfold Dev.takeOut
  split
  · simp only [Dev.takeGen]
    rw [Dev.rdF_wr_other _ _ _ _ _ htag, Dev.rdF_wr_other _ _ _ _ _ hnewest, Dev.setHalf_rdF]
    split
    · exact Dev.rdF_wr_other _ _ _ _ _ hsuper
    · rfl
  · rfl

theorem Dev.takeGen_half (g : Gen) :
    ((s.takeGen d n g).half d n).newest = g ∧ ((s.takeGen d n g).half d n).binning = none := by
  simp [Dev.takeGen]

theorem Dev.takeGen_half_other (e : Nat) (g : Gen) (h : e ≠ d) : (s.takeGen e n g).half d n = s.half d n := by
  have hkey : 4 * d.val + n.val ≠ 4 * e + n.val := by omega
  simp only [Dev.takeGen, Dev.wr_half]
  rw [Dev.setHalf_half_other _ _ _ _ _ _ hkey]
  split <;> rfl

/-- The dies of a head take what they have binned: each half its own. -/
theorem Dev.takeOuts_half (x : Nat → BinOut) (g : Gen) (hd : d.val ∈ s.diesOf n) (hx : x d = .ok g) :
    ((s.takeOuts n ((s.diesOf n).map x)).half d n).newest = g ∧ ((s.takeOuts n ((s.diesOf n).map x)).half d n).binning = none := by
  have hfold : s.takeOuts n ((s.diesOf n).map x) = forAll (s.diesOf n) s (fun s e => s.takeOut n e (x e)) := by
    rw [Dev.takeOuts, ← List.map_prod_left_eq_zip, forAll, List.foldl_map, forAll]
  have hhere : ∀ v : Dev, v.takeOut n d (x d) = v.takeGen d n g := fun v => by rw [hx]; rfl
  rw [hfold]
  refine forAll_establishes (P := fun s => (s.half d n).newest = g ∧ (s.half d n).binning = none)
    (fun v => ?_) (fun v e hv => ?_) hd s
  · rw [hhere]
    exact v.takeGen_half d n g
  · by_cases he : e = d
    · rw [he, hhere]
      exact v.takeGen_half d n g
    · unfold Dev.takeOut
      split
      · rw [v.takeGen_half_other d n e _ he]
        exact hv
      · exact hv

theorem Dev.takeOuts_genStat (l : List BinOut) (f : Fld) :
    (s.takeOuts n l).rdF (Reg.HEAD_GEN_STAT d n) f = s.rdF (Reg.HEAD_GEN_STAT d n) f := by
  refine forAll_keeps (fun s => s.rdF (Reg.HEAD_GEN_STAT d n) f) (fun v p => ?_) _ s
  exact v.takeOut_genStat d n p.1 p.2 f

theorem Dev.takeGen_sameHead (e : Nat) (g : Gen) : s.sameHead (s.takeGen e n g) n := by
  have hwr : ∀ (v : Dev) (a : Nat) (w : Word), (a = Reg.HEAD_GEN_SUPER e n ∨ a = Reg.HEAD_GEN_NEWEST e n ∨ a = Reg.HEAD_GEN_TAG e n) →
      v.sameHead (v.wr a w) n := fun v a w ha => v.wr_sameHead a w n fun d hd => by
    simp only [Reg.HEAD_GEN_SUPER, Reg.HEAD_GEN_NEWEST, Reg.HEAD_GEN_TAG, Reg.HEAD_TACT, Reg.cd] at ha ⊢; omega
  refine .trans (.trans (.trans ?_ (.of_regs rfl)) (hwr _ _ _ (.inr (.inl rfl)))) (hwr _ _ _ (.inr (.inr rfl)))
  split
  · exact hwr _ _ _ (.inl rfl)
  · exact fun _ _ => rfl

theorem Dev.takeOuts_sameHead (l : List BinOut) : s.sameHead (s.takeOuts n l) n := by
  refine Dev.forAll_sameHead n.val _ (fun v p _ => ?_) s
  unfold Dev.takeOut
  split
  · exact v.takeGen_sameHead n _ _
  · exact fun _ _ => rfl

theorem Dev.showAccepted_half (md e i : Nat) : (s.showAccepted md n).half e i = s.half e i :=
  (Dev.setGenStat_half _ _ _ _ _ _).trans (Dev.setGenStat_half _ _ _ _ _ _)

theorem Dev.showAccepted_result (md : Nat) (hd : d.val ∈ s.diesOf n) :
    (s.showAccepted md n).rdF (Reg.HEAD_GEN_STAT d n) F.HEAD_GEN_STAT_RESULT = 1 :=
  (Dev.setGenStat_field _ d n _ (by decide) (by decide) (by decide)).trans (s.setGenStat_same d n 1 (by decide) hd)

theorem Dev.showAccepted_field (md : Nat) {g : Fld} (hg : g ∈ genStatFlds) (hr : F.HEAD_GEN_STAT_RESULT ≠ g)
    (hs : F.HEAD_GEN_STAT_SKIPPED ≠ g) :
    (s.showAccepted md n).rdF (Reg.HEAD_GEN_STAT d n) g = s.rdF (Reg.HEAD_GEN_STAT d n) g :=
  (Dev.setGenStat_field _ d n _ (by decide) hg hs).trans (Dev.setGenStat_field _ d n _ (by decide) hg hr)

end

/-! ## Generations -/

theorem exec_binningDone (n : Head) (s : State) : exec (.binningDone n) s = .next { s with dev := s.dev.binDone s.mem n } := rfl

section
variable (s : Dev) (d : Die) (n : Head)

/-- What the end of binning leaves on the master die: RESULT `r`, no commit in progress, and the newest generation with number `num`. -/
structure Dev.binned (r num : Nat) : Prop where
  busy : s.rdF (Reg.HEAD_GEN_STAT d n) F.HEAD_GEN_STAT_BUSY = 0
  lock : s.rdF (Reg.HEAD_GEN_STAT d n) F.HEAD_GEN_STAT_LOCK = 0
  binning : (s.half d n).binning = none
  result : s.rdF (Reg.HEAD_GEN_STAT d n) F.HEAD_GEN_STAT_RESULT = r
  newest : (s.half d n).newest.num = num

variable (m : Mems) (slot : Nat)

/-- A commit that a die of the head refuses (R79, R81). -/
theorem Dev.binDone_binned_refused (hd : d.val ∈ s.diesOf n) (hm : s.masterOf n = d) (hb : (s.half d n).binning = some slot)
    (hall : ∀ e ∈ s.diesOf n, (s.half e n).binning.isSome = true) {r : Nat} {loc : Option (Nat × Nat × Nat × Nat)}
    (hr : firstRefusal (s.binOuts m n slot) = some (r, loc)) : (s.binDone m n).binned d n r (s.half d n).newest.num := by
  have hlt : r < 8 := by
    rcases foldl_joinRefusal_eq_some ((firstRefusal_eq _).symm.trans hr) with h | h
    · cases h
    · obtain ⟨e, -, he⟩ := List.mem_map.mp h
      exact binSlot_error_lt he
  have hd' : d.val ∈ ((s.clearBusy n).showOver n loc).diesOf n :=
    ((s.clearBusy_sameHead n).trans (Dev.showOver_sameHead _ n loc)).diesOf ▸ hd
  rw [Dev.binDone_refused (hm ▸ hb) hall hr, hm]
  constructor
  · rw [Dev.reportWaiting_rdF, Dev.refuseCommit_field _ d n r d (by decide) (by decide), Dev.dropBinning_genStat,
      Dev.showOver_genStat, s.clearBusy_busy d n hd]
  · rw [Dev.reportWaiting_rdF, Dev.refuseCommit_field _ d n r d (by decide) (by decide), Dev.dropBinning_genStat,
      Dev.showOver_genStat, s.clearBusy_lock d n hd]
  · rw [Dev.reportWaiting_half, Dev.refuseCommit_half, Dev.dropBinning_binning _ d n hd']
  · rw [Dev.reportWaiting_rdF, Dev.refuseCommit_result _ d n r hlt]
  · rw [Dev.reportWaiting_half, Dev.refuseCommit_half, Dev.dropBinning_newest, Dev.showOver_half, Dev.clearBusy_half]

/-- A commit that every die of the head accepts (R79, R81). -/
theorem Dev.binDone_binned_accepted (hd : d.val ∈ s.diesOf n) (hm : s.masterOf n = d) (hb : (s.half d n).binning = some slot)
    (hall : ∀ e ∈ s.diesOf n, (s.half e n).binning.isSome = true) (hr : firstRefusal (s.binOuts m n slot) = none) :
    (s.binDone m n).binned d n 1 ((s.half d n).newest.num + 1) := by
  obtain ⟨g, hg⟩ : ∃ g, s.binOn m d n slot = .ok g :=
    (foldl_joinRefusal_eq_none ((firstRefusal_eq _).symm.trans hr)).2 _ (List.mem_map_of_mem hd)
  have hnum : g.num = (s.half d n).newest.num + 1 := by rw [binSlot_ok_num hg, hm]
  have hsame := s.clearBusy_sameHead n
  have hd' : d.val ∈ (s.clearBusy n).diesOf n := hsame.diesOf ▸ hd
  have hdt : d.val ∈ ((s.clearBusy n).takeOuts n (s.binOuts m n slot)).diesOf n :=
    (hsame.trans (Dev.takeOuts_sameHead _ n _)).diesOf ▸ hd
  obtain ⟨hnew, hbin⟩ := (s.clearBusy n).takeOuts_half d n (fun e => s.binOn m e n slot) g hd' hg
  have houts : s.binOuts m n slot = ((s.clearBusy n).diesOf n).map (fun e => s.binOn m e n slot) := by rw [hsame.diesOf, Dev.binOuts]
  rw [Dev.binDone_accepted (hm ▸ hb) hall hr]
  constructor
  · rw [Dev.reportWaiting_rdF, Dev.emit_rdF, Dev.showAccepted_field _ d n _ (by decide) (by decide) (by decide),
      Dev.takeOuts_genStat, s.clearBusy_busy d n hd]
  · rw [Dev.reportWaiting_rdF, Dev.emit_rdF, Dev.showAccepted_field _ d n _ (by decide) (by decide) (by decide),
      Dev.takeOuts_genStat, s.clearBusy_lock d n hd]
  · rw [Dev.reportWaiting_half, Dev.emit_half, Dev.showAccepted_half, houts, hbin]
  · rw [Dev.reportWaiting_rdF, Dev.emit_rdF, Dev.showAccepted_result _ d n _ hdt]
  · rw [Dev.reportWaiting_half, Dev.emit_half, Dev.showAccepted_half, houts, hnew, hnum]

theorem Dev.binDone_binned (hd : d.val ∈ s.diesOf n) (hm : s.masterOf n = d)
    (hall : ∀ e ∈ s.diesOf n, (s.half e n).binning.isSome = true) :
    (s.binDone m n).binned d n (((firstRefusal (s.binOuts m n ((s.half d n).binning.getD 0))).map Prod.fst).getD 1)
      ((s.half d n).newest.num + b2n (firstRefusal (s.binOuts m n ((s.half d n).binning.getD 0))).isNone) := by
  obtain ⟨slot, hb⟩ := Option.isSome_iff_exists.mp (hall d hd)
  rw [hb, Option.getD_some]
  cases hr : firstRefusal (s.binOuts m n slot) with
  | none => exact s.binDone_binned_accepted d n m slot hd hm hb hall hr
  | some r => exact s.binDone_binned_refused d n m slot hd hm hb hall hr

end

/-- Settles O20: a commit taken by `Dev.commit_taken`, one refused by `Dev.commit_refused`, the notice by `Dev.notice_taken`, the end of
binning by `Dev.binDone_binned`, and writes of a slot by `Dev.slotWrite_reads_back`. -/
theorem generationsComplete : Obligations.GenerationsComplete := by
  intro d n slot o data s
  refine ⟨fun hc => ?_, fun hc => ?_, fun ⟨hm, hspan, hway, hb⟩ => ?_, fun ⟨hmast, hm, hall⟩ => ?_,
    fun ⟨hup, hused, ho, hlen, hl, hr0, hr1⟩ => ?_, fun ⟨hup, hused, ho, hl⟩ => ?_⟩
  · have hd : d.val ∈ s.dev.diesOf n := (s.dev.mem_diesOf d n).mpr ⟨d.isLt, Dev.usedOn_of_isMaster (Dev.isMaster_of_commitRefusal hc)⟩
    refine ⟨_, exec_headGenCommit d n slot s, ?_⟩
    dsimp only
    rw [s.dev.commit_taken d n _ hc]
    refine ⟨?_, ?_, ?_, ?_⟩
    · rw [Dev.setHalf_rdF, Dev.rdF, Dev.tellOther_rd, ← Dev.rdF, s.dev.markBusy_busy d n _ hd]
    · rw [Dev.setHalf_rdF, Dev.rdF, Dev.tellOther_rd, ← Dev.rdF, s.dev.markBusy_lock d n _ hd]
    · rw [Dev.setHalf_half_same]
    · exact (Dev.tellOther_out _ _ _ _).trans ((Dev.setGenStat_out _ _ _ _).trans (Dev.setGenStat_out _ _ _ _))
  · obtain ⟨r, hr⟩ := Option.isSome_iff_exists.mp hc
    refine ⟨_, exec_headGenCommit d n slot s, ?_⟩
    dsimp only
    rw [s.dev.commit_refused d n _ r hr, hr, Option.getD_some]
    refine ⟨s.dev.refuseCommit_result d n r (s.dev.commitRefusal_lt d n r hr), rfl, ?_⟩
    rw [s.dev.refuseCommit_half d n r]
  · refine ⟨_, exec_commitNotice n s, ?_⟩
    dsimp only
    rw [s.dev.notice_taken n d _ hm hspan hway hb, Dev.setHalf_half_same]
  · have hd : d.val ∈ s.dev.diesOf n := (s.dev.mem_diesOf d n).mpr ⟨d.isLt, Dev.usedOn_of_isMaster hmast⟩
    obtain ⟨hbusy, hlock, hbin, hres, hnew⟩ := s.dev.binDone_binned d n s.mem hd hm hall
    exact ⟨_, exec_binningDone n s, hbusy, hlock, hbin, hres, hnew⟩
  · have hr : ∀ e, e < 2 → s.dev.drcRole e = 0 := fun e he => by
      rcases (by omega : e = 0 ∨ e = 1) with rfl | rfl <;> assumption
    refine ⟨_, congrArg Host.Outcome.next (s.staging_open n slot o data ho hup hused hl), fun e he => ?_, rfl, ?_⟩
    · exact s.dev.slotWrite_reads_back s.mem n slot o data hr hlen _ (fun d => s.dev.afterSlotWrite_drcRole _ n _ o _ d) e he
    · dsimp only
      rw [Dev.slotWrite_others]
  · exact ⟨_, congrArg Host.Outcome.next (s.staging_locked n slot o data ho hup hused hl), rfl, rfl⟩

end Sys2Proof.Machine
end

section
/-! SUPPORT. Spans and pipes (R62 to R65, R84, R126): what a finished span stores, what a bin-memory error marks, and the loss of a
pipe. -/

namespace Sys2Proof.Machine

/-! ## What the pipe arrays and the request tables leave alone -/

section
variable {β : Type} (g : Dev → β)

/-- What writes of the pipe arrays keep, dispatch keeps. -/
theorem Dev.dispatch_keeps (h : ∀ (s : Dev) d x, g (s.setPipes d x) = g s) (s : Dev) (d : Nat) : g (s.dispatch d) = g s := by
  refine forAll_keeps g (fun v p => ?_) _ s
  dsimp only
  split
  · split
    · exact h _ _ _
    · rfl
  · rfl

theorem Dev.freePipe_keeps (h : ∀ (s : Dev) d x, g (s.setPipes d x) = g s) (s : Dev) (d p : Nat) : g (s.freePipe d p) = g s :=
  (Dev.dispatch_keeps g h _ d).trans (h _ _ _)

/-- What writes of the request tables and their counts keep, promotion keeps (R210). -/
theorem Dev.promote_keeps (h : ∀ (s : Dev) d x, g (s.setDrc d x) = g s)
    (hc : ∀ (s : Dev) d (p : Fin 7) k, g (s.addR (Reg.DRC_PORT_ESC d p) k) = g s) (s : Dev) (d : Nat) : g (s.promote d) = g s := by
  have hnote : ∀ (v : Dev) e, g (v.noteUrgent e) = g v := fun v e => by
    refine (forAll_keeps g (fun w x => ?_) _ _).trans (h v e _)
    exact hc w e x.port 1
  have hdie : ∀ (v : Dev) e, g (v.promoteDie e) = g v := fun v e => (hnote _ e).trans (h v e _)
  exact (hdie _ _).trans (hdie _ _)

end

section
variable (s : Dev) (d p : Nat)

theorem Dev.freePipe_spans : (s.freePipe d p).spans = s.spans := Dev.freePipe_keeps Dev.spans (fun _ _ _ => rfl) s d p
theorem Dev.freePipe_halves : (s.freePipe d p).halves = s.halves := Dev.freePipe_keeps Dev.halves (fun _ _ _ => rfl) s d p
theorem Dev.dispatch_regs : (s.dispatch d).regs = s.regs := Dev.dispatch_keeps Dev.regs (fun _ _ _ => rfl) s d
theorem Dev.promote_spans : (s.promote d).spans = s.spans := Dev.promote_keeps Dev.spans (fun _ _ _ => rfl) (fun _ _ _ _ => rfl) s d
theorem Dev.promote_halves : (s.promote d).halves = s.halves := Dev.promote_keeps Dev.halves (fun _ _ _ => rfl) (fun _ _ _ _ => rfl) s d

end

/-! ## A finished span -/

theorem exec_spanDone (d : Die) (p : Fin 4) (binErr : Bool) (s : State) :
    exec (.spanDone d p binErr) s = .next { s with dev := (s.dev.finishSpan s.mem d p binErr).promote d } := rfl

/-- A value put in a map is found under its key. -/
theorem SMap.lookup_put {α : Type} [DecidableEq α] (df : Nat → α) (m : SMap α) (k : Nat) (v : α) (h : v ≠ df k) :
    (SMap.put df m k v).lookup k = some v := by
  induction m with
  | nil => simp [SMap.put, h]
  | cons e m ih =>
    obtain ⟨j, w⟩ := e
    by_cases hj : k = j
    · simp [SMap.put, hj, hj ▸ h]
    · by_cases hl : k < j
      · simp [SMap.put, hj, hl, h]
      · simp [SMap.put, hj, hl, List.lookup_cons, beq_false_of_ne hj, ih]

/-- A span passes into the line buffer, and its drives into the sum of the frame. -/
def Dev.storeSpan (s : Dev) (d : Nat) (sp : Span) (px : List (Nat × Nat)) : Dev :=
  Dev.setHalf { s with spans := s.spans.put (fun _ => []) (spanKey d sp.tile sp.line sp.span) (px.map Prod.snd) } d sp.head
    { s.half d sp.head with sumD := (s.half d sp.head).sumD + (px.map Prod.fst).sum }

theorem Dev.storeSpan_spanCodes (s : Dev) (d : Nat) (sp : Span) (px : List (Nat × Nat)) (h : px ≠ []) :
    (s.storeSpan d sp px).spanCodes d sp.tile sp.line sp.span = some (px.map Prod.snd) :=
  SMap.lookup_put _ _ _ _ (by simpa using h)

theorem Dev.spanPixels_ne_nil (s : Dev) (m : Mems) (d : Nat) (sp : Span) (b : Band) (row : List Nat) : s.spanPixels m d sp b row ≠ [] := by
  simp [Dev.spanPixels]

section
variable {s : Dev} {m : Mems} {d p : Nat} {sp : Span} {b : Band} (hsp : (s.pipes d).pipes.getD p none = some sp)
  (hlive : sp.live = true) (hcomp : (s.half d sp.head).composing = true) (hband : (s.half d sp.head).bandOf sp.line = some b)
include hsp hlive hcomp hband

/-- A finished span is dropped in a band that sends background, marks its band at a bin-memory error, waits for a slot of the line buffer,
lacks its coefficient row, or is stored (R63, R84, R126, R142). -/
theorem Dev.finishSpan_eq (binErr : Bool) :
    s.finishSpan m d p binErr =
      if binErr then (s.binError d sp.head sp.line).freePipe d p
      else if b.bg.any (fun l => decide (l ≤ sp.line)) then s.freePipe d p
      else if (!(s.slotsTaken d sp.tile).contains sp.line) = true ∧
          16 ≤ (s.slotsTaken d sp.tile).length + b2n (s.lane d sp.tile).sending then s
      else match s.coefRow d sp.tile (sp.line % 512) with
        | none => (s.raise (Reg.PHO_FLT_STAT d) B.PHO_ROW_LATE).freePipe d p
        | some row => (s.storeSpan d sp (s.spanPixels m d sp b row)).freePipe d p := by
  have hgo : ¬ ((!sp.live) = true ∨ (!(s.half d sp.head).composing) = true) := by simp [hlive, hcomp]
  rw [Dev.finishSpan, hsp]
  simp only [if_neg hgo, hband]
  cases b.bg <;> rfl

theorem Dev.finishSpan_stored {row : List Nat} (hbg : b.bg = none) (hrow : s.coefRow d sp.tile (sp.line % 512) = some row)
    (hslot : (s.slotsTaken d sp.tile).contains sp.line = true ∨
      (s.slotsTaken d sp.tile).length + b2n (s.lane d sp.tile).sending < 16) :
    s.finishSpan m d p false = (s.storeSpan d sp (s.spanPixels m d sp b row)).freePipe d p := by
  have hfree : ¬ ((!(s.slotsTaken d sp.tile).contains sp.line) = true ∧
      16 ≤ (s.slotsTaken d sp.tile).length + b2n (s.lane d sp.tile).sending) := by
    rintro ⟨hnot, hfull⟩
    rcases hslot with h | h
    · rw [h] at hnot
      cases hnot
    · omega
  rw [Dev.finishSpan_eq hsp hlive hcomp hband, hbg, if_neg (by decide), if_neg (by simp), if_neg hfree, hrow]

theorem Dev.finishSpan_error : s.finishSpan m d p true = (s.binError d sp.head sp.line).freePipe d p := by
  rw [Dev.finishSpan_eq hsp hlive hcomp hband, if_pos rfl]

theorem Dev.finishSpan_background (hbg : b.bg.any (fun l => decide (l ≤ sp.line)) = true) :
    s.finishSpan m d p false = s.freePipe d p := by
  rw [Dev.finishSpan_eq hsp hlive hcomp hband, if_neg (by decide), if_pos hbg]

end

/-! ## A bin-memory error -/

/-- Dies reach each other as before where the power die state, the power register and the bridge links stay (R17). -/
theorem Dev.dieWay_congr {s t : Dev} (hpwr : t.pwr = s.pwr) (hpow : t.rd Reg.VSP_PWR_STAT = s.rd Reg.VSP_PWR_STAT)
    (hbrg : t.rd (Reg.FAB_BRG_STAT 0) = s.rd (Reg.FAB_BRG_STAT 0)) (e : Nat) : t.dieWay e = s.dieWay e := by
  funext d
  simp only [Dev.dieWay, Dev.cdUp, Dev.power, Dev.rdF, Dev.linksUp, Dev.links, Dev.rdB, hpwr, hpow, hbrg]

/-- BIN_ECC raised on the die of the error, and the news of it on the bridge (R84). -/
def Dev.tellBinError (s : Dev) (d n : Nat) : Dev :=
  (s.raise (Reg.HEAD_CMP_FLT_STAT d n) B.HEAD_CMP_BIN_ECC).tellOther d n 0

/-- A half marks its newest generation as bad. -/
def Dev.markBad (n line : Nat) (s : Dev) (e : Nat) : Dev :=
  s.setHalf e n { s.half e n with badGen := some (s.half e n).newest.num, bands := (s.half e n).bands.map (fun b => b.spoil line) }

theorem Dev.binError_eq (s : Dev) (d n line : Nat) :
    s.binError d n line =
      forAll (((s.tellBinError d n).diesOf n).filter ((s.tellBinError d n).dieWay d)) (s.tellBinError d n) (Dev.markBad n line) := rfl

section
variable (s : Dev) (d n : Nat)

theorem Dev.tellBinError_half (e i : Nat) : (s.tellBinError d n).half e i = s.half e i := by
  rw [Dev.tellBinError, Dev.tellOther_half, Dev.raise_half]

theorem Dev.tellBinError_pwr : (s.tellBinError d n).pwr = s.pwr := by
  rw [Dev.tellBinError, Dev.tellOther_pwr, Dev.raise_pwr]

theorem Dev.tellBinError_rd (b : Nat) (h : faultReg b = false) (hb : b ≠ Reg.HEAD_CMP_FLT_STAT d n) :
    (s.tellBinError d n).rd b = s.rd b := by
  rw [Dev.tellBinError, Dev.tellOther_rd, Dev.raise_rd _ _ _ _ h hb]

theorem Dev.tellBinError_sameHead : s.sameHead (s.tellBinError d n) n := fun e _ =>
  s.tellBinError_rd d n _ (faultReg_HEAD_TACT e n) (by simp only [Reg.HEAD_TACT, Reg.HEAD_CMP_FLT_STAT, Reg.cd]; omega)

theorem Dev.tellBinError_dieWay : (s.tellBinError d n).dieWay d = s.dieWay d := by
  refine Dev.dieWay_congr (s.tellBinError_pwr d n) (s.tellBinError_rd d n _ ?_ ?_) (s.tellBinError_rd d n _ ?_ ?_) d
  · exact faultReg_vesper _ (by decide) (by decide)
  · simp only [Reg.VSP_PWR_STAT, Reg.HEAD_CMP_FLT_STAT, Reg.cd]; omega
  · exact faultReg_eq_false _ (by decide) (by decide)
  · simp only [Reg.FAB_BRG_STAT, Reg.HEAD_CMP_FLT_STAT, Reg.cd]; omega

theorem Dev.markBad_newest (line e b : Nat) : ((s.markBad n line b).half e n).newest = (s.half e n).newest := by
  unfold Dev.markBad
  by_cases h : b = e
  · rw [h, Dev.setHalf_half_same]
  · rw [s.setHalf_half_die e n b _ h]

/-- A bin-memory error marks the newest generation as bad on every die of the head that is reached (R84). -/
theorem Dev.binError_badGen (line e : Nat) (he : e ∈ s.diesOf n) (hway : s.dieWay d e = true) :
    ((s.binError d n line).half e n).badGen = some (s.half e n).newest.num := by
  have hmem : e ∈ ((s.tellBinError d n).diesOf n).filter ((s.tellBinError d n).dieWay d) := by
    rw [(s.tellBinError_sameHead d n).diesOf, s.tellBinError_dieWay]
    exact List.mem_filter.mpr ⟨he, hway⟩
  have hhere : ∀ v : Dev, ((v.markBad n line e).half e n).badGen = some ((v.markBad n line e).half e n).newest.num := fun v => by
    rw [v.markBad_newest n line e e, Dev.markBad, Dev.setHalf_half_same]
  have hbad : ((s.binError d n line).half e n).badGen = some ((s.binError d n line).half e n).newest.num := by
    rw [Dev.binError_eq]
    refine forAll_establishes (P := fun v => (v.half e n).badGen = some (v.half e n).newest.num) hhere (fun v b hv => ?_) hmem _
    by_cases hb : b = e
    · exact hb ▸ hhere v
    · rw [Dev.markBad, v.setHalf_half_die e n b _ hb]
      exact hv
  have hnew : ((s.binError d n line).half e n).newest = (s.half e n).newest := by
    rw [Dev.binError_eq, forAll_keeps (fun v => (v.half e n).newest) (fun v b => v.markBad_newest n line e b),
      Dev.tellBinError_half]
  rw [hbad, hnew]

end

/-! ## The loss of a pipe -/

theorem exec_pipeFail (d : Die) (p : Fin 4) (s : State) : exec (.pipeFail d p) s = .next { s with dev := s.dev.pipeFail d p } := rfl

theorem Dev.enqueue_regs (s : Dev) (d t : Nat) (p : Pkt) : (s.enqueue d t p).regs = s.regs := by
  unfold Dev.enqueue Dev.offer
  split
  · rfl
  · split <;> rfl

section
variable (s : Dev) (d : Nat) (c : SafeCause) {b : Nat} (hb : ∀ t, b ≠ Reg.LANE_TILE_STAT d t)
include hb

theorem Dev.safeFill_rd (t : Nat) : (s.safeFill d t c).rd b = s.rd b := by
  have hqueue : ∀ v : Dev, (v.queueSafe d t).rd b = v.rd b := fun v => by
    rw [Dev.rd, Dev.queueSafe, Dev.enqueue_regs, Dev.rd]
  unfold Dev.safeFill
  exact Dev.rd_ite _ _ _ _ _ ((hqueue _).trans (Dev.rd_wrF_other _ _ _ _ _ (hb t))) (Dev.rd_ite _ _ _ _ _ (hqueue _) rfl)

/-- A die whose composition stops writes no register but the states of its tiles. -/
theorem Dev.stopDie_rd : (s.stopDie d c).rd b = s.rd b := by
  refine (forAll_keeps (fun s => s.rd b) (fun v t => v.safeFill_rd d c hb t) _ _).trans ?_
  refine forAll_keeps (fun s => s.rd b) (fun v n => ?_) _ s
  rfl

end

/-- A cause that becomes present leaves the other causes of its triple as they are. -/
theorem Dev.causeOn_other_cause (s : Dev) (a k i : Nat) (hk : k < 32) (hi : i ≠ k) (h : faultReg (a + 8) = false)
    (hm : bitOf (regMask (a + 8)) i = true) : (s.causeOn a k).rdB (a + 8) i = s.rdB (a + 8) i := by
  have hraise := Dev.raise_rd (s.wrB (a + 8) k true) a k (a + 8) h (by omega)
  rw [Dev.rdB, Dev.causeOn]
  exact (congrArg (bitOf · i) hraise).trans (by rw [← Dev.rdB, Dev.rdB_wrB _ _ _ _ _ _ hk, if_pos rfl, if_neg hi, hm, Bool.and_true])

/-- Pipe `p` of die `d` is out of service, and its cause is present. -/
def Dev.pipeLost (s : Dev) (d : Die) (p : Fin 4) : Prop := s.pipeOk d p = false ∧ s.rdB (Reg.FAB_PIPE_FLT_CAUSE d) p = true

theorem Reg.FAB_PIPE_FLT_CAUSE_eq (d : Nat) : Reg.FAB_PIPE_FLT_CAUSE d = Reg.FAB_PIPE_FLT_STAT d + 8 := rfl

theorem pipeRegs_plain : ∀ d : Die, faultReg (Reg.FAB_PIPE_STAT d) = false ∧ faultReg (Reg.FAB_PIPE_FLT_CAUSE d) = false ∧
    (∀ p : Fin 4, bitOf (regMask (Reg.FAB_PIPE_FLT_CAUSE d)) p = true) := by decide

section
variable {s t : Dev} {d : Die} {p : Fin 4}

theorem Dev.pipeLost.congr (h : s.pipeLost d p) (hs : t.rd (Reg.FAB_PIPE_STAT d) = s.rd (Reg.FAB_PIPE_STAT d))
    (hc : t.rd (Reg.FAB_PIPE_FLT_CAUSE d) = s.rd (Reg.FAB_PIPE_FLT_CAUSE d)) : t.pipeLost d p := by
  obtain ⟨hok, hcause⟩ := h
  exact ⟨by rw [Dev.pipeOk, Dev.rdB, hs]; exact hok, by rw [Dev.rdB, hc]; exact hcause⟩

/-- The pipe leaves service, and its cause becomes present (R65). -/
theorem Dev.pipeLost_of_causeOn (s : Dev) (d : Die) (p : Fin 4) :
    ((s.wrB (Reg.FAB_PIPE_STAT d) p false).causeOn (Reg.FAB_PIPE_FLT_STAT d) p).pipeLost d p := by
  obtain ⟨hstat, hcause, hm⟩ := pipeRegs_plain d
  refine ⟨?_, ?_⟩
  · rw [Dev.pipeOk, Dev.rdB, Dev.causeOn_rd _ _ _ _ hstat (by simp only [Reg.FAB_PIPE_STAT, Reg.FAB_PIPE_FLT_STAT]; omega)
      (by simp only [Reg.FAB_PIPE_STAT, Reg.FAB_PIPE_FLT_STAT]; omega), ← Dev.rdB, Dev.rdB_wrB _ _ _ _ _ _ (by omega)]
    simp
  · rw [Reg.FAB_PIPE_FLT_CAUSE_eq] at hcause hm ⊢
    exact Dev.causeOn_cause _ _ _ (by omega) (hm p) hcause

/-- The second loss leaves the first one's cause present. -/
theorem Dev.pipeLost.second (h : s.pipeLost d p) : (s.causeOn (Reg.FAB_PIPE_FLT_STAT d) B.FAB_PIPE_SECOND).pipeLost d p := by
  obtain ⟨hok, hpresent⟩ := h
  obtain ⟨hstat, hcause, hm⟩ := pipeRegs_plain d
  refine ⟨?_, ?_⟩
  · rw [Dev.pipeOk, Dev.rdB, Dev.causeOn_rd _ _ _ _ hstat (by simp only [Reg.FAB_PIPE_STAT, Reg.FAB_PIPE_FLT_STAT]; omega)
      (by simp only [Reg.FAB_PIPE_STAT, Reg.FAB_PIPE_FLT_STAT]; omega)]
    exact hok
  · rw [Reg.FAB_PIPE_FLT_CAUSE_eq] at hcause hm hpresent ⊢
    rw [s.causeOn_other_cause _ _ p (by decide) (by have := p.isLt; simp only [B.FAB_PIPE_SECOND]; omega) hcause (hm p), hpresent]

theorem Dev.pipeLost.stopDie (h : s.pipeLost d p) (c : SafeCause) : (s.stopDie d c).pipeLost d p :=
  h.congr (s.stopDie_rd d c fun t => by simp only [Reg.FAB_PIPE_STAT, Reg.LANE_TILE_STAT]; omega)
    (s.stopDie_rd d c fun t => by simp only [Reg.FAB_PIPE_FLT_CAUSE, Reg.LANE_TILE_STAT]; omega)

theorem Dev.pipeLost.dispatch (h : s.pipeLost d p) (x : DieH) (e : Nat) : ((s.setPipes e x).dispatch e).pipeLost d p :=
  h.congr (by rw [Dev.rd, Dev.dispatch_regs]; rfl) (by rw [Dev.rd, Dev.dispatch_regs]; rfl)

end

/-- The loss of a pipe in service takes it out, whether or not the die goes on composing (R65). -/
theorem Dev.pipeLoss_pipeLost (s : Dev) (d : Die) (p : Fin 4) (hok : s.pipeOk d p = true) : (s.pipeLoss d p).pipeLost d p := by
  rw [Dev.pipeLoss, if_neg (by rw [hok]; decide)]
  refine iteInduction (motive := fun v => Dev.pipeLost v d p) (fun _ => ?_) (fun _ => ?_)
  · exact (((s.pipeLost_of_causeOn d p).dispatch _ _).second).stopDie _
  · exact (s.pipeLost_of_causeOn d p).dispatch _ _

theorem Dev.pipeFail_eq_pipeLoss (s : Dev) (d p : Nat) (hs : s.inSlice d (blockId (d + 1) 4 (0x10 + p)) = false)
    (hm : (s.pipeMask d p).isSome = false) : s.pipeFail d p = s.pipeLoss d p := by
  have hnone : s.pipeMask d p = none := by simpa using hm
  rw [Dev.pipeFail, if_neg (by rw [hs]; decide), hnone]

end Sys2Proof.Machine
end

section
/-! SUPPORT. The release of a line to the tiles of a head half (R134, R135, R142, R143): what each LOCKED tile is sent, and the count of
underruns. -/

namespace Sys2Proof.Machine

/-! ## Work that goes on -/

/-- From `s` to `t` the registers in `P` stay as they are, and more may have been sent. -/
structure Dev.goesOn (P : Nat → Prop) (s t : Dev) : Prop where
  rd : ∀ b, P b → t.rd b = s.rd b
  out : s.out <:+ t.out

section
variable {P Q : Nat → Prop} {s t u : Dev}

theorem Dev.goesOn.of_eq (h : t.regs = s.regs) (ho : t.out = s.out) : s.goesOn P t :=
  ⟨fun b _ => by rw [Dev.rd, h, Dev.rd], by rw [ho]⟩

theorem Dev.goesOn.refl (s : Dev) : s.goesOn P s := ⟨fun _ _ => rfl, List.suffix_rfl⟩

theorem Dev.goesOn.trans (h : s.goesOn P t) (g : t.goesOn P u) : s.goesOn P u :=
  ⟨fun b hb => (g.rd b hb).trans (h.rd b hb), h.out.trans g.out⟩

theorem Dev.goesOn.mono (h : s.goesOn P t) (hQ : ∀ b, Q b → P b) : s.goesOn Q t := ⟨fun b hb => h.rd b (hQ b hb), h.out⟩

theorem Dev.goesOn.ite {c : Prop} [Decidable c] (h : s.goesOn P t) (g : s.goesOn P u) : s.goesOn P (if c then t else u) := by
  split <;> assumption

theorem Dev.goesOn.forAll {α : Type} {f : Dev → α → Dev} {l : List α} (h : ∀ s, ∀ a ∈ l, Dev.goesOn P s (f s a)) (s : Dev) :
    s.goesOn P (Machine.forAll l s f) := by
  induction l generalizing s with
  | nil => exact .refl s
  | cons a l ih => exact (h s a List.mem_cons_self).trans (ih (fun s b hb => h s b (List.mem_cons_of_mem a hb)) (f s a))

theorem Dev.goesOn.sent (h : s.goesOn P t) {m : OutMsg} (hm : m ∈ s.out) : m ∈ t.out := h.out.mem hm

end

section
variable (s : Dev)

theorem Dev.eventWay_out (c a : Nat) : s.out <:+ (s.eventWay c a).out := by
  unfold Dev.eventWay
  split
  · rw [Dev.brgSend_out]
  · split
    · unfold Dev.dcSend
      split
      · exact List.suffix_cons _ _
      · exact List.suffix_rfl
    · exact List.suffix_rfl

theorem Dev.out_suffix_ite {s t u : Dev} (c : Prop) [Decidable c] (h : s.out <:+ t.out) (g : s.out <:+ u.out) :
    s.out <:+ (if c then t else u).out := by
  split <;> assumption

theorem Dev.event_out (a : Nat) : s.out <:+ (s.event a).out := by
  have hway : s.out <:+ ((s.eventWay (clusterOf a) a).emit (.msix (vectorOf a))).out :=
    (s.eventWay_out (clusterOf a) a).trans (List.suffix_cons _ _)
  exact Dev.out_suffix_ite _ (Dev.out_suffix_ite _ hway hway) hway

theorem Dev.latchFault_out (a k : Nat) : s.out <:+ (s.latchFault a k).out := by
  unfold Dev.latchFault
  split
  · exact Dev.event_out (s.wrB a k true) a
  · exact List.suffix_rfl

theorem Dev.logConsequence_out (c w : Nat) : s.out <:+ (s.logConsequence c w).out := by
  unfold Dev.logConsequence
  dsimp only
  split
  · exact .trans (by rw [Dev.addR_out, Dev.wrF_out, Dev.wr_out]) (Dev.latchFault_out _ _ _)
  · exact List.suffix_rfl

theorem Dev.raise_out (a k : Nat) : s.out <:+ (s.raise a k).out := by
  unfold Dev.raise Dev.unlessMasked
  split
  · exact s.latchFault_out a k
  · split
    · exact s.latchFault_out a k
    · split
      · exact s.logConsequence_out _ _
      · exact List.suffix_rfl

end

section
variable {P : Nat → Prop} {s t : Dev} (h : s.goesOn P t)
include h

theorem Dev.goesOn.wr (a : Nat) (v : Word) (ha : ¬ P a) : s.goesOn P (t.wr a v) :=
  h.trans ⟨fun _ hb => Dev.rd_wr_other _ _ _ _ fun e => ha (e ▸ hb), List.suffix_rfl⟩

theorem Dev.goesOn.emit (m : OutMsg) : s.goesOn P (t.emit m) := h.trans ⟨fun _ _ => rfl, List.suffix_cons _ _⟩

theorem Dev.goesOn.setHalf (d n : Nat) (x : HalfH) : s.goesOn P (t.setHalf d n x) := h.trans (.of_eq rfl rfl)

theorem Dev.goesOn.setPipes (d : Nat) (x : DieH) : s.goesOn P (t.setPipes d x) := h.trans (.of_eq rfl rfl)

theorem Dev.goesOn.setLane (d n : Nat) (x : LaneH) : s.goesOn P (t.setLane d n x) := h.trans (.of_eq rfl rfl)

theorem Dev.goesOn.laneSend (d n : Nat) (p : Pkt) : s.goesOn P (t.laneSend d n p) := (h.setLane d n _).emit _

/-- A fault goes on with work that watches neither its status register nor those of fault reporting. -/
theorem Dev.goesOn.raise (a k : Nat) (hP : ∀ b, P b → faultReg b = false) (ha : ¬ P a) : s.goesOn P (t.raise a k) :=
  h.trans ⟨fun b hb => t.raise_rd a k b (hP b hb) fun e => ha (e ▸ hb), t.raise_out a k⟩

theorem Dev.goesOn.causeOff (a k : Nat) (hc : ¬ P (a + 8)) : s.goesOn P (t.causeOff a k) := h.wr (a + 8) _ hc

theorem Dev.goesOn.causeIs (a k : Nat) (x : Bool) (hP : ∀ b, P b → faultReg b = false) (ha : ¬ P a) (hc : ¬ P (a + 8)) :
    s.goesOn P (t.causeIs a k x) := by
  cases x
  · exact h.causeOff a k hc
  · exact (h.wr (a + 8) _ hc).raise a k hP ha

end

/-! ## The registers that a release reads -/

/-- The registers of half `n` of die `d` that a release reads: line and phase, the frame, the background and the states of the lanes. -/
def lineReg (d n b : Nat) : Prop :=
  b = Reg.HEAD_TSTAT d n ∨ b = Reg.HEAD_FRAME d n ∨ b = Reg.HEAD_BG d n ∨
    (Reg.cd d + 0x10000 ≤ b ∧ b < Reg.cd d + 0x18000 ∧ b % 0x1000 = 8)

/-- With them the count of underruns. -/
def timeReg (d n b : Nat) : Prop := lineReg d n b ∨ b = Reg.HEAD_URCNT d n

section
variable (d : Die) (n : Head)

theorem timeReg_fault (b : Nat) (h : timeReg d n b) : faultReg b = false := by
  simp only [timeReg, lineReg, Reg.HEAD_TSTAT, Reg.HEAD_FRAME, Reg.HEAD_BG, Reg.HEAD_URCNT, Reg.cd] at h
  exact faultReg_eq_false b (by omega) (by omega)

theorem timeReg_unsnooped (b : Nat) (h : timeReg d n b) : Reg.unsnooped b := by
  intro e u hu
  simp only [timeReg, lineReg, Reg.HEAD_TSTAT, Reg.HEAD_FRAME, Reg.HEAD_BG, Reg.HEAD_URCNT, Reg.CRC_VALUE, Reg.CRC_CNT, Reg.cd] at h ⊢
  omega

theorem lineReg_laneStat (q : Nat) (hq : q < 8) : lineReg d n (Reg.LANE_STAT d q) := by
  simp only [lineReg, Reg.LANE_STAT, Reg.cd]
  omega

end

theorem urcnt_not_lineReg (d : Die) (n : Head) : ¬ lineReg d n (Reg.HEAD_URCNT d n) := by
  simp only [lineReg, Reg.HEAD_TSTAT, Reg.HEAD_FRAME, Reg.HEAD_BG, Reg.HEAD_URCNT, Reg.cd]
  omega

theorem regMask_urcnt : ∀ (d : Die) (n : Head), regMask (Reg.HEAD_URCNT d n) = 0xFFFFFFFF#32 := by decide

/-! ## A line packet -/

section
variable (s : Dev) (d : Die) (n : Head) (t k : Nat) (ur : Bool) (codes : List Nat)

/-- What writes of registers and of the check-value units keep, snooped bytes keep. -/
theorem Dev.snoopUnit_keeps {β : Type} (g : Dev → β) (hr : ∀ (s : Dev) a v, g (s.wr a v) = g s)
    (hc : ∀ (s : Dev) e u x, g (s.setCrc e u x) = g s) (e u : Nat) (bs : List Byte) : g (s.snoopUnit e u bs) = g s := by
  have hfeed : ∀ w : Dev, g (w.crcFeed e u bs) = g w := fun w => (hr _ _ _).trans (hr _ _ _)
  have hrestart : ∀ w : Dev, g (w.crcRestart e u) = g w := fun w => (hr _ _ _).trans (hr _ _ _)
  unfold Dev.snoopUnit
  split
  · rfl
  · dsimp only
    rw [hfeed]
    split
    · exact (hc _ _ _ _).trans (hrestart s)
    · rfl

/-- The check-value units that watch a lane change no register that a release reads, and send nothing. -/
theorem Dev.snoopTile_goesOn (payload : List Byte) (whole : Bool) : s.goesOn (timeReg d n) (s.snoopTile d t k payload whole) := by
  refine Dev.goesOn.forAll (fun v u hu => ?_) s
  have hu : u < 8 := s.watchersOfSrc_lt d 1 _ u hu
  refine .ite (.ite ⟨fun b hb => ?_, ?_⟩ ?_) (.refl v)
  · exact v.snoopUnit_rd (timeReg_unsnooped d n b hb) d u hu _
  · rw [v.snoopUnit_keeps Dev.out (fun _ _ _ => rfl) (fun _ _ _ _ => rfl)]
  · exact .of_eq rfl rfl

theorem Dev.snoopTile_keeps {β : Type} (g : Dev → β) (hr : ∀ (s : Dev) a v, g (s.wr a v) = g s)
    (hc : ∀ (s : Dev) e u x, g (s.setCrc e u x) = g s) (payload : List Byte) (whole : Bool) :
    g (s.snoopTile d t k payload whole) = g s := by
  refine forAll_keeps g (fun v u => ?_) _ s
  dsimp only
  split
  · split
    · exact v.snoopUnit_keeps g hr hc _ _ _
    · exact hc _ _ _ _
  · rfl

/-- What a lane takes of a line packet at its release (R135). -/
theorem Dev.sendLine_eq (whole : Bool) :
    s.sendLine d n t k ur whole codes =
      let v := s.snoopTile d t (k % 512) (packCodes codes) whole
      if v.locked d t then
        (v.setLane d t { v.lane d t with sending := true }).laneSend d t (.line ur (k % 512) (v.rd (Reg.HEAD_FRAME d n)).toNat codes)
      else v.addR (Reg.LANE_DROPCNT d t) 1 := rfl

theorem Dev.goesOn.locked {s u : Dev} (h : s.goesOn (lineReg d n) u) (q : Nat) (hq : q < 8) : u.locked d q = s.locked d q := by
  rw [Dev.locked, Dev.laneState, Dev.rdF, h.rd _ (lineReg_laneStat d n q hq)]
  rfl

theorem Dev.sendLine_goesOn (whole : Bool) (ht : t < 8) : s.goesOn (timeReg d n) (s.sendLine d n t k ur whole codes) := by
  rw [Dev.sendLine_eq]
  have hsnoop := s.snoopTile_goesOn d n t (k % 512) (packCodes codes) whole
  dsimp only
  refine .ite ?_ (hsnoop.wr _ _ ?_)
  · exact (hsnoop.setLane d t _).laneSend d t _
  · simp only [timeReg, lineReg, Reg.HEAD_TSTAT, Reg.HEAD_FRAME, Reg.HEAD_BG, Reg.HEAD_URCNT, Reg.LANE_DROPCNT, Reg.cd]
    omega

theorem Dev.sendLine_sends (whole : Bool) (ht : t < 8) (hl : s.locked d t = true) :
    .lane d t (.line ur (k % 512) (s.rd (Reg.HEAD_FRAME d n)).toNat codes) ∈ (s.sendLine d n t k ur whole codes).out := by
  have hsnoop := (s.snoopTile_goesOn d n t (k % 512) (packCodes codes) whole).mono (Q := lineReg d n) fun b hb => .inl hb
  rw [Dev.sendLine_eq]
  dsimp only
  rw [if_pos ((hsnoop.locked d n t ht).trans hl), hsnoop.rd _ (.inr (.inl rfl))]
  exact List.mem_cons_self

theorem Dev.sendLine_keeps {β : Type} (g : Dev → β) (hr : ∀ (s : Dev) a v, g (s.wr a v) = g s)
    (hc : ∀ (s : Dev) e u x, g (s.setCrc e u x) = g s) (hl : ∀ (s : Dev) e u x, g (s.setLane e u x) = g s)
    (ho : ∀ (s : Dev) m, g (s.emit m) = g s) (whole : Bool) : g (s.sendLine d n t k ur whole codes) = g s := by
  rw [Dev.sendLine_eq]
  dsimp only
  split
  · exact (ho _ _).trans ((hl _ _ _ _).trans ((hl _ _ _ _).trans (s.snoopTile_keeps d t _ g hr hc _ _)))
  · exact (hr _ _ _).trans (s.snoopTile_keeps d t _ g hr hc _ _)

theorem Dev.sendLine_spans (whole : Bool) : (s.sendLine d n t k ur whole codes).spans = s.spans :=
  s.sendLine_keeps d n t k ur codes Dev.spans (fun _ _ _ => rfl) (fun _ _ _ _ => rfl) (fun _ _ _ _ => rfl) (fun _ _ => rfl) whole

theorem Dev.sendLine_halves (whole : Bool) : (s.sendLine d n t k ur whole codes).halves = s.halves :=
  s.sendLine_keeps d n t k ur codes Dev.halves (fun _ _ _ => rfl) (fun _ _ _ _ => rfl) (fun _ _ _ _ => rfl) (fun _ _ => rfl) whole

end

/-! ## Spans that are missing at a release -/

/-- Some span of the tile's line is missing where the half composes: an underrun (R143). -/
def Dev.late (s : Dev) (d n k t : Nat) : Bool := (s.half d n).composing && !(s.missing d t k).isEmpty

/-- The count of a release whose missing spans are still on their way (R144). -/
def Dev.countLate (s : Dev) (d k t : Nat) : Dev :=
  if (!(s.missing d t k).isEmpty) = true ∧ s.onPipes d t k then s.addR (Reg.FAB_LATE d) 1 else s

/-- What a release does about the spans that are missing, before its packet goes out (R143, R144). -/
def Dev.noteMissing (s : Dev) (d n k t : Nat) : Dev :=
  match s.missing d t k with
  | [] => s.countLate d k t
  | sp :: _ => (s.countLate d k t).underrun d n t k sp

section
variable (s : Dev) (d : Die) (n : Head) (t k : Nat)

theorem Dev.underrun_urcnt (sp : Nat) :
    (s.underrun d n t k sp).rd (Reg.HEAD_URCNT d n) = s.rd (Reg.HEAD_URCNT d n) + 1#32 := by
  have hfault := timeReg_fault d n _ (.inr rfl)
  rw [Dev.underrun]
  dsimp only
  rw [Dev.raise_rd _ _ _ _ hfault (by simp only [Reg.HEAD_URCNT, Reg.HEAD_TG_FLT_STAT]; omega), Dev.setHalf_rd,
    Dev.rd_wr_other _ _ _ _ (by simp only [Reg.HEAD_URCNT, Reg.HEAD_URWHERE]; omega), Dev.addR, Dev.rd_wr_same, regMask_urcnt]
  exact BitVec.and_allOnes

theorem Dev.underrun_goesOn (sp : Nat) : s.goesOn (lineReg d n) (s.underrun d n t k sp) := by
  rw [Dev.underrun]
  have hcnt : s.goesOn (lineReg d n) (s.addR (Reg.HEAD_URCNT d n) 1) := (Dev.goesOn.refl s).wr _ _ (urcnt_not_lineReg d n)
  refine .raise (.setHalf (hcnt.wr _ _ ?_) _ _ _) _ _ (fun b hb => timeReg_fault d n b (.inl hb)) ?_
  · simp only [lineReg, Reg.HEAD_TSTAT, Reg.HEAD_FRAME, Reg.HEAD_BG, Reg.HEAD_URWHERE, Reg.cd]
    omega
  · simp only [lineReg, Reg.HEAD_TSTAT, Reg.HEAD_FRAME, Reg.HEAD_BG, Reg.HEAD_TG_FLT_STAT, Reg.cd]
    omega

theorem Dev.underrun_spans (sp : Nat) : (s.underrun d n t k sp).spans = s.spans := Dev.raise_spans _ _ _

theorem Dev.underrun_composing (sp : Nat) : ((s.underrun d n t k sp).half d n).composing = (s.half d n).composing := by
  rw [Dev.underrun]
  dsimp only
  rw [Dev.raise_half, Dev.setHalf_half_same]
  rfl

theorem Dev.countLate_goesOn : s.goesOn (timeReg d n) (s.countLate d k t) := by
  refine .ite ((Dev.goesOn.refl s).wr _ _ ?_) (.refl s)
  simp only [timeReg, lineReg, Reg.HEAD_TSTAT, Reg.HEAD_FRAME, Reg.HEAD_BG, Reg.HEAD_URCNT, Reg.FAB_LATE, Reg.cd]
  omega

theorem Dev.countLate_keeps {β : Type} (g : Dev → β) (hr : ∀ (s : Dev) a v, g (s.wr a v) = g s) : g (s.countLate d k t) = g s := by
  unfold Dev.countLate
  split
  · exact hr _ _ _
  · rfl

theorem Dev.noteMissing_goesOn : s.goesOn (lineReg d n) (s.noteMissing d n k t) := by
  have hlate := (s.countLate_goesOn d n t k).mono (Q := lineReg d n) fun b hb => .inl hb
  unfold Dev.noteMissing
  split
  · exact hlate
  · exact hlate.trans (Dev.underrun_goesOn _ d n t k _)

theorem Dev.noteMissing_spans : (s.noteMissing d n k t).spans = s.spans := by
  have hlate := s.countLate_keeps d t k Dev.spans (fun _ _ _ => rfl)
  unfold Dev.noteMissing
  split
  · exact hlate
  · exact (Dev.underrun_spans _ d n t k _).trans hlate

theorem Dev.noteMissing_composing : ((s.noteMissing d n k t).half d n).composing = (s.half d n).composing := by
  have hlate := s.countLate_keeps d t k (fun v => (v.half d n).composing) (fun _ _ _ => rfl)
  unfold Dev.noteMissing
  split
  · exact hlate
  · exact (Dev.underrun_composing _ d n t k _).trans hlate

theorem Dev.noteMissing_urcnt : (s.noteMissing d n k t).rd (Reg.HEAD_URCNT d n) =
    s.rd (Reg.HEAD_URCNT d n) + BitVec.ofNat 32 (b2n (!(s.missing d t k).isEmpty)) := by
  have hlate := (s.countLate_goesOn d n t k).rd _ (.inr rfl)
  unfold Dev.noteMissing
  split
  · next hm => rw [hlate, hm]; exact (BitVec.add_zero _).symm
  · next hm => rw [Dev.underrun_urcnt, hlate, hm]; rfl

end

/-! ## The release to one tile, and to the tiles of a line -/

/-- The codes of a tile line, with the background code for each span that is missing (R143). -/
def Dev.lineCodes (s : Dev) (d n k t : Nat) : List Nat :=
  (List.range 16).flatMap fun j => (s.spanCodes d t k j).getD (List.replicate 32 (s.rdF (Reg.HEAD_BG d n) F.HEAD_BG_CODE))

/-- The line packet of a tile at the release of line `k` (R134, R135). -/
def Dev.linePkt (s : Dev) (d n k t : Nat) : Pkt :=
  if (s.half d n).composing then .line (!(s.missing d t k).isEmpty) (k % 512) (s.rd (Reg.HEAD_FRAME d n)).toNat (s.lineCodes d n k t)
  else .line false (k % 512) (s.rd (Reg.HEAD_FRAME d n)).toNat (List.replicate 512 0)

/-- From `s` to `v` line `k` of a half has been released to the tiles `ts`: each that is LOCKED has been sent its packet, each with a span
missing counts as an underrun, and the packets of the other tiles are as they were. -/
structure Dev.released (d n k : Nat) (ts : List Nat) (s v : Dev) : Prop where
  on : s.goesOn (lineReg d n) v
  composing : (v.half d n).composing = (s.half d n).composing
  codes : ∀ u, u ∉ ts → ∀ j, j < 16 → v.spanCodes d u k j = s.spanCodes d u k j
  sent : ∀ t ∈ ts, s.locked d t = true → .lane d t (s.linePkt d n k t) ∈ v.out
  count : v.rd (Reg.HEAD_URCNT d n) = s.rd (Reg.HEAD_URCNT d n) + BitVec.ofNat 32 (ts.filter (s.late d n k)).length

section
variable {s v w : Dev} {d : Die} {n : Head} {k : Nat} {ts us : List Nat}

theorem Dev.released.nil (s : Dev) : s.released d n k [] s :=
  ⟨.refl s, rfl, fun _ _ _ _ => rfl, fun _ h => absurd h List.not_mem_nil, (BitVec.add_zero _).symm⟩

theorem Dev.released.missing (h : s.released d n k ts v) {u : Nat} (hu : u ∉ ts) : v.missing d u k = s.missing d u k :=
  List.filter_congr fun j hj => by rw [h.codes u hu j (List.mem_range.mp hj)]

theorem Dev.released.late (h : s.released d n k ts v) {u : Nat} (hu : u ∉ ts) : v.late d n k u = s.late d n k u := by
  rw [Dev.late, h.composing, h.missing hu]
  rfl

theorem Dev.released.linePkt (h : s.released d n k ts v) {u : Nat} (hu : u ∉ ts) : v.linePkt d n k u = s.linePkt d n k u := by
  have hcodes : v.lineCodes d n k u = s.lineCodes d n k u := by
    rw [Dev.lineCodes, Dev.rdF, h.on.rd _ (.inr (.inr (.inl rfl)))]
    exact List.flatMap_congr fun j hj => by rw [h.codes u hu j (List.mem_range.mp hj)]; rfl
  rw [Dev.linePkt, h.composing, h.missing hu, hcodes, h.on.rd _ (.inr (.inl rfl))]
  rfl

/-- Releases to different tiles add up. -/
theorem Dev.released.append (h : s.released d n k ts v) (g : v.released d n k us w) (hd : ∀ u ∈ us, u ∉ ts) (h8 : ∀ u ∈ us, u < 8) :
    s.released d n k (ts ++ us) w where
  on := h.on.trans g.on
  composing := g.composing.trans h.composing
  codes u hu j hj := by
    rw [List.mem_append, not_or] at hu
    exact (g.codes u hu.2 j hj).trans (h.codes u hu.1 j hj)
  sent t ht hl := by
    rcases List.mem_append.mp ht with ht | ht
    · exact g.on.sent (h.sent t ht hl)
    · rw [← h.linePkt (hd t ht)]
      exact g.sent t ht ((h.on.locked d n t (h8 t ht)).trans hl)
  count := by
    have hlate : us.filter (v.late d n k) = us.filter (s.late d n k) := List.filter_congr fun u hu => h.late (hd u hu)
    rw [g.count, h.count, hlate, List.filter_append, List.length_append, BitVec.ofNat_add, BitVec.add_assoc]

/-- What the steps release each to its own tile, the fold releases to them all. -/
theorem Dev.released.forAll {f : Dev → Nat → Dev} (hf : ∀ (s : Dev) t, t < 8 → s.released d n k [t] (f s t)) (hnd : ts.Nodup)
    (h8 : ∀ t ∈ ts, t < 8) (s : Dev) : s.released d n k ts (Machine.forAll ts s f) := by
  induction ts generalizing s with
  | nil => exact .nil s
  | cons t ts ih =>
    obtain ⟨hnew, hnd⟩ := List.nodup_cons.mp hnd
    have h8' : ∀ u ∈ ts, u < 8 := fun u hu => h8 u (List.mem_cons_of_mem t hu)
    exact (hf s t (h8 t List.mem_cons_self)).append (ih hnd h8' (f s t))
      (fun u hu e => hnew (List.mem_singleton.mp e ▸ hu)) h8'

end

/-- An entry that passes is found as before among the entries that pass. -/
theorem SMap.lookup_keep {α : Type} (p : Nat → Bool) (m : SMap α) (k : Nat) (h : p k = true) : (m.keep p).lookup k = m.lookup k := by
  induction m with
  | nil => rfl
  | cons e m ih =>
    obtain ⟨j, x⟩ := e
    by_cases hp : p j = true
    · have hcons : SMap.keep p ((j, x) :: m) = (j, x) :: SMap.keep p m := List.filter_cons_of_pos hp
      rw [hcons, List.lookup_cons, List.lookup_cons, ih]
    · have hcons : SMap.keep p ((j, x) :: m) = SMap.keep p m := List.filter_cons_of_neg hp
      have hj : k ≠ j := fun e => hp (e ▸ h)
      rw [hcons, ih, List.lookup_cons, beq_false_of_ne hj]

section
variable (s : Dev) (d : Die) (n : Head) (t k : Nat)

theorem Dev.dropLine_goesOn (P : Nat → Prop) : s.goesOn P (s.dropLine d t k) := .of_eq rfl rfl

theorem Dev.dropLine_composing : ((s.dropLine d t k).half d n).composing = (s.half d n).composing := rfl

theorem Dev.dropLine_spanCodes (u : Nat) (hu : u ≠ t) (j : Nat) (hj : j < 16) :
    (s.dropLine d t k).spanCodes d u k j = s.spanCodes d u k j := by
  refine SMap.lookup_keep (fun e => e / 16 != rowKey d t k) s.spans _ ?_
  rw [bne_iff_ne, spanKey, rowKey]
  omega

theorem Dev.releaseTile_composing (h : (s.half d n).composing = true) :
    s.releaseTile d n k t =
      ((s.noteMissing d n k t).sendLine d n t k (!(s.missing d t k).isEmpty) true (s.lineCodes d n k t)).dropLine d t k := by
  rw [Dev.releaseTile, if_pos h]
  rfl

theorem Dev.releaseTile_dark (h : (s.half d n).composing = false) :
    s.releaseTile d n k t = s.sendLine d n t k false false (List.replicate 512 0) := by
  rw [Dev.releaseTile, if_neg (by rw [h]; decide)]

theorem Dev.half_congr {s v : Dev} (h : v.halves = s.halves) (e i : Nat) : v.half e i = s.half e i := by rw [Dev.half, h, Dev.half]

theorem Dev.spanCodes_congr {s v : Dev} (h : v.spans = s.spans) (e u l j : Nat) : v.spanCodes e u l j = s.spanCodes e u l j := by
  rw [Dev.spanCodes, h, Dev.spanCodes]

theorem Dev.releaseTile_released (ht : t < 8) : s.released d n k [t] (s.releaseTile d n k t) := by
  cases hc : (s.half d n).composing with
  | false =>
    rw [s.releaseTile_dark d n t k hc]
    have hsend := s.sendLine_goesOn d n t k false (List.replicate 512 0) false ht
    refine ⟨hsend.mono fun b hb => .inl hb, ?_, fun u _ j _ => ?_, fun q hq hl => ?_, ?_⟩
    · rw [Dev.half_congr (s.sendLine_halves d n t k _ _ _)]
    · exact Dev.spanCodes_congr (s.sendLine_spans d n t k _ _ _) _ _ _ _
    · cases List.mem_singleton.mp hq
      rw [Dev.linePkt, if_neg (by rw [hc]; decide)]
      exact s.sendLine_sends d n t k _ _ _ ht hl
    · have hlate : s.late d n k t = false := by rw [Dev.late, hc, Bool.false_and]
      rw [hsend.rd _ (.inr rfl), List.filter_cons_of_neg (by rw [hlate]; decide)]
      exact (BitVec.add_zero _).symm
  | true =>
    rw [s.releaseTile_composing d n t k hc]
    have hnote := s.noteMissing_goesOn d n t k
    have hsend := (s.noteMissing d n k t).sendLine_goesOn d n t k (!(s.missing d t k).isEmpty) (s.lineCodes d n k t) true ht
    refine ⟨(hnote.trans (hsend.mono fun b hb => .inl hb)).trans (Dev.dropLine_goesOn _ d t k _), ?_, fun u hu j hj => ?_,
      fun q hq hl => ?_, ?_⟩
    · rw [Dev.dropLine_composing, Dev.half_congr (Dev.sendLine_halves _ d n t k _ _ _), s.noteMissing_composing]
    · rw [Dev.dropLine_spanCodes _ d t k u (fun e => hu (List.mem_singleton.mpr e)) j hj]
      exact Dev.spanCodes_congr ((Dev.sendLine_spans _ d n t k _ _ _).trans (s.noteMissing_spans d n t k)) _ _ _ _
    · cases List.mem_singleton.mp hq
      rw [Dev.linePkt, if_pos hc, ← hnote.rd (Reg.HEAD_FRAME d n) (.inr (.inl rfl))]
      exact (Dev.dropLine_goesOn _ d t k (lineReg d n)).sent
        (Dev.sendLine_sends _ d n t k _ _ _ ht ((hnote.locked d n t ht).trans hl))
    · have hlate : s.late d n k t = !(s.missing d t k).isEmpty := by rw [Dev.late, hc, Bool.true_and]
      rw [(Dev.dropLine_goesOn _ d t k (timeReg d n)).rd _ (.inr rfl), hsend.rd _ (.inr rfl), s.noteMissing_urcnt, ← hlate]
      cases hl : s.late d n k t <;> simp [hl, b2n]

end

end Sys2Proof.Machine
end

section
/-! SUPPORT. The line start of a running generator (R84, R130, R132, R134, R140, R142): the work ahead and the line buffers leave line,
phase and count of underruns as the release left them. -/

namespace Sys2Proof.Machine

/-! ## Work ahead of the line -/

/-- The registers of the correction unit and of the generations. -/
theorem timeReg_window (d : Die) (n : Head) (b : Nat) (h : timeReg d n b) : b < Reg.cd d + 0x40800 ∧ Reg.cd d ≤ b := by
  have := n.isLt
  simp only [timeReg, lineReg, Reg.HEAD_TSTAT, Reg.HEAD_FRAME, Reg.HEAD_BG, Reg.HEAD_URCNT] at h
  omega

section
variable (s : Dev) (d : Die) (n : Head)

theorem timeReg_not_above (a : Nat) (ha : Reg.cd d + 0x40800 ≤ a) : ¬ timeReg d n a := fun h => by
  have := (timeReg_window d n a h).1
  omega

theorem Dev.restartStale_goesOn : s.goesOn (timeReg d n) (s.restartStale d n) :=
  ((Dev.goesOn.refl s).setHalf d n _).causeOff _ _ (timeReg_not_above d n _ (by simp only [Reg.HEAD_WARP_FLT_STAT]; omega))

theorem Dev.formAngles_goesOn : s.goesOn (timeReg d n) (s.formAngles d n).1 := by
  have hflt : ∀ i, ¬ timeReg d n (Reg.HEAD_WARP_FLT_STAT d n + i) := fun i =>
    timeReg_not_above d n _ (by simp only [Reg.HEAD_WARP_FLT_STAT]; omega)
  have hstart : s.goesOn (timeReg d n) (if (s.half d n).staleEnd then s.restartStale d n else s) :=
    .ite (s.restartStale_goesOn d n) (.refl s)
  unfold Dev.formAngles
  dsimp only
  generalize (if (s.half d n).staleEnd then s.restartStale d n else s) = v at hstart ⊢
  split
  · split <;> exact hstart.causeOff _ _ (hflt 8)
  · split
    · exact (hstart.setHalf d n _).causeOff _ _ (hflt 8)
    · split
      · exact (hstart.setHalf d n _).causeOff _ _ (hflt 8)
      · refine .setHalf (.ite (.wr (.causeIs (hstart.wr _ _ ?_) _ _ _ (timeReg_fault d n) (hflt 0) (hflt 8)) _ _ ?_)
          (.causeIs (hstart.wr _ _ ?_) _ _ _ (timeReg_fault d n) (hflt 0) (hflt 8))) d n _
        all_goals exact timeReg_not_above d n _ (by simp only [Reg.HEAD_CORR_REFNOW, Reg.HEAD_CORR_CNT]; omega)

theorem Dev.bandStart_goesOn (b : Nat) : s.goesOn (timeReg d n) (s.bandStart d n b) := by
  have hangles := s.formAngles_goesOn d n
  unfold Dev.bandStart
  dsimp only
  generalize s.formAngles d n = r at hangles ⊢
  have hband := (hangles.wr (Reg.HEAD_CORR_NOW d n) (BitVec.ofNat 32 (unsgn 16 r.2.1 + 0x10000 * unsgn 16 r.2.2.1))
    (timeReg_not_above d n _ (by simp only [Reg.HEAD_CORR_NOW]; omega)))
  refine .ite (hband.setHalf d n _) ((hband.setHalf d n _).wr _ _ ?_)
  exact timeReg_not_above d n _ (by simp only [Reg.HEAD_GEN_INUSE]; omega)

theorem Dev.bandMirror_goesOn (b : Nat) : s.goesOn (timeReg d n) (s.bandMirror d n b) := by
  unfold Dev.bandMirror
  split
  · exact .refl s
  · next x _ =>
    have hband := (Dev.goesOn.refl s).wr (Reg.HEAD_CORR_NOW d n) x.now
      (timeReg_not_above d n _ (by simp only [Reg.HEAD_CORR_NOW]; omega))
    refine .ite (hband.setHalf d n _) ((hband.setHalf d n _).wr _ _ ?_)
    exact timeReg_not_above d n _ (by simp only [Reg.HEAD_GEN_INUSE]; omega)

theorem Dev.takeBand_goesOn (b : Nat) : s.goesOn (timeReg d n) (s.takeBand d n b) :=
  .ite (s.bandMirror_goesOn d n b) (s.bandStart_goesOn d n b)

theorem Dev.dispatch_out (e : Nat) : (s.dispatch e).out = s.out := Dev.dispatch_keeps Dev.out (fun _ _ _ => rfl) s e

theorem Dev.goesOn.eligible {P : Nat → Prop} {s v : Dev} (h : s.goesOn P v) (e m line : Nat) : s.goesOn P (v.eligible e m line) :=
  (h.setPipes e _).trans (.of_eq (Dev.dispatch_regs _ e) (Dev.dispatch_out _ e))

theorem Dev.composeAhead_goesOn (k : Nat) : s.goesOn (timeReg d n) (s.composeAhead d n k) := by
  unfold Dev.composeAhead
  dsimp only
  refine .ite (.refl s) (.eligible (.ite ?_ (.refl s)) _ _ _)
  exact s.takeBand_goesOn d n _

theorem Dev.lineBuffer_goesOn (k t : Nat) (ht : t < 8) : s.goesOn (timeReg d n) (s.lineBuffer d n k t) := by
  refine (Dev.goesOn.refl s).wr _ _ ?_
  have := n.isLt
  simp only [timeReg, lineReg, Reg.HEAD_TSTAT, Reg.HEAD_FRAME, Reg.HEAD_BG, Reg.HEAD_URCNT, Reg.HEAD_LB_STAT, Reg.cd]
  omega

theorem Dev.promote_out (e : Nat) : (s.promote e).out = s.out := Dev.promote_keeps Dev.out (fun _ _ _ => rfl) (fun _ _ _ _ => rfl) s e

theorem Dev.promote_goesOn (e : Nat) : s.goesOn (timeReg d n) (s.promote e) := by
  refine ⟨fun b hb => Dev.promote_keeps (fun v => v.rd b) (fun _ _ _ => rfl) (fun v e p k => ?_) s e, by rw [s.promote_out e]⟩
  refine Dev.rd_wr_other _ _ _ _ fun he => ?_
  have := n.isLt
  simp only [he, timeReg, lineReg, Reg.HEAD_TSTAT, Reg.HEAD_FRAME, Reg.HEAD_BG, Reg.HEAD_URCNT, Reg.DRC_PORT_ESC, Reg.cd] at hb
  omega

end

/-! ## A line start that carries no timing point -/

/-- The generator takes line `k` and its phase (R130). -/
def Dev.takeLine (s : Dev) (d n k : Nat) : Dev :=
  ((s.setHalf d n { s.half d n with first := false }).wrF (Reg.HEAD_TSTAT d n) F.HEAD_TSTAT_LINE k).wrF (Reg.HEAD_TSTAT d n)
    F.HEAD_TSTAT_PHASE (phaseOf (s.tAct d n) (fget (s.rd (Reg.HEAD_TPOINTS d n)) F.HEAD_TPOINTS_TWS) (s.tTotal d n) k)

/-- What follows the release of line `k`: composition ahead, the line buffers, and the mark to a slave half (R140, R145). -/
def Dev.lineTail (s : Dev) (d n k : Nat) : Dev :=
  let v := s.composeAhead d n k
  let v := (forAll (v.tilesOf d n) v (fun v t => v.lineBuffer d n k t)).promote d
  if v.isMaster d n ∧ v.spansDies n then v.brgSend d 0 else v

/-- The generator of a half starts lines (R130, R138, R145). -/
structure Dev.generates (s : Dev) (d n : Nat) : Prop where
  used : s.usedOn d n = true
  running : (s.half d n).running = true
  failed : (s.half d n).failed = false
  hold : (s.half d n).hold = false
  total : s.tTotal d n ≠ 0
  alone : s.isSlave d n = false ∨ s.runsAlone d n = true

/-- Line `k` carries no timing point of the half (R132). -/
structure Dev.plainLine (s : Dev) (d n k : Nat) : Prop where
  dawn : k ≠ 0
  noon : k ≠ fget (s.rd (Reg.HEAD_TPOINTS d n)) F.HEAD_TPOINTS_NOON
  dusk : k ≠ s.tAct d n
  twilight : k ≠ fget (s.rd (Reg.HEAD_TPOINTS d n)) F.HEAD_TPOINTS_TWS
  midnight : k + 16 ≠ s.tTotal d n

section
variable {s : Dev} {d n k : Nat}

theorem Dev.lineStart_plain (hgen : s.generates d n) (hk : s.nextLine d n = k) (hp : s.plainLine d n k) :
    s.lineStart d n = (if k < s.tAct d n then (s.takeLine d n k).releaseLine d n k else s.takeLine d n k).lineTail d n k := by
  obtain ⟨hused, hrun, hfail, hhold, htotal, halone⟩ := hgen
  obtain ⟨hdawn, hnoon, hdusk, htws, hmid⟩ := hp
  have hgo : ¬ ((!s.usedOn d n) = true ∨ (!(s.half d n).running) = true ∨ (s.half d n).failed = true ∨ (s.half d n).hold = true ∨
      s.tTotal d n = 0 ∨ (s.isSlave d n = true ∧ (!s.runsAlone d n) = true)) := by
    rcases halone with h | h <;> simp [hused, hrun, hfail, hhold, htotal, h]
  rw [Dev.lineStart]
  dsimp only
  rw [if_neg hgo, hk, Dev.lineAt]
  dsimp only
  rw [if_neg hdawn, if_neg hnoon, if_neg hdusk, if_neg htws, if_neg hmid]
  rfl

end

end Sys2Proof.Machine
end

section
/-! SUPPORT. What a line start does: the line and its phase, the packets of the line's tiles and the count of underruns (R130, R134, R135,
R142, R143); the statement about spans, pipes and line starts settled. -/

namespace Sys2Proof.Machine

/-! ## The generator takes a line -/

/-- In `v` the generator of the half is at line `k` of the frame of `s`, in the phase of that line (R130). -/
def Dev.atLine (s v : Dev) (d n k : Nat) : Prop :=
  v.tLine d n = k % 2 ^ F.HEAD_TSTAT_LINE.len ∧
    v.rdF (Reg.HEAD_TSTAT d n) F.HEAD_TSTAT_PHASE =
      phaseOf (s.tAct d n) (fget (s.rd (Reg.HEAD_TPOINTS d n)) F.HEAD_TPOINTS_TWS) (s.tTotal d n) k

theorem Dev.atLine.congr {s v w : Dev} {d n k : Nat} (h : s.atLine v d n k) (hr : w.rd (Reg.HEAD_TSTAT d n) = v.rd (Reg.HEAD_TSTAT d n)) :
    s.atLine w d n k := by
  obtain ⟨hline, hphase⟩ := h
  exact ⟨by rw [Dev.tLine, Dev.rdF, hr]; exact hline, by rw [Dev.rdF, hr]; exact hphase⟩

theorem phaseOf_lt (act tws total k : Nat) : phaseOf act tws total k < 8 := by
  unfold phaseOf
  split_ifs <;> decide

theorem regMask_tstat : ∀ (d : Die) (n : Head), regMask (Reg.HEAD_TSTAT d n) = 0x773FFF#32 := by decide

/-- The tiles of a half that line `k` reaches. -/
def Dev.lineTiles (s : Dev) (d n k : Nat) : List Nat := (s.tilesOf d n).filter (fun t => (s.place d t).row == k / 512)

section
variable (s : Dev) (d : Die) (n : Head) (k : Nat)

theorem Dev.takeLine_atLine : s.atLine (s.takeLine d n k) d n k := by
  have hm := regMask_tstat d n
  refine ⟨?_, ?_⟩
  · rw [Dev.tLine, Dev.takeLine, Dev.rdF_wrF_field _ _ _ _ _ (by decide) (by rw [hm]; decide) (by decide),
      Dev.rdF_wrF_same _ _ _ _ (by decide) (by rw [hm]; decide)]
  · rw [Dev.takeLine, Dev.rdF_wrF_same _ _ _ _ (by decide) (by rw [hm]; decide)]
    exact Nat.mod_eq_of_lt (phaseOf_lt _ _ _ _)

theorem Dev.takeLine_rd (b : Nat) (hb : b ≠ Reg.HEAD_TSTAT d n) : (s.takeLine d n k).rd b = s.rd b := by
  rw [Dev.takeLine, Dev.rd_wrF_other _ _ _ _ _ hb, Dev.rd_wrF_other _ _ _ _ _ hb, Dev.setHalf_rd]

theorem Dev.takeLine_composing : ((s.takeLine d n k).half d n).composing = (s.half d n).composing := by
  rw [Dev.takeLine, Dev.wrF_half, Dev.wrF_half, Dev.setHalf_half_same]

theorem Dev.takeLine_power : (s.takeLine d n k).power = s.power := by
  rw [Dev.power, Dev.rdF, s.takeLine_rd d n k _ (by simp only [Reg.VSP_PWR_STAT, Reg.HEAD_TSTAT, Reg.cd]; omega)]
  rfl

theorem Dev.takeLine_locked (t : Nat) : (s.takeLine d n k).locked d t = s.locked d t := by
  rw [Dev.locked, Dev.laneState, Dev.rdF, s.takeLine_rd d n k _ (by simp only [Reg.LANE_STAT, Reg.HEAD_TSTAT]; omega)]
  rfl

theorem Dev.takeLine_late (t : Nat) : (s.takeLine d n k).late d n k t = s.late d n k t := by
  rw [Dev.late, s.takeLine_composing d n k]
  rfl

theorem Dev.takeLine_linePkt (t : Nat) : (s.takeLine d n k).linePkt d n k t = s.linePkt d n k t := by
  have hframe := s.takeLine_rd d n k (Reg.HEAD_FRAME d n) (by simp only [Reg.HEAD_FRAME, Reg.HEAD_TSTAT]; omega)
  have hbg := s.takeLine_rd d n k (Reg.HEAD_BG d n) (by simp only [Reg.HEAD_BG, Reg.HEAD_TSTAT]; omega)
  rw [Dev.linePkt, Dev.lineCodes, Dev.rdF, s.takeLine_composing d n k, hframe, hbg]
  rfl

/-- Outside SAFE, and for a half that nothing stops, line `k` is released to its tiles (R134). -/
theorem Dev.takeLine_releaseLine (hpow : s.power ≠ 4) (hstop : s.halfStopped d n = false) :
    (s.takeLine d n k).releaseLine d n k =
      forAll (s.lineTiles d n k) (s.takeLine d n k) (fun v t => v.releaseTile d n k t) := by
  have hstop' : (s.takeLine d n k).halfStopped d n = false := hstop
  rw [Dev.releaseLine, if_neg (by rw [s.takeLine_power d n k, hstop']; simpa using hpow)]
  rfl

theorem Dev.mem_lineTiles_lt (t : Nat) (ht : t ∈ s.lineTiles d n k) : t < 8 :=
  List.mem_range.mp (List.mem_of_mem_filter (List.mem_of_mem_filter ht))

theorem Dev.lineTiles_nodup : (s.lineTiles d n k).Nodup := (List.nodup_range.filter _).filter _

theorem Dev.lineTail_goesOn : s.goesOn (timeReg d n) (s.lineTail d n k) := by
  have htile : ∀ (v : Dev) (t : Nat), t ∈ (s.composeAhead d n k).tilesOf d n → v.goesOn (timeReg d n) (v.lineBuffer d n k t) :=
    fun v t ht => v.lineBuffer_goesOn d n k t (List.mem_range.mp (List.mem_of_mem_filter ht))
  have hahead := ((s.composeAhead_goesOn d n k).trans (.forAll htile _)).trans (Dev.promote_goesOn _ d n d)
  exact .ite (hahead.trans ⟨fun b _ => Dev.brgSend_rd _ _ _ b, by rw [Dev.brgSend_out]⟩) hahead

/-- With no line due ahead, what follows the release sends nothing. -/
theorem Dev.lineTail_out (h : s.tAct d n ≤ (k + 16) % s.tTotal d n) : (s.lineTail d n k).out = s.out := by
  have hahead : s.composeAhead d n k = s := if_pos (.inr h)
  have hlines : ((forAll (s.tilesOf d n) s (fun v t => v.lineBuffer d n k t)).promote d).out = s.out := by
    refine (Dev.promote_out _ d).trans (forAll_keeps Dev.out (fun v t => ?_) _ s)
    rfl
  rw [Dev.lineTail, hahead]
  split
  · rw [Dev.brgSend_out, hlines]
  · exact hlines

end

/-! ## The line start -/

section
variable {s : Dev} {d : Die} {n : Head} (hgen : s.generates d n) (hplain : s.plainLine d n (s.nextLine d n))
include hgen hplain

/-- A line start in blanking, with no line due ahead, takes the line and sends nothing. -/
theorem Dev.lineStart_blank (hact : s.tAct d n < s.nextLine d n)
    (hdue : s.tAct d n ≤ (s.nextLine d n + 16) % s.tTotal d n) :
    s.atLine (s.lineStart d n) d n (s.nextLine d n) ∧ (s.lineStart d n).out = s.out := by
  have hsame : (s.takeLine d n (s.nextLine d n)).tAct d n = s.tAct d n := by
    rw [Dev.tAct, Dev.rdF, s.takeLine_rd d n _ _ (by simp only [Reg.HEAD_TACT, Reg.HEAD_TSTAT]; omega)]
    rfl
  rw [Dev.lineStart_plain hgen rfl hplain, if_neg (by omega)]
  refine ⟨(s.takeLine_atLine d n _).congr ((Dev.lineTail_goesOn _ d n _).rd _ (.inl (.inl rfl))), ?_⟩
  exact Dev.lineTail_out _ d n _ (by rw [hsame]; exact hdue)

/-- A line start at an active line outside SAFE takes the line, sends each LOCKED tile of the line its packet, and counts the underruns. -/
theorem Dev.lineStart_active (hact : s.nextLine d n < s.tAct d n) (hpow : s.power ≠ 4) (hstop : s.halfStopped d n = false) :
    s.atLine (s.lineStart d n) d n (s.nextLine d n) ∧
      (∀ t ∈ s.lineTiles d n (s.nextLine d n), s.locked d t = true →
        .lane d t (s.linePkt d n (s.nextLine d n) t) ∈ (s.lineStart d n).out) ∧
      (s.lineStart d n).rd (Reg.HEAD_URCNT d n) = s.rd (Reg.HEAD_URCNT d n) +
        BitVec.ofNat 32 ((s.lineTiles d n (s.nextLine d n)).filter (s.late d n (s.nextLine d n))).length := by
  rw [Dev.lineStart_plain hgen rfl hplain, if_pos hact, s.takeLine_releaseLine d n _ hpow hstop]
  generalize s.nextLine d n = k
  have hrel := Dev.released.forAll (k := k) (fun v t ht => v.releaseTile_released d n t k ht) (s.lineTiles_nodup d n k)
    (s.mem_lineTiles_lt d n k) (s.takeLine d n k)
  have htail := Dev.lineTail_goesOn
    (forAll (s.lineTiles d n k) (s.takeLine d n k) (fun v t => v.releaseTile d n k t)) d n k
  refine ⟨?_, fun t ht hl => ?_, ?_⟩
  · exact ((s.takeLine_atLine d n k).congr (hrel.on.rd _ (.inl rfl))).congr (htail.rd _ (.inl (.inl rfl)))
  · rw [← s.takeLine_linePkt d n k t]
    exact htail.sent (hrel.sent t ht ((s.takeLine_locked d n k t).trans hl))
  · have hlate : (s.takeLine d n k).late d n k = s.late d n k := funext (s.takeLine_late d n k)
    rw [htail.rd _ (.inr rfl), hrel.count, hlate, s.takeLine_rd d n k _ (by simp only [Reg.HEAD_URCNT, Reg.HEAD_TSTAT]; omega)]

end

/-- In READY, or for a half that does not compose, a tile is sent 512 codes 0 (R134). -/
theorem Dev.linePkt_dark {s : Dev} {d n k t : Nat} (h : (s.half d n).composing = false) :
    s.linePkt d n k t = .line false (k % 512) (s.rd (Reg.HEAD_FRAME d n)).toNat (List.replicate 512 0) := by
  rw [Dev.linePkt, if_neg (by rw [h]; decide)]

theorem Dev.linePkt_composed {s : Dev} {d n k t : Nat} (h : (s.half d n).composing = true) :
    s.linePkt d n k t = .line (!(s.missing d t k).isEmpty) (k % 512) (s.rd (Reg.HEAD_FRAME d n)).toNat (s.lineCodes d n k t) := by
  rw [Dev.linePkt, if_pos h]

theorem Dev.late_composed {s : Dev} {d n k : Nat} (h : (s.half d n).composing = true) :
    s.late d n k = fun t => !(s.missing d t k).isEmpty := by
  funext t
  rw [Dev.late, h, Bool.true_and]

theorem exec_lineStart (d : Die) (n : Head) (s : State) :
    exec (.lineStart d n) s = .next { s with dev := s.dev.lineStart d n } := rfl

/-- Settles O21: a finished span by `Dev.finishSpan_stored`, `Dev.finishSpan_error` and `Dev.finishSpan_background`, the loss of a pipe by
`Dev.pipeLoss_pipeLost`, and line starts by `Dev.lineStart_blank` and `Dev.lineStart_active`. -/
theorem compositionAndLinesComplete : Obligations.CompositionAndLinesComplete := by
  intro d p sp b n q s
  refine ⟨fun ⟨hsp, hlive, hcomp, hband, hbg, hrow, hslot⟩ => ?_, fun ⟨hsp, hlive, hcomp, hband⟩ => ?_,
    fun ⟨hsp, hlive, hcomp, hband⟩ => ?_, fun ⟨hok, hslice, hmask⟩ => ?_,
    fun ⟨hused, hrun, hfail, hhold, htotal, halone, hact, hdue, h0, hnoon, hdusk, htws, hmid⟩ => ?_,
    fun ⟨hused, hrun, hfail, hhold, htotal, halone, hact, hpow, hstop, hcomp, h0, hnoon, hdusk, htws, hmid⟩ => ?_,
    fun ⟨hused, hrun, hfail, hhold, htotal, halone, hact, hpow, hstop, hcomp, h0, hnoon, hdusk, htws, hmid, hq, hl⟩ => ?_⟩
  · obtain ⟨row, hrow⟩ := Option.isSome_iff_exists.mp hrow
    refine ⟨_, exec_spanDone d p false s, ?_⟩
    dsimp only
    rw [Dev.finishSpan_stored hsp hlive hcomp hband hbg hrow hslot, hrow, Option.getD_some]
    refine ⟨?_, ?_, rfl⟩
    · rw [Dev.spanCodes_congr ((Dev.promote_spans _ d).trans (Dev.freePipe_spans _ d p))]
      exact s.dev.storeSpan_spanCodes d sp _ (s.dev.spanPixels_ne_nil s.mem d sp b row)
    · rw [Dev.half_congr ((Dev.promote_halves _ d).trans (Dev.freePipe_halves _ d p)), Dev.storeSpan, Dev.setHalf_half_same]
  · refine ⟨_, exec_spanDone d p true s, fun e he hway => ?_⟩
    dsimp only
    rw [Dev.finishSpan_error hsp hlive hcomp hband, Dev.half_congr ((Dev.promote_halves _ d).trans (Dev.freePipe_halves _ d p))]
    exact s.dev.binError_badGen d sp.head sp.line e he hway
  · obtain ⟨x, hx, hbg⟩ := (Option.any_eq_true _ _).mp hband
    refine ⟨_, exec_spanDone d p false s, ?_⟩
    dsimp only
    rw [Dev.finishSpan_background hsp hlive hcomp hx hbg, Dev.promote_spans, Dev.promote_halves, Dev.freePipe_spans, Dev.freePipe_halves]
    exact ⟨rfl, rfl⟩
  · refine ⟨_, exec_pipeFail d p s, ?_⟩
    dsimp only
    rw [s.dev.pipeFail_eq_pipeLoss d p hslice hmask]
    exact s.dev.pipeLoss_pipeLost d p hok
  · obtain ⟨⟨hline, hphase⟩, hout⟩ := Dev.lineStart_blank ⟨hused, hrun, hfail, hhold, htotal, halone⟩
      ⟨h0, hnoon, hdusk, htws, hmid⟩ hact hdue
    exact ⟨_, exec_lineStart d n s, hline, hphase, hout⟩
  · obtain ⟨⟨hline, hphase⟩, hsent, -⟩ := Dev.lineStart_active ⟨hused, hrun, hfail, hhold, htotal, halone⟩
      ⟨h0, hnoon, hdusk, htws, hmid⟩ hact (by rw [hpow]; decide) hstop
    refine ⟨_, exec_lineStart d n s, hline, hphase, fun t ht hl => ?_⟩
    rw [← Dev.linePkt_dark hcomp (k := s.dev.nextLine d n) (t := t)]
    exact List.contains_iff_mem.mpr (hsent t ht hl)
  · obtain ⟨-, hsent, hcount⟩ := Dev.lineStart_active ⟨hused, hrun, hfail, hhold, htotal, halone⟩
      ⟨h0, hnoon, hdusk, htws, hmid⟩ hact (by rw [hpow]; decide) hstop
    rw [Dev.late_composed hcomp] at hcount
    refine ⟨_, exec_lineStart d n s, ?_, hcount⟩
    have hpkt := hsent q (List.contains_iff_mem.mp hq) hl
    rw [Dev.linePkt_composed hcomp] at hpkt
    exact List.contains_iff_mem.mpr hpkt

end Sys2Proof.Machine
end

section
/-! SUPPORT. A correction sample (R98, R99, R104, R107): which sample is accepted, and which is kept apart as a jump. -/

namespace Sys2Proof.Machine

/-- The samples kept apart as jumps once `a` has jumped too: it joins the last of them or starts anew (R107). -/
def jumpRow (jump : Nat) (row : List Att) (a : Att) : List Att :=
  match row with
  | [] => [a]
  | b :: l => if attDiff a b ≤ jump then a :: b :: l else [a]

/-- A jump is counted and reported (R107). -/
def Dev.countJump (s : Dev) (d n : Nat) : Dev :=
  (s.satF (Reg.HEAD_CORR_CNT d n) F.HEAD_CORR_CNT_JUMPS 1).raise (Reg.HEAD_WARP_FLT_STAT d n) B.HEAD_WARP_JUMP

/-- The difference from the last accepted sample beyond which a sample jumps (R107). -/
def Dev.jumpLimit (s : Dev) (d n : Nat) : Nat := s.rdF (Reg.HEAD_CORR_LIMITS d n) F.HEAD_CORR_LIMITS_JUMP

/-- The third jump in a row is accepted as the whole history; a jump before that joins the row of jumps (R107). -/
def Dev.takeJump (s : Dev) (d n jump : Nat) (a : Att) : Dev :=
  if 3 ≤ (jumpRow jump (s.half d n).jumps a).length then (s.countJump d n).acceptSample d n a true
  else (s.countJump d n).setHalf d n { (s.countJump d n).half d n with jumps := jumpRow jump (s.half d n).jumps a }

section
variable {s : Dev} {d n : Nat} {a : Att}

@[simp] theorem Dev.countJump_half (e i : Nat) : (s.countJump d n).half e i = s.half e i := by
  simp only [Dev.countJump, Dev.raise_half, Dev.satF_half]

/-- With no sample before it, exempt from the test, or within the limit. -/
theorem Dev.sample_within (hd : s.masterOf n = d) (h : (s.half d n).accepted.all (fun old =>
      (s.half d n).exempt || decide (attDiff a old ≤ s.jumpLimit d n)) = true) :
    s.sample n a = s.acceptSample d n a false := by
  subst hd
  unfold Dev.sample
  cases hacc : (s.half (s.masterOf n) n).accepted with
  | none => simp only [hacc]
  | some old =>
    cases hex : (s.half (s.masterOf n) n).exempt with
    | true => simp only [hacc, hex]
    | false =>
      have hle : attDiff a old ≤ s.jumpLimit (s.masterOf n) n := by simpa [hacc, hex] using h
      simp only [hacc, hex]
      exact if_pos hle

/-- Beyond the limit. -/
theorem Dev.sample_beyond (hd : s.masterOf n = d) (hex : (s.half d n).exempt = false)
    (h : (s.half d n).accepted.any (fun old => decide (s.jumpLimit d n < attDiff a old)) = true) :
    s.sample n a = s.takeJump d n (s.jumpLimit d n) a := by
  subst hd
  obtain ⟨old, hacc, hjump⟩ := (Option.any_eq_true _ _).mp h
  have hbeyond : ¬ attDiff a old ≤ s.jumpLimit (s.masterOf n) n := by simpa using hjump
  unfold Dev.sample
  simp only [hacc, hex]
  exact if_neg hbeyond

/-- A sample is accepted or jumps. -/
theorem Dev.sample_cases (s : Dev) (n : Nat) (a : Att) :
    s.sample n a = s.acceptSample (s.masterOf n) n a false ∨
      s.sample n a = s.takeJump (s.masterOf n) n (s.jumpLimit (s.masterOf n) n) a := by
  by_cases h : (s.half (s.masterOf n) n).accepted.all (fun old =>
      (s.half (s.masterOf n) n).exempt || decide (attDiff a old ≤ s.jumpLimit (s.masterOf n) n)) = true
  · exact .inl (Dev.sample_within rfl h)
  · cases hacc : (s.half (s.masterOf n) n).accepted with
    | none => simp [hacc] at h
    | some old =>
      obtain ⟨hex, hjump⟩ : (s.half (s.masterOf n) n).exempt = false ∧ s.jumpLimit (s.masterOf n) n < attDiff a old := by
        simpa [hacc] using h
      exact .inr (Dev.sample_beyond rfl hex (by simpa [hacc] using hjump))

/-- The first sample that jumps. -/
theorem Dev.takeJump_first {jump : Nat} (h : (s.half d n).jumps = []) :
    s.takeJump d n jump a = (s.countJump d n).setHalf d n { (s.countJump d n).half d n with jumps := [a] } := by
  rw [Dev.takeJump, h]
  exact if_neg (by simp [jumpRow])

/-- A sample near the last of two or more that jumped. -/
theorem Dev.takeJump_third {jump : Nat} (hlen : 2 ≤ (s.half d n).jumps.length)
    (h : (s.half d n).jumps.head?.any (fun b => decide (attDiff a b ≤ jump)) = true) :
    s.takeJump d n jump a = (s.countJump d n).acceptSample d n a true := by
  unfold Dev.takeJump
  cases hrow : (s.half d n).jumps with
  | nil => simp [hrow] at h
  | cons b l =>
    have hnear : attDiff a b ≤ jump := by simpa [hrow] using h
    rw [hrow] at hlen
    simp only [jumpRow, if_pos hnear]
    exact if_pos (by simpa using hlen)

/-- What the master half holds once a sample is accepted (R99, R108). -/
theorem Dev.acceptSample_half (level : Bool) : (s.acceptSample d n a level).half d n =
    { s.half d n with hist := if level then [a] else a :: (s.half d n).hist.take 1, accepted := some a, jumps := [], exempt := false,
                      refP := some (refNext (s.half d n).refP a.p (s.rdLF (Reg.HEAD_CORR_CFG d n) F.HEAD_CORR_CFG_REF_K)),
                      refR := some (refNext (s.half d n).refR a.r (s.rdLF (Reg.HEAD_CORR_CFG d n) F.HEAD_CORR_CFG_REF_K)),
                      timer := s.us, staleEnd := (s.half d n).stale.isSome } :=
  Dev.setHalf_half_same _ _ _ _

end

end Sys2Proof.Machine
end

section
/-! SUPPORT. A run of the inertial script (R105, R106): what it leaves on the bus and in the capture bytes, and how it is judged. -/

namespace Sys2Proof.Machine

/-- What the script makes of the bytes that the sensor returns; the next free value stands for capture byte 32. -/
def Dev.imuResult (s : Dev) (rx : List Byte) : ImuRun := s.imuScript (BitVec.ofNat 8 (Config.freeValue s.fresh)) rx

/-- What every run leaves: the capture bytes, the chip select, and what has gone over the bus. -/
def Dev.imuTraffic (s : Dev) (r : ImuRun) : Dev :=
  let s := forAll (List.range 8) s (fun s k => s.wr (Reg.HEAD_IMU_CAP k) (BitVec.ofNat 32 (leAt r.cap (4 * k) 4)))
  let s := { s with imu := { s.imu with sel := !r.script && selAfter s.imu.sel r.out } }
  s.emit (.imu ((if r.script then [ImuOut.sel false] else []) ++ r.out).reverse)

/-- With them a failed comparison's fault. -/
def Dev.imuTrace (s : Dev) (r : ImuRun) : Dev :=
  let s := s.imuTraffic r
  if r.cmpFail then s.raise Reg.HEAD_IMU_FLT_STAT B.HEAD_IMU_CMP else s

/-- A run that has converted both angles is counted and delivered to the registers: the angles, and their time. -/
def Dev.imuDeliver (s : Dev) (p q t : Int) : Dev :=
  let s := { s with imu := { s.imu with bad := 0 } }
  let s := (s.wr Reg.HEAD_IMU_STAT 0#32).addF Reg.HEAD_IMU_CNT F.HEAD_IMU_CNT_SAMPLES 1
  let s := s.wr Reg.HEAD_IMU_LAST (BitVec.ofNat 32 (unsgn 16 p + 0x10000 * unsgn 16 q))
  let s := s.wr Reg.HEAD_IMU_TIME (BitVec.ofNat 32 (unsgn 32 t))
  s.causeOff Reg.HEAD_IMU_FLT_STAT B.HEAD_IMU_SILENT

/-- The time of a sample delivered now. -/
def Dev.imuTime (s : Dev) : Int := s.us - sgn 16 (s.rdF Reg.HEAD_IMU_LAT F.HEAD_IMU_LAT_LAT)

/-- A sample goes to the heads that use it. -/
def Dev.imuSpread (s : Dev) (a : Att) : Dev := forAll (List.range 4) s (fun s n => s.imuSample n a)

/-- How a run is judged once its trace is left. -/
def Dev.imuJudge (s : Dev) (r : ImuRun) : Dev :=
  if r.script then (s.raise Reg.HEAD_IMU_FLT_STAT B.HEAD_IMU_SCRIPT).imuBad 3
  else if r.cmpFail then s.imuBad 1
  else match r.pitch, r.roll with
  | some p, some q => (s.imuDeliver p q s.imuTime).imuSpread ⟨p, q, s.imuTime⟩
  | _, _ => s.imuBad 2

/-- LAST of a bad run (Table 4-8). -/
def ImuRun.last (r : ImuRun) : Nat := if r.script then 3 else if r.cmpFail then 1 else 2

/-- A run is bad: a reserved code, a failed comparison, or an angle not converted. -/
def ImuRun.isBad (r : ImuRun) : Prop := r.script = true ∨ r.cmpFail = true ∨ r.pitch = none ∨ r.roll = none

/-- The row of bad runs and the count of them before SILENT is judged. -/
def Dev.countBad (s : Dev) (last : Nat) : Dev :=
  ({ s with imu := { s.imu with bad := min 16 (s.imu.bad + 1) } }.wr Reg.HEAD_IMU_STAT
    (BitVec.ofNat 32 (2 * last + 16 * min (min 16 (s.imu.bad + 1)) 15))).satF Reg.HEAD_IMU_CNT F.HEAD_IMU_CNT_BAD 1

theorem Dev.imuBad_eq (s : Dev) (last : Nat) :
    s.imuBad last = if min 16 (s.imu.bad + 1) = 16 then (s.countBad last).causeOn Reg.HEAD_IMU_FLT_STAT B.HEAD_IMU_SILENT
      else s.countBad last := rfl

section
variable {s : Dev} {rx : List Byte}

theorem Dev.imuRun_off (hon : s.imuOn = false) : s.imuRun rx = s := if_pos (by rw [hon]; rfl)

theorem Dev.imuRun_skipped (hon : s.imuOn = true) (hskip : s.imu.skip = true) :
    s.imuRun rx = { s with imu := { s.imu with skip := false } } := by
  rw [Dev.imuRun, if_neg (by rw [hon]; decide), if_pos hskip]

theorem Dev.imuRun_judged (hon : s.imuOn = true) (hskip : s.imu.skip = false) :
    s.imuRun rx = (s.free.2.imuTrace (s.imuResult rx)).imuJudge (s.imuResult rx) := by
  rw [Dev.imuRun, if_neg (by rw [hon]; decide), if_neg (by rw [hskip]; decide)]
  rfl

end

section
variable {s : Dev} {r : ImuRun}

theorem Dev.imuJudge_bad (h : r.isBad) :
    s.imuJudge r = (if r.script then s.raise Reg.HEAD_IMU_FLT_STAT B.HEAD_IMU_SCRIPT else s).imuBad r.last := by
  unfold Dev.imuJudge ImuRun.last
  split
  · rfl
  · next hscript =>
    split
    · rfl
    · next hcmp =>
      rcases h with h | h | h | h
      · exact absurd h hscript
      · exact absurd h hcmp
      · rw [h]
      · cases hp : r.pitch <;> rw [h]

theorem Dev.imuJudge_good (h : ¬ r.isBad) : ∃ p q, r.pitch = some p ∧ r.roll = some q ∧
    s.imuJudge r = (s.imuDeliver p q s.imuTime).imuSpread ⟨p, q, s.imuTime⟩ := by
  simp only [ImuRun.isBad, not_or] at h
  obtain ⟨hscript, hcmp, hp, hq⟩ := h
  obtain ⟨p, hp⟩ := Option.ne_none_iff_exists'.mp hp
  obtain ⟨q, hq⟩ := Option.ne_none_iff_exists'.mp hq
  refine ⟨p, q, hp, hq, ?_⟩
  rw [Dev.imuJudge, if_neg hscript, if_neg hcmp, hp, hq]

end

end Sys2Proof.Machine
end

section
/-! SUPPORT. What correction, luminance and measurement commands leave alone (R92, R104, R105, R108, R112, R115, R257, R305). -/

namespace Sys2Proof.Machine

/-! ## The units that measure -/

/-- Registers of the warp, inertial, photometric and calibration units of the compositor dies, and of their DRAM controllers. -/
def measuringReg (b : Nat) : Prop :=
  0x1000000 ≤ b ∧ b < 0x3000000 ∧
    (0x4A000 ≤ b % 0x1000000 ∧ b % 0x1000000 < 0x4D000 ∨ 0x60000 ≤ b % 0x1000000 ∧ b % 0x1000000 < 0x62000 ∨
      0x80000 ≤ b % 0x1000000 ∧ b % 0x1000000 < 0x81000)

section
variable {d : Nat} (hd : d < 2)
include hd

theorem measuringReg_warp {n o : Nat} (hn : n < 4) (ho : o < 0x100) : measuringReg (Reg.cd d + 0x4A000 + 0x100 * n + o) := by
  simp only [measuringReg, Reg.cd]; omega

theorem measuringReg_photo {o : Nat} (h : o < 0x2000) : measuringReg (Reg.cd d + 0x60000 + o) := by
  simp only [measuringReg, Reg.cd]; omega

theorem measuringReg_row {o i : Nat} (h : o + i < 0x2000) : measuringReg (Reg.cd d + 0x60000 + o + i) := by
  simp only [measuringReg, Reg.cd]; omega

theorem measuringReg_drc : measuringReg (Reg.DRC_FLT_STAT d) := by
  simp only [measuringReg, Reg.DRC_FLT_STAT, Reg.cd]; omega

theorem measuringReg_tstat {t : Nat} (ht : t < 8) : measuringReg (Reg.CAL_TSTAT d t) := measuringReg_row hd (by omega)

end

theorem measuringReg_imu {a : Nat} (h : 0x104C000 ≤ a ∧ a < 0x104C200) : measuringReg a := by
  unfold measuringReg; omega

/-- No fault of these units has a watcher of its own (Table 14-4). -/
theorem watcherOf_measuringReg {a : Nat} (h : measuringReg a) (k : Nat) : watcherOf a k = none := by
  unfold measuringReg at h
  have hcluster : clusterOf a < 32 ∧ (clusterOf a % 16 = 4 ∨ clusterOf a % 16 = 6 ∨ clusterOf a % 16 = 7 ∨ clusterOf a % 16 = 8) := by
    obtain ⟨hlo, hhi, hwarp | hphoto | hdrc⟩ := h
    · simp (disch := omega) only [clusterOf, ↓if_neg, ↓if_pos]
      omega
    · simp (disch := omega) only [clusterOf, ↓if_neg, ↓if_pos]
      split_ifs <;> omega
    · simp (disch := omega) only [clusterOf, ↓if_neg, ↓if_pos]
      omega
  obtain ⟨hlt, hc⟩ := hcluster
  simp only [watcherOf, if_pos hlt]
  rw [if_neg (by omega), if_neg (by omega)]

/-- Everything is as before but registers, messages, the links between dies, the fault state, the halves, the inertial and budget
units, the calibration of the tiles and the next free value. -/
def Dev.measuredEq (s t : Dev) : Prop :=
  t = { s with regs := t.regs, out := t.out, flt := t.flt, halves := t.halves, imu := t.imu, bud := t.bud, fresh := t.fresh, cals := t.cals, dcs := t.dcs, brgs := t.brgs }

/-- From `s` to `t` no other state has changed, and no register outside the measuring units but VSP_EVT_HOLD. -/
structure Dev.measuresOnly (s t : Dev) : Prop where
  rest : s.measuredEq t
  rd : ∀ b, ¬ measuringReg b → b ≠ Reg.VSP_EVT_HOLD → t.rd b = s.rd b

section
variable {s t u : Dev}

theorem Dev.measuresOnly.of_regs (h : s.measuredEq t) (hr : t.regs = s.regs) : s.measuresOnly t :=
  ⟨h, fun b _ _ => by rw [Dev.rd, hr, Dev.rd]⟩

theorem Dev.measuresOnly.refl (s : Dev) : s.measuresOnly s := .of_regs rfl rfl

theorem Dev.measuresOnly.trans (h : s.measuresOnly t) (g : t.measuresOnly u) : s.measuresOnly u := by
  refine ⟨?_, fun b hb he => (g.rd b hb he).trans (h.rd b hb he)⟩
  have ht : t = _ := h.rest
  have hu : u = _ := g.rest
  rw [ht] at hu
  exact hu

theorem Dev.measuresOnly.ite {c : Prop} [Decidable c] (h : s.measuresOnly t) (g : s.measuresOnly u) :
    s.measuresOnly (if c then t else u) := by
  split <;> assumption

theorem Dev.measuresOnly.forAll {α : Type} {f : Dev → α → Dev} {l : List α} (h : ∀ s, ∀ a ∈ l, Dev.measuresOnly s (f s a)) (s : Dev) :
    s.measuresOnly (Machine.forAll l s f) := by
  induction l generalizing s with
  | nil => exact .refl s
  | cons a l ih => exact (h s a List.mem_cons_self).trans (ih (fun s b hb => h s b (List.mem_cons_of_mem a hb)) (f s a))

/-- An operation of fault reporting or of the bridge changes no unit's state. -/
theorem Dev.measuresOnly.of_restEq (h : s.restEq t) (hr : ∀ b, ¬ measuringReg b → b ≠ Reg.VSP_EVT_HOLD → t.rd b = s.rd b) :
    s.measuresOnly t := by
  refine ⟨?_, hr⟩
  have ht : t = _ := h
  rw [ht]
  rfl

end

section
variable {s t : Dev} (h : s.measuresOnly t)
include h

theorem Dev.measuresOnly.wr (a : Nat) (v : Word) (ha : measuringReg a) : s.measuresOnly (t.wr a v) :=
  h.trans ⟨rfl, fun _ hb _ => Dev.rd_wr_other _ _ _ _ fun e => hb (e ▸ ha)⟩

theorem Dev.measuresOnly.emit (m : OutMsg) : s.measuresOnly (t.emit m) := h.trans (.of_regs rfl rfl)

theorem Dev.measuresOnly.setHalf (d n : Nat) (x : HalfH) : s.measuresOnly (t.setHalf d n x) := h.trans (.of_regs rfl rfl)

theorem Dev.measuresOnly.setCal (d n : Nat) (x : CalH) : s.measuresOnly (t.setCal d n x) := h.trans (.of_regs rfl rfl)

theorem Dev.measuresOnly.setImu (x : ImuH) : s.measuresOnly { t with imu := x } := h.trans (.of_regs rfl rfl)

theorem Dev.measuresOnly.setBud (x : BudH) : s.measuresOnly { t with bud := x } := h.trans (.of_regs rfl rfl)

theorem Dev.measuresOnly.brgSend (d vc : Nat) : s.measuresOnly (t.brgSend d vc) :=
  h.trans (.of_restEq (t.brgSend_eq d vc) fun b _ _ => t.brgSend_rd d vc b)

/-- A fault of these units has no watcher: it reaches its own status register and VSP_EVT_HOLD. -/
theorem Dev.measuresOnly.raise (a k : Nat) (ha : measuringReg a) : s.measuresOnly (t.raise a k) := by
  have hlatch : t.raise a k = t.latchFault a k := by rw [Dev.raise, watcherOf_measuringReg ha]; rfl
  refine h.trans (.of_restEq (t.raise_eq a k) fun b hb he => ?_)
  rw [hlatch, Dev.latchFault_rd _ _ _ _ he fun e => hb (e ▸ ha)]

theorem Dev.measuresOnly.causeOn (a k : Nat) (ha : measuringReg a) (hc : measuringReg (a + 8)) : s.measuresOnly (t.causeOn a k) :=
  (h.wr (a + 8) _ hc).raise a k ha

theorem Dev.measuresOnly.causeOff (a k : Nat) (hc : measuringReg (a + 8)) : s.measuresOnly (t.causeOff a k) := h.wr (a + 8) _ hc

end

/-! ## Correction samples and the inertial script -/

theorem Dev.acceptSample_measuresOnly (s : Dev) (d n : Nat) (a : Att) (level : Bool) : s.measuresOnly (s.acceptSample d n a level) :=
  (Dev.measuresOnly.refl s).setHalf d n _

theorem Dev.takeJump_measuresOnly (s : Dev) {d n : Nat} (hd : d < 2) (hn : n < 4) (jump : Nat) (a : Att) :
    s.measuresOnly (s.takeJump d n jump a) := by
  have hcount : s.measuresOnly (s.countJump d n) :=
    ((Dev.measuresOnly.refl s).wr _ _ (measuringReg_warp hd hn (by decide))).raise _ _ (measuringReg_warp hd hn (by decide))
  exact .ite (hcount.trans (Dev.acceptSample_measuresOnly _ _ _ _ _)) (hcount.setHalf _ _ _)

theorem Dev.sample_measuresOnly (s : Dev) {n : Nat} (hn : n < 4) (a : Att) : s.measuresOnly (s.sample n a) := by
  rcases s.sample_cases n a with h | h <;> rw [h]
  · exact s.acceptSample_measuresOnly _ _ _ _
  · exact s.takeJump_measuresOnly (s.masterOf_lt n) hn _ _

theorem Dev.corrHost_measuresOnly (s : Dev) (d : Nat) {n : Nat} (hn : n < 4) (v : Word) : s.measuresOnly (s.corrHost d n v) :=
  .ite (s.sample_measuresOnly hn _) (.refl s)

theorem Dev.corrStale_measuresOnly (s : Dev) {n : Nat} (hn : n < 4) : s.measuresOnly (s.corrStale n) := by
  have hd := s.masterOf_lt n
  exact .ite (.refl s) (((Dev.measuresOnly.refl s).setHalf _ _ _).causeOn _ _ (measuringReg_warp hd hn (by decide))
    (measuringReg_warp hd hn (o := 0x58) (by decide)))

theorem Dev.imuBad_measuresOnly (s : Dev) (last : Nat) : s.measuresOnly (s.imuBad last) := by
  have hcount : s.measuresOnly (s.countBad last) :=
    (((Dev.measuresOnly.refl s).setImu _).wr _ _ (measuringReg_imu (by decide))).wr _ _ (measuringReg_imu (by decide))
  rw [Dev.imuBad_eq]
  exact .ite (hcount.causeOn _ _ (measuringReg_imu (by decide)) (measuringReg_imu (by decide))) hcount

theorem Dev.imuSample_measuresOnly (s : Dev) {n : Nat} (hn : n < 4) (a : Att) : s.measuresOnly (s.imuSample n a) :=
  .ite (.refl s) (.ite (s.sample_measuresOnly hn a)
    (.ite (((Dev.measuresOnly.refl s).brgSend 0 0).trans (Dev.sample_measuresOnly _ hn a)) (.refl s)))

theorem Dev.imuTrace_measuresOnly (s : Dev) (r : ImuRun) : s.measuresOnly (s.imuTrace r) := by
  have hcap : ∀ k ∈ List.range 8, measuringReg (Reg.HEAD_IMU_CAP k) := fun k hk => measuringReg_imu (by
    have := List.mem_range.mp hk
    simp only [Reg.HEAD_IMU_CAP, Reg.cd]; omega)
  have hbus : s.measuresOnly (s.imuTraffic r) :=
    ((Dev.measuresOnly.forAll (fun w k hk => (Dev.measuresOnly.refl w).wr _ _ (hcap k hk)) s).setImu _).emit _
  exact .ite (hbus.raise _ _ (measuringReg_imu (by decide))) hbus

theorem Dev.imuDeliver_measuresOnly (s : Dev) (p q t : Int) : s.measuresOnly (s.imuDeliver p q t) :=
  (((((Dev.measuresOnly.refl s).setImu _).wr _ _ (measuringReg_imu (by decide))).wr _ _ (measuringReg_imu (by decide))).wr _ _
    (measuringReg_imu (by decide))).wr _ _ (measuringReg_imu (by decide)) |>.causeOff _ _ (measuringReg_imu (by decide))

theorem Dev.imuJudge_measuresOnly (s : Dev) (r : ImuRun) : s.measuresOnly (s.imuJudge r) := by
  by_cases h : r.isBad
  · rw [Dev.imuJudge_bad h]
    exact .trans (.ite ((Dev.measuresOnly.refl s).raise _ _ (measuringReg_imu (by decide))) (.refl s)) (Dev.imuBad_measuresOnly _ _)
  · obtain ⟨p, q, -, -, hgood⟩ := Dev.imuJudge_good (s := s) h
    rw [hgood]
    exact (s.imuDeliver_measuresOnly p q _).trans (.forAll (fun w n hn => w.imuSample_measuresOnly (List.mem_range.mp hn) _) _)

theorem Dev.imuRun_measuresOnly (s : Dev) (rx : List Byte) : s.measuresOnly (s.imuRun rx) := by
  cases hon : s.imuOn with
  | false => rw [Dev.imuRun_off hon]; exact .refl s
  | true =>
    cases hskip : s.imu.skip with
    | true => rw [Dev.imuRun_skipped hon hskip]; exact (Dev.measuresOnly.refl s).setImu _
    | false =>
      rw [Dev.imuRun_judged hon hskip]
      have hfree : s.measuresOnly s.free.2 := .of_regs rfl rfl
      exact (hfree.trans (Dev.imuTrace_measuresOnly _ _)).trans (Dev.imuJudge_measuresOnly _ _)

theorem Dev.imuOverrun_measuresOnly (s : Dev) : s.measuresOnly s.imuOverrun :=
  .ite (.refl s) (.trans ((((Dev.measuresOnly.refl s).setImu _).emit _).raise _ _ (measuringReg_imu (by decide)))
    (Dev.imuBad_measuresOnly _ 3))

theorem Dev.imuOpWrite_measuresOnly (s : Dev) (k : Fin 32) (v : Word) : s.measuresOnly (s.imuOpWrite k v) :=
  .ite ((Dev.measuresOnly.refl s).raise _ _ (measuringReg_imu (by decide)))
    ((Dev.measuresOnly.refl s).wr _ _ (measuringReg_imu (by simp only [Reg.HEAD_IMU_OP, Reg.cd]; omega)))

/-! ## Mesh copies -/

section
variable (s : Dev) {d n : Nat} (hd : d < 2) (hn : n < 4)
include hd hn

theorem Dev.refuseMesh_measuresOnly (last bit : Nat) : s.measuresOnly (s.refuseMesh d n last bit) :=
  (((Dev.measuresOnly.refl s).setHalf d n _).wr _ _ (measuringReg_warp hd hn (by decide))).raise _ _
    (measuringReg_warp hd hn (by decide))

theorem Dev.acceptMesh_measuresOnly (mesh : Mesh) : s.measuresOnly (s.acceptMesh d n mesh) :=
  ((Dev.measuresOnly.refl s).setHalf d n _).wr _ _ (measuringReg_warp hd hn (by decide))

theorem Dev.meshCompare_measuresOnly (mesh : Mesh) : s.measuresOnly (s.meshCompare d n mesh) :=
  .ite ((Dev.measuresOnly.refl s).setHalf d n _)
    (.ite (s.acceptMesh_measuresOnly hd hn mesh) (s.refuseMesh_measuresOnly hd hn _ _))

theorem Dev.meshCheck_measuresOnly (data : Option (List Byte)) : s.measuresOnly (s.meshCheck d n data) := by
  cases data with
  | none => exact s.refuseMesh_measuresOnly hd hn _ _
  | some bs =>
    refine .trans ((Dev.measuresOnly.refl s).wr (Reg.HEAD_WARP_CRC d n) (BitVec.ofNat 32 (crc32c (bs.take 8712)))
      (measuringReg_warp hd hn (by decide))) ?_
    exact .ite (Dev.refuseMesh_measuresOnly _ hd hn _ _) (.ite (Dev.refuseMesh_measuresOnly _ hd hn _ _)
      (.ite (Dev.meshCompare_measuresOnly _ hd hn _) (Dev.acceptMesh_measuresOnly _ hd hn _)))

end

theorem Dev.meshTell_measuresOnly (s : Dev) {n : Nat} (hn : n < 4) : s.measuresOnly (s.meshTell n) := by
  have hd : 1 - s.masterOf n < 2 := by omega
  refine .ite (.refl s) (.trans ((Dev.measuresOnly.refl s).brgSend (s.masterOf n) 0) ?_)
  generalize s.brgSend (s.masterOf n) 0 = u
  split
  · exact u.meshCompare_measuresOnly hd hn _
  · exact .refl u
  · exact .ite (.refl u) (u.refuseMesh_measuresOnly hd hn _ _)

theorem Dev.raiseRefused_measuresOnly (s : Dev) {d : Nat} (hd : d < 2) (a n : Nat) (write staging : Bool) :
    s.measuresOnly (s.raiseRefused d a n write staging) :=
  .forAll (fun w _ _ => (Dev.measuresOnly.refl w).raise _ _ (measuringReg_drc hd)) s

theorem Dev.meshDone_measuresOnly (s : Dev) (m : Mems) {d n : Nat} (hd : d < 2) (hn : n < 4) : s.measuresOnly (s.meshDone m d n) := by
  unfold Dev.meshDone
  split
  · exact .refl s
  · next base _ =>
    have hcheck : s.measuresOnly (((s.wrB (Reg.HEAD_WARP_STAT d n) 1 true).raiseRefused d base 8716 false false).meshCheck d n
        (s.dieRead m d base 8716)) :=
      (((Dev.measuresOnly.refl s).wr _ _ (measuringReg_warp hd hn (by decide))).trans
        (Dev.raiseRefused_measuresOnly _ hd _ _ _ _)).trans (Dev.meshCheck_measuresOnly _ hd hn _)
    exact .ite (hcheck.trans (Dev.meshTell_measuresOnly _ hn)) hcheck

/-! ## Luminance -/

theorem Dev.budgetUpdate_measuresOnly (s : Dev) : s.measuresOnly s.budgetUpdate :=
  (((Dev.measuresOnly.refl s).setBud _).wr _ _ (measuringReg_photo (by decide) (by decide))).wr _ _
    (measuringReg_photo (by decide) (by decide))

theorem Dev.sumReport_measuresOnly (s : Dev) (d n : Nat) : s.measuresOnly (s.sumReport d n) := by
  unfold Dev.sumReport
  split
  · exact .refl s
  · dsimp only
    have hway : s.measuresOnly (if d = 1 then s.brgSend 1 0 else s) := .ite ((Dev.measuresOnly.refl s).brgSend 1 0) (.refl s)
    generalize (if d = 1 then s.brgSend 1 0 else s) = u at *
    refine .ite ((Dev.measuresOnly.refl s).setHalf d n _) (.ite (.causeOff ?_ _ _ (measuringReg_photo (o := 0x848) ?_ ?_)) ?_)
    · exact (hway.setBud _).setHalf d n _
    · decide
    · decide
    · exact (hway.setBud _).setHalf d n _

theorem Dev.sumLost_measuresOnly (s : Dev) (d n : Nat) : s.measuresOnly (s.sumLost d n) :=
  .ite (.refl s) (((Dev.measuresOnly.refl s).setBud _).causeOn _ _ (measuringReg_photo (by decide) (by decide))
    (measuringReg_photo (d := 0) (o := 0x848) (by decide) (by decide)))

theorem Dev.ceilWrite_measuresOnly (s : Dev) {d : Nat} (hd : d < 2) (k : Fin 64) (f : CeilField) (v : Word) :
    s.measuresOnly (s.ceilWrite d k f v) := by
  have hs := Dev.measuresOnly.refl s
  refine .ite (hs.raise _ _ (measuringReg_photo hd (by decide))) ?_
  cases f with
  | x => exact hs.wr _ _ (measuringReg_row hd (by omega))
  | y => exact hs.wr _ _ (measuringReg_row hd (by omega))
  | ctl => exact hs.wr _ _ (measuringReg_row hd (by omega))

/-! ## Calibration -/

section
variable (s : Dev) {d t : Nat} (hd : d < 2)
include hd

theorem measuringReg_calFlag : measuringReg (Reg.CAL_FLT_STAT d) := measuringReg_photo hd (by decide)

theorem measuringReg_calCause : measuringReg (Reg.CAL_FLT_STAT d + 8) := measuringReg_photo (o := 0x1248) hd (by decide)

theorem Dev.calResult_measuresOnly (r : Nat) : s.measuresOnly (s.calResult d r) :=
  (Dev.measuresOnly.refl s).wr _ _ (measuringReg_photo hd (by decide))

theorem Dev.stoppedCause_measuresOnly : s.measuresOnly (s.stoppedCause d) :=
  .ite (.refl s) ((Dev.measuresOnly.refl s).causeOff _ _ (measuringReg_calCause hd))

variable (ht : t < 8)
include ht

theorem Dev.setTstat_measuresOnly (f : Fld) (v : Nat) : s.measuresOnly (s.setTstat d t f v) :=
  (Dev.measuresOnly.refl s).wr _ _ (measuringReg_tstat hd ht)

theorem Dev.showCal_measuresOnly : s.measuresOnly (s.showCal d t) := s.setTstat_measuresOnly hd ht _ _

theorem Dev.clearFails_measuresOnly : s.measuresOnly (s.clearFails d t) :=
  (((Dev.measuresOnly.refl s).setCal d t _).trans (Dev.setTstat_measuresOnly _ hd ht _ _)).trans (Dev.stoppedCause_measuresOnly _ hd)

theorem Dev.calFailed_measuresOnly : s.measuresOnly (s.calFailed d t) := by
  have hcount := (Dev.measuresOnly.refl s).setCal d t { s.cal d t with fails := (s.cal d t).fails + 1, holdoff := true }
  exact .ite ((hcount.trans (Dev.setTstat_measuresOnly _ hd ht _ _)).causeOn _ _ (measuringReg_calFlag hd)
    (measuringReg_calCause hd)) hcount

theorem Dev.abandonRun_measuresOnly (why : Nat) : s.measuresOnly (s.abandonRun d t why) := by
  unfold Dev.abandonRun
  dsimp only
  refine .ite (.refl s) (.emit (.trans ?_ (Dev.showCal_measuresOnly _ hd ht)) _)
  refine .trans ?_ (.ite ((Dev.measuresOnly.refl _).raise _ _ (measuringReg_calFlag hd)) (.refl _))
  refine .trans ?_ (.ite (.refl _) (Dev.calFailed_measuresOnly _ hd ht))
  exact (((Dev.measuresOnly.refl s).setCal d t _).trans (Dev.setTstat_measuresOnly _ hd ht _ _)).trans
    (Dev.setTstat_measuresOnly _ hd ht _ _)

theorem Dev.slotMissed_measuresOnly : s.measuresOnly (s.slotMissed d t) := by
  have hmissed := (Dev.measuresOnly.refl s).setCal d t { s.cal d t with await := false, missed := (s.cal d t).missed + 1 }
  exact .ite (hmissed.trans (Dev.abandonRun_measuresOnly _ hd ht 7)) hmissed

theorem Dev.awaitedSlotMissed_measuresOnly :
    s.measuresOnly (if (s.cal d t).await ∧ s.inRun d t then s.slotMissed d t else s) :=
  .ite (s.slotMissed_measuresOnly hd ht) (.refl s)

end

theorem tilesIn_lt {tiles : BitVec 8} {t : Nat} (h : t ∈ tilesIn tiles) : t < 8 := List.mem_range.mp (List.mem_filter.mp h).1

theorem Dev.calTrigger_measuresOnly (s : Dev) {d : Nat} (hd : d < 2) (tiles : BitVec 8) (kind : Nat) :
    s.measuresOnly (s.calTrigger d tiles kind) := by
  refine .trans (.forAll (fun w t ht => ?_) s) (Dev.calResult_measuresOnly _ hd _)
  have ht := tilesIn_lt ht
  have hclear : w.measuresOnly (if kind = 1 then w.clearFails d t else w) := .ite (w.clearFails_measuresOnly hd ht) (.refl w)
  exact .ite hclear ((hclear.setCal d t _).trans (Dev.showCal_measuresOnly _ hd ht))

theorem Dev.calAbortCmd_measuresOnly (s : Dev) {d : Nat} (hd : d < 2) (tiles : BitVec 8) : s.measuresOnly (s.calAbortCmd d tiles) := by
  refine .trans (.forAll (fun w t ht => ?_) s) (Dev.calResult_measuresOnly _ hd _)
  have ht := tilesIn_lt ht
  exact ((w.abandonRun_measuresOnly hd ht 4).setCal d t _).trans (Dev.showCal_measuresOnly _ hd ht)

/-! ## The commands -/

/-- A command that acts on the device alone, and there within these units. -/
theorem measuresOnly_of_exec {c : Instr} {s t : State} {u : Dev} (he : exec c s = .next t) (hu : s.dev.measuresOnly u)
    (hc : exec c s = .next { s with dev := u }) : t.nv = s.nv ∧ t.mem = s.mem ∧ s.dev.measuresOnly t.dev := by
  rw [hc] at he
  cases he
  exact ⟨rfl, rfl, hu⟩

theorem Dev.measuresOnly.keepsOutside {s t : Dev} (h : s.measuresOnly t) :
    s.keepsOutside [(0x104A000, 0x3000), (0x204A000, 0x3000), (0x1060000, 0x2000), (0x2060000, 0x2000), (0x1080000, 0x1000),
      (0x2080000, 0x1000), (Reg.VSP_EVT_HOLD, 4)] t := by
  intro a ha
  simp only [List.forall_mem_cons, List.not_mem_nil, false_imp_iff, implies_true, and_true] at ha
  refine h.rd a ?_ ?_
  · unfold measuringReg; omega
  · omega

/-- Settles O53: each command by the lemma that says that it stays within the measuring units. -/
theorem correctionLuminanceAndCalibrationKeepOtherState : Obligations.CorrectionLuminanceAndCalibrationKeepOtherState := by
  intro d n v ti rx k k2 f tiles c s t hc he
  suffices h : t.nv = s.nv ∧ t.mem = s.mem ∧ s.dev.measuresOnly t.dev by
    obtain ⟨hnv, hmem, hdev⟩ := h
    exact ⟨hnv, hmem, hdev.rest, hdev.keepsOutside⟩
  simp only [List.mem_cons, List.not_mem_nil, or_false] at hc
  rcases hc with rfl | rfl | rfl | rfl | rfl | rfl | rfl | rfl | rfl | rfl | rfl | rfl | rfl | rfl | rfl
  · exact measuresOnly_of_exec he (s.dev.corrHost_measuresOnly d n.isLt v) rfl
  · exact measuresOnly_of_exec he (s.dev.corrStale_measuresOnly n.isLt) rfl
  · exact measuresOnly_of_exec he (s.dev.imuRun_measuresOnly rx) rfl
  · exact measuresOnly_of_exec he s.dev.imuOverrun_measuresOnly rfl
  · exact measuresOnly_of_exec he (s.dev.imuOpWrite_measuresOnly k v) rfl
  · exact measuresOnly_of_exec he (s.dev.meshDone_measuresOnly s.mem d.isLt n.isLt) rfl
  · exact measuresOnly_of_exec he s.dev.budgetUpdate_measuresOnly rfl
  · exact measuresOnly_of_exec he (s.dev.sumReport_measuresOnly d n) rfl
  · exact measuresOnly_of_exec he (s.dev.sumLost_measuresOnly d n) rfl
  · exact measuresOnly_of_exec he (s.dev.ceilWrite_measuresOnly d.isLt k2 f v) rfl
  · exact measuresOnly_of_exec he (s.dev.calTrigger_measuresOnly d.isLt tiles 1) rfl
  · exact measuresOnly_of_exec he (s.dev.calTrigger_measuresOnly d.isLt tiles 2) rfl
  · exact measuresOnly_of_exec he (s.dev.calAbortCmd_measuresOnly d.isLt tiles) rfl
  · exact measuresOnly_of_exec he (s.dev.awaitedSlotMissed_measuresOnly d.isLt ti.isLt) rfl
  · exact measuresOnly_of_exec he ((Dev.measuresOnly.refl s.dev).setCal d ti { s.dev.cal d ti with holdoff := false }) rfl

end Sys2Proof.Machine
end

section
/-! SUPPORT. The statement on correction samples, inertial scripts and mesh copies: the counts, the inertial unit and the accepted mesh. -/

namespace Sys2Proof.Machine

/-! ## Samples -/

theorem satAdd_lt (bits a b : Nat) : satAdd bits a b < 2 ^ bits := by
  have := Nat.two_pow_pos bits
  rw [satAdd]; omega

/-- A counter field that saturates, of a register that implements its bits. -/
theorem Dev.rdF_satF_same (s : Dev) (a : Nat) (f : Fld) (n : Nat) (hf : f.lo + f.len ≤ 32) (hm : regMask a &&& f.mask = f.mask) :
    (s.satF a f n).rdF a f = satAdd f.len (s.rdF a f) n := by
  rw [Dev.satF, Dev.rdF_wrF_same _ _ _ _ hf hm, Nat.mod_eq_of_lt (satAdd_lt _ _ _)]

theorem regMask_corrCnt : ∀ (d : Die) (n : Head), regMask (Reg.HEAD_CORR_CNT d n) = 0xFFFFFFFF#32 := by decide

theorem regMask_warpCrc : ∀ (d : Die) (n : Head), regMask (Reg.HEAD_WARP_CRC d n) = 0xFFFFFFFF#32 := by decide

theorem staleCause_implemented : ∀ (d : Die) (n : Head),
    bitOf (regMask (Reg.HEAD_WARP_FLT_STAT d n + 8)) B.HEAD_WARP_STALE = true := by decide

/-- Registers of the warp and inertial units are none that fault reporting writes. -/
theorem faultReg_warp {b : Nat} (h : 0x1000000 ≤ b) (ho : b % 0x1000000 < 0x4D000) : faultReg b = false :=
  faultReg_eq_false b h (.inl (by omega))

section
variable (s : Dev) (d : Die) (n : Head)

theorem faultReg_corrCnt : faultReg (Reg.HEAD_CORR_CNT d n) = false :=
  faultReg_warp (by simp only [Reg.HEAD_CORR_CNT, Reg.cd]; omega) (by simp only [Reg.HEAD_CORR_CNT, Reg.cd]; omega)

theorem faultReg_warpCause : faultReg (Reg.HEAD_WARP_FLT_STAT d n + 8) = false :=
  faultReg_warp (by simp only [Reg.HEAD_WARP_FLT_STAT, Reg.cd]; omega) (by simp only [Reg.HEAD_WARP_FLT_STAT, Reg.cd]; omega)

/-- A jump is counted, up to the field's limit. -/
theorem Dev.countJump_jumps : (s.countJump d n).rdF (Reg.HEAD_CORR_CNT d n) F.HEAD_CORR_CNT_JUMPS =
    satAdd F.HEAD_CORR_CNT_JUMPS.len (s.rdF (Reg.HEAD_CORR_CNT d n) F.HEAD_CORR_CNT_JUMPS) 1 := by
  have hmask := regMask_corrCnt d n
  rw [← Dev.rdF_satF_same s _ F.HEAD_CORR_CNT_JUMPS 1 (by decide) (by rw [hmask]; decide), Dev.countJump, Dev.rdF,
    Dev.raise_rd _ _ _ _ (faultReg_corrCnt d n) (by simp only [Reg.HEAD_CORR_CNT, Reg.HEAD_WARP_FLT_STAT]; omega), ← Dev.rdF]

variable {s d n}

theorem Dev.corrHost_host {v : Word} (hm : s.isMaster d n = true) (hsrc : s.corrSrc n = 1) : s.corrHost d n v =
    s.sample n ⟨sgn 16 (fget v F.HEAD_CORR_HOST_PITCH), sgn 16 (fget v F.HEAD_CORR_HOST_ROLL), s.us⟩ := if_pos ⟨hm, hsrc⟩

theorem Dev.headUsed_of_isMaster (hm : s.isMaster d n = true) : s.headUsed n = true := by
  have hused := Dev.usedOn_of_isMaster hm
  unfold Dev.headUsed
  fin_cases d
  · exact Bool.or_eq_true_iff.mpr (.inl hused)
  · exact Bool.or_eq_true_iff.mpr (.inr hused)

/-- A correction that goes stale. -/
theorem Dev.corrStale_stale (hm : s.isMaster d n = true) (hd : s.masterOf n = d) (hsrc : s.corrSrc n = 1)
    (hst : (s.half d n).stale = none) : s.corrStale n =
      (s.setHalf d n { s.half d n with stale := some s.us, staleEnd := false, exempt := true, jumps := [] }).causeOn
        (Reg.HEAD_WARP_FLT_STAT d n) B.HEAD_WARP_STALE := by
  unfold Dev.corrStale
  rw [hd]
  exact if_neg (by simp [Dev.headUsed_of_isMaster hm, hsrc, hst])

end

/-! ## Runs of the inertial script -/

/-- The registers of the inertial unit. -/
def imuReg (b : Nat) : Prop := 0x104C000 ≤ b ∧ b < 0x104C200

theorem faultReg_imu {b : Nat} (h : imuReg b) : faultReg b = false :=
  faultReg_warp (by unfold imuReg at h; omega) (by unfold imuReg at h; omega)

/-! A sample on its way to a head goes on beside the inertial unit. -/

section
variable (s : Dev) {n : Nat} (hn : n < 4) (a : Att)

theorem Dev.acceptSample_goesOn (d n : Nat) (level : Bool) : s.goesOn imuReg (s.acceptSample d n a level) :=
  (Dev.goesOn.refl s).setHalf d n _

theorem Dev.acceptSample_imu (d n : Nat) (level : Bool) : (s.acceptSample d n a level).imu = s.imu := rfl

theorem Dev.countJump_imu (d n : Nat) : (s.countJump d n).imu = s.imu := Dev.raise_imu _ _ _

theorem Dev.sample_imu (n : Nat) : (s.sample n a).imu = s.imu := by
  rcases s.sample_cases n a with h | h <;> rw [h]
  · exact s.acceptSample_imu a _ _ _
  · unfold Dev.takeJump
    split
    · rw [Dev.acceptSample_imu, Dev.countJump_imu]
    · rw [Dev.setHalf_imu, Dev.countJump_imu]

theorem Dev.imuSample_imu (n : Nat) : (s.imuSample n a).imu = s.imu := by
  unfold Dev.imuSample
  split
  · rfl
  · split
    · exact s.sample_imu a n
    · split
      · exact (Dev.sample_imu _ a n).trans (s.brgSend_keeps Dev.imu (fun _ _ _ => rfl) 0 0)
      · rfl

theorem Dev.imuSpread_imu : (s.imuSpread a).imu = s.imu := forAll_keeps Dev.imu (fun w n => w.imuSample_imu a n) _ s

include hn

theorem Dev.countJump_goesOn (d : Nat) : s.goesOn imuReg (s.countJump d n) := by
  refine ((Dev.goesOn.refl s).wr _ _ ?_).raise _ _ (fun _ => faultReg_imu) ?_
  · simp only [imuReg, Reg.HEAD_CORR_CNT, Reg.cd]; omega
  · simp only [imuReg, Reg.HEAD_WARP_FLT_STAT, Reg.cd]; omega

theorem Dev.sample_goesOn : s.goesOn imuReg (s.sample n a) := by
  rcases s.sample_cases n a with h | h <;> rw [h]
  · exact s.acceptSample_goesOn a _ _ _
  · have hcount := s.countJump_goesOn hn (s.masterOf n)
    exact .ite (hcount.trans (Dev.acceptSample_goesOn _ a _ _ _)) (hcount.setHalf _ _ _)

theorem Dev.imuSample_goesOn : s.goesOn imuReg (s.imuSample n a) := by
  have hsend : s.goesOn imuReg (s.brgSend 0 0) := .of_eq (s.brgSend_regs 0 0) (s.brgSend_out 0 0)
  exact .ite (.refl s) (.ite (s.sample_goesOn hn a) (.ite (hsend.trans (Dev.sample_goesOn _ hn a)) (.refl s)))

end

theorem Dev.imuSpread_goesOn (s : Dev) (a : Att) : s.goesOn imuReg (s.imuSpread a) :=
  .forAll (fun w _ hn => w.imuSample_goesOn (List.mem_range.mp hn) a) s

section
variable (s : Dev) (r : ImuRun)

theorem Dev.imuCaptures_keeps {β : Type} (g : Dev → β)
    (h : ∀ (s : Dev), ∀ k ∈ List.range 8, ∀ v, g (s.wr (Reg.HEAD_IMU_CAP k) v) = g s) :
    g (forAll (List.range 8) s (fun s k => s.wr (Reg.HEAD_IMU_CAP k) (BitVec.ofNat 32 (leAt r.cap (4 * k) 4)))) = g s :=
  forAll_keeps_of_mem g (fun s k hk => h s k hk _) s

/-- The trace of a run spares the rest of the inertial unit's registers. -/
theorem Dev.imuTrace_rd (b : Nat) (hb : imuReg b) (hcap : b < 0x104C100) (hflt : b ≠ Reg.HEAD_IMU_FLT_STAT) :
    (s.imuTrace r).rd b = s.rd b := by
  have htraffic : (s.imuTraffic r).rd b = s.rd b :=
    s.imuCaptures_keeps r (fun s => s.rd b) fun s k _ v => Dev.rd_wr_other _ _ _ _ (by simp only [Reg.HEAD_IMU_CAP, Reg.cd]; omega)
  exact Dev.rd_ite _ _ _ _ _ ((Dev.raise_rd _ _ _ _ (faultReg_imu hb) hflt).trans htraffic) htraffic

/-- A run sets no more of the inertial unit than the chip select, before it is judged. -/
theorem Dev.imuTrace_imu : (s.imuTrace r).imu = { s.imu with sel := !r.script && selAfter s.imu.sel r.out } := by
  have htraffic : (s.imuTraffic r).imu = { s.imu with sel := !r.script && selAfter s.imu.sel r.out } := by
    unfold Dev.imuTraffic
    simp only [Dev.emit_imu]
    rw [s.imuCaptures_keeps r Dev.imu fun _ _ _ _ => rfl]
  unfold Dev.imuTrace
  dsimp only
  split
  · rw [Dev.raise_imu, htraffic]
  · exact htraffic

theorem Dev.imuTrace_us : (s.imuTrace r).us = s.us := by
  have htraffic : (s.imuTraffic r).us = s.us := s.imuCaptures_keeps r Dev.us fun _ _ _ _ => rfl
  unfold Dev.imuTrace
  dsimp only
  split
  · rw [Dev.raise_us, htraffic]
  · exact htraffic

theorem Dev.imuTrace_imuTime : (s.imuTrace r).imuTime = s.imuTime := by
  rw [Dev.imuTime, Dev.imuTrace_us, Dev.rdF, Dev.imuTrace_rd _ _ _ (by unfold imuReg; decide) (by decide) (by decide), ← Dev.rdF, Dev.imuTime]

end

/-! A run that delivers both angles. -/

theorem regMask_imuLast : regMask Reg.HEAD_IMU_LAST = 0xFFFFFFFF#32 := by decide

theorem regMask_imuTime : regMask Reg.HEAD_IMU_TIME = 0xFFFFFFFF#32 := by decide

section
variable (s : Dev) (p q t : Int)

theorem Dev.imuDeliver_last :
    (s.imuDeliver p q t).rd Reg.HEAD_IMU_LAST = BitVec.ofNat 32 (unsgn 16 p + 0x10000 * unsgn 16 q) := by
  rw [Dev.imuDeliver, Dev.causeOff_rd _ _ _ _ (by decide), Dev.rd_wr_other _ _ _ _ (by decide), Dev.rd_wr_same, regMask_imuLast]
  exact BitVec.and_allOnes

theorem Dev.imuDeliver_time : (s.imuDeliver p q t).rd Reg.HEAD_IMU_TIME = BitVec.ofNat 32 (unsgn 32 t) := by
  rw [Dev.imuDeliver, Dev.causeOff_rd _ _ _ _ (by decide), Dev.rd_wr_same, regMask_imuTime]
  exact BitVec.and_allOnes

theorem Dev.imuDeliver_bad : (s.imuDeliver p q t).imu.bad = 0 := rfl

theorem Dev.imuDeliver_silent : (s.imuDeliver p q t).rdB Reg.HEAD_IMU_FLT_CAUSE B.HEAD_IMU_SILENT = false :=
  Dev.causeOff_cause _ _ _ (by decide)

end

/-! A bad run. -/

theorem regMask_imuStat : regMask Reg.HEAD_IMU_STAT = 0xF7#32 := by decide

section
variable (s : Dev) (last : Nat)

theorem Dev.imuBad_imu : (s.imuBad last).imu = { s.imu with bad := min 16 (s.imu.bad + 1) } := by
  rw [Dev.imuBad_eq]
  split
  · exact Dev.causeOn_imu _ _ _
  · rfl

/-- A register of the unit other than the status, the counter and the fault triple. -/
theorem Dev.imuBad_rd_of_countBad (b : Nat) (hb : imuReg b) (hflt : b ≠ Reg.HEAD_IMU_FLT_STAT) (hc : b ≠ Reg.HEAD_IMU_FLT_CAUSE) :
    (s.imuBad last).rd b = (s.countBad last).rd b :=
  Dev.rd_ite _ _ _ _ _ (Dev.causeOn_rd _ _ _ _ (faultReg_imu hb) hflt hc) rfl

theorem Dev.imuBad_rd_last : (s.imuBad last).rd Reg.HEAD_IMU_LAST = s.rd Reg.HEAD_IMU_LAST := by
  rw [Dev.imuBad_rd_of_countBad _ _ _ (by unfold imuReg; decide) (by decide) (by decide), Dev.countBad, Dev.satF,
    Dev.rd_wrF_other _ _ _ _ _ (by decide), Dev.rd_wr_other _ _ _ _ (by decide)]
  rfl

/-- LAST and the row of bad runs in HEAD_IMU_STAT do not meet. -/
theorem fget_imuStat (row : Nat) (hl : last < 4) :
    fget (BitVec.ofNat 32 (2 * last + 16 * row)) ⟨1, 2⟩ = last := by
  rw [fget, BitVec.toNat_ofNat]
  simp only
  omega

theorem Dev.imuBad_stat (hl : last < 4) : fget ((s.imuBad last).rd Reg.HEAD_IMU_STAT) ⟨1, 2⟩ = last := by
  rw [Dev.imuBad_rd_of_countBad _ _ _ (by unfold imuReg; decide) (by decide) (by decide), Dev.countBad, Dev.satF,
    Dev.rd_wrF_other _ _ _ _ _ (by decide), Dev.rd_wr_same, fget_and_mask _ _ _ (by decide) (by rw [regMask_imuStat]; decide)]
  exact fget_imuStat last _ hl

end

theorem ImuRun.last_lt (r : ImuRun) : r.last < 4 := by
  unfold ImuRun.last
  split_ifs <;> decide

/-- A run that delivers. -/
theorem Dev.imuRun_good {s : Dev} {rx : List Byte} (hon : s.imuOn = true) (hskip : s.imu.skip = false)
    (h : ¬ (s.imuResult rx).isBad) :
    (s.imuRun rx).rd Reg.HEAD_IMU_LAST = BitVec.ofNat 32
      (unsgn 16 ((s.imuResult rx).pitch.getD 0) + 0x10000 * unsgn 16 ((s.imuResult rx).roll.getD 0)) ∧
    (s.imuRun rx).rd Reg.HEAD_IMU_TIME = BitVec.ofNat 32 (unsgn 32 s.imuTime) ∧ (s.imuRun rx).imu.bad = 0 ∧
    (s.imuRun rx).rdB Reg.HEAD_IMU_FLT_CAUSE B.HEAD_IMU_SILENT = false := by
  obtain ⟨p, q, hp, hq, hgood⟩ := Dev.imuJudge_good (s := s.free.2.imuTrace (s.imuResult rx)) h
  rw [Dev.imuRun_judged hon hskip, hgood, hp, hq, Option.getD_some, Option.getD_some]
  have hspread := Dev.imuSpread_goesOn
    ((s.free.2.imuTrace (s.imuResult rx)).imuDeliver p q (s.free.2.imuTrace (s.imuResult rx)).imuTime)
    ⟨p, q, (s.free.2.imuTrace (s.imuResult rx)).imuTime⟩
  have hreg : imuReg Reg.HEAD_IMU_LAST ∧ imuReg Reg.HEAD_IMU_TIME ∧ imuReg Reg.HEAD_IMU_FLT_CAUSE := by unfold imuReg; decide
  obtain ⟨hlast, htime, hcause⟩ := hreg
  refine ⟨?_, ?_, ?_, ?_⟩
  · rw [hspread.rd _ hlast, Dev.imuDeliver_last]
  · rw [hspread.rd _ htime, Dev.imuDeliver_time, Dev.imuTrace_imuTime]
    rfl
  · rw [Dev.imuSpread_imu, Dev.imuDeliver_bad]
  · rw [Dev.rdB, hspread.rd _ hcause, ← Dev.rdB, Dev.imuDeliver_silent]

/-- A bad run. -/
theorem Dev.imuRun_bad {s : Dev} {rx : List Byte} (hon : s.imuOn = true) (hskip : s.imu.skip = false) (h : (s.imuResult rx).isBad) :
    (s.imuRun rx).imu.bad = min 16 (s.imu.bad + 1) ∧ fget ((s.imuRun rx).rd Reg.HEAD_IMU_STAT) ⟨1, 2⟩ = (s.imuResult rx).last ∧
    (s.imuRun rx).rd Reg.HEAD_IMU_LAST = s.rd Reg.HEAD_IMU_LAST := by
  rw [Dev.imuRun_judged hon hskip, Dev.imuJudge_bad h]
  have hlast : imuReg Reg.HEAD_IMU_LAST := by unfold imuReg; decide
  refine ⟨?_, Dev.imuBad_stat _ _ (ImuRun.last_lt _), ?_⟩
  · rw [Dev.imuBad_imu]
    split
    · rw [Dev.raise_imu, Dev.imuTrace_imu]; rfl
    · rw [Dev.imuTrace_imu]; rfl
  · have htrace := s.free.2.imuTrace_rd (s.imuResult rx) _ hlast (by decide) (by decide)
    rw [Dev.imuBad_rd_last]
    exact Dev.rd_ite _ _ _ _ _ ((Dev.raise_rd _ _ _ _ (faultReg_imu hlast) (by decide)).trans htrace) htrace

/-! ## Mesh copies -/

section
variable {s t : Dev} {n : Nat} (h : s.sameHead t n)
include h

theorem Dev.sameHead.isSlave (d : Nat) (hd : d < 2) : t.isSlave d n = s.isSlave d n := by
  rw [Dev.isSlave, h.usedOn d hd, h.isMaster d hd, Dev.isSlave]

theorem Dev.sameHead.headH : t.headH n = s.headH n := by
  have hmaster : t.masterOf n = s.masterOf n := by rw [Dev.masterOf, h.isMaster 1 (by decide), Dev.masterOf]
  rw [Dev.headH, hmaster, Dev.rdF, h _ (s.masterOf_lt n), ← Dev.rdF, Dev.headH]

end

/-- The bytes of a mesh pass its ranges for the head and for the half's two raster slots (R92). -/
def Dev.meshInRange (s : Dev) (d n : Nat) (bs : List Byte) : Bool :=
  meshRangeOk (meshOf bs) (s.headW n) (s.headH n)
    [(s.rdLF (Reg.HEAD_WARP_RASDIM d (2 * n + 0)) F.HEAD_WARP_RASDIM_RW, s.rdLF (Reg.HEAD_WARP_RASDIM d (2 * n + 0)) F.HEAD_WARP_RASDIM_RH),
      (s.rdLF (Reg.HEAD_WARP_RASDIM d (2 * n + 1)) F.HEAD_WARP_RASDIM_RW, s.rdLF (Reg.HEAD_WARP_RASDIM d (2 * n + 1)) F.HEAD_WARP_RASDIM_RH)]

/-- They pass their check, where CHECK is set, and their ranges (R92). -/
def Dev.meshValid (s : Dev) (d n : Nat) (bs : List Byte) : Prop :=
  (s.rdLF (Reg.HEAD_WARP_CFG d n) F.HEAD_WARP_CFG_CHECK = 1 → crc32c (bs.take 8712) = leAt bs 8712 4) ∧ s.meshInRange d n bs = true

/-- The check word of a copy stands in HEAD_WARP_CRC. -/
def Dev.showCrc (s : Dev) (d n : Nat) (bs : List Byte) : Dev := s.wr (Reg.HEAD_WARP_CRC d n) (BitVec.ofNat 32 (crc32c (bs.take 8712)))

section
variable {s : Dev} {d n : Nat}

theorem Dev.showCrc_sameHead (bs : List Byte) : s.sameHead (s.showCrc d n bs) n :=
  s.wr_sameHead _ _ n fun e he => by simp only [Reg.HEAD_WARP_CRC, Reg.HEAD_TACT, Reg.cd]; omega

theorem Dev.meshValid_congr {t : Dev} {bs : List Byte} (h : s.sameHead t n) (hl : t.latched = s.latched) (hc : t.cfg = s.cfg) :
    t.meshValid d n bs ↔ s.meshValid d n bs := by
  have hrdLF : ∀ a f, t.rdLF a f = s.rdLF a f := fun a f => by rw [Dev.rdLF, Dev.rdL, hl, ← Dev.rdL, Dev.rdLF]
  have hplace : t.place = s.place := funext₂ fun e i => by rw [Dev.place, hc, Dev.place]
  have hwidth : t.headW n = s.headW n := by rw [Dev.headW, hplace, Dev.headW]
  simp only [Dev.meshValid, Dev.meshInRange, hrdLF, hwidth, h.headH]

/-- A valid copy on a half that is no slave is accepted. -/
theorem Dev.meshCheck_valid {bs : List Byte} (hd : d < 2) (hs : s.isSlave d n = false) (hv : s.meshValid d n bs) :
    s.meshCheck d n (some bs) = (s.showCrc d n bs).acceptMesh d n (meshOf bs) := by
  have hsame := s.showCrc_sameHead (d := d) (n := n) bs
  obtain ⟨hcheck, hrange⟩ := (Dev.meshValid_congr hsame rfl rfl).mpr hv
  unfold Dev.meshCheck
  refine (if_neg ?_).trans ((if_neg ?_).trans (if_neg ?_))
  · rintro ⟨hon, hne⟩
    exact hne (hcheck hon)
  · exact fun hout => Bool.false_ne_true (((Bool.not_eq_true' _).mp hout).symm.trans hrange)
  · rw [← Dev.showCrc, hsame.isSlave d hd, hs]
    decide

/-- Another copy is refused, with LAST and its fault bit. -/
theorem Dev.meshCheck_invalid {bs : List Byte} (hv : ¬ s.meshValid d n bs) :
    ∃ last bit, s.meshCheck d n (some bs) = (s.showCrc d n bs).refuseMesh d n last bit := by
  rw [← Dev.meshValid_congr (s.showCrc_sameHead (d := d) (n := n) bs) rfl rfl, Dev.meshValid, not_and'] at hv
  unfold Dev.meshCheck
  by_cases hrange : (s.showCrc d n bs).meshInRange d n bs = true
  · exact ⟨1, B.HEAD_WARP_MESH_CHECK, if_pos (Classical.not_imp.mp (hv hrange))⟩
  · by_cases hcheck : s.rdLF (Reg.HEAD_WARP_CFG d n) F.HEAD_WARP_CFG_CHECK = 1 ∧ crc32c (bs.take 8712) ≠ leAt bs 8712 4
    · exact ⟨1, B.HEAD_WARP_MESH_CHECK, if_pos hcheck⟩
    · exact ⟨2, B.HEAD_WARP_MESH_RANGE, (if_neg hcheck).trans
        (if_pos ((Bool.not_eq_true' _).mpr (Bool.eq_false_of_not_eq_true hrange)))⟩

theorem Dev.acceptMesh_half (mesh : Mesh) :
    (s.acceptMesh d n mesh).half d n = { s.half d n with copy := none, checked := none, mesh := some mesh } := by
  rw [Dev.acceptMesh, Dev.wr_half, Dev.setHalf_half_same]

theorem Dev.refuseMesh_half (last bit : Nat) :
    (s.refuseMesh d n last bit).half d n = { s.half d n with copy := none, checked := none } := by
  simp only [Dev.refuseMesh, Dev.raise_half, Dev.wr_half, Dev.setHalf_half_same]

end

/-! What settling a mesh of half `n` of die `e` keeps elsewhere. -/

section
variable (s : Dev) {β : Type} (g : Dev → β) {e n : Nat} (hset : ∀ (s : Dev) x, g (s.setHalf e n x) = g s)
  (hstat : ∀ (s : Dev) v, g (s.wr (Reg.HEAD_WARP_STAT e n) v) = g s)
  (hflt : ∀ (s : Dev) k, g (s.raise (Reg.HEAD_WARP_FLT_STAT e n) k) = g s)
include hset hstat

theorem Dev.acceptMesh_keeps (mesh : Mesh) : g (s.acceptMesh e n mesh) = g s := (hstat _ _).trans (hset _ _)

include hflt

theorem Dev.refuseMesh_keeps (last bit : Nat) : g (s.refuseMesh e n last bit) = g s :=
  (hflt _ _).trans ((hstat _ _).trans (hset _ _))

theorem Dev.meshCompare_keeps (mesh : Mesh) : g (s.meshCompare e n mesh) = g s := by
  unfold Dev.meshCompare
  split
  · exact hset _ _
  · split
    · exact s.acceptMesh_keeps g hset hstat mesh
    · exact s.refuseMesh_keeps g hset hstat hflt _ _

theorem Dev.meshTell_keeps (he : e = 1 - s.masterOf n) (hbrg : ∀ (s : Dev) d x, g (s.setBrg d x) = g s) : g (s.meshTell n) = g s := by
  subst he
  unfold Dev.meshTell
  dsimp only
  split
  · rfl
  · rw [← s.brgSend_keeps g hbrg (s.masterOf n) 0]
    generalize s.brgSend (s.masterOf n) 0 = u
    split
    · exact u.meshCompare_keeps g hset hstat hflt _
    · rfl
    · split
      · rfl
      · exact u.refuseMesh_keeps g hset hstat hflt _ _

end

section
variable (s : Dev) (d : Die) (n : Head)

theorem faultReg_warpCrc : faultReg (Reg.HEAD_WARP_CRC d n) = false :=
  faultReg_warp (by simp only [Reg.HEAD_WARP_CRC, Reg.cd]; omega) (by simp only [Reg.HEAD_WARP_CRC, Reg.cd]; omega)

theorem warpCrc_ne_stat (e : Nat) : Reg.HEAD_WARP_CRC d n ≠ Reg.HEAD_WARP_STAT e n := by
  simp only [Reg.HEAD_WARP_CRC, Reg.HEAD_WARP_STAT, Reg.cd]; omega

theorem warpCrc_ne_fltStat (e : Nat) : Reg.HEAD_WARP_CRC d n ≠ Reg.HEAD_WARP_FLT_STAT e n := by
  simp only [Reg.HEAD_WARP_CRC, Reg.HEAD_WARP_FLT_STAT, Reg.cd]; omega

theorem Dev.acceptMesh_crc (mesh : Mesh) : (s.acceptMesh d n mesh).rd (Reg.HEAD_WARP_CRC d n) = s.rd (Reg.HEAD_WARP_CRC d n) :=
  s.acceptMesh_keeps (fun s => s.rd _) (fun _ _ => rfl) (fun _ _ => Dev.rd_wr_other _ _ _ _ (warpCrc_ne_stat d n d)) mesh

theorem Dev.refuseMesh_crc (last bit : Nat) : (s.refuseMesh d n last bit).rd (Reg.HEAD_WARP_CRC d n) = s.rd (Reg.HEAD_WARP_CRC d n) :=
  s.refuseMesh_keeps (fun s => s.rd _) (fun _ _ => rfl) (fun _ _ => Dev.rd_wr_other _ _ _ _ (warpCrc_ne_stat d n d))
    (fun _ _ => Dev.raise_rd _ _ _ _ (faultReg_warpCrc d n) (warpCrc_ne_fltStat d n d)) last bit

theorem Dev.meshTell_crc : (s.meshTell n).rd (Reg.HEAD_WARP_CRC d n) = s.rd (Reg.HEAD_WARP_CRC d n) :=
  s.meshTell_keeps (fun s => s.rd _) (fun _ _ => rfl) (fun _ _ => Dev.rd_wr_other _ _ _ _ (warpCrc_ne_stat d n _))
    (fun _ _ => Dev.raise_rd _ _ _ _ (faultReg_warpCrc d n) (warpCrc_ne_fltStat d n _)) rfl (fun _ _ _ => rfl)

/-- The check word sent to the other half leaves a half alone that has no copy and none waiting for it. -/
theorem Dev.meshTell_half (hcopy : (s.half d n).copy = none) (hchecked : (s.half d n).checked = none) :
    (s.meshTell n).half d n = s.half d n := by
  by_cases hd : 1 - s.masterOf n = d
  · unfold Dev.meshTell
    dsimp only
    rw [hd]
    split
    · rfl
    · have hsend : ∀ e i, (s.brgSend (s.masterOf n) 0).half e i = s.half e i := fun e i =>
        s.brgSend_keeps (fun s => s.half e i) (fun _ _ _ => rfl) _ _
      simp only [hsend, hcopy, hchecked]
      split
      · exact hsend _ _
      · rw [Dev.refuseMesh_half, hsend]
        rw [← hcopy, show none = (s.half d n).checked from hchecked.symm]
  · exact s.meshTell_keeps (fun s => s.half d n) (fun _ _ => Dev.setHalf_half_die _ _ _ _ _ hd) (fun _ _ => rfl)
      (fun _ _ => Dev.raise_half _ _ _ _ _) rfl (fun _ _ _ => rfl)

/-- The end of a copy before its check: COPIED, and the faults of its reads. -/
def Dev.copyRead (base : Nat) : Dev := (s.wrB (Reg.HEAD_WARP_STAT d n) 1 true).raiseRefused d base 8716 false false

theorem Dev.copyRead_sameHead (base : Nat) : s.sameHead (s.copyRead d n base) n := by
  refine (s.wr_sameHead _ _ n fun e he => ?_).trans (Dev.forAll_sameHead n.val _ (fun v k _ => v.raise_sameHead _ _ n fun e he => ?_) _)
  · simp only [Reg.HEAD_WARP_STAT, Reg.HEAD_TACT, Reg.cd]; omega
  · simp only [Reg.DRC_FLT_STAT, Reg.HEAD_TACT, Reg.cd]; omega

theorem Dev.copyRead_keeps {β : Type} (g : Dev → β) (hwr : ∀ (s : Dev) a v, g (s.wr a v) = g s)
    (hflt : ∀ (s : Dev) a k, g (s.raise a k) = g s) (base : Nat) : g (s.copyRead d n base) = g s :=
  (forAll_keeps g (fun v k => hflt v (Reg.DRC_FLT_STAT d) k) _ _).trans (hwr _ _ _)

end

/-- The check word goes to the other half from the master alone (R95). -/
def Dev.tellFrom (u : Dev) (d n : Nat) : Dev := if u.isMaster d n then u.meshTell n else u

section
variable {s u : Dev} {d : Die} {n : Head} {base : Nat} {m : Mems} {bs : List Byte}

theorem Dev.tellFrom_crc : (u.tellFrom d n).rd (Reg.HEAD_WARP_CRC d n) = u.rd (Reg.HEAD_WARP_CRC d n) :=
  Dev.rd_ite _ _ _ _ _ (u.meshTell_crc d n) rfl

theorem Dev.tellFrom_half (hcopy : (u.half d n).copy = none) (hchecked : (u.half d n).checked = none) :
    (u.tellFrom d n).half d n = u.half d n := by
  unfold Dev.tellFrom
  split
  · exact u.meshTell_half d n hcopy hchecked
  · rfl

/-- What the end of a copy is whose bytes have come. -/
theorem Dev.meshDone_read (hcopy : (s.half d n).copy = some base) (hbs : s.dieRead m d base 8716 = some bs) :
    s.meshDone m d n = ((s.copyRead d n base).meshCheck d n (some bs)).tellFrom d n := by
  rw [Dev.meshDone, hcopy, ← hbs]
  rfl

theorem Dev.copyRead_meshValid : (s.copyRead d n base).meshValid d n bs ↔ s.meshValid d n bs :=
  Dev.meshValid_congr (s.copyRead_sameHead d n base) (s.copyRead_keeps d n Dev.latched (fun _ _ _ => rfl) Dev.raise_latched base)
    (s.copyRead_keeps d n Dev.cfg (fun _ _ _ => rfl) Dev.raise_cfg base)

theorem Dev.showCrc_half : ((s.copyRead d n base).showCrc d n bs).half d n = s.half d n :=
  s.copyRead_keeps d n (fun s => s.half d n) (fun _ _ _ => rfl) (fun _ _ _ => Dev.raise_half _ _ _ _ _) base

theorem Dev.showCrc_crc : (s.showCrc d n bs).rd (Reg.HEAD_WARP_CRC d n) = BitVec.ofNat 32 (crc32c (bs.take 8712)) := by
  rw [Dev.showCrc, Dev.rd_wr_same, regMask_warpCrc]
  exact BitVec.and_allOnes

variable (hcopy : (s.half d n).copy = some base) (hbs : s.dieRead m d base 8716 = some bs)
include hcopy hbs

/-- A valid copy on a half that is no slave becomes the accepted mesh. -/
theorem Dev.meshDone_valid (hs : s.isSlave d n = false) (hv : s.meshValid d n bs) :
    (s.meshDone m d n).rd (Reg.HEAD_WARP_CRC d n) = BitVec.ofNat 32 (crc32c (bs.take 8712)) ∧
      (s.meshDone m d n).half d n = { s.half d n with copy := none, checked := none, mesh := some (meshOf bs) } := by
  rw [Dev.meshDone_read hcopy hbs, Dev.meshCheck_valid d.isLt (((s.copyRead_sameHead d n base).isSlave d d.isLt).trans hs)
    (Dev.copyRead_meshValid.mpr hv), Dev.tellFrom_crc, Dev.acceptMesh_crc]
  refine ⟨Dev.showCrc_crc, ?_⟩
  have hacc := Dev.acceptMesh_half (s := (s.copyRead d n base).showCrc d n bs) (d := d) (n := n) (meshOf bs)
  rw [Dev.tellFrom_half (by rw [hacc]) (by rw [hacc]), hacc, Dev.showCrc_half]

/-- Another copy leaves the accepted mesh in force. -/
theorem Dev.meshDone_invalid (hv : ¬ s.meshValid d n bs) :
    (s.meshDone m d n).rd (Reg.HEAD_WARP_CRC d n) = BitVec.ofNat 32 (crc32c (bs.take 8712)) ∧
      (s.meshDone m d n).half d n = { s.half d n with copy := none, checked := none } := by
  obtain ⟨last, bit, href⟩ := Dev.meshCheck_invalid (fun h => hv (Dev.copyRead_meshValid.mp h))
  rw [Dev.meshDone_read hcopy hbs, href, Dev.tellFrom_crc, Dev.refuseMesh_crc]
  refine ⟨Dev.showCrc_crc, ?_⟩
  have hkept := Dev.refuseMesh_half (s := (s.copyRead d n base).showCrc d n bs) (d := d) (n := n) last bit
  rw [Dev.tellFrom_half (by rw [hkept]) (by rw [hkept]), hkept, Dev.showCrc_half]

end

/-! ## The statement -/

section
variable (s : State)

theorem exec_headCorrHost (d : Die) (n : Head) (v : Word) :
    exec (.headCorrHost d n v) s = .next { s with dev := s.dev.corrHost d n v } := rfl

theorem exec_corrStale (n : Head) : exec (.corrStale n) s = .next { s with dev := s.dev.corrStale n } := rfl

theorem exec_imuRun (rx : List Byte) : exec (.imuRun rx) s = .next { s with dev := s.dev.imuRun rx } := rfl

theorem exec_imuOverrun : exec .imuOverrun s = .next { s with dev := s.dev.imuOverrun } := rfl

theorem exec_imuOpWrite (k : Fin 32) (v : Word) : exec (.imuOpWrite k v) s = .next { s with dev := s.dev.imuOpWrite k v } := rfl

theorem exec_meshCopyDone (d : Die) (n : Head) :
    exec (.meshCopyDone d n) s = .next { s with dev := s.dev.meshDone s.mem d n } := rfl

end

/-- Settles O22: samples by `Dev.sample_within` and `Dev.sample_beyond`, staleness by `Dev.corrStale_stale`, runs of the script by
`Dev.imuRun_good`, `Dev.imuRun_bad` and `Dev.imuRun_skipped`, and the end of a mesh copy by `Dev.meshDone_valid` and
`Dev.meshDone_invalid`. -/
theorem correctionAndMeshesComplete : Obligations.CorrectionAndMeshesComplete := by
  intro d n v rx k base s
  refine ⟨fun ⟨hm, hd, hsrc, hin⟩ => ?_, fun ⟨hm, hd, hsrc, hex, hrow, hout⟩ => ?_, fun ⟨hm, hd, hsrc, hex, hout, hlen, hnear⟩ => ?_,
    fun ⟨hm, hd, hsrc, hst⟩ => ?_, fun ⟨hon, hskip, hscript, hcmp, hp, hq⟩ => ?_, fun ⟨hon, hskip, hbad⟩ => ?_,
    fun ⟨hon, hskip⟩ => ?_, fun hon => ?_, fun hoff => ?_, fun hon => ?_, fun ⟨hcopy, hs, hrole, hfit⟩ => ?_⟩
  · refine ⟨_, exec_headCorrHost s d n v, ?_⟩
    dsimp only
    rw [Dev.corrHost_host hm hsrc, Dev.sample_within hd hin, Dev.acceptSample_half]
    exact ⟨rfl, rfl, rfl, rfl, rfl, rfl⟩
  · refine ⟨_, exec_headCorrHost s d n v, ?_⟩
    dsimp only
    rw [Dev.corrHost_host hm hsrc, Dev.sample_beyond hd hex hout, Dev.takeJump_first hrow, Dev.setHalf_half_same, Dev.countJump_half,
      Dev.setHalf_rdF, Dev.countJump_jumps]
    exact ⟨rfl, rfl, rfl, rfl⟩
  · refine ⟨_, exec_headCorrHost s d n v, ?_⟩
    dsimp only
    rw [Dev.corrHost_host hm hsrc, Dev.sample_beyond hd hex hout,
      Dev.takeJump_third (jump := s.dev.jumpLimit d n) hlen hnear, Dev.acceptSample_half]
    exact ⟨rfl, rfl, rfl⟩
  · refine ⟨_, exec_corrStale s n, ?_⟩
    dsimp only
    rw [Dev.corrStale_stale hm hd hsrc hst, Dev.causeOn_half, Dev.setHalf_half_same]
    exact ⟨rfl, rfl, rfl, Dev.causeOn_cause _ _ _ (by decide) (staleCause_implemented d n) (faultReg_warpCause d n)⟩
  · have hgood : ¬ (s.dev.imuResult rx).isBad := by
      rintro (h | h | h | h)
      · exact Bool.false_ne_true (hscript.symm.trans h)
      · exact Bool.false_ne_true (hcmp.symm.trans h)
      · exact Option.isSome_iff_ne_none.mp hp h
      · exact Option.isSome_iff_ne_none.mp hq h
    obtain ⟨hlast, htime, hrow, hsilent⟩ := Dev.imuRun_good hon hskip hgood
    exact ⟨_, exec_imuRun s rx, hlast, htime, hrow, hsilent, rfl⟩
  · exact ⟨_, exec_imuRun s rx, Dev.imuRun_bad hon hskip hbad⟩
  · exact ⟨_, exec_imuRun s rx, Dev.imuRun_skipped hon hskip⟩
  · refine ⟨_, exec_imuOverrun s, ?_⟩
    dsimp only
    rw [Dev.imuOverrun, if_neg (by rw [hon]; decide), Dev.imuBad_imu, Dev.raise_imu]
    exact ⟨rfl, rfl, Dev.imuBad_stat _ 3 (by decide)⟩
  · exact ⟨_, exec_imuOpWrite s k v, if_neg (by rw [hoff]; decide)⟩
  · have hop : imuReg (Reg.HEAD_IMU_OP k) := by simp only [imuReg, Reg.HEAD_IMU_OP, Reg.cd]; omega
    refine ⟨_, exec_imuOpWrite s k v, ?_⟩
    dsimp only
    rw [Dev.imuOpWrite, if_pos hon]
    exact Dev.raise_rd _ _ _ _ (faultReg_imu hop) (by simp only [Reg.HEAD_IMU_OP, Reg.HEAD_IMU_FLT_STAT, Reg.cd]; omega)
  · have hread := s.dev.dieRead_own s.mem d base hrole 8716 hfit
    refine ⟨_, exec_meshCopyDone s d n, ?_⟩
    rw [hread, Option.getD_some]
    dsimp only
    split
    · next hv =>
      obtain ⟨hcrc, hhalf⟩ := Dev.meshDone_valid hcopy hread hs hv
      rw [hhalf]
      exact ⟨hcrc, rfl, rfl, rfl⟩
    · next hv =>
      obtain ⟨hcrc, hhalf⟩ := Dev.meshDone_invalid hcopy hread hv
      rw [hhalf]
      exact ⟨hcrc, rfl, rfl, rfl⟩

end Sys2Proof.Machine
end

section
/-! SUPPORT. The statement on the luminance budget and on writes of ceiling entries (R112, R113, R115, R116). -/

namespace Sys2Proof.Machine

/-! ## The budget's status -/

theorem kTarget_le (e u : Nat) : kTarget e u ≤ 4096 := by
  unfold kTarget
  split_ifs with he hu
  · exact Nat.zero_le _
  · exact le_rfl
  · exact Nat.div_le_of_le_mul (Nat.mul_le_mul_right 4096 (Nat.le_of_not_le hu))

theorem kNext_le_target (k tgt : Nat) : kNext k tgt ≤ tgt := by
  unfold kNext
  split_ifs
  · exact le_rfl
  · exact min_le_right _ _

theorem Dev.level_lt (s : Dev) : s.level < 8 := fget_lt _ F.THM_STAT_LEVEL

theorem b2n_lt (b : Bool) : b2n b < 2 := by cases b <;> decide

theorem regMask_budgetStat : regMask (Reg.PHO_BUDGET_STAT 0) = 0x171FFF#32 := by decide

/-- The words of a conjunction above and below a bit. -/
theorem and_eq_div_add_mod (x y i : Nat) : x &&& y = 2 ^ i * (x / 2 ^ i &&& y / 2 ^ i) + (x % 2 ^ i &&& y % 2 ^ i) := by
  rw [← Nat.and_div_two_pow, ← Nat.and_mod_two_pow, Nat.div_add_mod]

/-- K, L and the dimming flag lie in implemented bits of PHO_BUDGET_STAT (Table 5-6). -/
theorem budgetStat_and_mask {k l f : Nat} (hk : k ≤ 4096) (hl : l < 8) (hf : f < 2) :
    BitVec.ofNat 32 (k + 0x10000 * l + 0x100000 * f) &&& 0x171FFF#32 = BitVec.ofNat 32 (k + 0x10000 * l + 0x100000 * f) := by
  have hflags : ∀ l < 8, ∀ f < 2, (l + 16 * f) &&& 0x17 = l + 16 * f := by decide
  have hlow : k &&& 0x1FFF = k := (Nat.and_two_pow_sub_one_eq_mod k 13).trans (Nat.mod_eq_of_lt (by omega))
  have hdiv : (k + 0x10000 * l + 0x100000 * f) / 2 ^ 16 = l + 16 * f := by omega
  have hmod : (k + 0x10000 * l + 0x100000 * f) % 2 ^ 16 = k := by omega
  have hand : (k + 0x10000 * l + 0x100000 * f) &&& 0x171FFF = k + 0x10000 * l + 0x100000 * f := by
    rw [and_eq_div_add_mod _ _ 16, hdiv, hmod, show 0x171FFF / 2 ^ 16 = 0x17 from rfl, show 0x171FFF % 2 ^ 16 = 0x1FFF from rfl,
      hflags l hl f hf, hlow]
    omega
  rw [← BitVec.ofNat_and, hand]

section
variable (s : Dev)

/-- The K that an update sets (R115). -/
def Dev.kUpdated : Nat := kNext s.bud.k (kTarget (allowance (s.rdF (Reg.PHO_BUDGET 0) F.PHO_BUDGET_LIMIT) s.level) s.demand)

theorem Dev.kUpdated_le : s.kUpdated ≤ 4096 := (kNext_le_target _ _).trans (kTarget_le _ _)

theorem Dev.budgetUpdate_bud : s.budgetUpdate.bud = { s.bud with k := s.kUpdated } := rfl

theorem Dev.budgetUpdate_stat : s.budgetUpdate.rd (Reg.PHO_BUDGET_STAT 0) =
    BitVec.ofNat 32 (s.kUpdated + 0x10000 * s.level + 0x100000 * b2n (decide (s.kUpdated < 4096))) := by
  unfold Dev.budgetUpdate
  dsimp only
  rw [Dev.rd_wr_other _ _ _ _ (by decide), Dev.rd_wr_same, regMask_budgetStat]
  exact budgetStat_and_mask s.kUpdated_le s.level_lt (b2n_lt _)

end

/-! ## The report of a half -/

/-- The bridge carries a sum from CD1 (R115). -/
def Dev.sumSent (s : Dev) (d : Nat) : Dev := if d = 1 then s.brgSend 1 0 else s

theorem Dev.sumSent_keeps {β : Type} (s : Dev) (g : Dev → β) (h : ∀ (s : Dev) d x, g (s.setBrg d x) = g s) (d : Nat) :
    g (s.sumSent d) = g s := by
  unfold Dev.sumSent
  split
  · exact s.brgSend_keeps g h 1 0
  · rfl

/-- The budget unit with the sum of half `i`, which used `k` (R115, R116). -/
def BudH.takeSum (b : BudH) (i sum k : Nat) : BudH :=
  { b with a := if k = 0 then b.a else b.a.put (fun _ => 0) i (sum * 4096 / k), out := b.out.filter (· != i) }

theorem BudH.takeSum_a (b : BudH) (i sum k : Nat) :
    (b.takeSum i sum k).a.get (fun _ => 0) i = if k = 0 then b.a.get (fun _ => 0) i else sum * 4096 / k := by
  unfold BudH.takeSum
  split
  · rfl
  · exact SMap.get_put_same _ _ _ _

theorem BudH.takeSum_out (b : BudH) (i sum k : Nat) : (b.takeSum i sum k).out.contains i = false := by
  simp [BudH.takeSum]

/-- Die 0 takes the sum of a half, with its time (R116). -/
def Dev.takeReport (s : Dev) (d n sum k : Nat) : Dev :=
  ({ s with bud := s.bud.takeSum (4 * d + n) sum k }).setHalf d n { s.half d n with report := none, sumAt := s.us }

section
variable (s : Dev) (d n sum k : Nat)

theorem Dev.takeReport_bud : ((s.sumSent d).takeReport d n sum k).bud = s.bud.takeSum (4 * d + n) sum k := by
  rw [Dev.takeReport, Dev.setHalf_bud, s.sumSent_keeps Dev.bud (fun _ _ _ => rfl)]

theorem Dev.takeReport_half :
    ((s.sumSent d).takeReport d n sum k).half d n = { s.half d n with report := none, sumAt := s.us } := by
  rw [Dev.takeReport, Dev.setHalf_half_same, s.sumSent_keeps (fun s => s.half d n) (fun _ _ _ => rfl),
    s.sumSent_keeps Dev.us (fun _ _ _ => rfl)]

end

section
variable {s : Dev} {d n sum k : Nat} (hr : (s.half d n).report = some (sum, k)) (hway : s.dieWay d 0 = true)
include hr hway

/-- A sum that finds its way is taken, and the cause SUM_LOST goes once no half is out of U. -/
theorem Dev.sumReport_taken : s.sumReport d n =
    if ((s.sumSent d).takeReport d n sum k).bud.out.isEmpty then
      ((s.sumSent d).takeReport d n sum k).causeOff (Reg.PHO_FLT_STAT 0) B.PHO_SUM_LOST
    else (s.sumSent d).takeReport d n sum k := by
  rw [Dev.sumReport, hr]
  exact if_neg (by rw [hway]; decide)

theorem Dev.sumReport_bud : (s.sumReport d n).bud = s.bud.takeSum (4 * d + n) sum k := by
  rw [Dev.sumReport_taken hr hway, apply_ite Dev.bud, Dev.causeOff_bud, ite_self, Dev.takeReport_bud]

theorem Dev.sumReport_half : (s.sumReport d n).half d n = { s.half d n with report := none, sumAt := s.us } := by
  rw [Dev.sumReport_taken hr hway, apply_ite (fun s => Dev.half s d n), Dev.causeOff_half, ite_self, Dev.takeReport_half]

end

/-! ## Lost reports -/

section
variable {s : Dev} {d n : Nat}

theorem Dev.sumLost_out (hout : s.bud.out.contains (4 * d + n) = true) : s.sumLost d n = s := if_pos (.inr hout)

/-- A half in use that was in U leaves it. -/
theorem Dev.sumLost_in (hu : s.usedOn d n = true) (hin : s.bud.out.contains (4 * d + n) = false) : s.sumLost d n =
    ({ s with bud := { s.bud with out := (4 * d + n) :: s.bud.out } }).causeOn (Reg.PHO_FLT_STAT 0) B.PHO_SUM_LOST :=
  if_neg (by rw [hu, hin]; decide)

theorem Dev.sumLost_leaves (hu : s.usedOn d n = true) : (s.sumLost d n).bud.out.contains (4 * d + n) = true := by
  cases hin : s.bud.out.contains (4 * d + n)
  · rw [Dev.sumLost_in hu hin, Dev.causeOn_bud, List.contains_cons, beq_self_eq_true, Bool.true_or]
  · rw [Dev.sumLost_out hin, hin]

theorem Dev.sumLost_cause (hu : s.usedOn d n = true) (hin : s.bud.out.contains (4 * d + n) = false) :
    (s.sumLost d n).rdB (Reg.PHO_FLT_CAUSE 0) B.PHO_SUM_LOST = true := by
  rw [Dev.sumLost_in hu hin]
  exact Dev.causeOn_cause _ (Reg.PHO_FLT_STAT 0) _ (by decide) (by decide) (by decide)

end

/-! ## Ceiling entries -/

/-- What a write of a field makes of an entry that takes it: reserved bits read 0 (R112, R11). -/
def Ceil.put (c : Ceil) (d k : Nat) (f : CeilField) (v : Word) : Ceil :=
  match f with
  | .x => { c with x := v &&& regMask (Reg.PHO_CEIL_X d k) }
  | .y => { c with y := v &&& regMask (Reg.PHO_CEIL_Y d k) }
  | .ctl => { c with ctl := v &&& regMask (Reg.PHO_CEIL_CTL d k) }

/-- A write that ROAD protection refuses: of a ROAD entry, or one that would make an entry ROAD (R113). -/
def Ceil.refuses (c : Ceil) (f : CeilField) (v : Word) : Bool := c.isRoad || (f == .ctl && fget v F.PHO_CEIL_CTL_CLASS == 1)

section
variable {s : Dev} {d k : Nat} {f : CeilField} {v : Word}

theorem Dev.ceilWrite_refused (h : (s.ceilAt d k).refuses f v = true) :
    s.ceilWrite d k f v = s.raise (Reg.PHO_FLT_STAT d) B.PHO_ROAD_WRITE := if_pos h

theorem Dev.ceilWrite_taken (h : (s.ceilAt d k).refuses f v = false) :
    (s.ceilWrite d k f v).ceilAt d k = (s.ceilAt d k).put d k f v := by
  refine (congrArg (Dev.ceilAt · d k) (if_neg (Bool.eq_false_iff.mp h))).trans ?_
  cases f with
  | x => simp [Dev.ceilAt, Ceil.put, Dev.rd_wr]
  | y => simp [Dev.ceilAt, Ceil.put, Dev.rd_wr]
  | ctl => simp [Dev.ceilAt, Ceil.put, Dev.rd_wr]

end

section
variable (s : Dev) (d : Die) (i : Nat)

/-- A photometric fault is none of the ceiling entries' registers. -/
theorem Dev.raise_photo_rd_row {o j : Nat} (hlo : 0x400 ≤ o) (hhi : o + j < 0x800) :
    (s.raise (Reg.PHO_FLT_STAT d) i).rd (Reg.cd d + 0x60000 + o + j) = s.rd (Reg.cd d + 0x60000 + o + j) := by
  refine s.raise_rd _ _ _ (faultReg_eq_false _ ?_ (.inl ?_)) ?_
  · simp only [Reg.cd]; omega
  · simp only [Reg.cd]; omega
  · simp only [Reg.PHO_FLT_STAT]; omega

theorem Dev.raise_photo_ceilAt (k : Fin 64) : (s.raise (Reg.PHO_FLT_STAT d) i).ceilAt d k = s.ceilAt d k := by
  simp only [Dev.ceilAt, Ceil.mk.injEq]
  exact ⟨s.raise_photo_rd_row d i (by omega) (by omega), s.raise_photo_rd_row d i (by omega) (by omega),
    s.raise_photo_rd_row d i (by omega) (by omega)⟩

end

/-! ## The statement -/

section
variable (s : State)

theorem exec_budgetUpdate : exec .budgetUpdate s = .next { s with dev := s.dev.budgetUpdate } := rfl

theorem exec_halfSumReport (d : Die) (n : Head) : exec (.halfSumReport d n) s = .next { s with dev := s.dev.sumReport d n } := rfl

theorem exec_sumLost (d : Die) (n : Head) : exec (.sumLost d n) s = .next { s with dev := s.dev.sumLost d n } := rfl

theorem exec_ceilWrite (d : Die) (k : Fin 64) (f : CeilField) (v : Word) :
    exec (.ceilWrite d k f v) s = .next { s with dev := s.dev.ceilWrite d k f v } := rfl

end

/-- Settles O23: updates by `Dev.budgetUpdate_stat`, reports by `Dev.sumReport_bud` and `Dev.sumReport_half`, lost reports by
`Dev.sumLost_leaves` and `Dev.sumLost_cause`, and ceiling entries by `Dev.ceilWrite_taken` and `Dev.ceilWrite_refused`. -/
theorem budgetAndCeilingsComplete : Obligations.BudgetAndCeilingsComplete := by
  intro d n sum k q f v s
  refine ⟨?_, fun ⟨hr, hway⟩ => ?_, fun hu => ?_, fun hroad => ?_, fun hroad => ?_, fun ⟨hroad, hclass⟩ => ?_, fun hrefused => ?_⟩
  · exact ⟨_, exec_budgetUpdate s, rfl, s.dev.budgetUpdate_stat, rfl, rfl⟩
  · refine ⟨_, exec_halfSumReport s d n, ?_⟩
    dsimp only
    rw [Dev.sumReport_bud hr hway, Dev.sumReport_half hr hway]
    exact ⟨BudH.takeSum_a _ _ _ _, BudH.takeSum_out _ _ _ _, rfl, rfl, rfl⟩
  · exact ⟨_, exec_sumLost s d n, Dev.sumLost_leaves hu, Dev.sumLost_cause hu⟩
  · exact ⟨_, exec_ceilWrite s d q .x v, Dev.ceilWrite_taken (by rw [Ceil.refuses, hroad]; rfl)⟩
  · exact ⟨_, exec_ceilWrite s d q .y v, Dev.ceilWrite_taken (by rw [Ceil.refuses, hroad]; rfl)⟩
  · exact ⟨_, exec_ceilWrite s d q .ctl v, Dev.ceilWrite_taken (by simp [Ceil.refuses, hroad, hclass])⟩
  · refine ⟨_, exec_ceilWrite s d q f v, ?_⟩
    have hrefuses : (s.dev.ceilAt d q).refuses f v = true := by
      obtain hroad | ⟨rfl, hclass⟩ := hrefused
      · rw [Ceil.refuses, hroad, Bool.true_or]
      · simp [Ceil.refuses, hclass]
    dsimp only
    rw [Dev.ceilWrite_refused hrefuses]
    exact s.dev.raise_photo_ceilAt d _ q

end Sys2Proof.Machine
end

section
/-! SUPPORT. The statement on timing marks and HOLD phase: the SYNC packets of a SYNC point in HOLD phase (R181, Table 14-4), where the
slice that the first of them takes back from self-test has saved a register that the next ones tell, and where it has not. -/

namespace Sys2Proof.Machine

/-! ## What a SYNC packet tells -/

/-- The registers that a SYNC packet of half `n` of die `d` tells: the frame counter and the active lines. -/
def syncReg (d n b : Nat) : Prop := b = Reg.HEAD_FRAME d n ∨ b = Reg.HEAD_TACT d n

/-- From `s` to `t` the SYNC packet of half `n` of die `d` stays the same, more may have been sent, and the slice in progress on the
die is the same or has ended. -/
structure Dev.keepsSync (d n : Nat) (s t : Dev) : Prop where
  goes : s.goesOn (syncReg d n) t
  latched : t.latched = s.latched
  slice : (t.eng d).slice = none ∨ (t.eng d).slice = (s.eng d).slice

/-- The slice in progress on die `d` has saved no register that a SYNC packet of half `n` tells. -/
def Dev.sliceSparesSync (s : Dev) (d n : Nat) : Prop := ∀ sl, (s.eng d).slice = some sl → ∀ e ∈ sl.saved, ¬ syncReg d n e.1

section
variable {d n : Nat} {s t u : Dev}

theorem Dev.keepsSync.of_eq (hr : t.regs = s.regs) (ho : t.out = s.out) (hl : t.latched = s.latched) (hb : t.bist = s.bist) :
    s.keepsSync d n t :=
  ⟨.of_eq hr ho, hl, .inr (by rw [Dev.eng, hb, Dev.eng])⟩

theorem Dev.keepsSync.refl (s : Dev) : s.keepsSync d n s := .of_eq rfl rfl rfl rfl

theorem Dev.keepsSync.trans (h : s.keepsSync d n t) (g : t.keepsSync d n u) : s.keepsSync d n u :=
  ⟨h.goes.trans g.goes, g.latched.trans h.latched, g.slice.elim .inl fun e => e ▸ h.slice⟩

theorem Dev.keepsSync.ite {c : Prop} [Decidable c] (h : s.keepsSync d n t) (g : s.keepsSync d n u) :
    s.keepsSync d n (if c then t else u) := by
  split <;> assumption

theorem Dev.keepsSync.forAll {α : Type} {f : Dev → α → Dev} {l : List α} (h : ∀ s, ∀ a ∈ l, Dev.keepsSync d n s (f s a)) (s : Dev) :
    s.keepsSync d n (Machine.forAll l s f) := by
  induction l generalizing s with
  | nil => exact .refl s
  | cons a l ih => exact (h s a List.mem_cons_self).trans (ih (fun s b hb => h s b (List.mem_cons_of_mem a hb)) (f s a))

theorem Dev.keepsSync.syncPkt (h : s.keepsSync d n t) (hold : Bool) : t.syncPkt d n hold = s.syncPkt d n hold := by
  simp only [Dev.syncPkt, Dev.tAct, Dev.tPer, Dev.tTotal, Dev.rdF, Dev.rdLF, Dev.rdL, h.latched, h.goes.rd _ (.inl rfl),
    h.goes.rd _ (.inr rfl)]

theorem Dev.keepsSync.spares (h : s.keepsSync d n t) (hs : s.sliceSparesSync d n) : t.sliceSparesSync d n := by
  intro sl hsl
  rcases h.slice with hnone | hsame
  · exact absurd (hsl.symm.trans hnone) (by simp)
  · exact hs sl (hsame ▸ hsl)

end

section
variable (s : Dev) (d : Die) (n : Head)

theorem syncReg_fault (b : Nat) (h : syncReg d n b) : faultReg b = false := by
  simp only [syncReg, Reg.HEAD_FRAME, Reg.HEAD_TACT, Reg.cd] at h
  exact faultReg_eq_false b (by omega) (by omega)

theorem watcherStats_not_syncReg (w : Nat) : ∀ a ∈ watcherStats w, ¬ syncReg d n a := by
  have hlane : ∀ e m, ¬ syncReg d n (Reg.LANE_FLT_STAT e m) ∧ ¬ syncReg d n (Reg.LANE_TILE_FLT_STAT e m) := by
    intro e m
    simp only [syncReg, Reg.LANE_FLT_STAT, Reg.LANE_TILE_FLT_STAT, Reg.HEAD_FRAME, Reg.HEAD_TACT, Reg.cd]
    omega
  have hbrg : ∀ e, ¬ syncReg d n (Reg.FAB_BRG_FLT_STAT e) := by
    intro e
    simp only [syncReg, Reg.FAB_BRG_FLT_STAT, Reg.HEAD_FRAME, Reg.HEAD_TACT, Reg.cd]
    omega
  have hbst : ∀ e, ¬ syncReg d n (Reg.BST_FLT_STAT e) := by
    intro e
    simp only [syncReg, Reg.BST_FLT_STAT, Reg.HEAD_FRAME, Reg.HEAD_TACT, Reg.cd, Reg.hv]
    omega
  unfold watcherStats
  dsimp only
  split
  · split
    · split <;> simp [hlane]
    · split <;> simp [hbrg]
  · split <;> simp [hbst]

/-- What self-test saves for a slice are registers of check-value units. -/
theorem Dev.savedRegs_not_syncReg (blk : Nat) : ∀ e ∈ s.savedRegs d blk, ¬ syncReg d n e.1 := by
  unfold Dev.savedRegs
  split
  · simp only [List.map_cons, List.map_nil, List.forall_mem_cons, syncReg, Reg.CRC_VALUE, Reg.CRC_CNT, Reg.CRC_EXP, Reg.CRC_CTRL,
      Reg.HEAD_FRAME, Reg.HEAD_TACT, Reg.cd]
    refine ⟨by omega, by omega, by omega, by omega, by simp⟩
  · simp

/-! ## The end of a slice -/

theorem Dev.wr_keepsSync (a : Nat) (v : Word) (ha : ¬ syncReg d n a) : s.keepsSync d n (s.wr a v) :=
  ⟨(Dev.goesOn.refl s).wr a v ha, rfl, .inr rfl⟩

theorem Dev.latchFault_keepsSync (a k : Nat) (ha : ¬ syncReg d n a) : s.keepsSync d n (s.latchFault a k) := by
  have hrest : s.restEq (s.latchFault a k) := s.latchFault_eq a k
  refine ⟨⟨fun b hb => ?_, s.latchFault_out a k⟩, by rw [hrest], .inr (by rw [hrest]; rfl)⟩
  have hhold : b ≠ Reg.VSP_EVT_HOLD := by
    rintro rfl
    exact absurd (syncReg_fault d n _ hb) (by decide)
  exact s.latchFault_rd a k b hhold fun e => ha (e ▸ hb)

theorem Dev.causeOn_keepsSync (a k : Nat) (ha : ¬ syncReg d n a) (hc : ¬ syncReg d n (a + 8)) : s.keepsSync d n (s.causeOn a k) :=
  ⟨⟨fun b hb => s.causeOn_rd a k b (syncReg_fault d n b hb) (fun e => ha (e ▸ hb)) fun e => hc (e ▸ hb),
      (s.wrB (a + 8) k true).raise_out a k⟩, s.causeOn_latched a k, .inr (by rw [s.causeOn_eng])⟩

theorem Dev.unmask_keepsSync (w : Nat) : s.keepsSync d n (s.unmask w) := by
  refine .trans ?_ (.forAll (fun v a ha => .forAll (fun v k _ => ?_) v) _)
  · exact .of_eq rfl rfl rfl rfl
  · exact .ite (v.latchFault_keepsSync d n a k (watcherStats_not_syncReg d n w a ha)) (.refl v)

theorem Dev.sliceLink_keepsSync (blk : Nat) (on : Bool) : s.keepsSync d n (s.sliceLink blk on) := by
  refine .ite (.forAll (fun v e _ => v.wr_keepsSync d n _ _ ?_) s) (.refl s)
  simp only [syncReg, Reg.FAB_BRG_STAT, Reg.HEAD_FRAME, Reg.HEAD_TACT, Reg.cd]
  omega

theorem Dev.setEng_keepsSync (x : BistH) (hx : x.slice = none ∨ x.slice = (s.eng d).slice) : s.keepsSync d n (s.setEng d x) :=
  ⟨.of_eq rfl rfl, rfl, by rwa [Dev.setEng_eng_same]⟩

theorem tellsOfSlice_not_syncReg {a : Nat} (h : Reg.tellsOfSlice d a) : ¬ syncReg d n a := by
  simp only [Reg.tellsOfSlice, syncReg, Reg.BIST_STAT, Reg.BIST_RES, Reg.BIST_RESCNT, Reg.HEAD_FRAME, Reg.HEAD_TACT, Reg.cd] at h ⊢
  omega

theorem bistFault_not_syncReg : ¬ syncReg d n (Reg.BIST_FLT_STAT d) ∧ ¬ syncReg d n (Reg.BIST_FLT_STAT d + 8) := by
  simp only [syncReg, Reg.BIST_FLT_STAT, Reg.HEAD_FRAME, Reg.HEAD_TACT, Reg.cd]
  omega

theorem Dev.countAbandon_keepsSync (sl : Slice) : s.keepsSync d n (s.countAbandon d sl) := by
  obtain ⟨hstat, hcause⟩ := bistFault_not_syncReg d n
  unfold Dev.countAbandon
  dsimp only
  refine .ite (.refl s) (.ite (.ite ?_ ?_) ?_)
  · refine .trans ?_ (Dev.causeOn_keepsSync _ d n _ _ hstat hcause)
    refine .trans (s.setEng_keepsSync d n _ ?_) (Dev.setEng_keepsSync _ d n _ ?_) <;> exact .inr rfl
  · exact s.setEng_keepsSync d n _ (.inr rfl)
  · exact s.setEng_keepsSync d n _ (.inr rfl)

theorem Dev.restore_keepsSync (l : List (Nat × Word)) (h : ∀ e ∈ l, ¬ syncReg d n e.1) : s.keepsSync d n (s.restore l) :=
  .forAll (fun v e he => v.wr_keepsSync d n e.1 e.2 (h e he)) s

theorem Dev.tellEnd_keepsSync (sl : Slice) (why : Nat) : s.keepsSync d n (s.tellEnd d sl why) := by
  have hstat : ¬ syncReg d n (Reg.BIST_STAT d) := tellsOfSlice_not_syncReg d n (.inl rfl)
  have hres : ¬ syncReg d n (Reg.BIST_RES d) := tellsOfSlice_not_syncReg d n (.inr (.inl rfl))
  have hcnt : ¬ syncReg d n (Reg.BIST_RESCNT d) := tellsOfSlice_not_syncReg d n (.inr (.inr rfl))
  unfold Dev.tellEnd
  refine .trans ?_ (Dev.wr_keepsSync _ d n _ _ hcnt)
  refine .trans (.trans ?_ (Dev.wr_keepsSync _ d n _ _ hres)) (.of_eq rfl rfl rfl rfl)
  exact .trans (s.wr_keepsSync d n _ _ hstat) (Dev.wr_keepsSync _ d n _ _ hstat)

/-- A slice that has saved nothing that SYNC packets tell ends without a trace in them. -/
theorem Dev.abandonSlice_keepsSync (why : Nat) (hs : s.sliceSparesSync d n) : s.keepsSync d n (s.abandonSlice d why) := by
  unfold Dev.abandonSlice
  split
  · exact .refl s
  · next sl hsl =>
    dsimp only
    refine .trans ?_ (.ite (Dev.countAbandon_keepsSync _ d n sl) (.refl _))
    refine .trans ?_ (.ite (Dev.unmask_keepsSync _ d n _) (.refl _))
    refine .trans (.trans ?_ (Dev.tellEnd_keepsSync _ d n sl why)) (.of_eq rfl rfl rfl rfl)
    refine .trans ?_ (.ite (.refl _) (Dev.sliceLink_keepsSync _ d n _ _))
    exact (s.setEng_keepsSync d n _ (.inl rfl)).trans (Dev.restore_keepsSync _ d n _ (hs sl hsl))

theorem Dev.serve_keepsSync (blk : Nat) (hs : s.sliceSparesSync d n) : s.keepsSync d n (s.serve d blk) := by
  unfold Dev.serve
  split
  · exact .refl s
  · exact .ite (s.abandonSlice_keepsSync d n 1 hs) (.refl s)

end

/-- The start of a slice keeps the invariant (R302). -/
theorem Dev.sliceStart_sliceSparesSync (s : Dev) (d : Die) (n : Head) (blk len : Nat) (hs : s.sliceSparesSync d n) :
    (s.sliceStart d blk len).sliceSparesSync d n := by
  refine iteInduction (motive := fun v : Dev => v.sliceSparesSync d n) (fun _ => hs) (fun _ => ?_)
  have hstat : ¬ syncReg d n (Reg.BIST_STAT d) := tellsOfSlice_not_syncReg d n (.inl rfl)
  refine (Dev.sliceLink_keepsSync _ d n blk false).spares ?_
  refine Dev.keepsSync.spares (.trans (Dev.wr_keepsSync _ d n _ _ hstat) (.of_eq rfl rfl rfl rfl)) ?_
  intro sl hsl
  rw [Dev.setEng_eng_same] at hsl
  obtain rfl := Option.some.inj hsl
  exact s.savedRegs_not_syncReg d n blk

/-! ## A SYNC point of HOLD phase -/

/-- A tile is sent its SYNC packet of HOLD phase: it takes its lane back from self-test, and the packet tells what it told before. -/
def Dev.sendHoldSync (d n : Nat) (s : Dev) (t : Nat) : Dev := (s.serve d (laneBlock d t)).laneSend d t (s.syncPkt d n true)

theorem Dev.sendSync_hold (s : Dev) (d n : Nat) :
    s.sendSync d n true = forAll ((s.tilesOf d n).filter (s.locked d)) s (Dev.sendHoldSync d n) := rfl

theorem Dev.sendHoldSync_out (s : Dev) (d n t : Nat) :
    (s.sendHoldSync d n t).out = .lane d t (s.syncPkt d n true) :: (s.serve d (laneBlock d t)).out := rfl

theorem exec_holdSyncSend (d : Die) (n : Head) (s : State) (h : (s.dev.half d n).hold = true) :
    exec (.holdSyncSend d n) s = .next { s with dev := s.dev.sendSync d n true } := by
  have hsend : exec (.holdSyncSend d n) s =
      .next { s with dev := if (s.dev.half d n).hold then s.dev.sendSync d n true else s.dev } := rfl
  rw [hsend, if_pos h]

section
variable (s : Dev) (d : Die) (n : Head)

theorem Dev.sendHoldSync_keepsSync (t : Nat) (hs : s.sliceSparesSync d n) : s.keepsSync d n (s.sendHoldSync d n t) :=
  (s.serve_keepsSync d n _ hs).trans ⟨(Dev.goesOn.refl _).laneSend d t _, rfl, .inr rfl⟩

theorem Dev.sendHoldSyncs_keepsSync (l : List Nat) (s : Dev) (hs : s.sliceSparesSync d n) :
    s.keepsSync d n (forAll l s (Dev.sendHoldSync d n)) := by
  induction l generalizing s with
  | nil => exact .refl s
  | cons t l ih =>
    have hsend := s.sendHoldSync_keepsSync d n t hs
    exact hsend.trans (ih _ (hsend.spares hs))

/-- Each tile of the list is sent the packet that the half told at first. -/
theorem Dev.sendHoldSyncs_sent {l : List Nat} {r : Nat} (hr : r ∈ l) (hs : s.sliceSparesSync d n) :
    .lane d r (s.syncPkt d n true) ∈ (forAll l s (Dev.sendHoldSync d n)).out := by
  obtain ⟨before, after, rfl⟩ := List.append_of_mem hr
  let v := forAll before s (Dev.sendHoldSync d n)
  have hbefore : s.keepsSync d n v := Dev.sendHoldSyncs_keepsSync d n before s hs
  have hsend := v.sendHoldSync_keepsSync d n r (hbefore.spares hs)
  have hafter := Dev.sendHoldSyncs_keepsSync d n after _ (hsend.spares (hbefore.spares hs))
  have hsent : .lane d r (s.syncPkt d n true) ∈ (v.sendHoldSync d n r).out := by
    rw [Dev.sendHoldSync_out, hbefore.syncPkt true]
    exact List.mem_cons_self
  have hsplit : forAll (before ++ r :: after) s (Dev.sendHoldSync d n) =
      forAll after (v.sendHoldSync d n r) (Dev.sendHoldSync d n) := List.foldl_append
  rw [hsplit]
  exact hafter.goes.sent hsent

end

/-- The clause of O24 on a SYNC point in HOLD phase, under the invariant that it lacks. -/
theorem holdSyncSend_sent (d : Die) (n : Head) (s : State) (h : (s.dev.half d n).hold = true) (hs : s.dev.sliceSparesSync d n) :
    ∃ t, exec (.holdSyncSend d n) s = .next t ∧ ∀ r ∈ s.dev.tilesOf d n, s.dev.locked d r = true →
      t.dev.out.contains (.lane d r (s.dev.syncPkt d n true)) = true := by
  refine ⟨_, exec_holdSyncSend d n s h, fun r hr hlocked => ?_⟩
  rw [List.contains_iff_mem, Dev.sendSync_hold]
  exact s.dev.sendHoldSyncs_sent d n (List.mem_filter.mpr ⟨hr, hlocked⟩) hs

/-! ## A slice that has saved the frame counter -/

theorem Dev.countAbandon_out (s : Dev) (d : Nat) (sl : Slice) (hp : sl.prio = false) : (s.countAbandon d sl).out = s.out := by
  simp only [Dev.countAbandon, hp, Bool.false_eq_true, if_false]
  split <;> rfl

theorem Dev.restore_out (s : Dev) (l : List (Nat × Word)) : (s.restore l).out = s.out :=
  forAll_keeps Dev.out (f := fun (s : Dev) (e : Nat × Word) => s.wr e.1 e.2) (fun _ _ => rfl) l s

theorem Dev.abandonSlice_request_out (s : Dev) (d : Nat) (sl : Slice) (h : (s.eng d).slice = some sl)
    (hl : sl.block / 0x100 % 0x10 ≠ 0xD) (hp : sl.prio = false) (hm : s.flt.masks = []) : (s.abandonSlice d 1).out = s.out := by
  rw [s.abandonSlice_request d sl h hl hm, Dev.countAbandon_out _ _ _ hp]
  exact Dev.restore_out _ _

/-- A slice of lane 0 of CD0 whose saved context is HEAD_FRAME of head 0 alone, with the value 7. -/
def frameSlice : Slice :=
  { block := laneBlock 0 0, len := 0, prio := false, retest := false, saved := [(Reg.HEAD_FRAME 0 0, 7#32)] }

/-- Head 0 has tiles 0 and 1 of CD0, both LOCKED, and is in HOLD phase in frame 0, with the slice on lane 0. -/
def holdingInSlice : Dev :=
  { (Dev.reset.wr (Reg.LANE_STAT 0 0) 3#32).wr (Reg.LANE_STAT 0 1) 3#32 with
    cfg := { Dev.reset.cfg with tiles := [(0, ⟨true, 0, 0, 0⟩), (1, ⟨true, 0, 0, 0⟩)] }
    halves := [(0, { HalfH.init with hold := true })]
    bist := [(0, { BistH.init with slice := some frameSlice })] }

theorem holdingInSlice_serve : holdingInSlice.serve 0 (laneBlock 0 0) = holdingInSlice.abandonSlice 0 1 :=
  holdingInSlice.serve_takes 0 frameSlice rfl rfl rfl

/-- The packet of tile 0 goes out and takes lane 0 back. -/
def heldOnce : Dev := holdingInSlice.sendHoldSync 0 0 0

/-- The frame counter is now what the slice has saved. -/
theorem heldOnce_frame : heldOnce.rd (Reg.HEAD_FRAME 0 0) = 7#32 := by
  have htold : ¬ Reg.tellsOfSlice 0 (Reg.HEAD_FRAME 0 0) := by unfold Reg.tellsOfSlice; decide
  have hserve : heldOnce.rd (Reg.HEAD_FRAME 0 0) = (holdingInSlice.serve 0 (laneBlock 0 0)).rd (Reg.HEAD_FRAME 0 0) := rfl
  rw [hserve, holdingInSlice_serve, holdingInSlice.abandonSlice_request_rd 0 frameSlice rfl (by decide) rfl rfl _ htold]
  exact (Dev.rd_wr_same _ _ _).trans (by decide)

theorem heldOnce_out : heldOnce.out = [.lane 0 0 (holdingInSlice.syncPkt 0 0 true)] := by
  rw [heldOnce, Dev.sendHoldSync_out, holdingInSlice_serve,
    holdingInSlice.abandonSlice_request_out 0 frameSlice rfl (by decide) rfl rfl]
  rfl

theorem heldOnce_serve (blk : Nat) : heldOnce.serve 0 blk = heldOnce := by
  have hnone := holdingInSlice.abandonSlice_request_idle 0 frameSlice rfl (by decide) rfl rfl
  rw [← holdingInSlice_serve] at hnone
  have hidle : (heldOnce.eng 0).slice = none := hnone
  exact Dev.serve_idle _ _ _ (by rw [Dev.inSlice, hidle])

/-- Tile 1 is told the frame that the slice had saved. -/
theorem holdingInSlice_sendSync :
    (holdingInSlice.sendSync 0 0 true).out = [.lane 0 1 (heldOnce.syncPkt 0 0 true), .lane 0 0 (holdingInSlice.syncPkt 0 0 true)] := by
  have htiles : (holdingInSlice.tilesOf 0 0).filter (holdingInSlice.locked 0) = [0, 1] := by decide
  have hsend : holdingInSlice.sendSync 0 0 true = heldOnce.sendHoldSync 0 0 1 := by rw [Dev.sendSync_hold, htiles]; rfl
  rw [hsend, Dev.sendHoldSync_out, heldOnce_serve, heldOnce_out]

/-- Refutes O24: HOLD phase of head 0 on CD0, with LOCKED tiles 0 and 1, while a slice of lane 0 has saved HEAD_FRAME of the head, which
no slice start does (R302). The packet of tile 0 takes lane 0 back, what is put back is another frame, and that is what tile 1 is told. -/
theorem not_spanningHeadsAndHoldComplete : ¬ Obligations.SpanningHeadsAndHoldComplete := by
  intro hall
  obtain ⟨-, -, hsync, -⟩ := hall 0 0 0 0 { State.reset with dev := holdingInSlice }
  obtain ⟨t, ht, hsent⟩ := hsync rfl
  obtain rfl := Host.Outcome.next.inj ((exec_holdSyncSend 0 0 { State.reset with dev := holdingInSlice } rfl).symm.trans ht)
  have htold : holdingInSlice.syncPkt 0 0 true = heldOnce.syncPkt 0 0 true := by
    simpa [List.contains_iff_mem, holdingInSlice_sendSync] using hsent 1 (by decide) (by decide)
  have hframe : (holdingInSlice.rd (Reg.HEAD_FRAME 0 0)).toNat = (heldOnce.rd (Reg.HEAD_FRAME 0 0)).toNat := by
    simp only [Dev.syncPkt, Pkt.sync.injEq] at htold
    exact htold.2.2.1
  rw [heldOnce_frame] at hframe
  exact absurd hframe (by decide)

end Sys2Proof.Machine
end

section
/-! SUPPORT. What the work of a Derwell lane leaves alone (R168, R169, R198, R201, R300, R304, R310): the registers of its unit that it may
write, and those that a report of its faults and the check-value units on its die take with it. -/

namespace Sys2Proof.Machine

/-! ## The registers of a lane -/

/-- Registers that tell of a fault of a unit of die `d`, beside those of the unit: VSP_EVT_HOLD, and the consequential log of the die. -/
def tellReg (d b : Nat) : Prop := b = Reg.VSP_EVT_HOLD ∨ (Reg.cd d + 0xB0000 ≤ b ∧ b < Reg.cd d + 0xB0180)

/-- Registers that move with what a lane carries, and when one of its faults is reported: those of its tile or input, and of the
check-value units of the die. -/
def cargoReg (d n b : Nat) : Prop :=
  tellReg d b ∨ (Reg.cd d + 0xA0000 ≤ b ∧ b < Reg.cd d + 0xA0800) ∨
    (Reg.cd d + 0x10000 + 0x1000 * n + 0x100 ≤ b ∧ b < Reg.cd d + 0x10000 + 0x1000 * n + 0x1000)

/-- Those registers, and the registers at offsets `l` of the lane's unit (Table 7-9). -/
def laneReg (d n : Nat) (l : List Nat) (b : Nat) : Prop := cargoReg d n b ∨ ∃ o ∈ l, b = Reg.cd d + 0x10000 + 0x1000 * n + o

section
variable {d n : Nat} {l : List Nat}

theorem laneReg_own {o : Nat} (h : o ∈ l) : laneReg d n l (Reg.cd d + 0x10000 + 0x1000 * n + o) := .inr ⟨o, h, rfl⟩

theorem laneReg_cargo {o : Nat} (hlo : 0x100 ≤ o) (hhi : o < 0x1000) : laneReg d n l (Reg.cd d + 0x10000 + 0x1000 * n + o) :=
  .inl (.inr (.inr ⟨by omega, by omega⟩))

theorem laneReg_tell {b : Nat} (h : tellReg d b) : laneReg d n l b := .inl (.inl h)

theorem laneReg_crc {u o : Nat} (hu : u < 8) (ho : o < 0x100) : laneReg d n l (Reg.cd d + 0xA0000 + 0x100 * u + o) :=
  .inl (.inr (.inl ⟨by omega, by omega⟩))

theorem laneReg_mono {l' : List Nat} (h : l ⊆ l') {b : Nat} (hb : laneReg d n l b) : laneReg d n l' b :=
  hb.imp_right fun ⟨o, ho, he⟩ => ⟨o, h ho, he⟩

/-- A register of the unit's own that is not listed. -/
theorem not_laneReg_own {o : Nat} (hn : n < 10) (h : o ∉ l) (ho : o < 0x100) :
    ¬ laneReg d n l (Reg.cd d + 0x10000 + 0x1000 * n + o) := by
  rintro (hc | ⟨x, hx, he⟩)
  · simp only [cargoReg, tellReg, Reg.VSP_EVT_HOLD, Reg.cd] at hc
    omega
  · exact h ((Nat.add_left_cancel he) ▸ hx)

/-- A register that another lane has of its own. -/
theorem not_laneReg_other {m o : Nat} (hm : m < 10) (hne : m ≠ n) (hl : ∀ x ∈ l, x < 0x100) (ho : o < 0x100) :
    ¬ laneReg d n l (Reg.cd d + 0x10000 + 0x1000 * m + o) := by
  rintro (hc | ⟨x, hx, he⟩)
  · simp only [cargoReg, tellReg, Reg.VSP_EVT_HOLD, Reg.cd] at hc
    omega
  · have := hl x hx
    omega

/-- A register of a quad (Table 7-9). -/
theorem not_laneReg_quad {q o : Nat} (hn : n < 10) (hq : q < 3) (hl : ∀ x ∈ l, x < 0x100) (ho : o < 0x100) :
    ¬ laneReg d n l (Reg.cd d + 0x1C000 + 0x100 * q + o) := by
  rintro (hc | ⟨x, hx, he⟩)
  · simp only [cargoReg, tellReg, Reg.VSP_EVT_HOLD, Reg.cd] at hc
    omega
  · have := hl x hx
    omega

end

/-! ## Faults of the lane units -/

/-- A fault of a lane or a quad belongs to no watcher of another die (Table 14-4). -/
theorem watcherOf_lane {d a k w : Nat} (hd : d < 2) (hlo : Reg.cd d + 0x10000 ≤ a) (hhi : a < Reg.cd d + 0x1C300)
    (h : watcherOf a k = some w) : w / 0x1000 = d + 1 := by
  have hcluster : clusterOf a = 16 * d ∨ clusterOf a = 16 * d + 1 ∨ clusterOf a = 16 * d + 2 := by
    simp only [Reg.cd] at hlo hhi
    simp (disch := omega) only [clusterOf, ↓if_neg, ↓if_pos]
    split_ifs <;> omega
  have hoff : (a % 0x1000000 - 0x10000) / 0x1000 < 0x10 := by simp only [Reg.cd] at hlo hhi; omega
  unfold watcherOf at h
  dsimp only at h
  rw [if_pos (by omega), if_neg (c := clusterOf a % 16 = 12 ∧ k < 4) (by omega)] at h
  split at h
  · cases h
    simp only [blockId]
    omega
  · cases h

theorem watcherOf_crc {d u o k : Nat} (hd : d < 2) (hu : u < 8) (ho : o < 0x100) :
    watcherOf (Reg.cd d + 0xA0000 + 0x100 * u + o) k = none := by
  have hcluster : clusterOf (Reg.cd d + 0xA0000 + 0x100 * u + o) = 16 * d + 9 := by
    simp only [Reg.cd]
    simp (disch := omega) only [clusterOf, ↓if_neg, ↓if_pos]
    omega
  simp only [watcherOf, hcluster]
  rw [if_pos (by omega), if_neg (by omega), if_neg (by omega)]

/-- The consequential log of a die lies in its self-test window (Table 14-8). -/
theorem cqReg_eq_false {d b : Nat} (h : ¬ (Reg.cd d + 0xB0000 ≤ b ∧ b < Reg.cd d + 0xB0180)) : cqReg d b = false := by
  simp only [cqReg, Reg.BIST_CQ_PTR, Reg.BIST_CQ_CNT, Reg.BIST_FLT_STAT, Reg.BIST_CQ_LOG, Bool.or_eq_false_iff, beq_eq_false_iff_ne,
    List.any_eq_false, beq_iff_eq, List.mem_range]
  exact ⟨⟨⟨by omega, by omega⟩, by omega⟩, fun i _ => by omega⟩

/-- An entry of the consequential log reaches the log of the watcher's die alone. -/
theorem Dev.logConsequence_rd_near (s : Dev) (c w d b : Nat) (hw : s.engineDie (w / 0x1000) = d) (he : b ≠ Reg.VSP_EVT_HOLD)
    (hcq : cqReg d b = false) : (s.logConsequence c w).rd b = s.rd b := by
  have hi := fget_lt (s.rd (Reg.BIST_CQ_PTR d)) F.BIST_CQ_PTR_NEXT
  simp only [cqReg, Bool.or_eq_false_iff, beq_eq_false_iff_ne, List.any_eq_false, List.mem_range, beq_iff_eq] at hcq
  obtain ⟨⟨⟨hptr, hcnt⟩, hflt⟩, hlog⟩ := hcq
  have hentry : ∀ v : Dev, v.rd b = s.rd b → ((v.wrF (Reg.BIST_CQ_PTR d) F.BIST_CQ_PTR_NEXT
      (s.rdF (Reg.BIST_CQ_PTR d) F.BIST_CQ_PTR_NEXT + 1)).addR (Reg.BIST_CQ_CNT d) 1).rd b = s.rd b := fun v hv =>
    (Dev.rd_wr_other _ _ _ _ hcnt).trans ((Dev.rd_wrF_other _ _ _ _ _ hptr).trans hv)
  have hput := hentry _ (Dev.rd_wr_other s _ b (BitVec.ofNat 32 (c + 0x10000 * w)) (hlog _ hi))
  unfold Dev.logConsequence
  rw [hw]
  exact Dev.rd_ite _ _ _ _ _ ((Dev.latchFault_rd _ _ _ _ he hflt).trans hput) hput

/-- A fault of a lane unit reaches its own status register, VSP_EVT_HOLD, and the consequential log of its die. -/
theorem Dev.raise_rd_lane (s : Dev) {d a b : Nat} (k : Nat) (hd : d < 2) (hlo : Reg.cd d + 0x10000 ≤ a) (hhi : a < Reg.cd d + 0x1C300)
    (ha : b ≠ a) (he : b ≠ Reg.VSP_EVT_HOLD) (hcq : cqReg d b = false) : (s.raise a k).rd b = s.rd b := by
  have hlatch : (s.latchFault a k).rd b = s.rd b := Dev.latchFault_rd _ _ _ _ he ha
  unfold Dev.raise Dev.unlessMasked
  split
  · exact hlatch
  · next w hw =>
    split
    · exact hlatch
    · refine Dev.rd_ite _ _ _ _ _ (s.logConsequence_rd_near _ w d b ?_ he hcq) rfl
      rw [watcherOf_lane hd hlo hhi hw]
      exact if_pos (by omega)

/-! ## Work that stays within the lane units -/

/-- Everything is as before but registers, messages, the links between dies, the fault state, lanes, inputs, halves, check-value
windows and the next free value. -/
def Dev.laneEq (s t : Dev) : Prop :=
  t = { s with regs := t.regs, out := t.out, flt := t.flt, lanes := t.lanes, ins := t.ins, halves := t.halves, crcs := t.crcs, fresh := t.fresh, dcs := t.dcs, brgs := t.brgs }

/-- From `s` to `t` no other state has changed, and no register but those of `P`. -/
structure Dev.laneWork (P : Nat → Prop) (s t : Dev) : Prop where
  rest : s.laneEq t
  rd : ∀ b, ¬ P b → t.rd b = s.rd b

section
variable {P Q : Nat → Prop} {s t u : Dev}

theorem Dev.laneWork.of_regs (h : s.laneEq t) (hr : t.regs = s.regs) : s.laneWork P t := ⟨h, fun b _ => by rw [Dev.rd, hr, Dev.rd]⟩

theorem Dev.laneWork.refl (s : Dev) : s.laneWork P s := .of_regs rfl rfl

theorem Dev.laneWork.trans (h : s.laneWork P t) (g : t.laneWork P u) : s.laneWork P u := by
  refine ⟨?_, fun b hb => (g.rd b hb).trans (h.rd b hb)⟩
  have ht : t = _ := h.rest
  have hu : u = _ := g.rest
  rw [ht] at hu
  exact hu

theorem Dev.laneWork.mono (h : s.laneWork P t) (hQ : ∀ b, P b → Q b) : s.laneWork Q t := ⟨h.rest, fun b hb => h.rd b fun hp => hb (hQ b hp)⟩

theorem Dev.laneWork.ite {c : Prop} [Decidable c] (h : s.laneWork P t) (g : s.laneWork P u) : s.laneWork P (if c then t else u) := by
  split <;> assumption

theorem Dev.laneWork.forAll {α : Type} {f : Dev → α → Dev} {l : List α} (h : ∀ s, ∀ a ∈ l, Dev.laneWork P s (f s a)) (s : Dev) :
    s.laneWork P (Machine.forAll l s f) := by
  induction l generalizing s with
  | nil => exact .refl s
  | cons a l ih => exact (h s a List.mem_cons_self).trans (ih (fun s b hb => h s b (List.mem_cons_of_mem a hb)) (f s a))

/-- An operation of fault reporting or of the bridge changes no unit's state. -/
theorem Dev.laneWork.of_restEq (h : s.restEq t) (hr : ∀ b, ¬ P b → t.rd b = s.rd b) : s.laneWork P t := by
  refine ⟨?_, hr⟩
  have ht : t = _ := h
  rw [ht]
  rfl

end

section
variable {P : Nat → Prop} {s t : Dev} (h : s.laneWork P t)
include h

theorem Dev.laneWork.wr (a : Nat) (v : Word) (ha : P a) : s.laneWork P (t.wr a v) :=
  h.trans ⟨rfl, fun _ hb => Dev.rd_wr_other _ _ _ _ fun e => hb (e ▸ ha)⟩

theorem Dev.laneWork.emit (m : OutMsg) : s.laneWork P (t.emit m) := h.trans (.of_regs rfl rfl)

theorem Dev.laneWork.setLane (d n : Nat) (x : LaneH) : s.laneWork P (t.setLane d n x) := h.trans (.of_regs rfl rfl)

theorem Dev.laneWork.setInp (d n : Nat) (x : InH) : s.laneWork P (t.setInp d n x) := h.trans (.of_regs rfl rfl)

theorem Dev.laneWork.setHalf (d n : Nat) (x : HalfH) : s.laneWork P (t.setHalf d n x) := h.trans (.of_regs rfl rfl)

theorem Dev.laneWork.setCrc (d n : Nat) (x : CrcH) : s.laneWork P (t.setCrc d n x) := h.trans (.of_regs rfl rfl)

theorem Dev.laneWork.free : s.laneWork P t.free.2 := h.trans (.of_regs rfl rfl)

theorem Dev.laneWork.laneSend (d n : Nat) (p : Pkt) : s.laneWork P (t.laneSend d n p) := (h.setLane d n _).emit _

theorem Dev.laneWork.causeOff (a k : Nat) (hc : P (a + 8)) : s.laneWork P (t.causeOff a k) := h.wr (a + 8) _ hc

/-- A fault that belongs to no watcher. -/
theorem Dev.laneWork.raisePlain (a k : Nat) (hw : watcherOf a k = none) (ha : P a) (he : P Reg.VSP_EVT_HOLD) :
    s.laneWork P (t.raise a k) := by
  have hlatch : t.raise a k = t.latchFault a k := by rw [Dev.raise, hw]; rfl
  refine h.trans (.of_restEq (t.raise_eq a k) fun b hb => ?_)
  rw [hlatch]
  exact Dev.latchFault_rd t a k b (by rintro rfl; exact hb he) (by rintro rfl; exact hb ha)

/-- A fault of a lane unit, which takes the consequential log of its die with it. -/
theorem Dev.laneWork.raiseLane {d : Nat} (a k : Nat) (hd : d < 2) (hlo : Reg.cd d + 0x10000 ≤ a) (hhi : a < Reg.cd d + 0x1C300)
    (ha : P a) (htell : ∀ b, tellReg d b → P b) : s.laneWork P (t.raise a k) := by
  refine h.trans (.of_restEq (t.raise_eq a k) fun b hb => ?_)
  refine t.raise_rd_lane k hd hlo hhi (by rintro rfl; exact hb ha) (fun e => hb (htell b (.inl e))) (cqReg_eq_false fun hc => ?_)
  exact hb (htell b (.inr hc))

end

/-! ## Work on one lane -/

section
variable {d n : Nat} {l : List Nat} {s t : Dev} (h : s.laneWork (laneReg d n l) t)
include h

theorem Dev.laneWork.wrOwn (o : Nat) (v : Word) (ho : l.contains o = true) :
    s.laneWork (laneReg d n l) (t.wr (Reg.cd d + 0x10000 + 0x1000 * n + o) v) := h.wr _ v (laneReg_own (List.contains_iff_mem.mp ho))

theorem Dev.laneWork.wrCargo (o : Nat) (v : Word) (ho : (Nat.ble 0x100 o && Nat.blt o 0x1000) = true) :
    s.laneWork (laneReg d n l) (t.wr (Reg.cd d + 0x10000 + 0x1000 * n + o) v) := h.wr _ v (by
  simp only [Bool.and_eq_true, Nat.ble_eq, Nat.blt_eq] at ho
  exact laneReg_cargo ho.1 ho.2)

theorem Dev.laneWork.wrCrc {u : Nat} (hu : u < 8) (o : Nat) (v : Word) (ho : Nat.blt o 0x100 = true) :
    s.laneWork (laneReg d n l) (t.wr (Reg.cd d + 0xA0000 + 0x100 * u + o) v) := h.wr _ v (laneReg_crc hu (Nat.blt_eq.mp ho))

theorem Dev.laneWork.widen {l' : List Nat} (hl : l.all l'.contains = true) : s.laneWork (laneReg d n l') t :=
  h.mono fun _ => laneReg_mono fun _ ho => List.contains_iff_mem.mp (List.all_eq_true.mp hl _ ho)

theorem Dev.laneWork.andThen {l' : List Nat} {u : Dev} (g : t.laneWork (laneReg d n l') u) (hl : l'.all l.contains = true) :
    s.laneWork (laneReg d n l) u := h.trans (g.widen hl)

variable (hd : d < 2) (hn : n < 10)
include hd hn

theorem Dev.laneWork.raiseOwn (o k : Nat) (ho : laneReg d n l (Reg.cd d + 0x10000 + 0x1000 * n + o)) (hlt : o < 0x1000) :
    s.laneWork (laneReg d n l) (t.raise (Reg.cd d + 0x10000 + 0x1000 * n + o) k) :=
  h.raiseLane _ k hd (by omega) (by omega) ho fun _ => laneReg_tell

theorem Dev.laneWork.raiseCargo (o k : Nat) (ho : (Nat.ble 0x100 o && Nat.blt o 0x1000) = true) :
    s.laneWork (laneReg d n l) (t.raise (Reg.cd d + 0x10000 + 0x1000 * n + o) k) := by
  simp only [Bool.and_eq_true, Nat.ble_eq, Nat.blt_eq] at ho
  exact h.raiseOwn hd hn o k (laneReg_cargo ho.1 ho.2) ho.2

theorem Dev.laneWork.causeOn (o k : Nat) (ho : (l.contains o && l.contains (o + 8) && Nat.blt o 0x1000) = true) :
    s.laneWork (laneReg d n l) (t.causeOn (Reg.cd d + 0x10000 + 0x1000 * n + o) k) :=
  by
  simp only [Bool.and_eq_true, Nat.blt_eq] at ho
  obtain ⟨⟨hstat, hcause⟩, hlt⟩ := ho
  exact (h.wrOwn (o + 8) _ hcause).raiseOwn hd hn o k (laneReg_own (List.contains_iff_mem.mp hstat)) hlt

theorem Dev.laneWork.causeIs (o k : Nat) (x : Bool)
    (ho : (l.contains o && l.contains (o + 8) && Nat.blt o 0x1000) = true) :
    s.laneWork (laneReg d n l) (t.causeIs (Reg.cd d + 0x10000 + 0x1000 * n + o) k x) := by
  cases x with
  | true => exact h.causeOn hd hn o k ho
  | false =>
    simp only [Bool.and_eq_true] at ho
    exact h.wrOwn (o + 8) _ ho.1.2

omit hd in
/-- A register of the lane that is not listed stays as it is. -/
theorem Dev.laneWork.own {o : Nat} (ho : (!l.contains o && Nat.blt o 0x100) = true) :
    t.rd (Reg.cd d + 0x10000 + 0x1000 * n + o) = s.rd (Reg.cd d + 0x10000 + 0x1000 * n + o) := by
  simp only [Bool.and_eq_true, Bool.not_eq_true', Nat.blt_eq, ← Bool.not_eq_true, List.contains_iff_mem] at ho
  exact h.rd _ (not_laneReg_own hn ho.1 ho.2)

end

end Sys2Proof.Machine
end

section
/-! SUPPORT. Which registers of its unit each lane operation writes (R161 to R176, R198, R201). -/

namespace Sys2Proof.Machine

/-! ## What a lane carries -/

section
variable (s : Dev) {d u : Nat} {n : Nat} {l : List Nat} (hd : d < 2) (hu : u < 8)
include hu

theorem Dev.crcRearm_laneWork (window : Bool) : s.laneWork (laneReg d n l) (s.crcRearm d u window) :=
  .ite ((Dev.laneWork.refl s).setCrc d u _) (((Dev.laneWork.refl s).setCrc d u _).wrCrc hu 0x34 _ rfl)

include hd

theorem Dev.crcCompare_laneWork : s.laneWork (laneReg d n l) (s.crcCompare d u) := by
  have hs := Dev.laneWork.refl (P := laneReg d n l) s
  unfold Dev.crcCompare
  dsimp only
  generalize hcounted : Dev.emit _ _ = t
  have hcount : s.laneWork (laneReg d n l) t := by
    rw [← hcounted]
    exact .emit (.ite (((hs.wrCrc hu 0x34 _ rfl).wrCrc hu 0x34 _ rfl).wrCrc hu 0x38 _ rfl)
      (((hs.wrCrc hu 0x34 _ rfl).wrCrc hu 0x34 _ rfl).wrCrc hu 0x38 _ rfl)) _
  exact .ite (hcount.wrCrc hu 0x48 _ rfl) (.ite hcount
    ((hcount.wrCrc hu 0x48 _ rfl).raisePlain _ _ (watcherOf_crc hd hu (by decide)) (laneReg_crc hu (by decide)) (laneReg_tell (.inl rfl))))

theorem Dev.crcWindowEnd_laneWork (complete : Bool) : s.laneWork (laneReg d n l) (s.crcWindowEnd d u complete) := by
  unfold Dev.crcWindowEnd
  exact .ite (.refl s) (.trans (.ite (s.crcCompare_laneWork hd hu) ((Dev.laneWork.refl s).wrCrc hu 0x34 _ rfl))
    (Dev.crcRearm_laneWork _ hu _))

end

theorem Dev.watchersOfInput_lt {s : Dev} {d lane kind u : Nat} (h : u ∈ s.watchersOfInput d lane kind) : u < 8 :=
  List.mem_range.mp (List.mem_filter.mp h).1

section
variable (s : Dev) {d n : Nat} {l : List Nat} (hd : d < 2)

include hd

theorem Dev.snoopInputEnd_laneWork (lane kind : Nat) (accepted : Bool) :
    s.laneWork (laneReg d n l) (s.snoopInputEnd d lane kind accepted) :=
  .forAll (fun w _ hu => w.crcWindowEnd_laneWork hd (Dev.watchersOfInput_lt hu) _) s

end

section
variable (s : Dev) {d i : Nat} {l : List Nat}

theorem Dev.sendSrcstat_laneWork : s.laneWork (laneReg d (8 + i) l) (s.sendSrcstat d i) :=
  .ite ((Dev.laneWork.refl s).laneSend _ _ _) (.refl s)

variable (hd : d < 2) (hi : i < 2)
include hd hi

theorem Dev.discardFrame_laneWork (why frame : Nat) (ignoring : Bool) :
    s.laneWork (laneReg d (8 + i) l) (s.discardFrame d i why frame ignoring) := by
  unfold Dev.discardFrame
  have hn : 8 + i < 10 := by omega
  refine .trans (.raiseCargo (.trans ?_ (Dev.snoopInputEnd_laneWork _ hd _ _ _)) hd hn 0x230 _ rfl) (Dev.sendSrcstat_laneWork _)
  exact (((((Dev.laneWork.refl s).setInp d i _).wrCargo 0x218 _ rfl).wrCargo 0x218 _ rfl).wrCargo 0x218 _ rfl).wrCargo 0x21C _ rfl

theorem Dev.failBatch_laneWork : s.laneWork (laneReg d (8 + i) l) (s.failBatch d i) := by
  unfold Dev.failBatch
  have hn : 8 + i < 10 := by omega
  refine .trans (.raiseCargo (.trans ?_ (Dev.snoopInputEnd_laneWork _ hd _ _ _)) hd hn 0x230 _ rfl) (Dev.sendSrcstat_laneWork _)
  exact (((Dev.laneWork.refl s).setInp d i _).wrCargo 0x218 _ rfl).wrCargo 0x220 _ rfl

theorem Dev.inputLaneDown_laneWork : s.laneWork (laneReg d (8 + i) l) (s.inputLaneDown d i) := by
  have hframe : s.laneWork (laneReg d (8 + i) l) (if (s.inp d i).inFrame then s.discardFrame d i 6 (s.inp d i).frame true else s) :=
    .ite (s.discardFrame_laneWork hd hi _ _ _) (.refl s)
  exact .ite (hframe.trans (Dev.failBatch_laneWork _ hd hi)) hframe

end

/-! ## Training -/

section
variable (s : Dev) {d n : Nat} {l : List Nat}

theorem Dev.endScan_laneWork : s.laneWork (laneReg d n [0x68]) (s.endScan d n) := .ite ((Dev.laneWork.refl s).wrOwn 0x68 _ rfl) (.refl s)

theorem Dev.clearRetry_laneWork : s.laneWork (laneReg d n [0x24, 0x88]) (s.clearRetry d n) :=
  ((Dev.laneWork.refl s).wrOwn 0x24 _ rfl).wrOwn 0x88 _ rfl

theorem Dev.tileLaneDown_laneWork : s.laneWork (laneReg d n l) (s.tileLaneDown d n) := ((Dev.laneWork.refl s).setLane d n _).wrCargo 0x100 _ rfl

theorem Dev.startAttempt_laneWork (k : Nat) : s.laneWork (laneReg d n [8, 0x10, 0x38, 0x68]) (s.startAttempt d n k) := by
  have hscan : s.laneWork (laneReg d n [8, 0x10, 0x38, 0x68]) (s.endScan d n) := s.endScan_laneWork.widen rfl
  unfold Dev.startAttempt
  refine .setLane (.ite ?_ ?_) d n _
  · exact ((hscan.wrOwn 8 _ rfl).wrOwn 0x38 _ rfl).wrOwn 0x10 _ rfl
  · exact ((((hscan.wrOwn 8 _ rfl).wrOwn 0x38 _ rfl).wrOwn 0x10 _ rfl).wrOwn 0x10 _ rfl).wrOwn 0x10 _ rfl

variable (hd : d < 2) (hn : n < 10)
include hd hn

theorem Dev.leaveLocked_laneWork : s.laneWork (laneReg d n [8]) (s.leaveLocked d n) := by
  have hleft := ((Dev.laneWork.refl (P := laneReg d n [8]) s).wrOwn 8 (fset (s.rd (Reg.LANE_STAT d n)) F.LANE_STAT_STATE 2) rfl).setLane d n
    { s.lane d n with eqAt := (s.setLaneStat d n F.LANE_STAT_STATE 2).rd (Reg.LANE_EQ d n) }
  unfold Dev.leaveLocked
  refine .ite (.refl s) ?_
  by_cases ht : n < 8
  · rw [if_pos ht]
    exact ((hleft.trans (Dev.tileLaneDown_laneWork _)).wrCargo 0x138 _ rfl).setHalf _ _ _
  · obtain ⟨i, rfl⟩ : ∃ i, n = 8 + i := ⟨n - 8, by omega⟩
    rw [if_neg ht, Nat.add_sub_cancel_left]
    exact hleft.trans (Dev.inputLaneDown_laneWork _ hd (by omega))

theorem Dev.startSeq_laneWork (full auto : Bool) : s.laneWork (laneReg d n [8, 0x10, 0x38, 0x68]) (s.startSeq d n full auto) := by
  have hleft : s.laneWork (laneReg d n [8, 0x10, 0x38, 0x68]) (s.leaveLocked d n) := (s.leaveLocked_laneWork hd hn).widen rfl
  refine .ite (hleft.wrOwn 8 _ rfl) (.ite ?_ ?_)
  · exact ((hleft.andThen (Dev.endScan_laneWork _) rfl).wrOwn 8 _ rfl).setLane d n _
  · exact (hleft.setLane d n _).trans (Dev.startAttempt_laneWork _ _)

theorem Dev.laneFailed_laneWork : s.laneWork (laneReg d n [8, 0x24, 0x80, 0x88]) (s.laneFailed d n) := by
  unfold Dev.laneFailed
  dsimp only
  generalize hfailed : Dev.causeOn _ (Reg.LANE_FLT_STAT d n) B.LANE_TRAIN_FAIL = t
  have ht : s.laneWork (laneReg d n [8, 0x24, 0x80, 0x88]) t := by
    rw [← hfailed]
    exact ((Dev.laneWork.refl s).wrOwn 8 _ rfl).causeOn hd hn 0x80 _ rfl
  exact .ite (.ite (((ht.wrOwn 0x24 _ rfl).setLane d n _).causeOn hd hn 0x80 _ rfl) ((ht.wrOwn 0x24 _ rfl).setLane d n _)) (ht.setLane d n _)

theorem Dev.attemptFail_laneWork (why : Nat) :
    s.laneWork (laneReg d n [8, 0xC, 0x10, 0x24, 0x38, 0x68, 0x80, 0x88]) (s.attemptFail d n why) := by
  have hwhy := (Dev.laneWork.refl (P := laneReg d n [8, 0xC, 0x10, 0x24, 0x38, 0x68, 0x80, 0x88]) s).wrOwn 0xC
    (fset (s.rd (Reg.LANE_CAUSE d n)) F.LANE_CAUSE_FAIL why) rfl
  unfold Dev.attemptFail
  dsimp only
  split
  · exact hwhy.andThen (Dev.startAttempt_laneWork _ _) rfl
  · exact .ite (hwhy.andThen (Dev.startAttempt_laneWork _ _) rfl) (hwhy.andThen (Dev.laneFailed_laneWork _ hd hn) rfl)
  · exact hwhy.andThen (Dev.laneFailed_laneWork _ hd hn) rfl

theorem Dev.laneLock_laneWork : s.laneWork (laneReg d n [8, 0x24, 0x80, 0x88]) (s.laneLock d n) := by
  have hs := Dev.laneWork.refl (P := laneReg d n [8, 0x24, 0x80, 0x88]) s
  unfold Dev.laneLock
  dsimp only
  generalize hlocked : Dev.causeIs _ (Reg.LANE_FLT_STAT d n) B.LANE_FALLBACK _ = t
  have ht : s.laneWork (laneReg d n [8, 0x24, 0x80, 0x88]) t := by
    rw [← hlocked]
    refine .causeIs ?_ hd hn 0x80 _ _ rfl
    exact (((((hs.wrOwn 8 _ rfl).setLane d n _).andThen (Dev.clearRetry_laneWork _) rfl).wrOwn 0x88 _ rfl).wrOwn 0x88 _ rfl).wrOwn 0x88 _ rfl
  exact .ite ((ht.setLane d n _).wrCargo 0x100 _ rfl) ht

/-! ## Loss of lock and loopbacks -/

theorem Dev.recordLoss_laneWork (c : LossCause) (also : List LossCause) :
    s.laneWork (laneReg d n [0xC, 0x18, 0x80, 0x88]) (s.recordLoss d n c also) := by
  unfold Dev.recordLoss
  dsimp only
  generalize hrecorded : Dev.setLane _ d n _ = t
  have ht : s.laneWork (laneReg d n [0xC, 0x18, 0x80, 0x88]) t := by
    rw [← hrecorded]
    exact ((((Dev.laneWork.refl s).wrOwn 0xC _ rfl).wrOwn 0x18 _ rfl).causeOn hd hn 0x80 _ rfl).setLane d n _
  exact .ite (ht.causeOn hd hn 0x80 _ rfl) ht

omit hd hn in
theorem Dev.endLoopback_laneWork (flags : Nat) : s.laneWork (laneReg d n [0x40, 0x48]) (s.endLoopback d n flags) :=
  (((Dev.laneWork.refl s).setLane d n _).wrOwn 0x40 _ rfl).wrOwn 0x48 _ rfl

theorem Dev.loseLock_laneWork (c : LossCause) (also : List LossCause) :
    s.laneWork (laneReg d n [8, 0xC, 0x10, 0x14, 0x18, 0x38, 0x40, 0x48, 0x68, 0x80, 0x88]) (s.loseLock d n c also) := by
  have hs := Dev.laneWork.refl (P := laneReg d n [8, 0xC, 0x10, 0x14, 0x18, 0x38, 0x40, 0x48, 0x68, 0x80, 0x88]) s
  refine .ite ?_ (.ite ?_ hs)
  · exact ((hs.wrOwn 0x14 _ rfl).andThen (Dev.recordLoss_laneWork _ hd hn c also) rfl).andThen (Dev.startSeq_laneWork _ hd hn _ _) rfl
  · exact (((s.recordLoss_laneWork hd hn c also).widen rfl).andThen (Dev.endLoopback_laneWork _ _) rfl).andThen
      (Dev.startSeq_laneWork _ hd hn _ _) rfl

end

/-! ## Blocks and phases -/

section
variable (s : Dev) {d n : Nat} {l : List Nat}

theorem Dev.commaSeen_laneWork (pos raw : Nat) : s.laneWork (laneReg d n [0x38, 0x3C]) (s.commaSeen d n pos raw) := by
  have hseen := ((Dev.laneWork.refl (P := laneReg d n [0x38, 0x3C]) s).wrOwn 0x3C (BitVec.ofNat 32 raw) rfl).wrOwn 0x38
    (fset ((s.wr (Reg.LANE_RAW d n) (BitVec.ofNat 32 raw)).rd (Reg.LANE_ALIGN_STAT d n)) F.LANE_ALIGN_STAT_COMMA_POS pos) rfl
  exact .ite (hseen.wrOwn 0x38 _ rfl) hseen

theorem Dev.sendSets_laneWork (ts2 loopback : Bool) (count : Nat) : s.laneWork (laneReg d n l) (s.sendSets d n ts2 loopback count) :=
  (Dev.laneWork.refl s).free.laneSend d n _

theorem Dev.enterPhase_laneWork (p : Nat) : s.laneWork (laneReg d n [8, 0x10]) (s.enterPhase d n p) := by
  have hphase := (Dev.laneWork.refl (P := laneReg d n [8, 0x10]) s).wrOwn 8 (fset (s.rd (Reg.LANE_STAT d n)) F.LANE_STAT_PHASE p) rfl
  exact .setLane (.ite (hphase.wrOwn 0x10 _ rfl) (.ite (hphase.wrOwn 0x10 _ rfl) hphase)) d n _

theorem Dev.searchBlock_laneWork (isRx mism : Bool) : s.laneWork (laneReg d n [0x10]) (s.searchBlock d n isRx mism) := by
  have hs (x : LaneH) : s.laneWork (laneReg d n [0x10]) (s.setLane d n x) := (Dev.laneWork.refl s).setLane d n x
  exact .ite (hs _) (.ite (.ite ((hs _).wrOwn 0x10 _ rfl) (hs _)) (.ite ((hs _).wrOwn 0x10 _ rfl) (hs _)))

theorem Dev.loopRx_laneWork (x : List Sym) : s.laneWork (laneReg d n [0x48, 0x4C]) (s.loopRx d n x) := by
  unfold Dev.loopRx
  dsimp only
  generalize hcounted : Dev.wr _ (Reg.LANE_LB_ERR d n) _ = t
  have ht : s.laneWork (laneReg d n [0x48, 0x4C]) t := by
    rw [← hcounted]
    exact ((Dev.laneWork.refl s).setLane d n _).wrOwn 0x4C _ rfl
  exact .ite (ht.wrOwn 0x48 _ rfl) ht

variable (hd : d < 2) (hn : n < 10)
include hd hn

theorem Dev.confirmBlock_laneWork : s.laneWork (laneReg d n [8, 0xC, 0x10, 0x24, 0x38, 0x68, 0x80, 0x88]) (s.confirmBlock d n) :=
  .ite (s.attemptFail_laneWork hd hn 5) ((Dev.laneWork.refl s).setLane d n _)

theorem Dev.blockEnd_laneWork (mism : Bool) :
    s.laneWork (laneReg d n [8, 0xC, 0x10, 0x24, 0x38, 0x68, 0x80, 0x88]) (s.blockEnd d n mism) := by
  refine .setLane ?_ d n _
  split
  · exact .ite ((s.searchBlock_laneWork _ _).widen rfl) (.refl s)
  · exact .ite ((s.searchBlock_laneWork _ _).widen rfl) (.refl s)
  · exact s.confirmBlock_laneWork hd hn
  · exact .refl s

theorem Dev.dataRx_laneWork (x : List Sym) (mism : Bool) :
    s.laneWork (laneReg d n [8, 0xC, 0x10, 0x14, 0x24, 0x38, 0x48, 0x4C, 0x68, 0x80, 0x88]) (s.dataRx d n x mism) := by
  unfold Dev.dataRx
  dsimp only
  split
  · exact .ite (.refl s) (((Dev.laneWork.refl s).setLane d n _).andThen (Dev.blockEnd_laneWork _ hd hn _) rfl)
  · exact (Dev.laneWork.refl s).wrOwn 0x14 _ rfl
  · exact .ite (.refl s) ((s.loopRx_laneWork x).widen rfl)
  · exact .refl s

theorem Dev.rateMatch_laneWork (skp : Nat) (drift : Int) :
    s.laneWork (laneReg d n [8, 0xC, 0x10, 0x14, 0x18, 0x20, 0x38, 0x40, 0x48, 0x68, 0x80, 0x88]) (s.rateMatch d n skp drift) := by
  have hs := Dev.laneWork.refl (P := laneReg d n [8, 0xC, 0x10, 0x14, 0x18, 0x20, 0x38, 0x40, 0x48, 0x68, 0x80, 0x88]) s
  exact .ite ((s.loseLock_laneWork hd hn _ _).widen rfl) (.ite ((hs.wrOwn 0x20 _ rfl).setLane d n _)
    (.ite ((hs.wrOwn 0x20 _ rfl).setLane d n _) (hs.setLane d n _)))

end

end Sys2Proof.Machine
end

section
/-! SUPPORT. The commands of a lane stay within its unit and what it carries (R157, R161, R165, R166, R168, R170, R171, R174, R203, R300). -/

namespace Sys2Proof.Machine

/-! ## The commands of one lane -/

/-- The registers of its own that the commands of a lane write (Table 7-9). -/
def commandRegs : List Nat := [8, 0xC, 0x10, 0x14, 0x18, 0x20, 0x24, 0x38, 0x3C, 0x40, 0x48, 0x4C, 0x68, 0x6C, 0x70, 0x80, 0x88]

section
variable (s : Dev) {d n : Nat}

theorem Dev.commaSeen_commands (pos raw : Nat) : s.laneWork (laneReg d n commandRegs) (s.commaSeen d n pos raw) :=
  (s.commaSeen_laneWork pos raw).widen rfl

theorem Dev.enterPhase_commands (p : Nat) : s.laneWork (laneReg d n commandRegs) (s.enterPhase d n p) := (s.enterPhase_laneWork p).widen rfl

theorem Dev.clearRetry_commands : s.laneWork (laneReg d n commandRegs) (s.clearRetry d n) := s.clearRetry_laneWork.widen rfl

theorem Dev.endLoopback_commands (flags : Nat) : s.laneWork (laneReg d n commandRegs) (s.endLoopback d n flags) :=
  (s.endLoopback_laneWork flags).widen rfl

theorem Dev.sendPattern_laneWork {l : List Nat} (g : PatGen) (count : Nat) (pins : Bool) :
    s.laneWork (laneReg d n l) (s.sendPattern d n g count pins) :=
  .ite (((Dev.laneWork.refl s).setLane d n _).laneSend d n _) ((Dev.laneWork.refl s).setLane d n _)

theorem Dev.leaveFe_laneWork {l : List Nat} : s.laneWork (laneReg d n l) (s.leaveFe d n) :=
  .ite ((Dev.laneWork.refl s).free.laneSend d n _) (.refl s)

theorem Dev.fillerOut_laneWork {l : List Nat} : s.laneWork (laneReg d n l) (s.fillerOut d n) := by
  have hs := Dev.laneWork.refl (P := laneReg d n l) s
  unfold Dev.fillerOut
  dsimp only
  split
  · refine .ite ((s.sendSets_laneWork _ _ _).laneSend d n _) (.ite ?_ (hs.laneSend d n _))
    exact (((s.sendSets_laneWork _ _ _).trans (Dev.sendPattern_laneWork _ _ _ _)).setLane d n _).laneSend d n _
  · exact .ite hs (hs.laneSend d n _)
  · exact .ite ((s.sendSets_laneWork _ _ _).laneSend d n _)
      (.ite ((s.sendPattern_laneWork _ _ _).laneSend d n _) (s.sendPattern_laneWork _ _ _))
  · exact hs

theorem Dev.slipBits_commands (hidle : s.inSlice d (laneBlock d n) = false) (bits : Nat) :
    s.laneWork (laneReg d n commandRegs) (s.slipBits d n bits) := by
  have hmoved := ((Dev.laneWork.refl (P := laneReg d n commandRegs) s).wrOwn 0x38
    (fset (s.rd (Reg.LANE_ALIGN_STAT d n)) F.LANE_ALIGN_STAT_COMMA_HITS 0) rfl).wrOwn 0x38
    (fset ((s.wrF (Reg.LANE_ALIGN_STAT d n) F.LANE_ALIGN_STAT_COMMA_HITS 0).rd (Reg.LANE_ALIGN_STAT d n)) F.LANE_ALIGN_STAT_ALIGNED 0) rfl
  unfold Dev.slipBits
  rw [s.touch_idle _ _ hidle]
  exact .ite (.setLane (.ite (hmoved.wrOwn 0x38 _ rfl) hmoved) d n _) (.refl s)

theorem Dev.alignEnd_commands (hidle : s.inSlice d (laneBlock d n) = false) :
    s.laneWork (laneReg d n commandRegs) (s.alignEnd d n) := by
  unfold Dev.alignEnd
  rw [s.touch_idle _ _ hidle]
  exact .ite (s.enterPhase_commands _) (.refl s)

theorem Dev.escanGo_commands (hidle : s.inSlice d (laneBlock d n) = false) :
    s.laneWork (laneReg d n commandRegs) (s.escanGo d n) := by
  unfold Dev.escanGo
  rw [s.touch_idle _ _ hidle]
  exact .ite ((((Dev.laneWork.refl s).wrOwn 0x68 _ rfl).wrOwn 0x6C _ rfl).wrOwn 0x70 _ rfl) ((Dev.laneWork.refl s).wrOwn 0x68 _ rfl)

theorem Dev.escanTake_commands (t : EyeTally) : s.laneWork (laneReg d n commandRegs) (s.escanTake d n t) := by
  have hs := Dev.laneWork.refl (P := laneReg d n commandRegs) s
  exact .ite hs (.ite (((hs.wrOwn 0x6C _ rfl).wrOwn 0x70 _ rfl).wrOwn 0x68 _ rfl) ((hs.wrOwn 0x6C _ rfl).wrOwn 0x70 _ rfl))

variable (hd : d < 2) (hn : n < 10)
include hd hn

theorem Dev.startSeq_commands (full auto : Bool) : s.laneWork (laneReg d n commandRegs) (s.startSeq d n full auto) :=
  (s.startSeq_laneWork hd hn full auto).widen rfl

theorem Dev.attemptFail_commands (why : Nat) : s.laneWork (laneReg d n commandRegs) (s.attemptFail d n why) :=
  (s.attemptFail_laneWork hd hn why).widen rfl

theorem Dev.loseLock_commands (c : LossCause) (also : List LossCause) : s.laneWork (laneReg d n commandRegs) (s.loseLock d n c also) :=
  (s.loseLock_laneWork hd hn c also).widen rfl

theorem Dev.restart_commands (full auto : Bool) :
    s.laneWork (laneReg d n commandRegs) ((s.clearRetry d n).startSeq d n full auto) :=
  s.clearRetry_commands.trans (Dev.startSeq_commands _ hd hn _ _)

theorem Dev.trainingSet_commands (rx : RxSyms) : s.laneWork (laneReg d n commandRegs) (s.trainingSet d n rx) := by
  have hseen := s.commaSeen_commands (d := d) (n := n) rx.pos (rawOf rx)
  unfold Dev.trainingSet
  dsimp only
  generalize s.commaSeen d n rx.pos (rawOf rx) = v at *
  refine .ite (.refl s) (.ite ?_ (.ite ?_ hseen))
  · have hcount := hseen.wrOwn 0x14 (v.rd (Reg.LANE_SYMERR d n) + BitVec.ofNat 32 (symErrors (symsOf rx))) rfl
    exact .ite (.ite (hcount.trans (Dev.loseLock_commands _ hd hn _ _)) (hcount.setLane d n _)) (hcount.setLane d n _)
  · split
    · exact hseen.setLane d n _
    · exact .ite (.ite ((hseen.setLane d n _).wrOwn 0x38 _ rfl) (hseen.setLane d n _))
        (.ite ((hseen.setLane d n _).wrOwn 0x38 _ rfl) (hseen.setLane d n _))
    · exact hseen.setLane d n _

theorem Dev.phaseDone_commands (cdr : Bool) : s.laneWork (laneReg d n commandRegs) (s.phaseDone d n cdr) := by
  have hs := Dev.laneWork.refl (P := laneReg d n commandRegs) s
  unfold Dev.phaseDone
  refine .ite hs ?_
  dsimp only
  split
  · exact .ite ((hs.wrOwn 0x38 _ rfl).trans (Dev.enterPhase_commands _ _)) hs
  · exact .ite (s.enterPhase_commands _) hs
  · refine .ite hs ?_
    split
    · exact s.attemptFail_commands hd hn 3
    · exact ((hs.free.wrOwn 0x10 _ rfl).wrOwn 0x10 _ rfl).trans (Dev.enterPhase_commands _ _)
  · refine .ite hs ?_
    split
    · exact s.attemptFail_commands hd hn 4
    · exact ((hs.wrOwn 0x10 _ rfl).wrOwn 0x10 _ rfl).trans (Dev.enterPhase_commands _ _)
  · exact .ite (s.enterPhase_commands _) hs
  · exact (s.sendSets_laneWork _ _ _).andThen (Dev.laneLock_laneWork _ hd hn) rfl

theorem Dev.phaseTimeout_commands : s.laneWork (laneReg d n commandRegs) (s.phaseTimeout d n) := by
  unfold Dev.phaseTimeout
  refine .ite (.refl s) ?_
  split
  · exact s.attemptFail_commands hd hn 1
  · exact .ite (.refl s) (s.attemptFail_commands hd hn 2)
  · exact s.attemptFail_commands hd hn 3
  · exact s.attemptFail_commands hd hn 4
  · exact s.attemptFail_commands hd hn 5

theorem Dev.retrainLane_commands (hidle : s.inSlice d (laneBlock d n) = false) (full : Bool) :
    s.laneWork (laneReg d n commandRegs) (s.retrainLane d n full) := by
  unfold Dev.retrainLane
  rw [s.touch_idle _ _ hidle]
  exact .ite (s.restart_commands hd hn _ _) (.refl s)

theorem Dev.enableLane_commands (hidle : s.inSlice d (laneBlock d n) = false) :
    s.laneWork (laneReg d n commandRegs) (s.enableLane d n) := by
  unfold Dev.enableLane
  rw [s.touch_idle _ _ hidle]
  exact .ite (s.restart_commands hd hn _ _) (.refl s)

theorem Dev.laneOff_commands : s.laneWork (laneReg d n commandRegs) (s.laneOff d n) := by
  have hleft : s.laneWork (laneReg d n commandRegs) ((s.leaveLocked d n).endScan d n) :=
    ((s.leaveLocked_laneWork hd hn).widen rfl).andThen (Dev.endScan_laneWork _) rfl
  unfold Dev.laneOff
  dsimp only
  generalize (s.leaveLocked d n).endScan d n = v at *
  have hended : s.laneWork (laneReg d n commandRegs) (if v.laneState d n = 5 then v.endLoopback d n 0 else v) :=
    .ite (hleft.trans (Dev.endLoopback_commands _ _)) hleft
  exact ((((((hended.wrOwn 8 _ rfl).wrOwn 0x88 _ rfl).wrOwn 0x88 _ rfl).wrOwn 0x88 _ rfl).wrOwn 0x88 _ rfl).wrOwn 0x88 _ rfl).setLane d n _

theorem Dev.retryLane_commands : s.laneWork (laneReg d n commandRegs) (s.retryLane d n) :=
  .ite (s.startSeq_commands hd hn _ _) (.refl s)

theorem Dev.fillerSet_commands (skp : Nat) (drift : Int) (rx : RxSyms) (mism : Bool) :
    s.laneWork (laneReg d n commandRegs) (s.fillerSet d n skp drift rx mism) :=
  .ite (.refl s) (((s.commaSeen_commands _ _).andThen (Dev.rateMatch_laneWork _ hd hn _ _) rfl).andThen
    (Dev.dataRx_laneWork _ hd hn _ _) rfl)

theorem Dev.enterLoop_laneWork (mode : Nat) : s.laneWork (laneReg d n [8, 0x48, 0x4C]) (s.enterLoop d n mode) := by
  unfold Dev.enterLoop
  dsimp only
  generalize hentered : Dev.wr _ (Reg.LANE_LB_ERR d n) 0#32 = v
  have hv : s.laneWork (laneReg d n [8, 0x48, 0x4C]) v := by
    rw [← hentered]
    exact ((((s.leaveFe_laneWork.andThen (Dev.leaveLocked_laneWork _ hd hn) rfl).setLane d n _).wrOwn 8 _ rfl).wrOwn 0x48 _ rfl).wrOwn 0x4C _ rfl
  exact .ite (hv.trans (Dev.sendSets_laneWork _ _ _ _)) hv

theorem Dev.loopbackWrite_commands (hidle : s.inSlice d (laneBlock d n) = false) (v : Word) :
    s.laneWork (laneReg d n commandRegs) (s.loopbackWrite d n v) := by
  have hctrl := (Dev.laneWork.refl (P := laneReg d n commandRegs) s).wrOwn 0x40 v rfl
  unfold Dev.loopbackWrite
  rw [s.touch_idle _ _ hidle]
  refine .ite (.ite ?_ hctrl) (.ite (hctrl.andThen (Dev.enterLoop_laneWork _ hd hn _) rfl) (hctrl.wrOwn 0x40 _ rfl))
  exact ((hctrl.trans (Dev.leaveFe_laneWork _)).trans (Dev.endLoopback_commands _ _)).trans (Dev.restart_commands _ hd hn _ _)

end

/-! ## The commands of a quad -/

/-- The registers of a quad (Table 7-9), and those that tell of its faults. -/
def quadReg (d q b : Nat) : Prop := tellReg d b ∨ (Reg.cd d + 0x1C000 + 0x100 * q ≤ b ∧ b < Reg.cd d + 0x1C000 + 0x100 * q + 0x100)

/-- The registers that the commands of the lanes of die `d` may write. -/
def dieLaneReg (d b : Nat) : Prop :=
  b = Reg.VSP_EVT_HOLD ∨ (Reg.cd d + 0x10000 ≤ b ∧ b < Reg.cd d + 0x20000) ∨ (Reg.cd d + 0xA0000 ≤ b ∧ b < Reg.cd d + 0xA0800) ∨
    (Reg.cd d + 0xB0000 ≤ b ∧ b < Reg.cd d + 0xB0180)

theorem dieLaneReg_tell {d b : Nat} (h : tellReg d b) : dieLaneReg d b := h.imp_right fun h => .inr (.inr h)

theorem dieLaneReg_quad {d q b : Nat} (hq : q < 3) (h : quadReg d q b) : dieLaneReg d b :=
  h.elim dieLaneReg_tell fun h => .inr (.inl (by omega))

theorem dieLaneReg_lane {d n b : Nat} (hn : n < 10) (h : laneReg d n commandRegs b) : dieLaneReg d b := by
  rcases h with (htell | hcrc | hcargo) | ⟨o, ho, rfl⟩
  · exact dieLaneReg_tell htell
  · exact .inr (.inr (.inl hcrc))
  · exact .inr (.inl (by omega))
  · have hlt : ∀ o ∈ commandRegs, o < 0x100 := by decide
    have := hlt o ho
    exact .inr (.inl (by omega))

theorem Dev.laneWork.ofQuad {d q : Nat} {s t : Dev} (h : s.laneWork (quadReg d q) t) (hq : q < 3) : s.laneWork (dieLaneReg d) t :=
  h.mono fun b hb => dieLaneReg_quad (d := d) (q := q) (b := b) hq hb

theorem Dev.laneWork.ofLane {d n : Nat} {s t : Dev} (h : s.laneWork (laneReg d n commandRegs) t) (hn : n < 10) :
    s.laneWork (dieLaneReg d) t := h.mono fun b hb => dieLaneReg_lane (d := d) (n := n) (b := b) hn hb

theorem quadReg_own {d q o : Nat} (ho : o < 0x100) : quadReg d q (Reg.cd d + 0x1C000 + 0x100 * q + o) := .inr ⟨by omega, by omega⟩

theorem lanesOfQuad_lt {q n : Nat} (h : n ∈ lanesOfQuad q) : n < 10 := List.mem_range.mp (List.mem_filter.mp h).1

/-- The quad PLL as its loss of lock leaves it, before the lanes of the quad follow (R170). -/
def Dev.pllLost (s : Dev) (d q : Nat) (ref : Bool) : Dev :=
  let s := (s.wrF (Reg.LANE_Q_STAT d q) F.LANE_Q_STAT_PLL_LOCK 0).wrF (Reg.LANE_Q_STAT d q) F.LANE_Q_STAT_REF_PRESENT (b2n ref)
  let s := s.wr (Reg.LANE_Q_UNLOCK d q) (BitVec.ofNat 32 (satAdd 32 (s.rd (Reg.LANE_Q_UNLOCK d q)).toNat 1))
  s.causeOn (Reg.LANE_Q_FLT_STAT d q) (if ref then B.LANE_Q_PLL_UNLOCK else B.LANE_Q_REF_LOST)

/-- The quad PLL as its relock leaves it, before the lanes of the quad follow (R170). -/
def Dev.pllLocked (s : Dev) (d q : Nat) : Dev :=
  let s := (s.wrF (Reg.LANE_Q_STAT d q) F.LANE_Q_STAT_PLL_LOCK 1).wrF (Reg.LANE_Q_STAT d q) F.LANE_Q_STAT_REF_PRESENT 1
  (s.causeOff (Reg.LANE_Q_FLT_STAT d q) B.LANE_Q_PLL_UNLOCK).causeOff (Reg.LANE_Q_FLT_STAT d q) B.LANE_Q_REF_LOST

/-- What a lane of the quad does at its relock. -/
def Dev.laneRelock (s : Dev) (d n : Nat) : Dev := if s.laneState d n = 1 then s.startSeq d n false false else s

section
variable (s : Dev) {d q n : Nat}

theorem Dev.quadLoss_eq (ref : Bool) : s.quadLoss d q ref = forAll (lanesOfQuad q) (s.pllLost d q ref) (fun s n => s.laneWaitPll d n) := rfl

theorem Dev.quadRelock_eq : s.quadRelock d q = forAll (lanesOfQuad q) (s.pllLocked d q) (fun s n => s.laneRelock d n) := rfl

theorem Dev.pllLocked_laneWork : s.laneWork (quadReg d q) (s.pllLocked d q) := by
  have hown (o : Nat) (ho : Nat.blt o 0x100 = true) := quadReg_own (d := d) (q := q) (Nat.blt_eq.mp ho)
  exact ((((Dev.laneWork.refl s).wr _ _ (hown 0 rfl)).wr _ _ (hown 0 rfl)).wr _ _ (hown 0x18 rfl)).wr _ _ (hown 0x18 rfl)

theorem Dev.pllLost_laneWork (hd : d < 2) (hq : q < 3) (ref : Bool) : s.laneWork (quadReg d q) (s.pllLost d q ref) := by
  have hown (o : Nat) (ho : Nat.blt o 0x100 = true) := quadReg_own (d := d) (q := q) (Nat.blt_eq.mp ho)
  have hs := Dev.laneWork.refl (P := quadReg d q) s
  have hlo : Reg.cd d + 0x10000 ≤ Reg.LANE_Q_FLT_STAT d q := by simp only [Reg.LANE_Q_FLT_STAT]; omega
  have hhi : Reg.LANE_Q_FLT_STAT d q < Reg.cd d + 0x1C300 := by simp only [Reg.LANE_Q_FLT_STAT]; omega
  unfold Dev.pllLost
  dsimp only
  refine .raiseLane (.wr ?_ _ _ (hown 0x18 rfl)) _ _ hd hlo hhi (hown 0x10 rfl) fun _ => .inl
  exact ((hs.wr _ _ (hown 0 rfl)).wr _ _ (hown 0 rfl)).wr _ _ (hown 4 rfl)

variable (hd : d < 2)
include hd

theorem Dev.laneWaitPll_commands (hn : n < 10) : s.laneWork (laneReg d n commandRegs) (s.laneWaitPll d n) :=
  .ite (.refl s) (.ite (s.loseLock_commands hd hn _ _) (s.startSeq_commands hd hn _ _))

theorem Dev.laneRelock_commands (hn : n < 10) : s.laneWork (laneReg d n commandRegs) (s.laneRelock d n) :=
  .ite (s.startSeq_commands hd hn _ _) (.refl s)

variable (hq : q < 3)
include hq

theorem Dev.quadLoss_dieLanes (ref : Bool) : s.laneWork (dieLaneReg d) (s.quadLoss d q ref) := by
  rw [Dev.quadLoss_eq]
  exact ((s.pllLost_laneWork hd hq ref).ofQuad hq).trans
    (.forAll (fun w n hn => (w.laneWaitPll_commands hd (lanesOfQuad_lt hn)).ofLane (lanesOfQuad_lt hn)) _)

theorem Dev.quadRelock_dieLanes : s.laneWork (dieLaneReg d) (s.quadRelock d q) := by
  rw [Dev.quadRelock_eq]
  exact (s.pllLocked_laneWork.ofQuad hq).trans
    (.forAll (fun w n hn => (w.laneRelock_commands hd (lanesOfQuad_lt hn)).ofLane (lanesOfQuad_lt hn)) _)

end

/-! ## The statement -/

/-- A command that acts on the device alone, and there within the lanes of a die. -/
theorem dieLanes_of_exec {d : Nat} {c : Instr} {s t : State} {u : Dev} (he : exec c s = .next t) (hu : s.dev.laneWork (dieLaneReg d) u)
    (hc : exec c s = .next { s with dev := u }) : t.nv = s.nv ∧ t.mem = s.mem ∧ s.dev.laneWork (dieLaneReg d) t.dev := by
  rw [hc] at he
  cases he
  exact ⟨rfl, rfl, hu⟩

/-- The same, for a command of one lane. -/
theorem dieLanes_of_lane {d : Nat} {n : LaneIx} {c : Instr} {s t : State} {u : Dev} (he : exec c s = .next t)
    (hu : s.dev.laneWork (laneReg d n commandRegs) u) (hc : exec c s = .next { s with dev := u }) :
    t.nv = s.nv ∧ t.mem = s.mem ∧ s.dev.laneWork (dieLaneReg d) t.dev :=
  dieLanes_of_exec he (hu.ofLane n.isLt) hc

theorem Dev.laneWork.keepsOutside {d : Nat} {s t : Dev} (h : s.laneWork (dieLaneReg d) t) :
    s.keepsOutside [(0x1010000 + 0x1000000 * d, 0x10000), (0x10A0000 + 0x1000000 * d, 0x10000), (0x10B0000 + 0x1000000 * d, 0x10000),
      (Reg.VSP_EVT_HOLD, 4)] t := by
  intro a ha
  simp only [List.forall_mem_cons, List.not_mem_nil, false_imp_iff, implies_true, and_true] at ha
  refine h.rd a ?_
  simp only [dieLaneReg, Reg.cd]
  omega

theorem exec_laneDisable (d : Die) (n : LaneIx) (s : State) :
    exec (.laneDisable d n) s = .next { s with dev := (s.dev.touch d (laneBlock d n)).laneOff d n } := rfl

/-- Settles O59: each command by the lemma that says that it stays within the lanes of its die. -/
theorem laneCommandsKeepOtherState : Obligations.LaneCommandsKeepOtherState := by
  intro d n rx bits lc q bb skp drift v mm al c s t hc hslice he
  have hidle : s.dev.inSlice d (laneBlock d n) = false := by rw [Dev.inSlice, hslice]
  suffices h : t.nv = s.nv ∧ t.mem = s.mem ∧ s.dev.laneWork (dieLaneReg d) t.dev by
    obtain ⟨hnv, hmem, hdev⟩ := h
    exact ⟨hnv, hmem, hdev.rest, hdev.keepsOutside⟩
  simp only [List.mem_cons, List.not_mem_nil, or_false] at hc
  rcases hc with rfl | rfl | rfl | rfl | rfl | rfl | rfl | rfl | rfl | rfl | rfl | rfl | rfl | rfl | rfl | rfl | rfl | rfl | rfl | rfl
  · exact dieLanes_of_lane he (s.dev.trainingSet_commands d.isLt n.isLt rx) rfl
  · exact dieLanes_of_lane he (s.dev.phaseDone_commands d.isLt n.isLt bb) rfl
  · exact dieLanes_of_lane he (s.dev.phaseTimeout_commands d.isLt n.isLt) rfl
  · exact dieLanes_of_lane he (s.dev.slipBits_commands hidle bits) rfl
  · exact dieLanes_of_lane he (s.dev.alignEnd_commands hidle) rfl
  · exact dieLanes_of_lane he (s.dev.retrainLane_commands d.isLt n.isLt hidle false) rfl
  · exact dieLanes_of_lane he (s.dev.retrainLane_commands d.isLt n.isLt hidle true) rfl
  · exact dieLanes_of_lane he (s.dev.enableLane_commands d.isLt n.isLt hidle) rfl
  · refine dieLanes_of_lane he (s.dev.laneOff_commands d.isLt n.isLt) ?_
    rw [exec_laneDisable, s.dev.touch_idle _ _ hidle]
  · exact dieLanes_of_lane he (s.dev.retryLane_commands d.isLt n.isLt) rfl
  · exact dieLanes_of_lane he (s.dev.loseLock_commands d.isLt n.isLt lc al) rfl
  · exact dieLanes_of_exec he (s.dev.quadLoss_dieLanes d.isLt q.isLt bb) rfl
  · exact dieLanes_of_exec he (s.dev.quadRelock_dieLanes d.isLt q.isLt) rfl
  · exact dieLanes_of_lane he (s.dev.fillerSet_commands d.isLt n.isLt skp drift rx bb) rfl
  · exact dieLanes_of_lane he s.dev.fillerOut_laneWork rfl
  · exact dieLanes_of_lane he (s.dev.loopbackWrite_commands d.isLt n.isLt hidle v) rfl
  · exact dieLanes_of_lane he (.ite ((Dev.laneWork.refl s.dev).wrOwn 0x48 _ rfl) (.refl s.dev)) rfl
  · exact dieLanes_of_lane he (.ite ((s.dev.endLoopback_commands _).trans (Dev.restart_commands _ d.isLt n.isLt _ _)) (.refl s.dev)) rfl
  · exact dieLanes_of_lane he (s.dev.escanGo_commands hidle) rfl
  · exact dieLanes_of_lane he (s.dev.escanTake_commands mm) rfl

end Sys2Proof.Machine
end

section
/-! SUPPORT. Where a lane stands once the sequence of R165 has begun, and after its commands (R151, R161, R162, R165, R166, R170, R176). -/

namespace Sys2Proof.Machine

/-! ## Fields of the registers of a lane -/

section
variable {d n : Nat} (hd : d < 2) (hn : n < 10)
include hd hn

theorem regMask_laneStat : regMask (Reg.LANE_STAT d n) = 0x3F7#32 :=
  (by decide : ∀ (d : Die) (n : LaneIx), regMask (Reg.LANE_STAT d n) = 0x3F7#32) ⟨d, hd⟩ ⟨n, hn⟩

theorem regMask_laneAlign : regMask (Reg.LANE_ALIGN_STAT d n) = 0xFFF1#32 :=
  (by decide : ∀ (d : Die) (n : LaneIx), regMask (Reg.LANE_ALIGN_STAT d n) = 0xFFF1#32) ⟨d, hd⟩ ⟨n, hn⟩

theorem regMask_laneRetry : regMask (Reg.LANE_RETRY d n) = 0xFFFF000F#32 :=
  (by decide : ∀ (d : Die) (n : LaneIx), regMask (Reg.LANE_RETRY d n) = 0xFFFF000F#32) ⟨d, hd⟩ ⟨n, hn⟩

/-- A field of LANE_STATn reads what was written to it. -/
theorem Dev.laneStat_wr (s : Dev) (v : Word) (f : Fld) (hf : f.lo + f.len ≤ 32) (hm : 0x3F7#32 &&& f.mask = f.mask) :
    (s.wr (Reg.LANE_STAT d n) v).rdF (Reg.LANE_STAT d n) f = fget v f :=
  Dev.rdF_wr_same _ _ _ _ hf (by rw [regMask_laneStat hd hn]; exact hm)

theorem Dev.laneStat_wrF (s : Dev) (f : Fld) (v : Nat) (hf : f.lo + f.len ≤ 32) (hm : 0x3F7#32 &&& f.mask = f.mask) :
    (s.wrF (Reg.LANE_STAT d n) f v).rdF (Reg.LANE_STAT d n) f = v % 2 ^ f.len :=
  Dev.rdF_wrF_same _ _ _ _ hf (by rw [regMask_laneStat hd hn]; exact hm)

theorem Dev.laneStat_wrF_field (s : Dev) (f g : Fld) (v : Nat) (hg : g.lo + g.len ≤ 32) (hm : 0x3F7#32 &&& g.mask = g.mask)
    (h : f.lo + f.len ≤ g.lo ∨ g.lo + g.len ≤ f.lo) :
    (s.wrF (Reg.LANE_STAT d n) f v).rdF (Reg.LANE_STAT d n) g = s.rdF (Reg.LANE_STAT d n) g :=
  Dev.rdF_wrF_field _ _ _ _ _ hg (by rw [regMask_laneStat hd hn]; exact hm) h

end

/-! ## An attempt of R165 -/

/-- Where a lane stands when attempt `k` of R165 has begun: TRAIN, in DETECT. -/
structure Dev.trains (s : Dev) (d n k : Nat) : Prop where
  state : s.laneState d n = 2
  phase : s.rdF (Reg.LANE_STAT d n) F.LANE_STAT_PHASE = 0
  fast : s.rdF (Reg.LANE_STAT d n) F.LANE_STAT_FAST = b2n (k == 1)
  attempt : (s.lane d n).attempt = k

/-- The rate of attempt `k` of R165. -/
def Dev.attemptRate (s : Dev) (d n k : Nat) : Nat :=
  if k = 1 then s.rdF (Reg.LANE_STAT d n) F.LANE_STAT_RATE_NOW
  else if k = 2 then fget (s.rd (Reg.LANE_CFG d n)) F.LANE_CFG_RATE else 1

/-- LANE_STATn at the beginning of attempt `k`. -/
def Dev.attemptStat (s : Dev) (d n k : Nat) : Word := BitVec.ofNat 32 (2 + 128 * b2n (k == 1) + 256 * s.attemptRate d n k)

theorem fget_ofNat (v : Nat) (f : Fld) : fget (BitVec.ofNat 32 v) f = v % 2 ^ 32 / 2 ^ f.lo % 2 ^ f.len := by rw [fget, BitVec.toNat_ofNat]

theorem b2n_le (b : Bool) : b2n b ≤ 1 := by cases b <;> decide

section
variable (s : Dev) {d n : Nat} (k : Nat)

theorem Dev.attemptStat_state : fget (s.attemptStat d n k) F.LANE_STAT_STATE = 2 := by
  have := b2n_le (k == 1)
  rw [Dev.attemptStat, fget_ofNat]
  dsimp only
  omega

theorem Dev.attemptStat_phase : fget (s.attemptStat d n k) F.LANE_STAT_PHASE = 0 := by
  have := b2n_le (k == 1)
  rw [Dev.attemptStat, fget_ofNat]
  dsimp only
  omega

theorem Dev.attemptStat_fast : fget (s.attemptStat d n k) F.LANE_STAT_FAST = b2n (k == 1) := by
  have := b2n_le (k == 1)
  rw [Dev.attemptStat, fget_ofNat]
  dsimp only
  omega

omit k in
theorem Dev.endScan_lane : (s.endScan d n).lane d n = s.lane d n := by
  unfold Dev.endScan
  split <;> rfl

theorem Dev.startAttempt_lane :
    ((s.startAttempt d n k).lane d n).attempt = k ∧ ((s.startAttempt d n k).lane d n).auto = (s.lane d n).auto := by
  unfold Dev.startAttempt
  dsimp only
  rw [Dev.setLane_lane_same, s.endScan_lane]
  exact ⟨rfl, rfl⟩

theorem Dev.startAttempt_stat : ((s.endScan d n).wr (Reg.LANE_STAT d n) (s.attemptStat d n k)).laneWork (laneReg d n [0x10, 0x38])
    (s.startAttempt d n k) := by
  have hs := Dev.laneWork.refl (P := laneReg d n [0x10, 0x38]) ((s.endScan d n).wr (Reg.LANE_STAT d n) (s.attemptStat d n k))
  unfold Dev.startAttempt
  exact .setLane (.ite ((hs.wrOwn 0x38 _ rfl).wrOwn 0x10 _ rfl)
    ((((hs.wrOwn 0x38 _ rfl).wrOwn 0x10 _ rfl).wrOwn 0x10 _ rfl).wrOwn 0x10 _ rfl)) d n _

variable (hd : d < 2) (hn : n < 10)
include hd hn

theorem Dev.startAttempt_trains : (s.startAttempt d n k).trains d n k := by
  have hstat : (s.startAttempt d n k).rd (Reg.LANE_STAT d n) = _ := (s.startAttempt_stat k).own hn rfl
  have hfield (f : Fld) (hf : f.lo + f.len ≤ 32) (hm : 0x3F7#32 &&& f.mask = f.mask) :
      (s.startAttempt d n k).rdF (Reg.LANE_STAT d n) f = fget (s.attemptStat d n k) f := by
    rw [Dev.rdF, hstat]
    exact Dev.laneStat_wr hd hn _ _ _ hf hm
  exact
    { state := (hfield _ (by decide) (by decide)).trans (s.attemptStat_state k)
      phase := (hfield _ (by decide) (by decide)).trans (s.attemptStat_phase k)
      fast := (hfield _ (by decide) (by decide)).trans (s.attemptStat_fast k)
      attempt := (s.startAttempt_lane k).1 }

end

/-! ## The sequence of R165 -/

/-- What the end of a window keeps, where writes, messages and faults keep it. -/
theorem Dev.crcWindowEnd_keeps {β : Type} (g : Dev → β) (hr : ∀ (s : Dev) a v, g (s.wr a v) = g s)
    (hc : ∀ (s : Dev) e u x, g (s.setCrc e u x) = g s) (he : ∀ (s : Dev) m, g (s.emit m) = g s)
    (hf : ∀ (s : Dev) a k, g (s.raise a k) = g s) (s : Dev) (d u : Nat) (complete : Bool) :
    g (s.crcWindowEnd d u complete) = g s := by
  have hcompare (s : Dev) : g (s.crcCompare d u) = g s := by
    unfold Dev.crcCompare
    dsimp only
    generalize hcounted : Dev.emit _ _ = t
    have ht : g t = g s := by
      rw [← hcounted, he]
      split
      · exact (hr _ _ _).trans ((hr _ _ _).trans (hr _ _ _))
      · exact (hr _ _ _).trans ((hr _ _ _).trans (hr _ _ _))
    split
    · exact (hr _ _ _).trans ht
    · split
      · exact ht
      · exact (hf _ _ _).trans ((hr _ _ _).trans ht)
  have hrearm (s : Dev) (w : Bool) : g (s.crcRearm d u w) = g s := by
    unfold Dev.crcRearm
    split
    · exact hc _ _ _ _
    · exact (hr _ _ _).trans (hc _ _ _ _)
  unfold Dev.crcWindowEnd
  split
  · rfl
  · dsimp only
    rw [hrearm]
    split
    · exact hcompare s
    · exact hr _ _ _

/-- The end of an INPUT window changes no lane, input or half. -/
theorem Dev.snoopInputEnd_units (s : Dev) (d lane kind : Nat) (accepted : Bool) :
    (s.snoopInputEnd d lane kind accepted).lanes = s.lanes ∧ (s.snoopInputEnd d lane kind accepted).ins = s.ins ∧
      (s.snoopInputEnd d lane kind accepted).halves = s.halves := by
  have hkeeps {β : Type} (g : Dev → β) (hr : ∀ (s : Dev) a v, g (s.wr a v) = g s) (hc : ∀ (s : Dev) e u x, g (s.setCrc e u x) = g s)
      (he : ∀ (s : Dev) m, g (s.emit m) = g s) (hf : ∀ (s : Dev) a k, g (s.raise a k) = g s) :
      g (s.snoopInputEnd d lane kind accepted) = g s :=
    forAll_keeps g (fun w u => w.crcWindowEnd_keeps g hr hc he hf d u accepted) _ s
  exact ⟨hkeeps Dev.lanes (fun _ _ _ => rfl) (fun _ _ _ _ => rfl) (fun _ _ => rfl) Dev.raise_lanes,
    hkeeps Dev.ins (fun _ _ _ => rfl) (fun _ _ _ _ => rfl) (fun _ _ => rfl) Dev.raise_ins,
    hkeeps Dev.halves (fun _ _ _ => rfl) (fun _ _ _ _ => rfl) (fun _ _ => rfl) Dev.raise_halves⟩

theorem Dev.lane_congr {s t : Dev} (h : t.lanes = s.lanes) (d n : Nat) : t.lane d n = s.lane d n := by rw [Dev.lane, h, Dev.lane]

/-- The lane has been LOCKED since it last left OFF (R165). -/
def Dev.wasLocked (s : Dev) (d n : Nat) : Bool := (s.lane d n).everLocked

theorem Dev.wasLocked_congr {s t : Dev} (h : t.lanes = s.lanes) (d n : Nat) : t.wasLocked d n = s.wasLocked d n :=
  congrArg LaneH.everLocked (Dev.lane_congr h d n)

theorem Dev.wasLocked_setLane (s : Dev) (d n : Nat) (x : LaneH) (h : x.everLocked = (s.lane d n).everLocked) :
    (s.setLane d n x).wasLocked d n = s.wasLocked d n := by
  rw [Dev.wasLocked, Dev.setLane_lane_same, h, Dev.wasLocked]

theorem Dev.sendSrcstat_wasLocked (s : Dev) (d i : Nat) : (s.sendSrcstat d i).wasLocked d (8 + i) = s.wasLocked d (8 + i) := by
  unfold Dev.sendSrcstat
  split
  · exact s.wasLocked_setLane _ _ _ rfl
  · rfl

theorem Dev.discardFrame_wasLocked (s : Dev) (d i why frame : Nat) (ignoring : Bool) :
    (s.discardFrame d i why frame ignoring).wasLocked d (8 + i) = s.wasLocked d (8 + i) := by
  refine (Dev.sendSrcstat_wasLocked _ d i).trans (Dev.wasLocked_congr ((Dev.raise_lanes _ _ _).trans ?_) _ _)
  exact (Dev.snoopInputEnd_units _ _ _ _ _).1

theorem Dev.failBatch_wasLocked (s : Dev) (d i : Nat) : (s.failBatch d i).wasLocked d (8 + i) = s.wasLocked d (8 + i) := by
  refine (Dev.sendSrcstat_wasLocked _ d i).trans (Dev.wasLocked_congr ((Dev.raise_lanes _ _ _).trans ?_) _ _)
  exact (Dev.snoopInputEnd_units _ _ _ _ _).1

theorem Dev.inputLaneDown_wasLocked (s : Dev) (d i : Nat) : (s.inputLaneDown d i).wasLocked d (8 + i) = s.wasLocked d (8 + i) := by
  have hframe : (if (s.inp d i).inFrame then s.discardFrame d i 6 (s.inp d i).frame true else s).wasLocked d (8 + i) =
      s.wasLocked d (8 + i) := by
    split
    · exact s.discardFrame_wasLocked _ _ _ _ _
    · rfl
  unfold Dev.inputLaneDown
  dsimp only
  generalize (if (s.inp d i).inFrame then s.discardFrame d i 6 (s.inp d i).frame true else s) = v at *
  split
  · exact (Dev.failBatch_wasLocked _ d i).trans hframe
  · exact hframe

theorem Dev.leaveLocked_wasLocked (s : Dev) (d n : Nat) : (s.leaveLocked d n).wasLocked d n = s.wasLocked d n := by
  unfold Dev.leaveLocked
  dsimp only
  split
  · rfl
  · by_cases ht : n < 8
    · rw [if_pos ht]
      refine (Dev.wasLocked_setLane _ _ _ _ ?_).trans (Dev.wasLocked_setLane _ _ _ _ rfl)
      rfl
    · obtain ⟨i, rfl⟩ : ∃ i, n = 8 + i := ⟨n - 8, by omega⟩
      rw [if_neg ht, Nat.add_sub_cancel_left]
      exact (Dev.inputLaneDown_wasLocked _ d i).trans (Dev.wasLocked_setLane _ _ _ _ rfl)

theorem Dev.laneWork.laneQuad {d n : Nat} (hn : n < 10) {l : List Nat} {s t : Dev} {q : Nat} (h : s.laneWork (laneReg d n l) t) (hq : q < 3)
    (hl : l.all (Nat.blt · 0x100) = true) : t.rd (Reg.LANE_Q_STAT d q) = s.rd (Reg.LANE_Q_STAT d q) :=
  h.rd _ (not_laneReg_quad hn hq (fun x hx => Nat.blt_eq.mp (List.all_eq_true.mp hl x hx)) (o := 0) (by decide))

section
variable (s : Dev) {d n : Nat} (hd : d < 2) (hn : n < 10)
include hd hn

theorem Dev.leaveLocked_use : (s.leaveLocked d n).rd (Reg.LANE_CFG d n) = s.rd (Reg.LANE_CFG d n) :=
  (s.leaveLocked_laneWork hd hn).own hn (o := 0) rfl

theorem Dev.leaveLocked_pll : (s.leaveLocked d n).rd (Reg.LANE_Q_STAT d (quadOf n)) = s.rd (Reg.LANE_Q_STAT d (quadOf n)) :=
  (s.leaveLocked_laneWork hd hn).laneQuad hn (by unfold quadOf; omega) rfl

theorem Dev.startSeq_unused (full auto : Bool) (h : s.rdF (Reg.LANE_CFG d n) F.LANE_CFG_USE = 0) :
    s.startSeq d n full auto = (s.leaveLocked d n).wr (Reg.LANE_STAT d n) 0#32 := by
  unfold Dev.startSeq
  exact if_pos (by rw [Dev.rdF, s.leaveLocked_use hd hn]; exact h)

/-- A lane that waits for its quad PLL, as it does. -/
def Dev.waitsPll (s : Dev) (d n : Nat) : Dev :=
  let s := (s.endScan d n).wr (Reg.LANE_STAT d n) (fset (s.rd (Reg.LANE_STAT d n) &&& 0x100#32) F.LANE_STAT_STATE 1)
  s.setLane d n { s.lane d n with attempt := 0, auto := false, retryAt := none }

theorem Dev.startSeq_waits (full auto : Bool) (h : s.rdF (Reg.LANE_CFG d n) F.LANE_CFG_USE ≠ 0)
    (hpll : s.rdF (Reg.LANE_Q_STAT d (quadOf n)) F.LANE_Q_STAT_PLL_LOCK = 0) :
    s.startSeq d n full auto = (s.leaveLocked d n).waitsPll d n := by
  unfold Dev.startSeq
  rw [Dev.rdF, ← s.leaveLocked_use hd hn] at h
  rw [Dev.rdF, ← s.leaveLocked_pll hd hn] at hpll
  exact (if_neg h).trans (if_pos hpll)

theorem Dev.startSeq_attempts (full auto : Bool) (h : s.rdF (Reg.LANE_CFG d n) F.LANE_CFG_USE ≠ 0)
    (hpll : s.rdF (Reg.LANE_Q_STAT d (quadOf n)) F.LANE_Q_STAT_PLL_LOCK ≠ 0) :
    s.startSeq d n full auto = ((s.leaveLocked d n).setLane d n { (s.leaveLocked d n).lane d n with auto := auto }).startAttempt d n
      (if full || !s.wasLocked d n then 2 else 1) := by
  rw [Dev.rdF, ← s.leaveLocked_use hd hn] at h
  rw [Dev.rdF, ← s.leaveLocked_pll hd hn] at hpll
  rw [← s.leaveLocked_wasLocked]
  unfold Dev.startSeq
  refine (if_neg h).trans ((if_neg hpll).trans ?_)
  dsimp only
  rw [Dev.setLane_lane_same]
  rfl

theorem Dev.startSeq_trains (full auto : Bool) (h : s.rdF (Reg.LANE_CFG d n) F.LANE_CFG_USE ≠ 0)
    (hpll : s.rdF (Reg.LANE_Q_STAT d (quadOf n)) F.LANE_Q_STAT_PLL_LOCK ≠ 0) :
    (s.startSeq d n full auto).trains d n (if full || !s.wasLocked d n then 2 else 1) ∧ ((s.startSeq d n full auto).lane d n).auto = auto := by
  rw [s.startSeq_attempts hd hn full auto h hpll]
  refine ⟨Dev.startAttempt_trains _ _ hd hn, (Dev.startAttempt_lane _ _).2.trans ?_⟩
  rw [Dev.setLane_lane_same]

/-- STATE after the sequence of R165 has begun, by the use of the lane and its quad PLL. -/
theorem Dev.startSeq_state (full auto : Bool) : (s.startSeq d n full auto).laneState d n =
    if s.rdF (Reg.LANE_CFG d n) F.LANE_CFG_USE = 0 then 0
    else if s.rdF (Reg.LANE_Q_STAT d (quadOf n)) F.LANE_Q_STAT_PLL_LOCK = 0 then 1 else 2 := by
  split
  · next h =>
    rw [s.startSeq_unused hd hn full auto h]
    exact Dev.laneStat_wr hd hn _ _ _ (by decide) (by decide)
  · next h =>
    split
    · next hpll =>
      rw [s.startSeq_waits hd hn full auto h hpll]
      refine (Dev.laneStat_wr hd hn ((s.leaveLocked d n).endScan d n) _ F.LANE_STAT_STATE (by decide) (by decide)).trans ?_
      exact fget_fset_same _ _ _ (by decide)
    · next hpll => exact (s.startSeq_trains hd hn full auto h hpll).1.state

end

/-! ## The statement -/

theorem exec_slip (d : Die) (n : LaneIx) (bits : Fin 16) (s : State) :
    exec (.slip d n bits) s = .next { s with dev := s.dev.slipBits d n bits } := rfl

theorem exec_alignContinue (d : Die) (n : LaneIx) (s : State) :
    exec (.alignContinue d n) s = .next { s with dev := s.dev.alignEnd d n } := rfl

theorem exec_retrain (d : Die) (n : LaneIx) (s : State) :
    exec (.retrain d n) s = .next { s with dev := s.dev.retrainLane d n false } := rfl

theorem exec_retrainFull (d : Die) (n : LaneIx) (s : State) :
    exec (.retrainFull d n) s = .next { s with dev := s.dev.retrainLane d n true } := rfl

theorem exec_laneEnable (d : Die) (n : LaneIx) (s : State) :
    exec (.laneEnable d n) s = .next { s with dev := s.dev.enableLane d n } := rfl

/-- The causes of a lane's triple end (Table 7-9). -/
def Dev.endCauses (s : Dev) (d n : Nat) : Dev :=
  let a := Reg.LANE_FLT_STAT d n
  ((((s.causeOff a B.LANE_LOCK_LOST).causeOff a B.LANE_TRAIN_FAIL).causeOff a B.LANE_FALLBACK).causeOff a B.LANE_ELASTIC).causeOff a
    B.LANE_PARKED

theorem Dev.endCauses_laneWork (s : Dev) {d n : Nat} : s.laneWork (laneReg d n [0x88]) (s.endCauses d n) :=
  (((((Dev.laneWork.refl (P := laneReg d n [0x88]) s).wrOwn 0x88 _ rfl).wrOwn 0x88 _ rfl).wrOwn 0x88 _ rfl).wrOwn 0x88 _ rfl).wrOwn
    0x88 _ rfl

theorem Dev.endCauses_none (s : Dev) (d n : Nat) : ∀ k < 5, (s.endCauses d n).rdB (Reg.LANE_FLT_CAUSE d n) k = false := by
  intro k hk
  show Dev.rdB (Dev.endCauses s d n) (Reg.LANE_FLT_STAT d n + 8) k = false
  simp (disch := decide) only [Dev.endCauses, Dev.causeOff, Dev.rdB_wrB, if_true]
  interval_cases k <;> simp

section
variable (s : Dev) {d n : Nat} (hd : d < 2) (hn : n < 10)
include hd hn

/-- A field of LANE_ALIGN_STATn after a write of one that lies elsewhere in the register. -/
theorem Dev.laneAlign_wrF_field (f g : Fld) (v : Nat) (hg : g.lo + g.len ≤ 32) (hm : 0xFFF1#32 &&& g.mask = g.mask)
    (h : f.lo + f.len ≤ g.lo ∨ g.lo + g.len ≤ f.lo) :
    (s.wrF (Reg.LANE_ALIGN_STAT d n) f v).rdF (Reg.LANE_ALIGN_STAT d n) g = s.rdF (Reg.LANE_ALIGN_STAT d n) g :=
  Dev.rdF_wrF_field _ _ _ _ _ hg (by rw [regMask_laneAlign hd hn]; exact hm) h

theorem Dev.laneAlign_wrF (f : Fld) (v : Nat) (hf : f.lo + f.len ≤ 32) (hm : 0xFFF1#32 &&& f.mask = f.mask) :
    (s.wrF (Reg.LANE_ALIGN_STAT d n) f v).rdF (Reg.LANE_ALIGN_STAT d n) f = v % 2 ^ f.len :=
  Dev.rdF_wrF_same _ _ _ _ hf (by rw [regMask_laneAlign hd hn]; exact hm)

theorem Dev.slipBits_moves {bits : Nat} (hidle : s.inSlice d (laneBlock d n) = false)
    (h : s.laneState d n = 2 ∧ s.rdF (Reg.LANE_STAT d n) F.LANE_STAT_PHASE = 1 ∧
      s.rdF (Reg.LANE_ALIGN_CTRL d n) F.LANE_ALIGN_CTRL_SLIP_MODE = 1 ∧ bits ≤ 9) :
    (s.slipBits d n bits).rdF (Reg.LANE_ALIGN_STAT d n) F.LANE_ALIGN_STAT_COMMA_HITS = 0 ∧
      (s.slipBits d n bits).rdF (Reg.LANE_ALIGN_STAT d n) F.LANE_ALIGN_STAT_ALIGNED = 0 ∧ ((s.slipBits d n bits).lane d n).sets = 0 := by
  unfold Dev.slipBits
  rw [s.touch_idle _ _ hidle, if_pos h]
  dsimp only
  generalize hcleared : (s.wrF (Reg.LANE_ALIGN_STAT d n) F.LANE_ALIGN_STAT_COMMA_HITS 0).wrF (Reg.LANE_ALIGN_STAT d n)
    F.LANE_ALIGN_STAT_ALIGNED 0 = u
  have hhits : u.rdF (Reg.LANE_ALIGN_STAT d n) F.LANE_ALIGN_STAT_COMMA_HITS = 0 := by
    rw [← hcleared, Dev.laneAlign_wrF_field _ hd hn _ _ _ (by decide) (by decide) (by decide)]
    exact s.laneAlign_wrF hd hn _ 0 (by decide) (by decide)
  have haligned : u.rdF (Reg.LANE_ALIGN_STAT d n) F.LANE_ALIGN_STAT_ALIGNED = 0 := by
    rw [← hcleared]
    exact Dev.laneAlign_wrF _ hd hn _ 0 (by decide) (by decide)
  refine ⟨?_, ?_, by rw [Dev.setLane_lane_same]⟩
  · show Dev.rdF (if _ then _ else _) _ _ = 0
    split
    · exact (Dev.laneAlign_wrF_field _ hd hn _ _ _ (by decide) (by decide) (by decide)).trans hhits
    · exact hhits
  · show Dev.rdF (if _ then _ else _) _ _ = 0
    split
    · exact (Dev.laneAlign_wrF_field _ hd hn _ _ _ (by decide) (by decide) (by decide)).trans haligned
    · exact haligned

omit hd in
/-- A phase that begins shows in LANE_STATn, and leaves STATE and FAST as they are. -/
theorem Dev.enterPhase_stat (p : Nat) :
    (s.enterPhase d n p).rd (Reg.LANE_STAT d n) = (s.wrF (Reg.LANE_STAT d n) F.LANE_STAT_PHASE p).rd (Reg.LANE_STAT d n) := by
  have hs := Dev.laneWork.refl (P := laneReg d n [0x10]) (s.wrF (Reg.LANE_STAT d n) F.LANE_STAT_PHASE p)
  have hlater : (s.wrF (Reg.LANE_STAT d n) F.LANE_STAT_PHASE p).laneWork (laneReg d n [0x10]) (s.enterPhase d n p) :=
    .setLane (.ite (hs.wrOwn 0x10 _ rfl) (.ite (hs.wrOwn 0x10 _ rfl) hs)) d n _
  exact hlater.own hn (o := 8) rfl

theorem Dev.enterPhase_phase {p : Nat} (hp : p < 8) : (s.enterPhase d n p).rdF (Reg.LANE_STAT d n) F.LANE_STAT_PHASE = p := by
  rw [Dev.rdF, s.enterPhase_stat hn, ← Dev.rdF, Dev.laneStat_wrF hd hn _ _ _ (by decide) (by decide)]
  exact Nat.mod_eq_of_lt hp

theorem Dev.enterPhase_state (p : Nat) : (s.enterPhase d n p).laneState d n = s.laneState d n := by
  rw [Dev.laneState, Dev.rdF, s.enterPhase_stat hn, ← Dev.rdF,
    Dev.laneStat_wrF_field hd hn _ _ _ _ (by decide) (by decide) (by decide), Dev.laneState]

theorem Dev.clearRetry_count : (s.clearRetry d n).rdF (Reg.LANE_RETRY d n) F.LANE_RETRY_COUNT = 0 := by
  have hne : Reg.LANE_RETRY d n ≠ Reg.LANE_FLT_STAT d n + 8 := by simp only [Reg.LANE_RETRY, Reg.LANE_FLT_STAT]; omega
  exact (Dev.rdF_wr_other _ _ _ _ _ hne).trans (Dev.rdF_wrF_same _ _ _ _ (by decide) (by rw [regMask_laneRetry hd hn]; decide))

/-- A sequence that begins after COUNT is cleared leaves it 0. -/
theorem Dev.restart_trains (full auto : Bool) (h : s.rdF (Reg.LANE_CFG d n) F.LANE_CFG_USE ≠ 0)
    (hpll : s.rdF (Reg.LANE_Q_STAT d (quadOf n)) F.LANE_Q_STAT_PLL_LOCK ≠ 0) :
    ((s.clearRetry d n).startSeq d n full auto).trains d n (if full || !s.wasLocked d n then 2 else 1) ∧
      ((s.clearRetry d n).startSeq d n full auto).rdF (Reg.LANE_RETRY d n) F.LANE_RETRY_COUNT = 0 := by
  have huse : (s.clearRetry d n).rd (Reg.LANE_CFG d n) = s.rd (Reg.LANE_CFG d n) := s.clearRetry_laneWork.own hn (o := 0) rfl
  have hquad : (s.clearRetry d n).rd (Reg.LANE_Q_STAT d (quadOf n)) = s.rd (Reg.LANE_Q_STAT d (quadOf n)) :=
    s.clearRetry_laneWork.laneQuad hn (by unfold quadOf; omega) rfl
  refine ⟨((s.clearRetry d n).startSeq_trains hd hn full auto ?_ ?_).1, ?_⟩
  · rw [Dev.rdF, huse]; exact h
  · rw [Dev.rdF, hquad]; exact hpll
  · rw [Dev.rdF, ((s.clearRetry d n).startSeq_laneWork hd hn full auto).own hn (o := 0x24) rfl]
    exact s.clearRetry_count hd hn

theorem Dev.retrainLane_trains (hidle : s.inSlice d (laneBlock d n) = false) (full : Bool)
    (hst : s.laneState d n = 2 ∨ s.laneState d n = 3 ∨ s.laneState d n = 4)
    (hpll : s.rdF (Reg.LANE_Q_STAT d (quadOf n)) F.LANE_Q_STAT_PLL_LOCK ≠ 0) (h : s.rdF (Reg.LANE_CFG d n) F.LANE_CFG_USE ≠ 0) :
    (s.retrainLane d n full).trains d n (if full || !s.wasLocked d n then 2 else 1) ∧
      (s.retrainLane d n full).rdF (Reg.LANE_RETRY d n) F.LANE_RETRY_COUNT = 0 := by
  unfold Dev.retrainLane
  rw [s.touch_idle _ _ hidle]
  dsimp only
  rw [if_pos hst]
  exact s.restart_trains hd hn full false h hpll

theorem Dev.enableLane_trains (hidle : s.inSlice d (laneBlock d n) = false)
    (hst : s.rdF (Reg.LANE_CFG d n) F.LANE_CFG_USE ≠ 0 ∧ (s.laneState d n = 0 ∨ s.laneState d n = 4) ∧ s.isHeld (laneBlock d n) = false)
    (hpll : s.rdF (Reg.LANE_Q_STAT d (quadOf n)) F.LANE_Q_STAT_PLL_LOCK ≠ 0) : (s.enableLane d n).trains d n 2 := by
  unfold Dev.enableLane
  rw [s.touch_idle _ _ hidle]
  dsimp only
  rw [if_pos (by simpa using hst)]
  exact (s.restart_trains hd hn true false hst.1 hpll).1

omit hd in
/-- DISABLE: the lane reads OFF, and none of the causes of its triple is present (R176). -/
theorem Dev.laneOff_off : (s.laneOff d n).rd (Reg.LANE_STAT d n) = 0#32 ∧ (s.laneOff d n).wasLocked d n = false ∧
    ∀ k < 5, (s.laneOff d n).rdB (Reg.LANE_FLT_CAUSE d n) k = false := by
  unfold Dev.laneOff
  dsimp only
  generalize (if ((s.leaveLocked d n).endScan d n).laneState d n = 5 then ((s.leaveLocked d n).endScan d n).endLoopback d n 0
    else (s.leaveLocked d n).endScan d n) = u
  have hstat : ((u.wr (Reg.LANE_STAT d n) 0#32).endCauses d n).rd (Reg.LANE_STAT d n) = 0#32 := by
    refine ((u.wr (Reg.LANE_STAT d n) 0#32).endCauses_laneWork.own hn (o := 8) rfl).trans ?_
    rw [Dev.rd_wr_same]
    exact BitVec.zero_and
  exact ⟨hstat, by rw [Dev.wasLocked, Dev.setLane_lane_same], (u.wr (Reg.LANE_STAT d n) 0#32).endCauses_none d n⟩

end

/-- Settles O26: each command by what it leaves in the lane's registers. -/
theorem laneCommandsComplete : Obligations.LaneCommandsComplete := by
  intro d n b s hidle
  have hd := d.isLt
  have hn := n.isLt
  refine ⟨fun h => ⟨_, exec_slip d n b s, s.dev.slipBits_moves hd hn hidle h⟩, fun h => ?_, fun ⟨hst, hpll, huse, hlocked⟩ => ?_,
    fun ⟨hst, hpll, huse⟩ => ?_, fun ⟨huse, hst, hheld, hpll⟩ => ?_, ?_⟩
  · refine ⟨_, exec_alignContinue d n s, ?_⟩
    have hphase : s.dev.alignEnd d n = s.dev.enterPhase d n (if s.dev.rdF (Reg.LANE_STAT d n) F.LANE_STAT_FAST = 1 then 4 else 2) := by
      unfold Dev.alignEnd
      rw [s.dev.touch_idle _ _ hidle]
      exact if_pos h
    dsimp only
    rw [hphase]
    exact ⟨Dev.enterPhase_phase _ hd hn (by split <;> decide), (Dev.enterPhase_state _ hd hn _).trans h.1⟩
  · obtain ⟨htrains, hcount⟩ := s.dev.retrainLane_trains hd hn hidle false hst (by omega) huse
    rw [Dev.wasLocked, hlocked] at htrains
    exact ⟨_, exec_retrain d n s, htrains.state, htrains.phase, htrains.fast, htrains.attempt, hcount⟩
  · obtain ⟨htrains, hcount⟩ := s.dev.retrainLane_trains hd hn hidle true hst (by omega) huse
    exact ⟨_, exec_retrainFull d n s, htrains.state, htrains.phase, htrains.fast, htrains.attempt, hcount⟩
  · have htrains := s.dev.enableLane_trains hd hn hidle ⟨huse, hst, hheld⟩ (by omega)
    exact ⟨_, exec_laneEnable d n s, htrains.state, htrains.phase, htrains.attempt⟩
  · obtain ⟨hstat, hlocked, hcauses⟩ := s.dev.laneOff_off hn
    refine ⟨_, exec_laneDisable d n s, ?_⟩
    dsimp only
    rw [s.dev.touch_idle _ _ hidle]
    exact ⟨hstat, hlocked, hcauses _ (by decide), hcauses _ (by decide), hcauses _ (by decide)⟩

end Sys2Proof.Machine
end

section
/-! SUPPORT. The statement on loopbacks and eye scans (R171 to R175): what entry to a loopback and its end leave, and the counts of a scan. -/

namespace Sys2Proof.Machine

/-! ## Registers of loopbacks and scans -/

section
variable {d n : Nat} (hd : d < 2) (hn : n < 10)
include hd hn

theorem regMask_laneLoop : regMask (Reg.LANE_LB_CTRL d n) = 0x33#32 ∧ regMask (Reg.LANE_LB_STAT d n) = 0xF#32 :=
  (by decide : ∀ (d : Die) (n : LaneIx), regMask (Reg.LANE_LB_CTRL d n) = 0x33#32 ∧ regMask (Reg.LANE_LB_STAT d n) = 0xF#32) ⟨d, hd⟩ ⟨n, hn⟩

theorem regMask_laneScan : regMask (Reg.LANE_ESCAN_STAT d n) = 7#32 ∧ regMask (Reg.LANE_ESCAN_ERR d n) = 0xFFFFFFFF#32 ∧
    regMask (Reg.LANE_ESCAN_BITS d n) = 0x7FFFFF#32 :=
  (by decide : ∀ (d : Die) (n : LaneIx), regMask (Reg.LANE_ESCAN_STAT d n) = 7#32 ∧ regMask (Reg.LANE_ESCAN_ERR d n) = 0xFFFFFFFF#32 ∧
    regMask (Reg.LANE_ESCAN_BITS d n) = 0x7FFFFF#32) ⟨d, hd⟩ ⟨n, hn⟩

end

/-! ## Entry to a loopback -/

/-- A lane as it enters a loopback, before a far-end one sends its training sets. -/
def Dev.loopEntry (s : Dev) (d n mode : Nat) : Dev :=
  let s := (s.leaveFe d n).leaveLocked d n
  let h := s.lane d n
  let seed := patSeed (s.lbCode d n) (s.rd (Reg.LANE_LB_USER d n))
  let s := s.setLane d n
    { h with attempt := 0, auto := false, sets := 0, lb := mode, txRd := h.txRd && mode == 3, tr := { TrainH.init with tx := seed } }
  let s := s.wr (Reg.LANE_STAT d n) (fset (s.rd (Reg.LANE_STAT d n) &&& 0x100#32) F.LANE_STAT_STATE 5)
  (s.wr (Reg.LANE_LB_STAT d n) 0#32).wr (Reg.LANE_LB_ERR d n) 0#32

section
variable (s : Dev) (d n mode : Nat)

theorem Dev.enterLoop_eq :
    s.enterLoop d n mode = if mode = 3 then (s.loopEntry d n mode).sendSets d n false true 64 else s.loopEntry d n mode := rfl

theorem Dev.sendSets_lb (ts2 loopback : Bool) (count : Nat) : ((s.sendSets d n ts2 loopback count).lane d n).lb = (s.lane d n).lb := by
  unfold Dev.sendSets Dev.laneSend
  dsimp only
  rw [Dev.emit_lane, Dev.setLane_lane_same]
  rfl

/-- Training sets go out last, with the ID and the LOOPBACK asked for. -/
theorem Dev.sendSets_out (ts2 loopback : Bool) (count : Nat) : ∃ x, (s.sendSets d n ts2 loopback count).out =
    .lane d n (.training x count) :: s.out ∧ x.loopback = loopback ∧ x.ts2 = ts2 := ⟨_, rfl, rfl, rfl⟩

theorem Dev.loopEntry_lb : ((s.loopEntry d n mode).lane d n).lb = mode := by
  unfold Dev.loopEntry
  dsimp only
  rw [Dev.wr_lane, Dev.wr_lane, Dev.wr_lane, Dev.setLane_lane_same]

variable {d n : Nat} (hd : d < 2) (hn : n < 10)

theorem Dev.loopEntry_counts : (s.loopEntry d n mode).rd (Reg.LANE_LB_STAT d n) = 0#32 ∧ (s.loopEntry d n mode).rd (Reg.LANE_LB_ERR d n) = 0#32 := by
  have hne : Reg.LANE_LB_STAT d n ≠ Reg.LANE_LB_ERR d n := by simp only [Reg.LANE_LB_STAT, Reg.LANE_LB_ERR]; omega
  unfold Dev.loopEntry
  dsimp only
  rw [Dev.rd_wr_same, Dev.rd_wr_other _ _ _ _ hne, Dev.rd_wr_same]
  exact ⟨BitVec.zero_and, BitVec.zero_and⟩

include hd hn

theorem Dev.loopEntry_state : (s.loopEntry d n mode).laneState d n = 5 := by
  have hshow (t : Dev) : ((t.wr (Reg.LANE_LB_STAT d n) 0#32).wr (Reg.LANE_LB_ERR d n) 0#32).rd (Reg.LANE_STAT d n) =
      t.rd (Reg.LANE_STAT d n) := (((Dev.laneWork.refl (P := laneReg d n [0x48, 0x4C]) t).wrOwn 0x48 _ rfl).wrOwn 0x4C _ rfl).own hn rfl
  unfold Dev.loopEntry Dev.laneState
  dsimp only
  rw [Dev.rdF, hshow, ← Dev.rdF, Dev.laneStat_wr hd hn _ _ _ (by decide) (by decide)]
  exact fget_fset_same _ _ _ (by decide)

/-- What entry to a loopback leaves: LOOPBACK with the mode, no flag and no error counted (R171 to R173). -/
theorem Dev.enterLoop_loops : (s.enterLoop d n mode).laneState d n = 5 ∧ ((s.enterLoop d n mode).lane d n).lb = mode ∧
    (s.enterLoop d n mode).rd (Reg.LANE_LB_STAT d n) = 0#32 ∧ (s.enterLoop d n mode).rd (Reg.LANE_LB_ERR d n) = 0#32 := by
  obtain ⟨hstat, herr⟩ := s.loopEntry_counts mode (d := d) (n := n)
  have hstate := s.loopEntry_state mode hd hn
  have hlb := s.loopEntry_lb d n mode
  rw [Dev.enterLoop_eq]
  split
  · exact ⟨hstate, (Dev.sendSets_lb _ _ _ _ _ _).trans hlb, hstat, herr⟩
  · exact ⟨hstate, hlb, hstat, herr⟩

end

/-! ## The end of a loopback -/

section
variable (s : Dev) {d n : Nat} (hd : d < 2) (hn : n < 10)
include hd hn

theorem Dev.endLoopback_flags (flags : Nat) (h : flags < 16) :
    (s.endLoopback d n flags).rd (Reg.LANE_LB_STAT d n) = BitVec.ofNat 32 flags ∧
      (s.endLoopback d n flags).rdF (Reg.LANE_LB_CTRL d n) F.LANE_LB_CTRL_MODE = 0 := by
  have hne : Reg.LANE_LB_CTRL d n ≠ Reg.LANE_LB_STAT d n := by simp only [Reg.LANE_LB_CTRL, Reg.LANE_LB_STAT]; omega
  obtain ⟨hctrl, hstat⟩ := regMask_laneLoop hd hn
  unfold Dev.endLoopback
  dsimp only
  rw [Dev.rd_wr_same, Dev.rdF_wr_other _ _ _ _ _ hne, Dev.rdF_wrF_same _ _ _ _ (by decide) (by rw [hctrl]; decide), hstat]
  refine ⟨?_, rfl⟩
  interval_cases flags <;> rfl

/-- A loopback that ends with `flags` of a lane in use with its quad PLL in lock: the lane trains anew, with COUNT 0 (R166, R172). -/
theorem Dev.endLoopback_trains (flags : Nat) (h : flags < 16) (hpll : s.rdF (Reg.LANE_Q_STAT d (quadOf n)) F.LANE_Q_STAT_PLL_LOCK ≠ 0)
    (huse : s.rdF (Reg.LANE_CFG d n) F.LANE_CFG_USE ≠ 0) (t : Dev)
    (ht : t = ((s.endLoopback d n flags).clearRetry d n).startSeq d n false false) :
    t.laneState d n = 2 ∧ t.rd (Reg.LANE_LB_STAT d n) = BitVec.ofNat 32 flags ∧ t.rdF (Reg.LANE_LB_CTRL d n) F.LANE_LB_CTRL_MODE = 0 ∧
      t.rdF (Reg.LANE_RETRY d n) F.LANE_RETRY_COUNT = 0 := by
  subst ht
  have hend := s.endLoopback_laneWork (d := d) (n := n) flags
  have hkept : (s.endLoopback d n flags).laneWork (laneReg d n [8, 0x10, 0x24, 0x38, 0x68, 0x88])
      (((s.endLoopback d n flags).clearRetry d n).startSeq d n false false) :=
    (Dev.clearRetry_laneWork _).widen rfl |>.andThen (Dev.startSeq_laneWork _ hd hn _ _) rfl
  obtain ⟨hstat, hctrl⟩ := s.endLoopback_flags hd hn flags h
  obtain ⟨htrains, hcount⟩ := Dev.restart_trains (s.endLoopback d n flags) hd hn false false
    (by rw [Dev.rdF, hend.own hn (o := 0) rfl]; exact huse)
    (by rw [Dev.rdF, hend.laneQuad hn (by unfold quadOf; omega) rfl]; exact hpll)
  refine ⟨htrains.state, ?_, ?_, hcount⟩
  · exact (hkept.own hn (o := 0x48) rfl).trans hstat
  · rw [Dev.rdF, hkept.own hn (o := 0x40) rfl]
    exact hctrl

end

/-! ## A write of LANE_LB_CTRLn -/

theorem exec_loopbackModeWrite (d : Die) (n : LaneIx) (v : Word) (s : State) :
    exec (.loopbackModeWrite d n v) s = .next { s with dev := s.dev.loopbackWrite d n v } := rfl

section
variable (s : Dev) {d n : Nat} (v : Word) (hidle : s.inSlice d (laneBlock d n) = false)
include hidle

theorem Dev.loopbackWrite_enters (h0 : fget v F.LANE_LB_CTRL_MODE ≠ 0)
    (h : if fget v F.LANE_LB_CTRL_MODE = 3 then s.laneState d n = 3 else s.laneState d n ≠ 1) :
    s.loopbackWrite d n v = (s.wr (Reg.LANE_LB_CTRL d n) v).enterLoop d n (fget v F.LANE_LB_CTRL_MODE) := by
  unfold Dev.loopbackWrite
  rw [s.touch_idle _ _ hidle]
  exact (if_neg h0).trans (if_pos h)

theorem Dev.loopbackWrite_refuses (h0 : fget v F.LANE_LB_CTRL_MODE ≠ 0)
    (h : ¬ if fget v F.LANE_LB_CTRL_MODE = 3 then s.laneState d n = 3 else s.laneState d n ≠ 1) :
    s.loopbackWrite d n v = (s.wr (Reg.LANE_LB_CTRL d n) v).wrF (Reg.LANE_LB_CTRL d n) F.LANE_LB_CTRL_MODE 0 := by
  unfold Dev.loopbackWrite
  rw [s.touch_idle _ _ hidle]
  exact (if_neg h0).trans (if_neg h)

theorem Dev.loopbackWrite_ends (h0 : fget v F.LANE_LB_CTRL_MODE = 0) (h : s.laneState d n = 5) :
    s.loopbackWrite d n v =
      (((((s.wr (Reg.LANE_LB_CTRL d n) v).leaveFe d n).endLoopback d n 0).clearRetry d n).startSeq d n false false) := by
  unfold Dev.loopbackWrite
  rw [s.touch_idle _ _ hidle]
  exact (if_pos h0).trans (if_pos h)

end

/-! ## Eye scans -/

theorem exec_escanGo (d : Die) (n : LaneIx) (s : State) : exec (.escanGo d n) s = .next { s with dev := s.dev.escanGo d n } := rfl

theorem exec_escanDone (d : Die) (n : LaneIx) (t : EyeTally) (s : State) :
    exec (.escanDone d n t) s = .next { s with dev := s.dev.escanTake d n t } := rfl

theorem ofNat_and_low {x k : Nat} (hk : k ≤ 32) (h : x < 2 ^ k) : BitVec.ofNat 32 x &&& BitVec.ofNat 32 (2 ^ k - 1) = BitVec.ofNat 32 x := by
  have hle : 2 ^ k ≤ 2 ^ 32 := Nat.pow_le_pow_right (by decide) hk
  have := Nat.two_pow_pos k
  apply BitVec.eq_of_toNat_eq
  rw [BitVec.toNat_and, BitVec.toNat_ofNat, BitVec.toNat_ofNat, Nat.mod_eq_of_lt (a := x) (by omega), Nat.mod_eq_of_lt (by omega),
    Nat.and_two_pow_sub_one_eq_mod, Nat.mod_eq_of_lt h]

section
variable (s : Dev) {d n : Nat} (hd : d < 2) (hn : n < 10)
include hd hn

theorem Dev.escanGo_starts (hidle : s.inSlice d (laneBlock d n) = false) (h : s.locked d n = true) :
    (s.escanGo d n).rd (Reg.LANE_ESCAN_STAT d n) = 1#32 ∧ (s.escanGo d n).rd (Reg.LANE_ESCAN_ERR d n) = 0#32 ∧
      (s.escanGo d n).rd (Reg.LANE_ESCAN_BITS d n) = 0#32 := by
  obtain ⟨hstat, -, -⟩ := regMask_laneScan hd hn
  have hse : Reg.LANE_ESCAN_STAT d n ≠ Reg.LANE_ESCAN_ERR d n := by simp only [Reg.LANE_ESCAN_STAT, Reg.LANE_ESCAN_ERR]; omega
  have hsb : Reg.LANE_ESCAN_STAT d n ≠ Reg.LANE_ESCAN_BITS d n := by simp only [Reg.LANE_ESCAN_STAT, Reg.LANE_ESCAN_BITS]; omega
  have heb : Reg.LANE_ESCAN_ERR d n ≠ Reg.LANE_ESCAN_BITS d n := by simp only [Reg.LANE_ESCAN_ERR, Reg.LANE_ESCAN_BITS]; omega
  unfold Dev.escanGo
  rw [s.touch_idle _ _ hidle]
  dsimp only
  rw [if_pos h]
  refine ⟨?_, ?_, ?_⟩
  · rw [Dev.rd_wr_other _ _ _ _ hsb, Dev.rd_wr_other _ _ _ _ hse, Dev.rd_wr_same, hstat]
    rfl
  · rw [Dev.rd_wr_other _ _ _ _ heb, Dev.rd_wr_same]
    exact BitVec.zero_and
  · rw [Dev.rd_wr_same]
    exact BitVec.zero_and

theorem Dev.escanGo_aborts (hidle : s.inSlice d (laneBlock d n) = false) (h : s.locked d n = false) :
    (s.escanGo d n).rd (Reg.LANE_ESCAN_STAT d n) = 6#32 := by
  obtain ⟨hstat, -, -⟩ := regMask_laneScan hd hn
  unfold Dev.escanGo
  rw [s.touch_idle _ _ hidle]
  dsimp only
  rw [if_neg (by simp [h]), Dev.rd_wr_same, hstat]
  rfl

/-- A scan that shows its counts. -/
def Dev.showScan (s : Dev) (d n : Nat) (errs bits : Word) : Dev := (s.wr (Reg.LANE_ESCAN_ERR d n) errs).wr (Reg.LANE_ESCAN_BITS d n) bits

theorem Dev.showScan_rd (errs : Word) {k : Nat} (hk : k < 2 ^ 23) :
    (s.showScan d n errs (BitVec.ofNat 32 k)).rd (Reg.LANE_ESCAN_ERR d n) = errs ∧
      (s.showScan d n errs (BitVec.ofNat 32 k)).rd (Reg.LANE_ESCAN_BITS d n) = BitVec.ofNat 32 k ∧
      (s.showScan d n errs (BitVec.ofNat 32 k)).rd (Reg.LANE_ESCAN_STAT d n) = s.rd (Reg.LANE_ESCAN_STAT d n) := by
  obtain ⟨-, herr, hbits⟩ := regMask_laneScan hd hn
  have heb : Reg.LANE_ESCAN_ERR d n ≠ Reg.LANE_ESCAN_BITS d n := by simp only [Reg.LANE_ESCAN_ERR, Reg.LANE_ESCAN_BITS]; omega
  refine ⟨?_, ?_, ?_⟩
  · rw [Dev.showScan, Dev.rd_wr_other _ _ _ _ heb, Dev.rd_wr_same, herr]
    exact BitVec.and_allOnes
  · rw [Dev.showScan, Dev.rd_wr_same, hbits]
    exact ofNat_and_low (k := 23) (by decide) hk
  · exact (((Dev.laneWork.refl (P := laneReg d n [0x6C, 0x70]) s).wrOwn 0x6C _ rfl).wrOwn 0x70 _ rfl).own hn (o := 0x68) rfl

/-- The tally of a scan in progress: its counts show, and with enough bits it ends with DONE (R174). -/
theorem Dev.escanTake_shows (t : EyeTally) (ctl : Word) (hctl : ctl = s.rd (Reg.LANE_ESCAN_CTRL d n))
    (c : Nat × Nat) (hc : c = eyeCount (sgn 7 (fget ctl F.LANE_ESCAN_CTRL_Y)) t)
    (full : Nat) (hfull : full = 2 ^ (20 + min 12 (fget ctl F.LANE_ESCAN_CTRL_DWELL)))
    (hbusy : s.rdF (Reg.LANE_ESCAN_STAT d n) F.LANE_ESCAN_STAT_BUSY = 1) :
    (s.escanTake d n t).rd (Reg.LANE_ESCAN_STAT d n) = (if full ≤ c.1 then 2#32 else s.rd (Reg.LANE_ESCAN_STAT d n)) ∧
      (s.escanTake d n t).rd (Reg.LANE_ESCAN_ERR d n) = BitVec.ofNat 32 (min c.2 (2 ^ 32 - 1)) ∧
      (s.escanTake d n t).rd (Reg.LANE_ESCAN_BITS d n) = BitVec.ofNat 32 (min c.1 full / 1024) := by
  obtain ⟨hmask, -, -⟩ := regMask_laneScan hd hn
  have hle : full ≤ 2 ^ 32 := hfull ▸ Nat.pow_le_pow_right (by decide) (by omega)
  have htake : s.escanTake d n t = if full ≤ c.1
      then (s.showScan d n (BitVec.ofNat 32 (min c.2 (2 ^ 32 - 1))) (BitVec.ofNat 32 (min c.1 full / 1024))).wr (Reg.LANE_ESCAN_STAT d n) 2#32
      else s.showScan d n (BitVec.ofNat 32 (min c.2 (2 ^ 32 - 1))) (BitVec.ofNat 32 (min c.1 full / 1024)) := by
    subst hctl hc hfull
    exact if_neg (by omega)
  obtain ⟨herr, hbits, hstat⟩ := s.showScan_rd hd hn (BitVec.ofNat 32 (min c.2 (2 ^ 32 - 1))) (k := min c.1 full / 1024) (by omega)
  rw [htake]
  split
  · generalize s.showScan d n _ _ = u at *
    have hdone := (Dev.laneWork.refl (P := laneReg d n [0x68]) u).wrOwn 0x68 2#32 rfl
    refine ⟨?_, (hdone.own hn rfl).trans herr, (hdone.own hn rfl).trans hbits⟩
    rw [Dev.rd_wr_same, hmask]
    rfl
  · exact ⟨hstat, herr, hbits⟩

end

/-! ## The statement -/

section
variable (s : Dev) {d n : Nat} (hd : d < 2) (hn : n < 10) (v : Word) (hidle : s.inSlice d (laneBlock d n) = false)
include hd hn hidle

theorem Dev.loopbackWrite_near (h : s.laneState d n ≠ 1)
    (hmode : fget v F.LANE_LB_CTRL_MODE = 1 ∨ fget v F.LANE_LB_CTRL_MODE = 2) :
    (s.loopbackWrite d n v).laneState d n = 5 ∧ ((s.loopbackWrite d n v).lane d n).lb = fget v F.LANE_LB_CTRL_MODE ∧
      (s.loopbackWrite d n v).rd (Reg.LANE_LB_STAT d n) = 0#32 ∧ (s.loopbackWrite d n v).rd (Reg.LANE_LB_ERR d n) = 0#32 ∧
      (s.loopbackWrite d n v).rdF (Reg.LANE_LB_CTRL d n) F.LANE_LB_CTRL_MODE = fget v F.LANE_LB_CTRL_MODE := by
  obtain ⟨hctrl, -⟩ := regMask_laneLoop hd hn
  rw [s.loopbackWrite_enters v hidle (by omega) (by rw [if_neg (by omega)]; exact h)]
  obtain ⟨hstate, hlb, hstat, herr⟩ := (s.wr (Reg.LANE_LB_CTRL d n) v).enterLoop_loops (fget v F.LANE_LB_CTRL_MODE) hd hn
  refine ⟨hstate, hlb, hstat, herr, ?_⟩
  rw [Dev.rdF, (Dev.enterLoop_laneWork (s.wr (Reg.LANE_LB_CTRL d n) v) hd hn _).own hn (o := 0x40) rfl]
  exact Dev.rdF_wr_same _ _ _ _ (by decide) (by rw [hctrl]; decide)

theorem Dev.loopbackWrite_far (h : s.laneState d n = 3) (hmode : fget v F.LANE_LB_CTRL_MODE = 3) :
    (s.loopbackWrite d n v).laneState d n = 5 ∧ ((s.loopbackWrite d n v).lane d n).lb = 3 ∧
      (s.loopbackWrite d n v).rd (Reg.LANE_LB_STAT d n) = 0#32 ∧
      ∃ x l, (s.loopbackWrite d n v).out = .lane d n (.training x 64) :: l ∧ x.loopback = true ∧ x.ts2 = false := by
  rw [s.loopbackWrite_enters v hidle (by omega) (by rw [if_pos hmode]; exact h), hmode]
  obtain ⟨hstate, hlb, hstat, -⟩ := (s.wr (Reg.LANE_LB_CTRL d n) v).enterLoop_loops 3 hd hn
  obtain ⟨x, hout, hset⟩ := ((s.wr (Reg.LANE_LB_CTRL d n) v).loopEntry d n 3).sendSets_out d n false true 64
  exact ⟨hstate, hlb, hstat, x, _, hout, hset⟩

theorem Dev.loopbackWrite_refused (h : s.laneState d n ≠ 3) (hmode : fget v F.LANE_LB_CTRL_MODE = 3) :
    (s.loopbackWrite d n v).laneState d n = s.laneState d n ∧ (s.loopbackWrite d n v).rdF (Reg.LANE_LB_CTRL d n) F.LANE_LB_CTRL_MODE = 0 := by
  obtain ⟨hctrl, -⟩ := regMask_laneLoop hd hn
  have hmoved := ((Dev.laneWork.refl (P := laneReg d n [0x40]) s).wrOwn 0x40 v rfl).wrOwn 0x40
    (fset ((s.wr (Reg.LANE_LB_CTRL d n) v).rd (Reg.LANE_LB_CTRL d n)) F.LANE_LB_CTRL_MODE 0) rfl
  rw [s.loopbackWrite_refuses v hidle (by omega) (by rw [if_pos hmode]; exact h)]
  exact ⟨congrArg (fget · F.LANE_STAT_STATE) (hmoved.own hn (o := 8) rfl),
    Dev.rdF_wrF_same _ _ _ _ (by decide) (by rw [hctrl]; decide)⟩

end

/-- MODE of a word without its low two bits. -/
theorem fget_mode_cleared (w : Word) : fget (w &&& 0xFFFFFFFC#32) F.LANE_LB_CTRL_MODE = 0 := by
  have hlow : (w &&& 0xFFFFFFFC#32) &&& 3#32 = 0#32 := by rw [BitVec.and_assoc]; exact BitVec.and_zero
  have hmod := congrArg BitVec.toNat hlow
  rw [BitVec.toNat_and, show (3#32).toNat = 2 ^ 2 - 1 from rfl, Nat.and_two_pow_sub_one_eq_mod] at hmod
  rw [fget]
  dsimp only
  rw [Nat.pow_zero, Nat.div_one, hmod]
  rfl

theorem exec_feLoopbackActive (d : Die) (n : LaneIx) (s : State) (h : s.dev.inFe d n = true) :
    exec (.feLoopbackActive d n) s = .next { s with dev := s.dev.wrF (Reg.LANE_LB_STAT d n) F.LANE_LB_STAT_ACTIVE 1 } := by
  show Host.Outcome.next { s with dev := if s.dev.inFe d n then _ else s.dev } = _
  rw [if_pos h]

theorem exec_feLoopbackTimeout (d : Die) (n : LaneIx) (s : State)
    (h : (s.dev.inFe d n && s.dev.rdF (Reg.LANE_LB_STAT d n) F.LANE_LB_STAT_ACTIVE == 0) = true) :
    exec (.feLoopbackTimeout d n) s =
      .next { s with dev := ((s.dev.endLoopback d n 4).clearRetry d n).startSeq d n false false } := by
  show Host.Outcome.next { s with dev := if s.dev.inFe d n && s.dev.rdF (Reg.LANE_LB_STAT d n) F.LANE_LB_STAT_ACTIVE == 0 then _
    else s.dev } = _
  rw [if_pos h]

/-- Settles O28: each command of a loopback or a scan by what it leaves in the lane's registers. -/
theorem loopbacksAndScansComplete : Obligations.LoopbacksAndScansComplete := by
  intro d n v w y s hidle
  have hd := d.isLt
  have hn := n.isLt
  obtain ⟨-, hloop⟩ := regMask_laneLoop hd hn
  refine ⟨fun ⟨h, hmode⟩ => ⟨_, exec_loopbackModeWrite d n v s, s.dev.loopbackWrite_near hd hn v hidle h hmode⟩, fun ⟨h, hmode⟩ => ?_,
    fun ⟨h, hmode⟩ => ⟨_, exec_loopbackModeWrite d n w s, s.dev.loopbackWrite_refused hd hn w hidle h hmode⟩, fun ⟨h, hpll, huse⟩ => ?_,
    fun ⟨h, hlb⟩ => ?_, fun ⟨h, hlb, hact, hpll, huse⟩ => ?_, fun h => ⟨_, exec_escanGo d n s, s.dev.escanGo_starts hd hn hidle h⟩,
    fun h => ⟨_, exec_escanGo d n s, s.dev.escanGo_aborts hd hn hidle h⟩, fun ⟨hbusy, hfull⟩ => ?_, fun ⟨hbusy, hfull⟩ => ?_⟩
  · obtain ⟨hstate, hlb, hstat, x, l, hout, hset, hts⟩ := s.dev.loopbackWrite_far hd hn w hidle h hmode
    refine ⟨_, exec_loopbackModeWrite d n w s, hstate, hlb, hstat, ?_⟩
    dsimp only
    rw [hout]
    simp [hset, hts]
  · refine ⟨_, exec_loopbackModeWrite d n _ s, ?_⟩
    dsimp only
    rw [s.dev.loopbackWrite_ends _ hidle (fget_mode_cleared w) h]
    have hleft : s.dev.laneWork (laneReg d n [0x40]) ((s.dev.wr (Reg.LANE_LB_CTRL d n) (w &&& 0xFFFFFFFC#32)).leaveFe d n) :=
      ((Dev.laneWork.refl s.dev).wrOwn 0x40 _ rfl).trans (Dev.leaveFe_laneWork _)
    refine Dev.endLoopback_trains _ hd hn 0 (by decide) ?_ ?_ _ rfl
    · rw [Dev.rdF, hleft.laneQuad hn (by unfold quadOf; omega) rfl, ← Dev.rdF]
      omega
    · rw [Dev.rdF, hleft.own hn (o := 0) rfl]
      exact huse
  · refine ⟨_, exec_feLoopbackActive d n s (by simp [Dev.inFe, h, hlb]), Dev.rdF_wrF_same _ _ _ _ (by decide) (by rw [hloop]; decide), ?_⟩
    exact (congrArg (fget · F.LANE_STAT_STATE)
      (((Dev.laneWork.refl (P := laneReg d n [0x48]) s.dev).wrOwn 0x48 _ rfl).own hn (o := 8) rfl)).trans h
  · obtain ⟨hstate, hstat, hmode, -⟩ := s.dev.endLoopback_trains hd hn 4 (by decide) (by omega) huse _ rfl
    exact ⟨_, exec_feLoopbackTimeout d n s (by simp [Dev.inFe, h, hlb, hact]), hstat, hstate, hmode⟩
  · obtain ⟨hstat, herr, hbits⟩ := s.dev.escanTake_shows hd hn y _ rfl _ rfl _ rfl hbusy
    rw [if_pos hfull] at hstat
    rw [min_eq_right hfull] at hbits
    exact ⟨_, exec_escanDone d n y s, hstat, herr, hbits⟩
  · obtain ⟨hstat, herr, hbits⟩ := s.dev.escanTake_shows hd hn y _ rfl _ rfl _ rfl hbusy
    rw [if_neg (Nat.not_le.mpr hfull)] at hstat
    rw [min_eq_left (Nat.le_of_lt hfull)] at hbits
    exact ⟨_, exec_escanDone d n y s, hstat, herr, hbits⟩

end Sys2Proof.Machine
end

section
/-! SUPPORT. Training sets received (R158, R161, R162) and losses of lock (R168): what each leaves in the lane's registers. -/

namespace Sys2Proof.Machine

/-! ## Registers of training and of a loss -/

section
variable {d n : Nat} (hd : d < 2) (hn : n < 10)
include hd hn

theorem regMask_laneEq : regMask (Reg.LANE_EQ d n) = 0xFF07FFF7#32 :=
  (by decide : ∀ (d : Die) (n : LaneIx), regMask (Reg.LANE_EQ d n) = 0xFF07FFF7#32) ⟨d, hd⟩ ⟨n, hn⟩

theorem regMask_laneLoss : regMask (Reg.LANE_CAUSE d n) = 0xFF#32 ∧ regMask (Reg.LANE_LOSSCNT d n) = 0xFFFF#32 ∧
    regMask (Reg.LANE_FLT_CAUSE d n) = 0x1F#32 :=
  (by decide : ∀ (d : Die) (n : LaneIx), regMask (Reg.LANE_CAUSE d n) = 0xFF#32 ∧ regMask (Reg.LANE_LOSSCNT d n) = 0xFFFF#32 ∧
    regMask (Reg.LANE_FLT_CAUSE d n) = 0x1F#32) ⟨d, hd⟩ ⟨n, hn⟩

theorem regMask_laneSymerr : regMask (Reg.LANE_SYMERR d n) = 0xFFFFFFFF#32 :=
  (by decide : ∀ (d : Die) (n : LaneIx), regMask (Reg.LANE_SYMERR d n) = 0xFFFFFFFF#32) ⟨d, hd⟩ ⟨n, hn⟩

theorem faultReg_laneCause : faultReg (Reg.LANE_FLT_STAT d n + 8) = false := by
  refine faultReg_eq_false _ ?_ (.inl ?_)
  · simp only [Reg.LANE_FLT_STAT, Reg.cd]; omega
  · simp only [Reg.LANE_FLT_STAT, Reg.cd]; omega

theorem Dev.addSymerr_rd (s : Dev) (k : Nat) :
    (s.addR (Reg.LANE_SYMERR d n) k).rd (Reg.LANE_SYMERR d n) = s.rd (Reg.LANE_SYMERR d n) + BitVec.ofNat 32 k := by
  rw [Dev.addR, Dev.rd_wr_same, regMask_laneSymerr hd hn]
  exact BitVec.and_allOnes

end

/-! ## Losses of lock -/

theorem lossCode_le (c : LossCause) : lossCode c ≤ 6 := by cases c <;> exact Nat.le_of_ble_eq_true rfl

theorem firstLoss_le (also : List LossCause) (k : Nat) (h : k ≤ 6) : also.foldl (fun k x => min k (lossCode x)) k ≤ 6 := by
  induction also generalizing k with
  | nil => exact h
  | cons x l ih => exact ih _ (Nat.le_trans (Nat.min_le_left _ _) h)

section
variable (s : Dev) {d n : Nat} (hd : d < 2) (hn : n < 10)
include hd hn

/-- A loss of lock in the lane's registers: its first listed cause, its count and the fault cause (R168). -/
theorem Dev.recordLoss_shows (c : LossCause) (also : List LossCause) :
    (s.recordLoss d n c also).rdF (Reg.LANE_CAUSE d n) F.LANE_CAUSE_LOSS = also.foldl (fun k x => min k (lossCode x)) (lossCode c) ∧
      (s.recordLoss d n c also).rdF (Reg.LANE_LOSSCNT d n) F.LANE_LOSSCNT_LOSSES =
        min (s.rdF (Reg.LANE_LOSSCNT d n) F.LANE_LOSSCNT_LOSSES + 1) (2 ^ F.LANE_LOSSCNT_LOSSES.len - 1) ∧
      (s.recordLoss d n c also).rdB (Reg.LANE_FLT_CAUSE d n) B.LANE_LOCK_LOST = true := by
  obtain ⟨hcause, hcnt, hflt⟩ := regMask_laneLoss hd hn
  have hfirst := firstLoss_le also _ (lossCode_le c)
  have hbit (k : Nat) (hk : k < 5) : bitOf (regMask (Reg.LANE_FLT_STAT d n + 8)) k = true := by
    rw [show regMask (Reg.LANE_FLT_STAT d n + 8) = 0x1F#32 from hflt]
    interval_cases k <;> rfl
  unfold Dev.recordLoss
  dsimp only
  generalize hcode : also.foldl (fun k x => min k (lossCode x)) (lossCode c) = code at *
  generalize hu : s.wrF (Reg.LANE_CAUSE d n) F.LANE_CAUSE_LOSS code = u
  have huloss : u.rdF (Reg.LANE_CAUSE d n) F.LANE_CAUSE_LOSS = code := by
    rw [← hu, Dev.rdF_wrF_same _ _ _ _ (by decide) (by rw [hcause]; decide)]
    exact Nat.mod_eq_of_lt (Nat.lt_of_le_of_lt hfirst (by decide))
  have hucnt : u.rd (Reg.LANE_LOSSCNT d n) = s.rd (Reg.LANE_LOSSCNT d n) := by
    rw [← hu]
    exact ((Dev.laneWork.refl (P := laneReg d n [0xC]) s).wrOwn 0xC _ rfl).own hn (o := 0x18) rfl
  generalize hv : u.satF (Reg.LANE_LOSSCNT d n) F.LANE_LOSSCNT_LOSSES 1 = v
  have hvwork : u.laneWork (laneReg d n [0x18]) v := hv ▸ (Dev.laneWork.refl (P := laneReg d n [0x18]) u).wrOwn 0x18 _ rfl
  have hvcnt : v.rdF (Reg.LANE_LOSSCNT d n) F.LANE_LOSSCNT_LOSSES =
      min (s.rdF (Reg.LANE_LOSSCNT d n) F.LANE_LOSSCNT_LOSSES + 1) (2 ^ F.LANE_LOSSCNT_LOSSES.len - 1) := by
    rw [← hv, Dev.rdF_satF_same _ _ _ _ (by decide) (by rw [hcnt]; decide), Dev.rdF, hucnt, ← Dev.rdF]
    rfl
  generalize hw : v.causeOn (Reg.LANE_FLT_STAT d n) B.LANE_LOCK_LOST = w
  have hwwork : v.laneWork (laneReg d n [0x80, 0x88]) w :=
    hw ▸ (Dev.laneWork.refl (P := laneReg d n [0x80, 0x88]) v).causeOn hd hn 0x80 _ rfl
  have hwlost : w.rdB (Reg.LANE_FLT_STAT d n + 8) B.LANE_LOCK_LOST = true := by
    rw [← hw]
    exact v.causeOn_cause _ _ (by decide) (hbit _ (by decide)) (faultReg_laneCause hd hn)
  have hend : v.laneWork (laneReg d n [0x80, 0x88]) (if (c :: also).contains .elastic then
      (w.setLane d n { w.lane d n with lost := true }).causeOn (Reg.LANE_FLT_STAT d n) B.LANE_ELASTIC
      else w.setLane d n { w.lane d n with lost := true }) :=
    .ite ((hwwork.setLane d n _).causeOn hd hn 0x80 _ rfl) (hwwork.setLane d n _)
  refine ⟨?_, ?_, ?_⟩
  · rw [Dev.rdF, hend.own hn (o := 0xC) rfl, hvwork.own hn (o := 0xC) rfl]
    exact huloss
  · rw [Dev.rdF, hend.own hn (o := 0x18) rfl]
    exact hvcnt
  · split
    · exact (Dev.causeOn_other_cause _ _ _ _ (by decide) (by decide) (faultReg_laneCause hd hn) (hbit _ (by decide))).trans hwlost
    · exact hwlost

/-- What a loss of lock of a LOCKED lane shows, and where the lane goes (R168). -/
structure Dev.losesLock (s t : Dev) (d n : Nat) (c : LossCause) (also : List LossCause) : Prop where
  loss : t.rdF (Reg.LANE_CAUSE d n) F.LANE_CAUSE_LOSS = also.foldl (fun k x => min k (lossCode x)) (lossCode c)
  count : t.rdF (Reg.LANE_LOSSCNT d n) F.LANE_LOSSCNT_LOSSES =
    min (s.rdF (Reg.LANE_LOSSCNT d n) F.LANE_LOSSCNT_LOSSES + 1) (2 ^ F.LANE_LOSSCNT_LOSSES.len - 1)
  cause : t.rdB (Reg.LANE_FLT_CAUSE d n) B.LANE_LOCK_LOST = true
  symerr : t.rd (Reg.LANE_SYMERR d n) = s.rd (Reg.LANE_SYMERR d n) + BitVec.ofNat 32 ((c :: also).map lossErrors).sum
  state : t.laneState d n = if s.rdF (Reg.LANE_CFG d n) F.LANE_CFG_USE = 0 then 0
    else if s.rdF (Reg.LANE_Q_STAT d (quadOf n)) F.LANE_Q_STAT_PLL_LOCK = 0 then 1 else 2

theorem Dev.loseLock_losesLock (c : LossCause) (also : List LossCause) (h : s.laneState d n = 3) :
    s.losesLock (s.loseLock d n c also) d n c also := by
  have hlost : s.loseLock d n c also =
      ((s.addR (Reg.LANE_SYMERR d n) ((c :: also).map lossErrors).sum).recordLoss d n c also).startSeq d n false false := if_pos h
  rw [hlost]
  generalize hu : s.addR (Reg.LANE_SYMERR d n) ((c :: also).map lossErrors).sum = u
  have huwork : s.laneWork (laneReg d n [0x14]) u := hu ▸ (Dev.laneWork.refl (P := laneReg d n [0x14]) s).wrOwn 0x14 _ rfl
  have husym := congrArg (Dev.rd · (Reg.LANE_SYMERR d n)) hu
  obtain ⟨hloss, hcount, hcause⟩ := u.recordLoss_shows hd hn c also
  have hrec := u.recordLoss_laneWork hd hn c also
  have hseq := (u.recordLoss d n c also).startSeq_laneWork hd hn false false
  have hquad : quadOf n < 3 := by unfold quadOf; omega
  exact
    { loss := by rw [Dev.rdF, hseq.own hn (o := 0xC) rfl]; exact hloss
      count := by
        rw [Dev.rdF, hseq.own hn (o := 0x18) rfl, ← Dev.rdF, hcount, Dev.rdF, huwork.own hn (o := 0x18) rfl, ← Dev.rdF]
      cause := by rw [Dev.rdB, hseq.own hn (o := 0x88) rfl]; exact hcause
      symerr := by
        rw [hseq.own hn (o := 0x14) rfl, hrec.own hn (o := 0x14) rfl]
        exact husym.symm.trans (Dev.addSymerr_rd hd hn _ _)
      state := by
        rw [Dev.startSeq_state _ hd hn, Dev.rdF, Dev.rdF, hrec.own hn (o := 0) rfl, huwork.own hn (o := 0) rfl,
          hrec.laneQuad hn hquad rfl, huwork.laneQuad hn hquad rfl, ← Dev.rdF, ← Dev.rdF] }

end

/-! ## Commas -/

section
variable (s : Dev) {d n : Nat} (pos raw : Nat)

theorem Dev.commaSeen_lane (e m : Nat) : (s.commaSeen d n pos raw).lane e m = s.lane e m := by
  unfold Dev.commaSeen
  dsimp only
  split <;> rfl

variable (hd : d < 2) (hn : n < 10)
include hn

theorem Dev.commaSeen_stat : (s.commaSeen d n pos raw).rd (Reg.LANE_STAT d n) = s.rd (Reg.LANE_STAT d n) :=
  (s.commaSeen_laneWork pos raw).own hn (o := 8) rfl

include hd

theorem Dev.commaSeen_pos (h : pos < 16) : (s.commaSeen d n pos raw).rdF (Reg.LANE_ALIGN_STAT d n) F.LANE_ALIGN_STAT_COMMA_POS = pos := by
  have hpos (u : Dev) : (u.wrF (Reg.LANE_ALIGN_STAT d n) F.LANE_ALIGN_STAT_COMMA_POS pos).rdF (Reg.LANE_ALIGN_STAT d n)
      F.LANE_ALIGN_STAT_COMMA_POS = pos :=
    (Dev.laneAlign_wrF u hd hn _ _ (by decide) (by decide)).trans (Nat.mod_eq_of_lt h)
  unfold Dev.commaSeen
  dsimp only
  split
  · exact (Dev.laneAlign_wrF_field _ hd hn _ _ _ (by decide) (by decide) (by decide)).trans (hpos _)
  · exact hpos _

end

/-! ## Training sets -/

section
variable (s : Dev) {d n : Nat} (rx : RxSyms) (hn : n < 10)

/-- The lane after the comma of a received set has been seen. -/
def Dev.setSeen (s : Dev) (d n : Nat) (rx : RxSyms) : Dev := s.commaSeen d n rx.pos (rawOf rx)

theorem Dev.trainingSet_ignored (h : s.laneState d n = 0 ∨ s.laneState d n = 1) : s.trainingSet d n rx = s := if_pos h

theorem Dev.trainingSet_locked (h : s.laneState d n = 3) :
    s.trainingSet d n rx =
      if ts1Valid (symsOf rx) then
        (if (s.lane d n).sets = 1 then ((s.setSeen d n rx).addR (Reg.LANE_SYMERR d n) (symErrors (symsOf rx))).loseLock d n .partner []
         else ((s.setSeen d n rx).addR (Reg.LANE_SYMERR d n) (symErrors (symsOf rx))).setLane d n { s.lane d n with sets := 1 })
      else ((s.setSeen d n rx).addR (Reg.LANE_SYMERR d n) (symErrors (symsOf rx))).setLane d n { s.lane d n with sets := 0 } := by
  unfold Dev.trainingSet
  dsimp only
  rw [if_neg (by omega), if_pos h, Dev.commaSeen_lane]
  rfl

include hn

theorem Dev.trainingSet_detect (h : s.laneState d n = 2) (hp : s.rdF (Reg.LANE_STAT d n) F.LANE_STAT_PHASE = 0) :
    s.trainingSet d n rx = (s.setSeen d n rx).setLane d n
      { s.lane d n with sets := if ts1Valid (symsOf rx) then min ((s.lane d n).sets + 1) 8 else 0 } := by
  unfold Dev.trainingSet
  dsimp only
  rw [if_neg (by omega), if_neg (by omega), if_pos h, Dev.commaSeen_lane, Dev.rdF, s.commaSeen_stat _ _ hn, ← Dev.rdF, hp]
  rfl

theorem Dev.trainingSet_align (h : s.laneState d n = 2) (hp : s.rdF (Reg.LANE_STAT d n) F.LANE_STAT_PHASE = 1) (hpos : rx.pos = 0) :
    s.trainingSet d n rx =
      if (if ts1Valid (symsOf rx) then min ((s.lane d n).sets + 1) 4 else 0) = 4 then
        ((s.setSeen d n rx).setLane d n
          { s.lane d n with sets := if ts1Valid (symsOf rx) then min ((s.lane d n).sets + 1) 4 else 0 }).wrF
          (Reg.LANE_ALIGN_STAT d n) F.LANE_ALIGN_STAT_ALIGNED 1
      else (s.setSeen d n rx).setLane d n
        { s.lane d n with sets := if ts1Valid (symsOf rx) then min ((s.lane d n).sets + 1) 4 else 0 } := by
  unfold Dev.trainingSet
  dsimp only
  rw [if_neg (by omega), if_neg (by omega), if_pos h, Dev.commaSeen_lane, Dev.rdF, s.commaSeen_stat _ _ hn, ← Dev.rdF, hp]
  exact if_pos hpos

theorem Dev.trainingSet_misaligned (h : s.laneState d n = 2) (hp : s.rdF (Reg.LANE_STAT d n) F.LANE_STAT_PHASE = 1) (hpos : rx.pos ≠ 0) :
    s.trainingSet d n rx =
      if ((s.setSeen d n rx).setLane d n { s.lane d n with sets := 0 }).rdF (Reg.LANE_ALIGN_CTRL d n) F.LANE_ALIGN_CTRL_SLIP_MODE = 0 then
        ((s.setSeen d n rx).setLane d n { s.lane d n with sets := 0 }).wrF (Reg.LANE_ALIGN_STAT d n) F.LANE_ALIGN_STAT_COMMA_HITS 0
      else (s.setSeen d n rx).setLane d n { s.lane d n with sets := 0 } := by
  unfold Dev.trainingSet
  dsimp only
  rw [if_neg (by omega), if_neg (by omega), if_pos h, Dev.commaSeen_lane, Dev.rdF, s.commaSeen_stat _ _ hn, ← Dev.rdF, hp]
  exact if_neg hpos

theorem Dev.trainingSet_block (h : s.laneState d n = 2) (hp : 2 ≤ s.rdF (Reg.LANE_STAT d n) F.LANE_STAT_PHASE) :
    s.trainingSet d n rx = (s.setSeen d n rx).blockStart d n (symsOf rx) := by
  unfold Dev.trainingSet
  dsimp only
  rw [if_neg (by omega), if_neg (by omega), if_pos h, Dev.rdF, s.commaSeen_stat _ _ hn, ← Dev.rdF]
  split
  · omega
  · omega
  · rfl

end

end Sys2Proof.Machine
end

section
/-! SUPPORT. The statement on training sets and training phases (R158 to R165): what each phase leaves at its end and at its limit. -/

namespace Sys2Proof.Machine

/-! ## The settings that a search finds -/

theorem workRuns_mem (l : List Bool) (k : Nat) : ∀ r ∈ workRuns l k, k ≤ r.1 ∧ 0 < r.2 ∧ r.1 + r.2 ≤ k + l.length := by
  induction l generalizing k with
  | nil => simp [workRuns]
  | cons b l ih =>
    have hlater := ih (k + 1)
    cases b with
    | false =>
      intro r hr
      obtain ⟨hlo, hpos, hhi⟩ := hlater r hr
      rw [List.length_cons]
      omega
    | true =>
      intro r hr
      rw [workRuns] at hr
      rw [List.length_cons]
      generalize workRuns l (k + 1) = runs at *
      cases runs with
      | nil =>
        obtain rfl : r = (k, 1) := by simpa using hr
        dsimp only
        omega
      | cons q rest =>
        obtain ⟨j, m⟩ := q
        obtain ⟨-, -, hq⟩ := hlater (j, m) List.mem_cons_self
        dsimp only at hr hq
        split at hr
        · rcases List.mem_cons.mp hr with rfl | hr
          · dsimp only
            omega
          · obtain ⟨hlo, hpos, hhi⟩ := hlater r (List.mem_cons_of_mem _ hr)
            omega
        · rcases List.mem_cons.mp hr with rfl | hr
          · dsimp only
            omega
          · obtain ⟨hlo, hpos, hhi⟩ := hlater r hr
            omega

/-- A choice among candidates, made one after another, is one of them. -/
theorem foldl_choice_mem {α : Type} {f : Option α → α → Option α} (hf : ∀ b r x, f b r = some x → b = some x ∨ r = x)
    (l : List α) (b : Option α) (x : α) (h : l.foldl f b = some x) : b = some x ∨ x ∈ l := by
  induction l generalizing b with
  | nil => exact .inl h
  | cons r l ih =>
    rcases ih (f b r) h with hb | hm
    · exact (hf b r x hb).imp_right fun (e : r = x) => e ▸ List.mem_cons_self
    · exact .inr (List.mem_cons_of_mem _ hm)

theorem chooseCtle_lt {works : List Bool} {c k : Nat} (h : chooseCtle works c = some k) : k < 16 := by
  unfold chooseCtle at h
  obtain ⟨r, hr, rfl⟩ := Option.map_eq_some_iff.mp h
  have hmem := foldl_choice_mem (fun b r x hx => ?_) _ _ _ hr
  · rcases hmem with hnone | hmem
    · exact absurd hnone (by simp)
    · obtain ⟨-, hpos, hhi⟩ := workRuns_mem _ _ r hmem
      have := List.length_take_le 16 works
      unfold runMiddle
      omega
  · cases b with
    | none => exact .inr (Option.some.inj hx)
    | some b =>
      dsimp only at hx
      split at hx
      · exact .inr (Option.some.inj hx)
      · exact .inl hx

theorem choosePreset_lt {works : List (Bool × Nat)} {c : Nat} {r : Nat × Nat} (h : choosePreset works c = some r) : r.1 < 8 := by
  unfold choosePreset at h
  have hmem := foldl_choice_mem (fun b r x hx => ?_) _ _ _ h
  · rcases hmem with hnone | hmem
    · exact absurd hnone (by simp)
    · obtain ⟨k, hk, hr⟩ := List.mem_filterMap.mp hmem
      split at hr
      · obtain rfl := Option.some.inj hr
        exact List.mem_range.mp hk
      · exact absurd hr (by simp)
  · cases b with
    | none => exact .inr (Option.some.inj hx)
    | some b =>
      dsimp only at hx
      split at hx
      · exact .inr (Option.some.inj hx)
      · exact .inl hx

/-! ## The end of a phase -/

section
variable (s : Dev) {d n : Nat} (cdr : Bool) (h : s.laneState d n = 2)
include h

theorem Dev.phaseDone_detect (hp : s.rdF (Reg.LANE_STAT d n) F.LANE_STAT_PHASE = 0) (hc : cdr = true ∧ 8 ≤ (s.lane d n).sets) :
    s.phaseDone d n cdr = (s.wrF (Reg.LANE_ALIGN_STAT d n) F.LANE_ALIGN_STAT_ALIGNED 0).enterPhase d n 1 := by
  unfold Dev.phaseDone
  rw [if_neg (by omega)]
  dsimp only
  rw [hp]
  exact if_pos hc

theorem Dev.phaseDone_align (hp : s.rdF (Reg.LANE_STAT d n) F.LANE_STAT_PHASE = 1)
    (ha : s.rdF (Reg.LANE_ALIGN_STAT d n) F.LANE_ALIGN_STAT_ALIGNED = 1 ∧ s.rdF (Reg.LANE_ALIGN_CTRL d n) F.LANE_ALIGN_CTRL_SLIP_MODE = 0) :
    s.phaseDone d n cdr = s.enterPhase d n (if s.rdF (Reg.LANE_STAT d n) F.LANE_STAT_FAST = 1 then 4 else 2) := by
  unfold Dev.phaseDone
  rw [if_neg (by omega)]
  dsimp only
  rw [hp]
  exact if_pos ha

theorem Dev.phaseDone_eqRx (hp : s.rdF (Reg.LANE_STAT d n) F.LANE_STAT_PHASE = 2) (hlen : 16 ≤ (s.lane d n).tr.results.length) {k : Nat}
    (hk : chooseCtle ((s.lane d n).tr.results.map Prod.fst) (s.rdF (Reg.LANE_CFG d n) F.LANE_CFG_CTLE0) = some k) :
    s.phaseDone d n cdr = ((s.free.2.wrF (Reg.LANE_EQ d n) F.LANE_EQ_CTLE k).wrF (Reg.LANE_EQ d n) F.LANE_EQ_DFE1 s.free.1).enterPhase d n 3 := by
  rw [Dev.rdF] at hk
  unfold Dev.phaseDone
  rw [if_neg (by omega)]
  dsimp only
  rw [hp]
  refine (if_neg (by omega)).trans ?_
  rw [hk]

theorem Dev.phaseDone_eqTx (hp : s.rdF (Reg.LANE_STAT d n) F.LANE_STAT_PHASE = 3) (hlen : 8 ≤ (s.lane d n).tr.results.length) {r : Nat × Nat}
    (hr : choosePreset (s.lane d n).tr.results (s.rdF (Reg.LANE_CFG d n) F.LANE_CFG_TXPRE0) = some r) :
    s.phaseDone d n cdr = ((s.wrF (Reg.LANE_EQ d n) F.LANE_EQ_TXPRE r.1).wrF (Reg.LANE_EQ d n) F.LANE_EQ_FOM (r.2 / 64)).enterPhase d n 4 := by
  rw [Dev.rdF] at hr
  unfold Dev.phaseDone
  rw [if_neg (by omega)]
  dsimp only
  rw [hp]
  refine (if_neg (by omega)).trans ?_
  rw [hr]

theorem Dev.phaseDone_confirm (hp : s.rdF (Reg.LANE_STAT d n) F.LANE_STAT_PHASE = 4) (hblk : 1024 ≤ (s.lane d n).tr.blk) :
    s.phaseDone d n cdr = s.enterPhase d n 5 := by
  unfold Dev.phaseDone
  rw [if_neg (by omega)]
  dsimp only
  rw [hp]
  exact if_pos (by split <;> omega)

theorem Dev.phaseDone_done (hp : s.rdF (Reg.LANE_STAT d n) F.LANE_STAT_PHASE = 5) :
    s.phaseDone d n cdr = (s.sendSets d n true false 16).laneLock d n := by
  unfold Dev.phaseDone
  rw [if_neg (by omega)]
  dsimp only
  rw [hp]
  rfl

/-- The limit of a phase, but of ALIGN with SLIP_MODE 1, fails the attempt with the FAIL code of the phase (Table 7-10). -/
theorem Dev.phaseTimeout_fails (hslip : s.rdF (Reg.LANE_STAT d n) F.LANE_STAT_PHASE = 1 →
      s.rdF (Reg.LANE_ALIGN_CTRL d n) F.LANE_ALIGN_CTRL_SLIP_MODE = 0) :
    s.phaseTimeout d n = s.attemptFail d n (min (s.rdF (Reg.LANE_STAT d n) F.LANE_STAT_PHASE + 1) 5) := by
  unfold Dev.phaseTimeout
  rw [if_neg (by omega)]
  generalize s.rdF (Reg.LANE_STAT d n) F.LANE_STAT_PHASE = p at *
  split
  · rfl
  · rw [if_neg (by rw [hslip rfl]; decide)]
    rfl
  · rfl
  · rfl
  · next h0 h1 h2 h3 =>
    have hlate : p ≠ 0 ∧ p ≠ 1 ∧ p ≠ 2 ∧ p ≠ 3 := ⟨h0, h1, h2, h3⟩
    have hcode : min (p + 1) 5 = 5 := by omega
    rw [hcode]

end

/-! ## What the end of a phase leaves -/

section
variable (s : Dev) {d n : Nat} (hd : d < 2) (hn : n < 10)
include hd hn

/-- EQ_TX begins at preset 0, with the other settings as they are (R163). -/
theorem Dev.enterPhase3_eq (f : Fld) (hf : f.lo + f.len ≤ 32) (hm : 0xFF07FFF7#32 &&& f.mask = f.mask)
    (h : F.LANE_EQ_TXPRE.lo + F.LANE_EQ_TXPRE.len ≤ f.lo ∨ f.lo + f.len ≤ F.LANE_EQ_TXPRE.lo) :
    (s.enterPhase d n 3).rdF (Reg.LANE_EQ d n) f = s.rdF (Reg.LANE_EQ d n) f := by
  have hstat : (s.setLaneStat d n F.LANE_STAT_PHASE 3).rd (Reg.LANE_EQ d n) = s.rd (Reg.LANE_EQ d n) :=
    ((Dev.laneWork.refl (P := laneReg d n [8]) s).wrOwn 8 _ rfl).own hn (o := 0x10) rfl
  refine (Dev.rdF_wrF_field (s.setLaneStat d n F.LANE_STAT_PHASE 3) _ _ _ _ hf (by rw [regMask_laneEq hd hn]; exact hm) h).trans ?_
  rw [Dev.rdF, hstat, Dev.rdF]

omit hd in
theorem Dev.enterPhase4_eq : (s.enterPhase d n 4).rd (Reg.LANE_EQ d n) = s.rd (Reg.LANE_EQ d n) :=
  ((Dev.laneWork.refl (P := laneReg d n [8]) s).wrOwn 8 _ rfl).own hn (o := 0x10) rfl

theorem Dev.laneEq_wrF (f : Fld) (v : Nat) (hf : f.lo + f.len ≤ 32) (hm : 0xFF07FFF7#32 &&& f.mask = f.mask) :
    (s.wrF (Reg.LANE_EQ d n) f v).rdF (Reg.LANE_EQ d n) f = v % 2 ^ f.len :=
  Dev.rdF_wrF_same _ _ _ _ hf (by rw [regMask_laneEq hd hn]; exact hm)

theorem Dev.laneEq_wrF_field (f g : Fld) (v : Nat) (hg : g.lo + g.len ≤ 32) (hm : 0xFF07FFF7#32 &&& g.mask = g.mask)
    (h : f.lo + f.len ≤ g.lo ∨ g.lo + g.len ≤ f.lo) :
    (s.wrF (Reg.LANE_EQ d n) f v).rdF (Reg.LANE_EQ d n) g = s.rdF (Reg.LANE_EQ d n) g :=
  Dev.rdF_wrF_field _ _ _ _ _ hg (by rw [regMask_laneEq hd hn]; exact hm) h

theorem Dev.bringup_state : (s.bringup d n).rd (Reg.LANE_STAT d n) = s.rd (Reg.LANE_STAT d n) ∧
    (s.bringup d n).rd (Reg.LANE_RETRY d n) = s.rd (Reg.LANE_RETRY d n) ∧ (s.bringup d n).wasLocked d n = s.wasLocked d n ∧
    (n < 8 → (s.bringup d n).dstate d n = 1) := by
  have hwork : s.laneWork (laneReg d n []) (s.bringup d n) := ((Dev.laneWork.refl s).setLane d n _).wrCargo 0x100 _ rfl
  refine ⟨hwork.own hn (o := 8) rfl, hwork.own hn (o := 0x24) rfl, s.wasLocked_setLane d n _ rfl, fun ht => ?_⟩
  have hmask : regMask (Reg.LANE_TILE_STAT d n) = 0xFFFF1F77#32 :=
    (by decide : ∀ (d : Die) (n : TileIx), regMask (Reg.LANE_TILE_STAT d n) = 0xFFFF1F77#32) ⟨d, hd⟩ ⟨n, ht⟩
  exact Dev.rdF_wrF_same _ _ _ _ (by decide) (by rw [hmask]; decide)

/-- LOCKED: the lane counts as having been LOCKED, its retries begin anew, and its tile is in BRINGUP (R165, R166, R194). -/
theorem Dev.laneLock_locks : (s.laneLock d n).laneState d n = 3 ∧ (s.laneLock d n).wasLocked d n = true ∧
    (s.laneLock d n).rdF (Reg.LANE_RETRY d n) F.LANE_RETRY_COUNT = 0 ∧ (n < 8 → (s.laneLock d n).dstate d n = 1) := by
  unfold Dev.laneLock
  dsimp only
  generalize s.rdF (Reg.LANE_STAT d n) F.LANE_STAT_RATE_NOW = rate
  generalize (rate != s.rdF (Reg.LANE_CFG d n) F.LANE_CFG_RATE) = fb
  generalize hu : (s.wr (Reg.LANE_STAT d n) (BitVec.ofNat 32 (3 + 256 * rate + 512 * b2n fb))).setLane d n _ = u
  have hustat : u.laneState d n = 3 := by
    rw [← hu]
    refine (Dev.laneStat_wr hd hn s _ F.LANE_STAT_STATE (by decide) (by decide)).trans ?_
    rw [fget_ofNat]
    dsimp only
    omega
  have hulocked : u.wasLocked d n = true := by rw [← hu, Dev.wasLocked, Dev.setLane_lane_same]
  generalize hv : ((((u.clearRetry d n).causeOff (Reg.LANE_FLT_STAT d n) B.LANE_LOCK_LOST).causeOff (Reg.LANE_FLT_STAT d n)
    B.LANE_TRAIN_FAIL).causeOff (Reg.LANE_FLT_STAT d n) B.LANE_ELASTIC).causeIs (Reg.LANE_FLT_STAT d n) B.LANE_FALLBACK fb = v
  have hvwork : (u.clearRetry d n).laneWork (laneReg d n [0x80, 0x88]) v := by
    rw [← hv]
    exact ((((Dev.laneWork.refl (P := laneReg d n [0x80, 0x88]) (u.clearRetry d n)).wrOwn 0x88 _ rfl).wrOwn 0x88 _ rfl).wrOwn 0x88 _
      rfl).causeIs hd hn 0x80 _ fb rfl
  have hvstat : v.laneState d n = 3 := by
    rw [Dev.laneState, Dev.rdF, hvwork.own hn (o := 8) rfl, u.clearRetry_laneWork.own hn (o := 8) rfl]
    exact hustat
  have hvlocked : v.wasLocked d n = true := by
    rw [← hulocked, ← hv, Dev.wasLocked, Dev.causeIs_lane]
    rfl
  have hvcount : v.rdF (Reg.LANE_RETRY d n) F.LANE_RETRY_COUNT = 0 := by
    rw [Dev.rdF, hvwork.own hn (o := 0x24) rfl]
    exact u.clearRetry_count hd hn
  split
  · obtain ⟨hstat, hretry, hlocked, htile⟩ := v.bringup_state hd hn
    refine ⟨?_, hlocked.trans hvlocked, ?_, htile⟩
    · rw [Dev.laneState, Dev.rdF, hstat]
      exact hvstat
    · rw [Dev.rdF, hretry]
      exact hvcount
  · next ht => exact ⟨hvstat, hvlocked, hvcount, fun h => absurd h ht⟩

/-- FAILED, with the cause TRAIN_FAIL; LANE_CAUSEn stays as it is (R165, R166). -/
theorem Dev.laneFailed_fails : (s.laneFailed d n).laneState d n = 4 ∧ (s.laneFailed d n).rdB (Reg.LANE_FLT_CAUSE d n) B.LANE_TRAIN_FAIL = true := by
  obtain ⟨-, -, hflt⟩ := regMask_laneLoss hd hn
  have hbit : bitOf (regMask (Reg.LANE_FLT_STAT d n + 8)) B.LANE_TRAIN_FAIL = true := by
    rw [show regMask (Reg.LANE_FLT_STAT d n + 8) = 0x1F#32 from hflt]
    rfl
  unfold Dev.laneFailed
  dsimp only
  generalize hu : s.wr (Reg.LANE_STAT d n) (fset (s.rd (Reg.LANE_STAT d n) &&& 0x100#32) F.LANE_STAT_STATE 4) = u
  have hustat : u.laneState d n = 4 := by
    rw [← hu]
    exact (Dev.laneStat_wr hd hn _ _ _ (by decide) (by decide)).trans (fget_fset_same _ _ _ (by decide))
  generalize hv : u.causeOn (Reg.LANE_FLT_STAT d n) B.LANE_TRAIN_FAIL = v
  have hvwork : u.laneWork (laneReg d n [0x24, 0x80, 0x88]) v :=
    hv ▸ (Dev.laneWork.refl (P := laneReg d n [0x24, 0x80, 0x88]) u).causeOn hd hn 0x80 _ rfl
  have hvcause : v.rdB (Reg.LANE_FLT_STAT d n + 8) B.LANE_TRAIN_FAIL = true := by
    rw [← hv]
    exact u.causeOn_cause _ _ (by decide) hbit (faultReg_laneCause hd hn)
  have hshows {t : Dev} (ht : u.laneWork (laneReg d n [0x24, 0x80, 0x88]) t)
      (hc : t.rdB (Reg.LANE_FLT_STAT d n + 8) B.LANE_TRAIN_FAIL = true) :
      t.laneState d n = 4 ∧ t.rdB (Reg.LANE_FLT_CAUSE d n) B.LANE_TRAIN_FAIL = true := by
    refine ⟨?_, hc⟩
    rw [Dev.laneState, Dev.rdF, ht.own hn (o := 8) rfl]
    exact hustat
  generalize min 8 (v.rdF (Reg.LANE_RETRY d n) F.LANE_RETRY_COUNT + 1) = c
  have hcount : (v.wrF (Reg.LANE_RETRY d n) F.LANE_RETRY_COUNT c).rdB (Reg.LANE_FLT_STAT d n + 8) B.LANE_TRAIN_FAIL = true := by
    have hne : Reg.LANE_FLT_STAT d n + 8 ≠ Reg.LANE_RETRY d n := by simp only [Reg.LANE_RETRY, Reg.LANE_FLT_STAT]; omega
    rw [Dev.rdB, Dev.rd_wrF_other _ _ _ _ _ hne]
    exact hvcause
  split
  · split
    · refine hshows (((hvwork.wrOwn 0x24 _ rfl).setLane d n _).causeOn hd hn 0x80 _ rfl) ?_
      exact (Dev.causeOn_other_cause _ _ _ _ (by decide) (by decide) (faultReg_laneCause hd hn) hbit).trans hcount
    · exact hshows ((hvwork.wrOwn 0x24 _ rfl).setLane d n _) hcount
  · exact hshows (hvwork.setLane d n _) hvcause

theorem Dev.failCode_rdF (why : Nat) (h : why < 16) :
    (s.wrF (Reg.LANE_CAUSE d n) F.LANE_CAUSE_FAIL why).rdF (Reg.LANE_CAUSE d n) F.LANE_CAUSE_FAIL = why := by
  obtain ⟨hcause, -, -⟩ := regMask_laneLoss hd hn
  rw [Dev.rdF_wrF_same _ _ _ _ (by decide) (by rw [hcause]; decide)]
  exact Nat.mod_eq_of_lt h

theorem Dev.attemptFail_first (why : Nat) (hwhy : why < 16) (h : (s.lane d n).attempt = 1) :
    (s.attemptFail d n why).rdF (Reg.LANE_CAUSE d n) F.LANE_CAUSE_FAIL = why ∧ (s.attemptFail d n why).trains d n 2 := by
  have hnext : s.attemptFail d n why = (s.wrF (Reg.LANE_CAUSE d n) F.LANE_CAUSE_FAIL why).startAttempt d n 2 := by
    unfold Dev.attemptFail
    dsimp only
    rw [show (s.wrF (Reg.LANE_CAUSE d n) F.LANE_CAUSE_FAIL why).lane d n = s.lane d n from rfl, h]
    rfl
  rw [hnext]
  refine ⟨?_, Dev.startAttempt_trains _ 2 hd hn⟩
  rw [Dev.rdF, (Dev.startAttempt_laneWork _ 2).own hn (o := 0xC) rfl]
  exact s.failCode_rdF hd hn why hwhy

theorem Dev.attemptFail_third (why : Nat) (hwhy : why < 16) (h : (s.lane d n).attempt = 3) :
    (s.attemptFail d n why).rdF (Reg.LANE_CAUSE d n) F.LANE_CAUSE_FAIL = why ∧ (s.attemptFail d n why).laneState d n = 4 ∧
      (s.attemptFail d n why).rdB (Reg.LANE_FLT_CAUSE d n) B.LANE_TRAIN_FAIL = true := by
  have hnext : s.attemptFail d n why = (s.wrF (Reg.LANE_CAUSE d n) F.LANE_CAUSE_FAIL why).laneFailed d n := by
    unfold Dev.attemptFail
    dsimp only
    rw [show (s.wrF (Reg.LANE_CAUSE d n) F.LANE_CAUSE_FAIL why).lane d n = s.lane d n from rfl, h]
    rfl
  rw [hnext]
  refine ⟨?_, Dev.laneFailed_fails _ hd hn⟩
  rw [Dev.rdF, (Dev.laneFailed_laneWork _ hd hn).own hn (o := 0xC) rfl]
  exact s.failCode_rdF hd hn why hwhy

end

/-! ## Training sets -/

section
variable (s : Dev) {d n : Nat} (rx : RxSyms) (hd : d < 2) (hn : n < 10)

theorem Dev.setSeen_lane : (s.setSeen d n rx).lane d n = s.lane d n := s.commaSeen_lane _ _ d n

include hn

theorem Dev.setSeen_own {o : Nat} (ho : (!List.contains [0x38, 0x3C] o && Nat.blt o 0x100) = true) :
    (s.setSeen d n rx).rd (Reg.cd d + 0x10000 + 0x1000 * n + o) = s.rd (Reg.cd d + 0x10000 + 0x1000 * n + o) :=
  (s.commaSeen_laneWork rx.pos (rawOf rx)).own hn ho

theorem Dev.setSeen_stat (f : Fld) : (s.setSeen d n rx).rdF (Reg.LANE_STAT d n) f = s.rdF (Reg.LANE_STAT d n) f :=
  congrArg (fget · f) (s.setSeen_own rx hn (o := 8) rfl)

include hd

theorem Dev.trainingSet_detects (h : s.laneState d n = 2) (hp : s.rdF (Reg.LANE_STAT d n) F.LANE_STAT_PHASE = 0) :
    ((s.trainingSet d n rx).lane d n).sets = (if ts1Valid (symsOf rx) = true then min ((s.lane d n).sets + 1) 8 else 0) ∧
      (s.trainingSet d n rx).rdF (Reg.LANE_ALIGN_STAT d n) F.LANE_ALIGN_STAT_COMMA_POS = rx.pos ∧
      (s.trainingSet d n rx).laneState d n = 2 ∧ (s.trainingSet d n rx).rdF (Reg.LANE_STAT d n) F.LANE_STAT_PHASE = 0 := by
  rw [s.trainingSet_detect rx hn h hp, Dev.setLane_lane_same]
  exact ⟨rfl, s.commaSeen_pos _ _ hd hn (by omega), (s.setSeen_stat rx hn _).trans h, (s.setSeen_stat rx hn _).trans hp⟩

theorem Dev.trainingSet_aligns (h : s.laneState d n = 2) (hp : s.rdF (Reg.LANE_STAT d n) F.LANE_STAT_PHASE = 1)
    (hvalid : ts1Valid (symsOf rx) = true) (hpos : rx.pos = 0) (hsets : (s.lane d n).sets = 3) :
    (s.trainingSet d n rx).rdF (Reg.LANE_ALIGN_STAT d n) F.LANE_ALIGN_STAT_ALIGNED = 1 ∧ ((s.trainingSet d n rx).lane d n).sets = 4 := by
  have hfour : (if ts1Valid (symsOf rx) then min ((s.lane d n).sets + 1) 4 else 0) = 4 := by
    rw [if_pos hvalid, hsets]
    rfl
  rw [s.trainingSet_align rx hn h hp hpos, if_pos hfour, Dev.wrF, Dev.wr_lane, Dev.setLane_lane_same]
  exact ⟨Dev.laneAlign_wrF _ hd hn _ _ (by decide) (by decide), hfour⟩

theorem Dev.trainingSet_misaligns (h : s.laneState d n = 2) (hp : s.rdF (Reg.LANE_STAT d n) F.LANE_STAT_PHASE = 1) (hpos : rx.pos ≠ 0) :
    ((s.trainingSet d n rx).lane d n).sets = 0 ∧ (s.rdF (Reg.LANE_ALIGN_CTRL d n) F.LANE_ALIGN_CTRL_SLIP_MODE = 0 →
      (s.trainingSet d n rx).rdF (Reg.LANE_ALIGN_STAT d n) F.LANE_ALIGN_STAT_COMMA_HITS = 0) := by
  have hmode : ((s.setSeen d n rx).setLane d n { s.lane d n with sets := 0 }).rdF (Reg.LANE_ALIGN_CTRL d n) F.LANE_ALIGN_CTRL_SLIP_MODE =
      s.rdF (Reg.LANE_ALIGN_CTRL d n) F.LANE_ALIGN_CTRL_SLIP_MODE :=
    congrArg (fget · F.LANE_ALIGN_CTRL_SLIP_MODE) (s.setSeen_own rx hn (o := 0x30) rfl)
  rw [s.trainingSet_misaligned rx hn h hp hpos, hmode]
  split
  · refine ⟨?_, fun _ => Dev.laneAlign_wrF _ hd hn _ _ (by decide) (by decide)⟩
    rw [Dev.wrF, Dev.wr_lane, Dev.setLane_lane_same]
  · next hslip => exact ⟨by rw [Dev.setLane_lane_same], fun hzero => absurd hzero hslip⟩

omit hd in
theorem Dev.trainingSet_blocks (h : s.laneState d n = 2) (hp : 2 ≤ s.rdF (Reg.LANE_STAT d n) F.LANE_STAT_PHASE) :
    ((s.trainingSet d n rx).lane d n).tr.rx.errs = (s.lane d n).tr.rx.errs + symErrors (symsOf rx) ∧
      (s.trainingSet d n rx).rdF (Reg.LANE_STAT d n) F.LANE_STAT_PHASE = s.rdF (Reg.LANE_STAT d n) F.LANE_STAT_PHASE := by
  rw [s.trainingSet_block rx hn h hp]
  refine ⟨?_, s.setSeen_stat rx hn _⟩
  rw [Dev.blockStart, Dev.setLane_lane_same, Dev.setSeen_lane]

/-- The second valid TS1 in a row on a LOCKED lane (R168). -/
theorem Dev.trainingSet_partner (h : s.laneState d n = 3) (hvalid : ts1Valid (symsOf rx) = true) (hsets : (s.lane d n).sets = 1) :
    (s.trainingSet d n rx).rdF (Reg.LANE_CAUSE d n) F.LANE_CAUSE_LOSS = 5 ∧ (s.trainingSet d n rx).laneState d n ≠ 3 ∧
      (s.trainingSet d n rx).rdB (Reg.LANE_FLT_CAUSE d n) B.LANE_LOCK_LOST = true := by
  rw [s.trainingSet_locked rx h, if_pos hvalid, if_pos hsets]
  have hwork : (s.setSeen d n rx).laneWork (laneReg d n [0x14]) ((s.setSeen d n rx).addR (Reg.LANE_SYMERR d n) (symErrors (symsOf rx))) :=
    (Dev.laneWork.refl (P := laneReg d n [0x14]) (s.setSeen d n rx)).wrOwn 0x14 _ rfl
  have hstate : ((s.setSeen d n rx).addR (Reg.LANE_SYMERR d n) (symErrors (symsOf rx))).laneState d n = 3 := by
    rw [Dev.laneState, Dev.rdF, hwork.own hn (o := 8) rfl]
    exact (s.setSeen_stat rx hn _).trans h
  have hloses := Dev.loseLock_losesLock _ hd hn .partner [] hstate
  refine ⟨hloses.loss, ?_, hloses.cause⟩
  rw [hloses.state]
  split_ifs <;> decide

theorem Dev.trainingSet_first (h : s.laneState d n = 3) (hsets : (s.lane d n).sets = 0) :
    ((s.trainingSet d n rx).lane d n).sets = (if ts1Valid (symsOf rx) = true then 1 else 0) ∧
      (s.trainingSet d n rx).rd (Reg.LANE_SYMERR d n) = s.rd (Reg.LANE_SYMERR d n) + BitVec.ofNat 32 (symErrors (symsOf rx)) ∧
      (s.trainingSet d n rx).laneState d n = 3 := by
  have hcounted : s.trainingSet d n rx = ((s.setSeen d n rx).addR (Reg.LANE_SYMERR d n) (symErrors (symsOf rx))).setLane d n
      { s.lane d n with sets := if ts1Valid (symsOf rx) = true then 1 else 0 } := by
    rw [s.trainingSet_locked rx h, if_neg (by omega : ¬ (s.lane d n).sets = 1)]
    split <;> rfl
  have hsym : ((s.setSeen d n rx).addR (Reg.LANE_SYMERR d n) (symErrors (symsOf rx))).rd (Reg.LANE_SYMERR d n) =
      s.rd (Reg.LANE_SYMERR d n) + BitVec.ofNat 32 (symErrors (symsOf rx)) := by
    rw [Dev.addSymerr_rd hd hn, s.setSeen_own rx hn (o := 0x14) rfl]
  have hwork : (s.setSeen d n rx).laneWork (laneReg d n [0x14]) ((s.setSeen d n rx).addR (Reg.LANE_SYMERR d n) (symErrors (symsOf rx))) :=
    (Dev.laneWork.refl (P := laneReg d n [0x14]) (s.setSeen d n rx)).wrOwn 0x14 _ rfl
  rw [hcounted, Dev.setLane_lane_same]
  refine ⟨rfl, hsym, ?_⟩
  exact (congrArg (fget · F.LANE_STAT_STATE) (hwork.own hn (o := 8) rfl)).trans ((s.setSeen_stat rx hn _).trans h)

end

/-! ## The statement -/

theorem exec_trainingSetRx (d : Die) (n : LaneIx) (rx : RxSyms) (s : State) :
    exec (.trainingSetRx d n rx) s = .next { s with dev := s.dev.trainingSet d n rx } := rfl

theorem exec_trainPhaseDone (d : Die) (n : LaneIx) (cdr : Bool) (s : State) :
    exec (.trainPhaseDone d n cdr) s = .next { s with dev := s.dev.phaseDone d n cdr } := rfl

theorem exec_trainPhaseTimeout (d : Die) (n : LaneIx) (s : State) :
    exec (.trainPhaseTimeout d n) s = .next { s with dev := s.dev.phaseTimeout d n } := rfl

section
variable (s : Dev) {d n : Nat} (cdr : Bool) (hd : d < 2) (hn : n < 10) (h : s.laneState d n = 2)
include hd hn h

theorem Dev.phaseDone_detected (hp : s.rdF (Reg.LANE_STAT d n) F.LANE_STAT_PHASE = 0) (hc : cdr = true ∧ 8 ≤ (s.lane d n).sets) :
    (s.phaseDone d n cdr).rdF (Reg.LANE_STAT d n) F.LANE_STAT_PHASE = 1 ∧ (s.phaseDone d n cdr).laneState d n = 2 := by
  have hwork := (Dev.laneWork.refl (P := laneReg d n [0x38]) s).wrOwn 0x38
    (fset (s.rd (Reg.LANE_ALIGN_STAT d n)) F.LANE_ALIGN_STAT_ALIGNED 0) rfl
  rw [s.phaseDone_detect cdr h hp hc]
  refine ⟨Dev.enterPhase_phase _ hd hn (by decide), (Dev.enterPhase_state _ hd hn _).trans ?_⟩
  exact (congrArg (fget · F.LANE_STAT_STATE) (hwork.own hn (o := 8) rfl)).trans h

theorem Dev.phaseDone_searchedRx (hp : s.rdF (Reg.LANE_STAT d n) F.LANE_STAT_PHASE = 2) (hlen : 16 ≤ (s.lane d n).tr.results.length) {k : Nat}
    (hk : chooseCtle ((s.lane d n).tr.results.map Prod.fst) (s.rdF (Reg.LANE_CFG d n) F.LANE_CFG_CTLE0) = some k) :
    (s.phaseDone d n cdr).rdF (Reg.LANE_STAT d n) F.LANE_STAT_PHASE = 3 ∧ (s.phaseDone d n cdr).rdF (Reg.LANE_EQ d n) F.LANE_EQ_CTLE = k := by
  rw [s.phaseDone_eqRx cdr h hp hlen hk]
  refine ⟨Dev.enterPhase_phase _ hd hn (by decide), ?_⟩
  rw [Dev.enterPhase3_eq _ hd hn _ (by decide) (by decide) (by decide),
    Dev.laneEq_wrF_field _ hd hn _ _ _ (by decide) (by decide) (by decide), Dev.laneEq_wrF _ hd hn _ _ (by decide) (by decide)]
  exact Nat.mod_eq_of_lt (chooseCtle_lt hk)

theorem Dev.phaseDone_searchedTx (hp : s.rdF (Reg.LANE_STAT d n) F.LANE_STAT_PHASE = 3) (hlen : 8 ≤ (s.lane d n).tr.results.length)
    {r : Nat × Nat} (hr : choosePreset (s.lane d n).tr.results (s.rdF (Reg.LANE_CFG d n) F.LANE_CFG_TXPRE0) = some r) :
    (s.phaseDone d n cdr).rdF (Reg.LANE_STAT d n) F.LANE_STAT_PHASE = 4 ∧ (s.phaseDone d n cdr).rdF (Reg.LANE_EQ d n) F.LANE_EQ_TXPRE = r.1 ∧
      (s.phaseDone d n cdr).rdF (Reg.LANE_EQ d n) F.LANE_EQ_FOM = r.2 / 64 % 2 ^ F.LANE_EQ_FOM.len := by
  rw [s.phaseDone_eqTx cdr h hp hlen hr]
  refine ⟨Dev.enterPhase_phase _ hd hn (by decide), ?_, ?_⟩
  · rw [Dev.rdF, Dev.enterPhase4_eq _ hn, ← Dev.rdF, Dev.laneEq_wrF_field _ hd hn _ _ _ (by decide) (by decide) (by decide),
      Dev.laneEq_wrF _ hd hn _ _ (by decide) (by decide)]
    exact Nat.mod_eq_of_lt (choosePreset_lt hr)
  · rw [Dev.rdF, Dev.enterPhase4_eq _ hn, ← Dev.rdF]
    exact Dev.laneEq_wrF _ hd hn _ _ (by decide) (by decide)

end

/-- Settles O25: each received set by the phase it meets, and each phase by its exit condition and its limit. -/
theorem trainingComplete : Obligations.TrainingComplete := by
  intro d n rx cdr s
  have hd := d.isLt
  have hn := n.isLt
  have hphase : min (s.dev.rdF (Reg.LANE_STAT d n) F.LANE_STAT_PHASE + 1) 5 < 16 := by omega
  refine ⟨fun ⟨h, hp⟩ => ⟨_, exec_trainingSetRx d n rx s, s.dev.trainingSet_detects rx hd hn h hp⟩,
    fun ⟨h, hp, hvalid, hpos, hsets⟩ => ⟨_, exec_trainingSetRx d n rx s, s.dev.trainingSet_aligns rx hd hn h hp hvalid hpos hsets⟩,
    fun ⟨h, hp, hpos⟩ => ⟨_, exec_trainingSetRx d n rx s, s.dev.trainingSet_misaligns rx hd hn h hp hpos⟩,
    fun ⟨h, hp⟩ => ⟨_, exec_trainingSetRx d n rx s, s.dev.trainingSet_blocks rx hn h hp⟩,
    fun ⟨h, hvalid, hsets⟩ => ⟨_, exec_trainingSetRx d n rx s, s.dev.trainingSet_partner rx hd hn h hvalid hsets⟩,
    fun ⟨h, hsets⟩ => ⟨_, exec_trainingSetRx d n rx s, s.dev.trainingSet_first rx hd hn h hsets⟩, fun h => ?_,
    fun ⟨h, hp, hc⟩ => ⟨_, exec_trainPhaseDone d n cdr s, s.dev.phaseDone_detected cdr hd hn h hp hc⟩, fun ⟨h, hp, ha⟩ => ?_,
    fun ⟨h, hp, hlen, hsome⟩ => ?_, fun ⟨h, hp, hlen, hsome⟩ => ?_, fun ⟨h, hp, hblk⟩ => ?_, fun ⟨h, hp⟩ => ?_,
    fun ⟨h, hfirst, hslip⟩ => ?_, fun ⟨h, hthird, hslip⟩ => ?_⟩
  · refine ⟨_, exec_trainingSetRx d n rx s, ?_⟩
    rw [s.dev.trainingSet_ignored rx h]
  · refine ⟨_, exec_trainPhaseDone d n cdr s, ?_⟩
    dsimp only
    rw [s.dev.phaseDone_align cdr h hp ha]
    exact ⟨s.dev.enterPhase_phase hd hn (by split <;> decide), (s.dev.enterPhase_state hd hn _).trans h⟩
  · obtain ⟨k, hk⟩ := Option.isSome_iff_exists.mp hsome
    rw [hk]
    exact ⟨_, exec_trainPhaseDone d n cdr s, s.dev.phaseDone_searchedRx cdr hd hn h hp hlen hk⟩
  · obtain ⟨r, hr⟩ := Option.isSome_iff_exists.mp hsome
    rw [hr]
    exact ⟨_, exec_trainPhaseDone d n cdr s, s.dev.phaseDone_searchedTx cdr hd hn h hp hlen hr⟩
  · refine ⟨_, exec_trainPhaseDone d n cdr s, ?_⟩
    dsimp only
    rw [s.dev.phaseDone_confirm cdr h hp hblk]
    exact ⟨s.dev.enterPhase_phase hd hn (by decide), (s.dev.enterPhase_state hd hn _).trans h⟩
  · refine ⟨_, exec_trainPhaseDone d n cdr s, ?_⟩
    dsimp only
    rw [s.dev.phaseDone_done cdr h hp]
    exact Dev.laneLock_locks _ hd hn
  · refine ⟨_, exec_trainPhaseTimeout d n s, ?_⟩
    dsimp only
    rw [s.dev.phaseTimeout_fails h hslip]
    obtain ⟨hcode, htrains⟩ := s.dev.attemptFail_first hd hn _ hphase hfirst
    exact ⟨hcode, htrains.attempt, htrains.state, htrains.phase⟩
  · refine ⟨_, exec_trainPhaseTimeout d n s, ?_⟩
    dsimp only
    rw [s.dev.phaseTimeout_fails h hslip]
    exact s.dev.attemptFail_third hd hn _ hphase hthird

end Sys2Proof.Machine
end

section
/-! SUPPORT. Loss and relock of a quad PLL (R170), filler sets received and sent (R156, R157, R159, R163), and losses of lock (R168, R173). -/

namespace Sys2Proof.Machine

/-! ## Loss of lock in LOOPBACK, and the retry timer -/

section
variable (s : Dev) {d n : Nat} (hd : d < 2) (hn : n < 10)

theorem Dev.loseLock_other (c : LossCause) (also : List LossCause) (h3 : s.laneState d n ≠ 3) (h5 : s.laneState d n ≠ 5) :
    s.loseLock d n c also = s := (if_neg h3).trans (if_neg h5)

include hd hn

theorem Dev.startSeq_state_le (full auto : Bool) : (s.startSeq d n full auto).laneState d n ≤ 2 := by
  rw [s.startSeq_state hd hn]
  split
  · decide
  · split <;> decide

/-- A loss of lock ends a loopback with LOST (R173). -/
theorem Dev.loseLock_endsLoopback (c : LossCause) (also : List LossCause) (h : s.laneState d n = 5) :
    (s.loseLock d n c also).rdF (Reg.LANE_CAUSE d n) F.LANE_CAUSE_LOSS = also.foldl (fun k x => min k (lossCode x)) (lossCode c) ∧
      (s.loseLock d n c also).rd (Reg.LANE_LB_STAT d n) = 8#32 ∧
      (s.loseLock d n c also).rdF (Reg.LANE_LB_CTRL d n) F.LANE_LB_CTRL_MODE = 0 ∧ (s.loseLock d n c also).laneState d n ≠ 5 := by
  have hends : s.loseLock d n c also = ((s.recordLoss d n c also).endLoopback d n 8).startSeq d n false false :=
    (if_neg (by omega)).trans (if_pos h)
  obtain ⟨hloss, -, -⟩ := s.recordLoss_shows hd hn c also
  obtain ⟨hstat, hctrl⟩ := (s.recordLoss d n c also).endLoopback_flags hd hn 8 (by decide)
  have hend := (s.recordLoss d n c also).endLoopback_laneWork (d := d) (n := n) 8
  have hseq := ((s.recordLoss d n c also).endLoopback d n 8).startSeq_laneWork hd hn false false
  have hstate := ((s.recordLoss d n c also).endLoopback d n 8).startSeq_state_le hd hn false false
  rw [hends]
  refine ⟨?_, ?_, ?_, by omega⟩
  · rw [Dev.rdF, hseq.own hn (o := 0xC) rfl, hend.own hn (o := 0xC) rfl]
    exact hloss
  · exact (hseq.own hn (o := 0x48) rfl).trans hstat
  · rw [Dev.rdF, hseq.own hn (o := 0x40) rfl]
    exact hctrl

theorem Dev.retryLane_trains (h : s.laneState d n = 4) (hretry : (s.lane d n).retryAt.isSome = true)
    (hpll : s.rdF (Reg.LANE_Q_STAT d (quadOf n)) F.LANE_Q_STAT_PLL_LOCK ≠ 0) (huse : s.rdF (Reg.LANE_CFG d n) F.LANE_CFG_USE ≠ 0) :
    (s.retryLane d n).trains d n 2 ∧ ((s.retryLane d n).lane d n).auto = true := by
  rw [show s.retryLane d n = s.startSeq d n true true from if_pos ⟨h, hretry⟩]
  exact s.startSeq_trains hd hn true true huse hpll

end

/-! ## Quad PLLs -/

section
variable {d q : Nat} (hd : d < 2) (hq : q < 3)
include hd hq

theorem regMask_laneQuad : regMask (Reg.LANE_Q_STAT d q) = 7#32 ∧ regMask (Reg.LANE_Q_UNLOCK d q) = 0xFFFFFFFF#32 :=
  (by decide : ∀ (d : Die) (q : Fin 3), regMask (Reg.LANE_Q_STAT d q) = 7#32 ∧ regMask (Reg.LANE_Q_UNLOCK d q) = 0xFFFFFFFF#32) ⟨d, hd⟩ ⟨q, hq⟩

/-- A fault of a quad leaves its other registers alone. -/
theorem Dev.quadCause_rd (s : Dev) (k o : Nat) (ho : o < 0x10) :
    (s.causeOn (Reg.LANE_Q_FLT_STAT d q) k).rd (Reg.cd d + 0x1C000 + 0x100 * q + o) = s.rd (Reg.cd d + 0x1C000 + 0x100 * q + o) := by
  have hcq : cqReg d (Reg.cd d + 0x1C000 + 0x100 * q + o) = false := cqReg_eq_false (by omega)
  have hcd : 0x1000000 ≤ Reg.cd d := by unfold Reg.cd; omega
  refine (Dev.raise_rd_lane _ k hd ?_ ?_ ?_ ?_ hcq).trans (Dev.rd_wr_other _ _ _ _ ?_)
  · simp only [Reg.LANE_Q_FLT_STAT]; omega
  · simp only [Reg.LANE_Q_FLT_STAT]; omega
  · simp only [Reg.LANE_Q_FLT_STAT]; omega
  · simp only [Reg.VSP_EVT_HOLD]; omega
  · simp only [Reg.LANE_Q_FLT_STAT]; omega

theorem Dev.quadStat_fields (s : Dev) (lock ref : Nat) (hlock : lock < 2) (href : ref < 2) :
    ((s.wrF (Reg.LANE_Q_STAT d q) F.LANE_Q_STAT_PLL_LOCK lock).wrF (Reg.LANE_Q_STAT d q) F.LANE_Q_STAT_REF_PRESENT ref).rdF
        (Reg.LANE_Q_STAT d q) F.LANE_Q_STAT_PLL_LOCK = lock ∧
      ((s.wrF (Reg.LANE_Q_STAT d q) F.LANE_Q_STAT_PLL_LOCK lock).wrF (Reg.LANE_Q_STAT d q) F.LANE_Q_STAT_REF_PRESENT ref).rdF
        (Reg.LANE_Q_STAT d q) F.LANE_Q_STAT_REF_PRESENT = ref := by
  obtain ⟨hmask, -⟩ := regMask_laneQuad hd hq
  constructor
  · rw [Dev.rdF_wrF_field _ _ _ _ _ (by decide) (by rw [hmask]; decide) (by decide), Dev.rdF_wrF_same _ _ _ _ (by decide) (by rw [hmask]; decide)]
    exact Nat.mod_eq_of_lt hlock
  · rw [Dev.rdF_wrF_same _ _ _ _ (by decide) (by rw [hmask]; decide)]
    exact Nat.mod_eq_of_lt href

/-- The registers of a quad PLL that has lost lock (R170). -/
theorem Dev.pllLost_shows (s : Dev) (ref : Bool) :
    (s.pllLost d q ref).rdF (Reg.LANE_Q_STAT d q) F.LANE_Q_STAT_PLL_LOCK = 0 ∧
      (s.pllLost d q ref).rdF (Reg.LANE_Q_STAT d q) F.LANE_Q_STAT_REF_PRESENT = b2n ref ∧
      ((s.pllLost d q ref).rd (Reg.LANE_Q_UNLOCK d q)).toNat = min ((s.rd (Reg.LANE_Q_UNLOCK d q)).toNat + 1) (2 ^ 32 - 1) := by
  have hne : Reg.LANE_Q_STAT d q ≠ Reg.LANE_Q_UNLOCK d q := by simp only [Reg.LANE_Q_STAT, Reg.LANE_Q_UNLOCK]; omega
  have hcause (t : Dev) (k : Nat) : (t.causeOn (Reg.LANE_Q_FLT_STAT d q) k).rd (Reg.LANE_Q_STAT d q) = t.rd (Reg.LANE_Q_STAT d q) :=
    Dev.quadCause_rd hd hq t k 0 (by decide)
  obtain ⟨hlock, href⟩ := Dev.quadStat_fields hd hq s 0 (b2n ref) (by decide) (Nat.lt_succ_of_le (b2n_le ref))
  unfold Dev.pllLost
  dsimp only
  refine ⟨?_, ?_, ?_⟩
  · rw [Dev.rdF, hcause, ← Dev.rdF, Dev.rdF_wr_other _ _ _ _ _ hne]
    exact hlock
  · rw [Dev.rdF, hcause, ← Dev.rdF, Dev.rdF_wr_other _ _ _ _ _ hne]
    exact href
  · rw [show Reg.LANE_Q_UNLOCK d q = Reg.cd d + 0x1C000 + 0x100 * q + 4 from rfl, Dev.quadCause_rd hd hq _ _ 4 (by decide),
      show Reg.cd d + 0x1C000 + 0x100 * q + 4 = Reg.LANE_Q_UNLOCK d q from rfl, Dev.rd_wr_same, (regMask_laneQuad hd hq).2,
      Dev.rd_wrF_other _ _ _ _ _ hne.symm, Dev.rd_wrF_other _ _ _ _ _ hne.symm, show (0xFFFFFFFF#32) = BitVec.allOnes 32 from rfl,
      BitVec.and_allOnes, BitVec.toNat_ofNat]
    exact Nat.mod_eq_of_lt (satAdd_lt 32 _ 1)

theorem Dev.pllLocked_shows (s : Dev) :
    (s.pllLocked d q).rdF (Reg.LANE_Q_STAT d q) F.LANE_Q_STAT_PLL_LOCK = 1 ∧
      (s.pllLocked d q).rdF (Reg.LANE_Q_STAT d q) F.LANE_Q_STAT_REF_PRESENT = 1 := by
  have hne : Reg.LANE_Q_STAT d q ≠ Reg.LANE_Q_FLT_STAT d q + 8 := by simp only [Reg.LANE_Q_STAT, Reg.LANE_Q_FLT_STAT]; omega
  have hcause (t : Dev) (f : Fld) : ((t.causeOff (Reg.LANE_Q_FLT_STAT d q) B.LANE_Q_PLL_UNLOCK).causeOff (Reg.LANE_Q_FLT_STAT d q)
      B.LANE_Q_REF_LOST).rdF (Reg.LANE_Q_STAT d q) f = t.rdF (Reg.LANE_Q_STAT d q) f :=
    (Dev.rdF_wr_other _ _ _ _ _ hne).trans (Dev.rdF_wr_other _ _ _ _ _ hne)
  obtain ⟨hlock, href⟩ := Dev.quadStat_fields hd hq s 1 1 (by decide) (by decide)
  exact ⟨(hcause _ _).trans hlock, (hcause _ _).trans href⟩

end

/-! ## The lanes of a quad PLL -/

theorem quadOf_of_mem {q m : Nat} (h : m ∈ lanesOfQuad q) : quadOf m = q := eq_of_beq (List.mem_filter.mp h).2

/-- The register of the unit of lane `m` stays as it is while another lane of the die works. -/
theorem Dev.laneWork.otherLane {d n m o : Nat} {s t : Dev} (h : s.laneWork (laneReg d n commandRegs) t) (hm : m < 10) (hne : m ≠ n)
    (ho : o < 0x100) : t.rd (Reg.cd d + 0x10000 + 0x1000 * m + o) = s.rd (Reg.cd d + 0x10000 + 0x1000 * m + o) :=
  h.rd _ (not_laneReg_other hm hne (by decide) ho)

theorem not_quadReg_lane {d q m o : Nat} (hm : m < 10) (hd : d < 2) (ho : o < 0x100) :
    ¬ quadReg d q (Reg.cd d + 0x10000 + 0x1000 * m + o) := by
  have hcd : 0x1000000 ≤ Reg.cd d := by unfold Reg.cd; omega
  rintro ((h | h) | h)
  · simp only [Reg.VSP_EVT_HOLD] at h; omega
  · omega
  · omega

section
variable {d q pll : Nat} (hq : q < 3) {f : Dev → Nat → Dev} {next : Nat → Nat → Nat}
  (hagain : ∀ st use, next (next st use) use = next st use)
  (hwork : ∀ s, ∀ n ∈ lanesOfQuad q, Dev.laneWork (laneReg d n commandRegs) s (f s n))
  (hstep : ∀ s, ∀ n ∈ lanesOfQuad q, s.rdF (Reg.LANE_Q_STAT d q) F.LANE_Q_STAT_PLL_LOCK = pll →
    (f s n).laneState d n = next (s.laneState d n) (s.rdF (Reg.LANE_CFG d n) F.LANE_CFG_USE))
include hq hagain hwork hstep

/-- A step that takes lanes of a quad to `next` of their STATE and USE, where a second such step changes nothing. -/
theorem Dev.forAll_laneState {m : Nat} (hm : m ∈ lanesOfQuad q) (l : List Nat) (hl : ∀ n ∈ l, n ∈ lanesOfQuad q) (s : Dev)
    (hpll : s.rdF (Reg.LANE_Q_STAT d q) F.LANE_Q_STAT_PLL_LOCK = pll) : (forAll l s f).laneState d m =
      if m ∈ l then next (s.laneState d m) (s.rdF (Reg.LANE_CFG d m) F.LANE_CFG_USE) else s.laneState d m := by
  induction l generalizing s with
  | nil => rfl
  | cons n l ih =>
    have hn := hl n List.mem_cons_self
    have hquad : (f s n).rd (Reg.LANE_Q_STAT d q) = s.rd (Reg.LANE_Q_STAT d q) := (hwork s n hn).laneQuad (lanesOfQuad_lt hn) hq rfl
    refine (ih (fun b hb => hl b (List.mem_cons_of_mem n hb)) (f s n) ((congrArg (fget · _) hquad).trans hpll)).trans ?_
    by_cases hmn : m = n
    · subst hmn
      have hcfg : (f s m).rdF (Reg.LANE_CFG d m) F.LANE_CFG_USE = s.rdF (Reg.LANE_CFG d m) F.LANE_CFG_USE :=
        congrArg (fget · _) ((hwork s m hn).own (lanesOfQuad_lt hn) (o := 0) rfl)
      rw [if_pos List.mem_cons_self, hcfg, hstep s m hn hpll, hagain, ite_self]
    · have hcfg : (f s n).rdF (Reg.LANE_CFG d m) F.LANE_CFG_USE = s.rdF (Reg.LANE_CFG d m) F.LANE_CFG_USE :=
        congrArg (fget · _) ((hwork s n hn).otherLane (lanesOfQuad_lt hm) hmn (o := 0) (by decide))
      have hstat : (f s n).laneState d m = s.laneState d m :=
        congrArg (fget · _) ((hwork s n hn).otherLane (lanesOfQuad_lt hm) hmn (o := 8) (by decide))
      rw [hcfg, hstat]
      simp only [List.mem_cons, hmn, false_or]

/-- Over all lanes of the quad; the quad PLL stays as it is. -/
theorem Dev.quadLanes_state (s : Dev) (hpll : s.rdF (Reg.LANE_Q_STAT d q) F.LANE_Q_STAT_PLL_LOCK = pll) :
    (∀ f', (forAll (lanesOfQuad q) s f).rdF (Reg.LANE_Q_STAT d q) f' = s.rdF (Reg.LANE_Q_STAT d q) f') ∧
    (forAll (lanesOfQuad q) s f).rd (Reg.LANE_Q_UNLOCK d q) = s.rd (Reg.LANE_Q_UNLOCK d q) ∧
      ∀ m ∈ lanesOfQuad q, (forAll (lanesOfQuad q) s f).laneState d m = next (s.laneState d m) (s.rdF (Reg.LANE_CFG d m) F.LANE_CFG_USE) := by
  have hquad (t : Dev) (n : Nat) (hn : n ∈ lanesOfQuad q) (o : Nat) (ho : o < 0x100) : (f t n).rd (Reg.cd d + 0x1C000 + 0x100 * q + o) =
      t.rd (Reg.cd d + 0x1C000 + 0x100 * q + o) := (hwork t n hn).rd _ (not_laneReg_quad (lanesOfQuad_lt hn) hq (by decide) ho)
  refine ⟨fun f' => congrArg (fget · f') (forAll_keeps_of_mem (Dev.rd · (Reg.LANE_Q_STAT d q)) (fun t n hn => hquad t n hn 0 (by decide)) s),
    forAll_keeps_of_mem (Dev.rd · (Reg.LANE_Q_UNLOCK d q)) (fun t n hn => hquad t n hn 4 (by decide)) s, fun m hm => ?_⟩
  exact (Dev.forAll_laneState hq hagain hwork hstep hm _ (fun _ h => h) s hpll).trans (if_pos hm)

end

section
variable (s : Dev) {d n : Nat} (hd : d < 2) (hn : n < 10)
include hd hn

/-- A lane of a quad without lock waits for it, or is in OFF (R170). -/
theorem Dev.laneWaitPll_state (hpll : s.rdF (Reg.LANE_Q_STAT d (quadOf n)) F.LANE_Q_STAT_PLL_LOCK = 0) :
    (s.laneWaitPll d n).laneState d n = if s.laneState d n = 0 ∨ s.rdF (Reg.LANE_CFG d n) F.LANE_CFG_USE = 0 then 0 else 1 := by
  have hquad : quadOf n < 3 := by unfold quadOf; omega
  have hseq (t : Dev) (huse : t.rd (Reg.LANE_CFG d n) = s.rd (Reg.LANE_CFG d n))
      (hq : t.rd (Reg.LANE_Q_STAT d (quadOf n)) = s.rd (Reg.LANE_Q_STAT d (quadOf n))) (h0 : s.laneState d n ≠ 0) :
      (t.startSeq d n false false).laneState d n = if s.laneState d n = 0 ∨ s.rdF (Reg.LANE_CFG d n) F.LANE_CFG_USE = 0 then 0 else 1 := by
    rw [t.startSeq_state hd hn, Dev.rdF, Dev.rdF, huse, hq, ← Dev.rdF, ← Dev.rdF, hpll]
    simp only [h0, false_or, if_true]
  by_cases h0 : s.laneState d n = 0
  · rw [show s.laneWaitPll d n = s from if_pos h0, if_pos (.inl h0), h0]
  by_cases h3 : s.laneState d n = 3
  · have hlost : s.laneWaitPll d n = s.loseLock d n .refclk [] := (if_neg h0).trans (if_pos (.inl h3))
    rw [hlost, (s.loseLock_losesLock hd hn .refclk [] h3).state, hpll]
    simp only [h0, false_or, if_true]
  by_cases h5 : s.laneState d n = 5
  · have hlost : s.laneWaitPll d n = ((s.recordLoss d n .refclk []).endLoopback d n 8).startSeq d n false false :=
      ((if_neg h0).trans (if_pos (.inr h5))).trans ((if_neg h3).trans (if_pos h5))
    have hrec := s.recordLoss_laneWork hd hn .refclk []
    have hend := (s.recordLoss d n .refclk []).endLoopback_laneWork (d := d) (n := n) 8
    rw [hlost]
    exact hseq _ ((hend.own hn (o := 0) rfl).trans (hrec.own hn (o := 0) rfl))
      ((hend.laneQuad hn hquad rfl).trans (hrec.laneQuad hn hquad rfl)) h0
  · have hstart : s.laneWaitPll d n = s.startSeq d n false false := (if_neg h0).trans (if_neg (by omega))
    rw [hstart]
    exact hseq s rfl rfl h0

theorem Dev.laneRelock_state (hpll : s.rdF (Reg.LANE_Q_STAT d (quadOf n)) F.LANE_Q_STAT_PLL_LOCK = 1) :
    (s.laneRelock d n).laneState d n =
      if s.laneState d n = 1 then (if s.rdF (Reg.LANE_CFG d n) F.LANE_CFG_USE = 0 then 0 else 2) else s.laneState d n := by
  unfold Dev.laneRelock
  split
  · rw [s.startSeq_state hd hn, hpll]
    rfl
  · rfl

end

/-- STATE of a lane of a quad after its PLL has lost lock (R170). -/
def stateAtLoss (st use : Nat) : Nat := if st = 0 ∨ use = 0 then 0 else 1

/-- STATE of a lane of a quad after the relock of its PLL (R170). -/
def stateAtRelock (st use : Nat) : Nat := if st = 1 then (if use = 0 then 0 else 2) else st

theorem stateAtLoss_again (st use : Nat) : stateAtLoss (stateAtLoss st use) use = stateAtLoss st use := by
  unfold stateAtLoss
  split <;> simp_all

theorem stateAtRelock_again (st use : Nat) : stateAtRelock (stateAtRelock st use) use = stateAtRelock st use := by
  unfold stateAtRelock
  split
  · split <;> rfl
  · rfl

section
variable (s : Dev) {d q : Nat} (hd : d < 2) (hq : q < 3)
include hd hq

theorem Dev.quadLoss_shows (ref : Bool) :
    (s.quadLoss d q ref).rdF (Reg.LANE_Q_STAT d q) F.LANE_Q_STAT_PLL_LOCK = 0 ∧
      (s.quadLoss d q ref).rdF (Reg.LANE_Q_STAT d q) F.LANE_Q_STAT_REF_PRESENT = b2n ref ∧
      ((s.quadLoss d q ref).rd (Reg.LANE_Q_UNLOCK d q)).toNat = min ((s.rd (Reg.LANE_Q_UNLOCK d q)).toNat + 1) (2 ^ 32 - 1) ∧
      ∀ m ∈ lanesOfQuad q, (s.quadLoss d q ref).laneState d m =
        if s.laneState d m = 0 ∨ s.rdF (Reg.LANE_CFG d m) F.LANE_CFG_USE = 0 then 0 else 1 := by
  obtain ⟨hlock, href, hcount⟩ := Dev.pllLost_shows hd hq s ref
  have hwork := s.pllLost_laneWork hd hq ref
  have hlane (m o : Nat) (hm : m ∈ lanesOfQuad q) (ho : o < 0x100) : (s.pllLost d q ref).rd (Reg.cd d + 0x10000 + 0x1000 * m + o) =
      s.rd (Reg.cd d + 0x10000 + 0x1000 * m + o) := hwork.rd _ (not_quadReg_lane (lanesOfQuad_lt hm) hd ho)
  obtain ⟨hquad, hunlock, hstate⟩ := Dev.quadLanes_state hq stateAtLoss_again
    (fun t n hn => t.laneWaitPll_commands hd (lanesOfQuad_lt hn))
    (fun t n hn ht => t.laneWaitPll_state hd (lanesOfQuad_lt hn) (by rw [quadOf_of_mem hn]; exact ht)) (s.pllLost d q ref) hlock
  rw [Dev.quadLoss_eq]
  refine ⟨(hquad _).trans hlock, (hquad _).trans href, (congrArg BitVec.toNat hunlock).trans hcount, fun m hm => (hstate m hm).trans ?_⟩
  rw [Dev.laneState, Dev.rdF, Dev.rdF, hlane m 8 hm (by decide), hlane m 0 hm (by decide)]
  rfl

theorem Dev.quadRelock_shows :
    (s.quadRelock d q).rdF (Reg.LANE_Q_STAT d q) F.LANE_Q_STAT_PLL_LOCK = 1 ∧
      (s.quadRelock d q).rdF (Reg.LANE_Q_STAT d q) F.LANE_Q_STAT_REF_PRESENT = 1 ∧
      ∀ m ∈ lanesOfQuad q, (s.quadRelock d q).laneState d m =
        if s.laneState d m = 1 then (if s.rdF (Reg.LANE_CFG d m) F.LANE_CFG_USE = 0 then 0 else 2) else s.laneState d m := by
  obtain ⟨hlock, href⟩ := Dev.pllLocked_shows hd hq s
  have hwork := s.pllLocked_laneWork (d := d) (q := q)
  have hlane (m o : Nat) (hm : m ∈ lanesOfQuad q) (ho : o < 0x100) : (s.pllLocked d q).rd (Reg.cd d + 0x10000 + 0x1000 * m + o) =
      s.rd (Reg.cd d + 0x10000 + 0x1000 * m + o) := hwork.rd _ (not_quadReg_lane (lanesOfQuad_lt hm) hd ho)
  obtain ⟨hquad, -, hstate⟩ := Dev.quadLanes_state hq stateAtRelock_again
    (fun t n hn => t.laneRelock_commands hd (lanesOfQuad_lt hn))
    (fun t n hn ht => t.laneRelock_state hd (lanesOfQuad_lt hn) (by rw [quadOf_of_mem hn]; exact ht)) (s.pllLocked d q) hlock
  rw [Dev.quadRelock_eq]
  refine ⟨(hquad _).trans hlock, (hquad _).trans href, fun m hm => (hstate m hm).trans ?_⟩
  rw [Dev.laneState, Dev.rdF, Dev.rdF, hlane m 8 hm (by decide), hlane m 0 hm (by decide)]
  rfl

end
end Sys2Proof.Machine
end

section
/-! SUPPORT. Filler sets received and sent by a lane (R156, R157, R159, R163, R168, R173). -/

namespace Sys2Proof.Machine

section
variable (s : Dev) {d n : Nat} (x : List Sym) (mism : Bool)

/-! ## Data received -/

theorem Dev.dataRx_early (h : s.laneState d n = 2) (hp : s.rdF (Reg.LANE_STAT d n) F.LANE_STAT_PHASE < 2) : s.dataRx d n x mism = s := by
  unfold Dev.dataRx
  rw [h]
  exact if_pos hp

/-- The lane once its checker has taken the data symbols of a block (R159). -/
def Dev.checked (s : Dev) (d n : Nat) (x : List Sym) : Dev :=
  s.setLane d n { s.lane d n with tr := { (s.lane d n).tr with rx := (s.lane d n).tr.rx.takeAll (patGen 1) 0#32 x } }

theorem Dev.dataRx_block (h : s.laneState d n = 2) (hp : 2 ≤ s.rdF (Reg.LANE_STAT d n) F.LANE_STAT_PHASE) :
    s.dataRx d n x mism = (s.checked d n x).blockEnd d n mism := by
  unfold Dev.dataRx
  rw [h]
  exact if_neg (by omega)

theorem Dev.dataRx_locked (h : s.laneState d n = 3) : s.dataRx d n x mism = s.addR (Reg.LANE_SYMERR d n) (symErrors x) := by
  unfold Dev.dataRx
  rw [h]
  rfl

theorem Dev.dataRx_loop (h : s.laneState d n = 5) : s.dataRx d n x mism = s ∨ s.dataRx d n x mism = s.loopRx d n x := by
  unfold Dev.dataRx
  rw [h]
  exact ite_eq_or_eq _ _ _

theorem Dev.dataRx_idle (h2 : s.laneState d n ≠ 2) (h3 : s.laneState d n ≠ 3) (h5 : s.laneState d n ≠ 5) : s.dataRx d n x mism = s := by
  unfold Dev.dataRx
  split
  · contradiction
  · contradiction
  · contradiction
  · rfl

theorem Dev.startSeq_dataRx (hd : d < 2) (hn : n < 10) (full auto : Bool) :
    (s.startSeq d n full auto).dataRx d n x mism = s.startSeq d n full auto := by
  have hle := s.startSeq_state_le hd hn full auto
  by_cases h2 : (s.startSeq d n full auto).laneState d n = 2
  · have hstate := s.startSeq_state hd hn full auto
    rw [h2] at hstate
    split at hstate
    · cases hstate
    · next huse =>
      split at hstate
      · cases hstate
      · next hpll =>
        refine Dev.dataRx_early _ x mism h2 ?_
        rw [(s.startSeq_trains hd hn full auto huse hpll).1.phase]
        decide
  · exact Dev.dataRx_idle _ x mism h2 (by omega) (by omega)

/-! ## The fill of the elastic buffer -/

theorem Dev.searchBlock_fill (isRx : Bool) : ((s.searchBlock d n isRx mism).lane d n).fill = (s.lane d n).fill := by
  have hset (u : LaneH) (h : u.fill = (s.lane d n).fill) : ((s.setLane d n u).lane d n).fill = (s.lane d n).fill := by
    rw [Dev.setLane_lane_same, h]
  unfold Dev.searchBlock
  dsimp only
  split
  · exact hset _ rfl
  · split
    · split
      · exact hset _ rfl
      · exact hset _ rfl
    · split
      · exact hset _ rfl
      · exact hset _ rfl

theorem Dev.loopRx_fill : ((s.loopRx d n x).lane d n).fill = (s.lane d n).fill := by
  unfold Dev.loopRx
  dsimp only
  split
  · rw [Dev.wrF_lane, Dev.wr_lane, Dev.setLane_lane_same]
  · rw [Dev.wr_lane, Dev.setLane_lane_same]

/-- The search of a block in EQ_RX or EQ_TX, before the checker begins the next block. -/
def Dev.blockSearch (s : Dev) (d n : Nat) (mism : Bool) : Dev :=
  match s.rdF (Reg.LANE_STAT d n) F.LANE_STAT_PHASE with
  | 2 => if (s.lane d n).tr.results.length < 16 then s.searchBlock d n true mism else s
  | 3 => if (s.lane d n).tr.results.length < 8 then s.searchBlock d n false mism else s
  | 4 => s.confirmBlock d n
  | _ => s

theorem Dev.blockEnd_lane : ((s.blockEnd d n mism).lane d n).fill = ((s.blockSearch d n mism).lane d n).fill ∧
    ((s.blockEnd d n mism).lane d n).tr.blk = ((s.blockSearch d n mism).lane d n).tr.blk ∧ ((s.blockEnd d n mism).lane d n).tr.rx.errs = 0 := by
  unfold Dev.blockEnd
  dsimp only
  rw [Dev.setLane_lane_same]
  exact ⟨rfl, rfl, rfl⟩

theorem Dev.blockSearch_fill (h : s.rdF (Reg.LANE_STAT d n) F.LANE_STAT_PHASE ≠ 4) :
    ((s.blockSearch d n mism).lane d n).fill = (s.lane d n).fill := by
  unfold Dev.blockSearch
  split
  · split
    · exact s.searchBlock_fill mism true
    · rfl
  · split
    · exact s.searchBlock_fill mism false
    · rfl
  · contradiction
  · rfl

theorem Dev.dataRx_fill (h : ¬ (s.laneState d n = 2 ∧ s.rdF (Reg.LANE_STAT d n) F.LANE_STAT_PHASE = 4)) :
    ((s.dataRx d n x mism).lane d n).fill = (s.lane d n).fill := by
  by_cases h2 : s.laneState d n = 2
  · by_cases hp : s.rdF (Reg.LANE_STAT d n) F.LANE_STAT_PHASE < 2
    · rw [s.dataRx_early x mism h2 hp]
    · rw [s.dataRx_block x mism h2 (by omega), (Dev.blockEnd_lane _ mism).1,
        Dev.blockSearch_fill (s.checked d n x) mism fun h4 => h ⟨h2, h4⟩, Dev.checked, Dev.setLane_lane_same]
  by_cases h3 : s.laneState d n = 3
  · rw [s.dataRx_locked x mism h3]
    rfl
  by_cases h5 : s.laneState d n = 5
  · obtain e | e := s.dataRx_loop x mism h5
    · rw [e]
    · rw [e, s.loopRx_fill]
  · rw [s.dataRx_idle x mism h2 h3 h5]

/-- A block of a setting that is not its last only counts (R163). -/
theorem Dev.searchBlock_counts (hblk : (s.lane d n).tr.blk < 79) :
    ((s.searchBlock d n true mism).lane d n).tr.blk = (s.lane d n).tr.blk + 1 ∧ ∀ b, (s.searchBlock d n true mism).rd b = s.rd b := by
  have hmore : (s.lane d n).tr.blk + 1 < (searchBlocks true).1 := Nat.succ_lt_succ hblk
  unfold Dev.searchBlock
  dsimp only
  rw [if_pos hmore, Dev.setLane_lane_same]
  exact ⟨rfl, fun _ => rfl⟩

theorem Dev.dataRx_eqBlock (h : s.laneState d n = 2) (hp : s.rdF (Reg.LANE_STAT d n) F.LANE_STAT_PHASE = 2)
    (hlen : (s.lane d n).tr.results.length < 16) (hblk : (s.lane d n).tr.blk < 79) :
    ((s.dataRx d n x mism).lane d n).tr.blk = (s.lane d n).tr.blk + 1 ∧ ((s.dataRx d n x mism).lane d n).tr.rx.errs = 0 ∧
      (s.dataRx d n x mism).rdF (Reg.LANE_STAT d n) F.LANE_STAT_PHASE = 2 := by
  have htr : ((s.checked d n x).lane d n).tr.results = (s.lane d n).tr.results ∧
      ((s.checked d n x).lane d n).tr.blk = (s.lane d n).tr.blk := by
    rw [Dev.checked, Dev.setLane_lane_same]
    exact ⟨rfl, rfl⟩
  obtain ⟨hresults, hcount⟩ := htr
  have hsearch : (s.checked d n x).blockSearch d n mism = (s.checked d n x).searchBlock d n true mism := by
    unfold Dev.blockSearch
    rw [show (s.checked d n x).rdF (Reg.LANE_STAT d n) F.LANE_STAT_PHASE = 2 from hp]
    exact if_pos (by rw [hresults]; exact hlen)
  obtain ⟨-, hblock, herrs⟩ := (s.checked d n x).blockEnd_lane (d := d) (n := n) mism
  obtain ⟨hone, hrd⟩ := (s.checked d n x).searchBlock_counts (d := d) (n := n) mism (by rw [hcount]; exact hblk)
  rw [s.dataRx_block x mism h (by omega)]
  refine ⟨?_, herrs, ?_⟩
  · rw [hblock, hsearch, hone, hcount]
  · have hstat : ((s.checked d n x).blockEnd d n mism).rd (Reg.LANE_STAT d n) = ((s.checked d n x).blockSearch d n mism).rd (Reg.LANE_STAT d n) := rfl
    rw [Dev.rdF, hstat, hsearch, hrd]
    exact hp

end

/-! ## The elastic buffer -/

theorem regMask_laneRmcnt {d n : Nat} (hd : d < 2) (hn : n < 10) : regMask (Reg.LANE_RMCNT d n) = 0xFFFFFFFF#32 :=
  (by decide : ∀ (d : Die) (n : LaneIx), regMask (Reg.LANE_RMCNT d n) = 0xFFFFFFFF#32) ⟨d, hd⟩ ⟨n, hn⟩

/-- A filler set that the elastic buffer holds: the fill it leaves, and what it counts (R157). -/
structure Dev.matches (s t : Dev) (d n skp : Nat) (f : Int) : Prop where
  fill : ((t.lane d n).fill : Int) = if 17 < f ∧ 2 ≤ skp then f - 1 else if f < 15 then f + 1 else f
  deleted : t.rdF (Reg.LANE_RMCNT d n) F.LANE_RMCNT_DELETED =
    (s.rdF (Reg.LANE_RMCNT d n) F.LANE_RMCNT_DELETED + if 17 < f ∧ 2 ≤ skp then 1 else 0) % 2 ^ F.LANE_RMCNT_DELETED.len
  inserted : t.rdF (Reg.LANE_RMCNT d n) F.LANE_RMCNT_INSERTED =
    (s.rdF (Reg.LANE_RMCNT d n) F.LANE_RMCNT_INSERTED + if f < 15 then 1 else 0) % 2 ^ F.LANE_RMCNT_INSERTED.len
  tr : (t.lane d n).tr = (s.lane d n).tr
  kept : s.laneWork (laneReg d n [0x20, 0x38, 0x3C]) t

section
variable (s : Dev) {d n : Nat} (hd : d < 2) (hn : n < 10)
include hd hn

theorem Dev.rateMatch_matches (skp : Nat) {drift : Int} (hlo : 0 ≤ ((s.lane d n).fill : Int) + drift)
    (hhi : ((s.lane d n).fill : Int) + drift ≤ 32) : s.matches (s.rateMatch d n skp drift) d n skp (((s.lane d n).fill : Int) + drift) := by
  have hmask := regMask_laneRmcnt hd hn
  have hs := Dev.laneWork.refl (P := laneReg d n [0x20, 0x38, 0x3C]) s
  have hzero (f : Fld) : s.rdF (Reg.LANE_RMCNT d n) f = (s.rdF (Reg.LANE_RMCNT d n) f + 0) % 2 ^ f.len :=
    (Nat.mod_eq_of_lt (fget_lt _ _)).symm
  have hcounted (f : Fld) (hf : f.lo + f.len ≤ 32) (hm : 0xFFFFFFFF#32 &&& f.mask = f.mask) :
      (s.addF (Reg.LANE_RMCNT d n) f 1).rdF (Reg.LANE_RMCNT d n) f = (s.rdF (Reg.LANE_RMCNT d n) f + 1) % 2 ^ f.len :=
    Dev.rdF_wrF_same _ _ _ _ hf (by rw [hmask]; exact hm)
  have hother (f g : Fld) (hg : g.lo + g.len ≤ 32) (hm : 0xFFFFFFFF#32 &&& g.mask = g.mask) (h : f.lo + f.len ≤ g.lo ∨ g.lo + g.len ≤ f.lo) :
      (s.addF (Reg.LANE_RMCNT d n) f 1).rdF (Reg.LANE_RMCNT d n) g = (s.rdF (Reg.LANE_RMCNT d n) g + 0) % 2 ^ g.len :=
    (Dev.rdF_wrF_field _ _ _ _ _ hg (by rw [hmask]; exact hm) h).trans (hzero g)
  obtain ⟨k, hk⟩ := Int.eq_ofNat_of_zero_le hlo
  have hin : s.rateMatch d n skp drift =
      if 17 < k ∧ 2 ≤ skp then (s.addF (Reg.LANE_RMCNT d n) F.LANE_RMCNT_DELETED 1).setLane d n { s.lane d n with fill := k - 1 }
      else if k < 15 then (s.addF (Reg.LANE_RMCNT d n) F.LANE_RMCNT_INSERTED 1).setLane d n { s.lane d n with fill := k + 1 }
      else s.setLane d n { s.lane d n with fill := k } := by
    unfold Dev.rateMatch
    dsimp only
    rw [if_neg (by omega), hk]
    rfl
  have hset (t : Dev) (v : LaneH) : (t.setLane d n v).lane d n = v := Dev.setLane_lane_same _ _ _ _
  rw [hin, hk]
  by_cases hdel : 17 < k ∧ 2 ≤ skp
  · have hdel' : 17 < (k : Int) ∧ 2 ≤ skp := ⟨by omega, hdel.2⟩
    have hins : ¬ (k : Int) < 15 := by omega
    rw [if_pos hdel]
    exact
      { fill := by rw [hset, if_pos hdel']; dsimp only; omega
        deleted := by rw [if_pos hdel']; exact hcounted _ (by decide) (by decide)
        inserted := by rw [if_neg hins]; exact hother _ _ (by decide) (by decide) (by decide)
        tr := by rw [hset]
        kept := (hs.wrOwn 0x20 _ rfl).setLane d n _ }
  have hdel' : ¬ (17 < (k : Int) ∧ 2 ≤ skp) := by omega
  rw [if_neg hdel]
  by_cases hins : k < 15
  · have hins' : (k : Int) < 15 := by omega
    rw [if_pos hins]
    exact
      { fill := by rw [hset, if_neg hdel', if_pos hins']; rfl
        deleted := by rw [if_neg hdel']; exact hother _ _ (by decide) (by decide) (by decide)
        inserted := by rw [if_pos hins']; exact hcounted _ (by decide) (by decide)
        tr := by rw [hset]
        kept := (hs.wrOwn 0x20 _ rfl).setLane d n _ }
  · have hins' : ¬ (k : Int) < 15 := by omega
    rw [if_neg hins]
    exact
      { fill := by rw [hset, if_neg hdel', if_neg hins']
        deleted := by rw [if_neg hdel']; exact hzero _
        inserted := by rw [if_neg hins']; exact hzero _
        tr := by rw [hset]
        kept := hs.setLane d n _ }

end

/-! ## Filler sets received -/

section
variable (s : Dev) {d n : Nat} (skp : Nat) (drift : Int) (rx : RxSyms) (mism : Bool)

theorem Dev.fillerSet_ignored (h : s.laneState d n < 2 ∨ skp = 0) : s.fillerSet d n skp drift rx mism = s := if_pos h

/-- The lane once the elastic buffer has taken the filler set. -/
def Dev.buffered (s : Dev) (d n skp : Nat) (drift : Int) (rx : RxSyms) : Dev :=
  (s.commaSeen d n rx.pos (rawAfter rx skp)).rateMatch d n skp drift

theorem Dev.fillerSet_eq (h : 2 ≤ s.laneState d n) (hskp : skp ≠ 0) :
    s.fillerSet d n skp drift rx mism = (s.buffered d n skp drift rx).dataRx d n (symsOf rx) mism := if_neg (by omega)

variable (hd : d < 2) (hn : n < 10)
include hd hn

theorem Dev.buffered_matches (hlo : 0 ≤ ((s.lane d n).fill : Int) + drift) (hhi : ((s.lane d n).fill : Int) + drift ≤ 32) :
    s.matches (s.buffered d n skp drift rx) d n skp (((s.lane d n).fill : Int) + drift) := by
  generalize hu : s.commaSeen d n rx.pos (rawAfter rx skp) = u
  have hlane : u.lane d n = s.lane d n := by rw [← hu, Dev.commaSeen_lane]
  have hwork : s.laneWork (laneReg d n [0x20, 0x38, 0x3C]) u := hu ▸ (s.commaSeen_laneWork rx.pos (rawAfter rx skp)).widen rfl
  have hcnt : u.rd (Reg.LANE_RMCNT d n) = s.rd (Reg.LANE_RMCNT d n) := by
    rw [← hu]
    exact (s.commaSeen_laneWork rx.pos (rawAfter rx skp)).own hn (o := 0x20) rfl
  obtain ⟨hfill, hdel, hins, htr, hkept⟩ := u.rateMatch_matches hd hn skp (drift := drift) (by rw [hlane]; exact hlo) (by rw [hlane]; exact hhi)
  rw [hlane] at hfill hdel hins htr
  rw [Dev.buffered, hu]
  exact ⟨hfill, by rw [hdel, Dev.rdF, hcnt, ← Dev.rdF], by rw [hins, Dev.rdF, hcnt, ← Dev.rdF], htr, hwork.trans hkept⟩

section
variable (hlo : 0 ≤ ((s.lane d n).fill : Int) + drift) (hhi : ((s.lane d n).fill : Int) + drift ≤ 32)
include hlo hhi

theorem Dev.buffered_stat : (s.buffered d n skp drift rx).rd (Reg.LANE_STAT d n) = s.rd (Reg.LANE_STAT d n) :=
  (s.buffered_matches skp drift rx hd hn hlo hhi).kept.own hn (o := 8) rfl

theorem Dev.buffered_state : (s.buffered d n skp drift rx).laneState d n = s.laneState d n :=
  congrArg (fget · _) (s.buffered_stat skp drift rx hd hn hlo hhi)

/-- A filler set within the elastic buffer moves the fill, and counts what it deletes or inserts (R157). -/
theorem Dev.fillerSet_fills (h : 2 ≤ s.laneState d n) (hskp : skp ≠ 0)
    (hp : ¬ (s.laneState d n = 2 ∧ s.rdF (Reg.LANE_STAT d n) F.LANE_STAT_PHASE = 4)) :
    ((((s.fillerSet d n skp drift rx mism).lane d n).fill : Int) = if 17 < ((s.lane d n).fill : Int) + drift ∧ 2 ≤ skp then
        ((s.lane d n).fill : Int) + drift - 1 else if ((s.lane d n).fill : Int) + drift < 15 then ((s.lane d n).fill : Int) + drift + 1
        else ((s.lane d n).fill : Int) + drift) ∧
      (s.fillerSet d n skp drift rx mism).rdF (Reg.LANE_RMCNT d n) F.LANE_RMCNT_DELETED = (s.rdF (Reg.LANE_RMCNT d n)
        F.LANE_RMCNT_DELETED + if 17 < ((s.lane d n).fill : Int) + drift ∧ 2 ≤ skp then 1 else 0) % 2 ^ F.LANE_RMCNT_DELETED.len ∧
      (s.fillerSet d n skp drift rx mism).rdF (Reg.LANE_RMCNT d n) F.LANE_RMCNT_INSERTED = (s.rdF (Reg.LANE_RMCNT d n)
        F.LANE_RMCNT_INSERTED + if ((s.lane d n).fill : Int) + drift < 15 then 1 else 0) % 2 ^ F.LANE_RMCNT_INSERTED.len := by
  obtain ⟨hfill, hdel, hins, -, -⟩ := s.buffered_matches skp drift rx hd hn hlo hhi
  have hstat := s.buffered_stat skp drift rx hd hn hlo hhi
  have hphase : ¬ ((s.buffered d n skp drift rx).laneState d n = 2 ∧
      (s.buffered d n skp drift rx).rdF (Reg.LANE_STAT d n) F.LANE_STAT_PHASE = 4) := by
    rw [Dev.laneState, Dev.rdF, Dev.rdF, hstat]
    exact hp
  have hcnt := ((s.buffered d n skp drift rx).dataRx_laneWork hd hn (symsOf rx) mism).own hn (o := 0x20) rfl
  rw [s.fillerSet_eq skp drift rx mism h hskp]
  refine ⟨?_, (congrArg (fget · _) hcnt).trans hdel, (congrArg (fget · _) hcnt).trans hins⟩
  rw [Dev.dataRx_fill _ _ mism hphase]
  exact hfill

theorem Dev.fillerSet_locked (h : s.laneState d n = 3) (hskp : skp ≠ 0) :
    (s.fillerSet d n skp drift rx mism).rd (Reg.LANE_SYMERR d n) =
      s.rd (Reg.LANE_SYMERR d n) + BitVec.ofNat 32 (symErrors (symsOf rx)) ∧ (s.fillerSet d n skp drift rx mism).laneState d n = 3 := by
  have hstate := s.buffered_state skp drift rx hd hn hlo hhi
  have hkept := (s.buffered_matches skp drift rx hd hn hlo hhi).kept
  have hcounts := (Dev.laneWork.refl (P := laneReg d n [0x14]) (s.buffered d n skp drift rx)).wrOwn 0x14
    ((s.buffered d n skp drift rx).rd (Reg.LANE_SYMERR d n) + BitVec.ofNat 32 (symErrors (symsOf rx))) rfl
  rw [s.fillerSet_eq skp drift rx mism (by omega) hskp, Dev.dataRx_locked _ _ mism (hstate.trans h)]
  refine ⟨?_, (congrArg (fget · _) (hcounts.own hn (o := 8) rfl)).trans (hstate.trans h)⟩
  rw [Dev.addSymerr_rd hd hn, hkept.own hn (o := 0x14) rfl]

/-- A filler set closes a block of a setting that is not its last (R163). -/
theorem Dev.fillerSet_eqBlock (h : s.laneState d n = 2) (hp : s.rdF (Reg.LANE_STAT d n) F.LANE_STAT_PHASE = 2) (hskp : skp ≠ 0)
    (hlen : (s.lane d n).tr.results.length < 16) (hblk : (s.lane d n).tr.blk < 79) :
    ((s.fillerSet d n skp drift rx mism).lane d n).tr.blk = (s.lane d n).tr.blk + 1 ∧
      ((s.fillerSet d n skp drift rx mism).lane d n).tr.rx.errs = 0 ∧
      (s.fillerSet d n skp drift rx mism).rdF (Reg.LANE_STAT d n) F.LANE_STAT_PHASE = 2 := by
  have htr := (s.buffered_matches skp drift rx hd hn hlo hhi).tr
  have hblock := (s.buffered d n skp drift rx).dataRx_eqBlock (symsOf rx) mism ((s.buffered_state skp drift rx hd hn hlo hhi).trans h)
    ((congrArg (fget · _) (s.buffered_stat skp drift rx hd hn hlo hhi)).trans hp) (by rw [htr]; exact hlen) (by rw [htr]; exact hblk)
  rw [htr] at hblock
  rw [s.fillerSet_eq skp drift rx mism (by omega) hskp]
  exact hblock

end

/-- A filler set beyond the elastic buffer of a LOCKED lane is a loss of lock with LOSS 3 (R157, R168). -/
theorem Dev.fillerSet_overflows (h : s.laneState d n = 3) (hskp : skp ≠ 0)
    (hout : ((s.lane d n).fill : Int) + drift < 0 ∨ 32 < ((s.lane d n).fill : Int) + drift) :
    (s.fillerSet d n skp drift rx mism).rdF (Reg.LANE_CAUSE d n) F.LANE_CAUSE_LOSS = 3 ∧ (s.fillerSet d n skp drift rx mism).laneState d n ≠ 3 := by
  generalize hu : s.commaSeen d n rx.pos (rawAfter rx skp) = u
  have hlane : u.lane d n = s.lane d n := by rw [← hu, Dev.commaSeen_lane]
  have hlocked : u.laneState d n = 3 := by
    rw [← hu]
    exact (congrArg (fget · _) (s.commaSeen_stat _ _ hn)).trans h
  have hlost : s.buffered d n skp drift rx = u.loseLock d n .elastic [] := by
    rw [Dev.buffered, hu]
    exact if_pos (by rw [hlane]; exact hout)
  have hstart : u.loseLock d n .elastic [] = ((u.addR (Reg.LANE_SYMERR d n) (([.elastic].map lossErrors).sum)).recordLoss d n .elastic []).startSeq
      d n false false := if_pos hlocked
  obtain ⟨hloss, -, -, -, hstate⟩ := u.loseLock_losesLock hd hn .elastic [] hlocked
  rw [s.fillerSet_eq skp drift rx mism (by omega) hskp, hlost, hstart, Dev.startSeq_dataRx _ _ mism hd hn, ← hstart]
  refine ⟨hloss, ?_⟩
  rw [hstate]
  split
  · decide
  · split <;> decide

end

/-! ## Filler sets sent -/

section
variable (s : Dev) {d n : Nat}

/-- A transmitter in TRAIN, in LOCKED between packets, or in far-end loopback sends a filler set (R156). -/
theorem Dev.fillerOut_sends (h : s.laneState d n = 2 ∨ (s.laneState d n = 3 ∧ (s.lane d n).sending = false) ∨
    (s.laneState d n = 5 ∧ (s.lane d n).lb = 3)) : (s.fillerOut d n).out.head? = some (.lane d n .filler) := by
  unfold Dev.fillerOut
  dsimp only
  obtain h | ⟨h, hidle⟩ | ⟨h, hfar⟩ := h
  · simp only [h]
    split
    · rfl
    · split <;> rfl
  · rw [h, hidle]
    rfl
  · simp only [h, hfar]
    split <;> rfl

theorem Dev.fillerOut_silent (h : (s.laneState d n = 3 ∧ (s.lane d n).sending = true) ∨ (s.laneState d n = 5 ∧ (s.lane d n).lb ≠ 3) ∨
    s.laneState d n < 2 ∨ s.laneState d n = 4) : (s.fillerOut d n).out = s.out := by
  unfold Dev.fillerOut
  dsimp only
  obtain ⟨h, hbusy⟩ | ⟨h, hnear⟩ | h := h
  · rw [h, hbusy]
    rfl
  · have hpins : ((s.lane d n).lb == 3) = false := beq_false_of_ne hnear
    simp only [h, hpins]
    rw [if_neg fun hc => hnear hc.1, if_neg hnear]
    rfl
  · split
    · omega
    · omega
    · omega
    · rfl

end

/-! ## The statement -/

theorem exec_lossOfLock (d : Die) (n : LaneIx) (c : Losses) (s : State) :
    exec (.lossOfLock d n c) s = .next { s with dev := s.dev.loseLock d n c.first c.also } := rfl

theorem exec_laneRetry (d : Die) (n : LaneIx) (s : State) : exec (.laneRetry d n) s = .next { s with dev := s.dev.retryLane d n } := rfl

theorem exec_quadPllLoss (d : Die) (q : Fin 3) (ref : Bool) (s : State) :
    exec (.quadPllLoss d q ref) s = .next { s with dev := s.dev.quadLoss d q ref } := rfl

theorem exec_quadPllRelock (d : Die) (q : Fin 3) (s : State) :
    exec (.quadPllRelock d q) s = .next { s with dev := s.dev.quadRelock d q } := rfl

theorem exec_fillerSetRx (d : Die) (n : LaneIx) (k : Fin 9) (f : FillerRx) (s : State) :
    exec (.fillerSetRx d n k f) s = .next { s with dev := s.dev.fillerSet d n k f.drift f.rx f.mism } := rfl

theorem exec_fillerSend (d : Die) (n : LaneIx) (s : State) : exec (.fillerSend d n) s = .next { s with dev := s.dev.fillerOut d n } := rfl

/-- Settles O27: losses of lock by the state of the lane, quad PLLs over their lanes, and filler sets by the fill of the elastic buffer. -/
theorem lockAndRatesComplete : Obligations.LockAndRatesComplete := by
  intro d n c also q ref k drift rx mism s
  have hd := d.isLt
  have hn := n.isLt
  refine ⟨fun ⟨h, hpll, huse⟩ => ⟨_, exec_lossOfLock d n ⟨c, also⟩ s, ?_⟩,
    fun h => ⟨_, exec_lossOfLock d n ⟨c, also⟩ s, s.dev.loseLock_endsLoopback hd hn c also h⟩,
    fun ⟨h3, h5⟩ => ⟨_, exec_lossOfLock d n ⟨c, also⟩ s, ?_⟩,
    fun ⟨h, hretry, hpll, huse⟩ => ⟨_, exec_laneRetry d n s, ?_⟩,
    ⟨_, exec_quadPllLoss d q ref s, s.dev.quadLoss_shows hd q.isLt ref⟩,
    ⟨_, exec_quadPllRelock d q s, s.dev.quadRelock_shows hd q.isLt⟩,
    fun ⟨h, hp, hk, hlo, hhi⟩ =>
      ⟨_, exec_fillerSetRx d n k ⟨drift, rx, mism⟩ s, s.dev.fillerSet_fills k drift rx mism hd hn hlo hhi h (Fin.val_ne_of_ne hk) hp⟩,
    fun ⟨h, hk, hlo, hhi⟩ =>
      ⟨_, exec_fillerSetRx d n k ⟨drift, rx, mism⟩ s, s.dev.fillerSet_locked k drift rx mism hd hn hlo hhi h (Fin.val_ne_of_ne hk)⟩,
    fun ⟨h, hp, hlen, hblk, hk, hlo, hhi⟩ => ⟨_, exec_fillerSetRx d n k ⟨drift, rx, mism⟩ s,
      s.dev.fillerSet_eqBlock k drift rx mism hd hn hlo hhi h hp (Fin.val_ne_of_ne hk) hlen hblk⟩,
    fun ⟨h, hk, hout⟩ => ⟨_, exec_fillerSetRx d n k ⟨drift, rx, mism⟩ s,
      s.dev.fillerSet_overflows k drift rx mism hd hn h (Fin.val_ne_of_ne hk) hout⟩,
    fun h => ⟨_, exec_fillerSetRx d n k ⟨drift, rx, mism⟩ s, ?_⟩,
    fun h => ⟨_, exec_fillerSend d n s, s.dev.fillerOut_sends h⟩, fun h => ⟨_, exec_fillerSend d n s, s.dev.fillerOut_silent h⟩⟩
  · obtain ⟨hloss, hcount, hcause, hsym, hstate⟩ := s.dev.loseLock_losesLock hd hn c also h
    refine ⟨hloss, hcount, hcause, hsym, hstate.trans ?_⟩
    rw [if_neg huse, if_neg (by omega)]
  · rw [s.dev.loseLock_other c also h3 h5]
  · obtain ⟨htrains, hauto⟩ := s.dev.retryLane_trains hd hn h hretry (by omega) huse
    exact ⟨htrains.state, htrains.attempt, hauto⟩
  · rw [s.dev.fillerSet_ignored k drift rx mism (h.imp_right fun hk => congrArg Fin.val hk)]

end Sys2Proof.Machine
end

section
/-! SUPPORT. What input lanes leave aside: check-value units, consequential logs and fault status registers (R203, R294, R305, R310). -/

namespace Sys2Proof.Machine

/-- A register of a check-value unit or of a self-test log, VSP_EVT_HOLD, or a fault status register of a DRAM controller or of an
input lane. -/
def asideReg (b : Nat) : Prop :=
  b = Reg.VSP_EVT_HOLD ∨ ∃ e < 2, (Reg.cd e + 0xA0000 ≤ b ∧ b < Reg.cd e + 0xA0800) ∨ (Reg.cd e + 0xB0000 ≤ b ∧ b < Reg.cd e + 0xB0180) ∨
    b = Reg.DRC_FLT_STAT e ∨ b = Reg.LANE_IN_FLT_STAT e 8 ∨ b = Reg.LANE_IN_FLT_STAT e 9

theorem asideReg_crc {e u o : Nat} (he : e < 2) (hu : u < 8) (ho : o < 0x100) : asideReg (Reg.cd e + 0xA0000 + 0x100 * u + o) :=
  .inr ⟨e, he, .inl ⟨by omega, by omega⟩⟩

theorem asideReg_drc {e : Nat} (he : e < 2) : asideReg (Reg.DRC_FLT_STAT e) := .inr ⟨e, he, .inr (.inr (.inl rfl))⟩

theorem asideReg_input {e i : Nat} (he : e < 2) (hi : i < 2) : asideReg (Reg.LANE_IN_FLT_STAT e (8 + i)) := by
  refine .inr ⟨e, he, .inr (.inr (.inr ?_))⟩
  obtain rfl | rfl : i = 0 ∨ i = 1 := by omega
  · exact .inl rfl
  · exact .inr rfl

theorem faultReg_of_not_aside {b : Nat} (h : ¬ asideReg b) : faultReg b = false := by
  have hcq (e : Nat) (he : e < 2) : cqReg e b = false := cqReg_eq_false fun hc => h (.inr ⟨e, he, .inr (.inl hc)⟩)
  have hev : (b == Reg.VSP_EVT_HOLD) = false := beq_false_of_ne fun he => h (.inl he)
  rw [faultReg, hev, hcq 0 (by decide), hcq 1 (by decide)]
  rfl

/-- A register of a compositor die in none of those windows. -/
theorem not_asideReg_cd {e o : Nat} (hlo : o < 0x10000 ∨ 0x20000 ≤ o) (hcrc : o < 0xA0000 ∨ 0xA0800 ≤ o)
    (hlog : o < 0xB0000 ∨ 0xB0180 ≤ o) (hdrc : o ≠ 0x800C0) (hhi : o < 0x1000000) : ¬ asideReg (Reg.cd e + o) := by
  rintro (h | ⟨e', he', h⟩)
  · simp only [Reg.VSP_EVT_HOLD, Reg.cd] at h
    omega
  · simp only [Reg.DRC_FLT_STAT, Reg.LANE_IN_FLT_STAT, Reg.cd] at h
    omega

/-- A register of an input lane that is not its fault status register. -/
theorem not_asideReg_lane {e n o : Nat} (hn : n < 10) (ho : o < 0x1000) (hflt : o ≠ 0x230) :
    ¬ asideReg (Reg.cd e + 0x10000 + 0x1000 * n + o) := by
  rintro (h | ⟨e', he', h⟩)
  · simp only [Reg.VSP_EVT_HOLD, Reg.cd] at h
    omega
  · simp only [Reg.DRC_FLT_STAT, Reg.LANE_IN_FLT_STAT, Reg.cd] at h
    omega

/-- From `s` to `t` no register has changed but those aside, and no input and no half. -/
structure Dev.beside (s t : Dev) : Prop where
  work : s.laneWork asideReg t
  ins : t.ins = s.ins
  halves : t.halves = s.halves

section
variable {s t u : Dev}

theorem Dev.beside.refl (s : Dev) : s.beside s := ⟨.refl s, rfl, rfl⟩

theorem Dev.beside.trans (h : s.beside t) (g : t.beside u) : s.beside u := ⟨h.work.trans g.work, g.ins.trans h.ins, g.halves.trans h.halves⟩

theorem Dev.beside.ite {c : Prop} [Decidable c] (h : s.beside t) (g : s.beside u) : s.beside (if c then t else u) := by
  split <;> assumption

theorem Dev.beside.forAll {α : Type} {f : Dev → α → Dev} {l : List α} (h : ∀ s, ∀ a ∈ l, Dev.beside s (f s a)) (s : Dev) :
    s.beside (Machine.forAll l s f) :=
  ⟨.forAll (fun s a ha => (h s a ha).work) s, forAll_keeps_of_mem Dev.ins (fun s a ha => (h s a ha).ins) s,
    forAll_keeps_of_mem Dev.halves (fun s a ha => (h s a ha).halves) s⟩

variable (h : s.beside t)
include h

theorem Dev.beside.rd {b : Nat} (hb : ¬ asideReg b) : t.rd b = s.rd b := h.work.rd b hb

theorem Dev.beside.inp (d i : Nat) : t.inp d i = s.inp d i := by rw [Dev.inp, h.ins, Dev.inp]

theorem Dev.beside.half (d n : Nat) : t.half d n = s.half d n := by rw [Dev.half, h.halves, Dev.half]

theorem Dev.beside.pwr : t.pwr = s.pwr := by
  have ht : t = _ := h.work.rest
  rw [ht]

end

section
variable (s : Dev)

theorem Dev.raise_beside (a k : Nat) (ha : asideReg a) : s.beside (s.raise a k) :=
  ⟨.of_restEq (s.raise_eq a k) fun b hb => s.raise_rd a k b (faultReg_of_not_aside hb) (by rintro rfl; exact hb ha), s.raise_ins a k,
    s.raise_halves a k⟩

theorem Dev.brgSend_beside (d vc : Nat) : s.beside (s.brgSend d vc) :=
  ⟨.of_restEq (s.brgSend_eq d vc) fun b _ => s.brgSend_rd d vc b, s.brgSend_keeps Dev.ins (fun _ _ _ => rfl) d vc,
    s.brgSend_keeps Dev.halves (fun _ _ _ => rfl) d vc⟩

theorem Dev.crossWrite_beside (e : Nat) (l : List Nat) : s.beside (s.crossWrite e l) := .ite (s.brgSend_beside e 3) (.refl s)

theorem Dev.raiseRefused_beside {d : Nat} (hd : d < 2) (a n : Nat) (write staging : Bool) : s.beside (s.raiseRefused d a n write staging) :=
  .forAll (fun w k _ => w.raise_beside _ k (asideReg_drc hd)) s

theorem Dev.sendSrcstat_beside (d i : Nat) : s.beside (s.sendSrcstat d i) := by
  unfold Dev.sendSrcstat
  exact .ite ⟨(Dev.laneWork.refl s).laneSend _ _ _, rfl, rfl⟩ (.refl s)

theorem Dev.snoopUnit_beside {d u : Nat} (hd : d < 2) (hu : u < 8) (bs : List Byte) : s.beside (s.snoopUnit d u bs) := by
  refine ⟨?_, s.snoopUnit_keeps Dev.ins (fun _ _ _ => rfl) (fun _ _ _ _ => rfl) d u bs,
    s.snoopUnit_keeps Dev.halves (fun _ _ _ => rfl) (fun _ _ _ _ => rfl) d u bs⟩
  have hs := Dev.laneWork.refl (P := asideReg) s
  have hval := asideReg_crc (o := 0x14) hd hu (by decide)
  have hcnt : asideReg (Reg.CRC_CNT d u) := asideReg_crc hd hu (by decide)
  exact .ite hs ((Dev.laneWork.ite (((hs.wr _ _ hval).wr _ _ hcnt).setCrc d u _) hs).wr _ _ hval |>.wr _ _ hcnt)

theorem Dev.snoopDram_beside {d : Nat} (hd : d < 2) (port addr : Nat) (bs : List Byte) : s.beside (s.snoopDram d port addr bs) :=
  .forAll (fun w u hu => .ite (w.snoopUnit_beside hd (s.watchersOfSrc_lt d 3 _ u hu) bs) (.refl w)) s

theorem Dev.snoopInput_beside {d : Nat} (hd : d < 2) (lane kind : Nat) (bs : List Byte) : s.beside (s.snoopInput d lane kind bs) :=
  .forAll (fun w _ hu => w.snoopUnit_beside hd (Dev.watchersOfInput_lt hu) bs) s

theorem Dev.snoopInputOpen_beside (d lane kind : Nat) : s.beside (s.snoopInputOpen d lane kind) :=
  .forAll (fun w _ _ => .ite (.refl w) ⟨(Dev.laneWork.refl w).setCrc _ _ _, rfl, rfl⟩) s

/-- The end of an INPUT window stays outside the window of every lane. -/
theorem Dev.snoopInputEnd_beside {d : Nat} (hd : d < 2) (lane kind : Nat) (accepted : Bool) :
    s.beside (s.snoopInputEnd d lane kind accepted) := by
  obtain ⟨-, hins, hhalves⟩ := s.snoopInputEnd_units d lane kind accepted
  have hwork (n : Nat) := s.snoopInputEnd_laneWork (n := n) (l := []) hd lane kind accepted
  have hcargo (n : Nat) (b : Nat) (hb : ¬ asideReg b) (hn : b < Reg.cd d + 0x10100 + 0x1000 * n ∨ Reg.cd d + 0x11000 + 0x1000 * n ≤ b) :
      ¬ laneReg d n [] b := by
    rintro ((((he | hlog) | hcrc | hlane)) | ⟨o, ho, -⟩)
    · exact hb (.inl he)
    · exact hb (.inr ⟨d, hd, .inr (.inl hlog)⟩)
    · exact hb (.inr ⟨d, hd, .inl hcrc⟩)
    · omega
    · cases ho
  refine ⟨⟨(hwork 0).rest, fun b hb => ?_⟩, hins, hhalves⟩
  by_cases hb0 : b < Reg.cd d + 0x11000
  · exact (hwork 1).rd b (hcargo 1 b hb (.inl (by omega)))
  · exact (hwork 0).rd b (hcargo 0 b hb (.inr (by omega)))

/-- A request is served by the die that makes it, or by the other one. -/
theorem Dev.drcMap_die {d a e x : Nat} (h : s.drcMap d a = .ok (e, x)) : e = d ∨ e = 1 - d := by
  unfold Dev.drcMap at h
  dsimp only at h
  split at h
  · cases h
  · split at h
    · cases h
      exact .inl rfl
    · split at h
      · cases h
      · split at h
        · cases h
          exact .inr rfl
        · split at h
          · cases h
            exact .inr rfl
          · cases h
    · split at h
      · cases h
      · cases h
        exact .inl rfl
    · cases h

theorem Dev.snoopWrite_beside (m : Mems) {d : Nat} (hd : d < 2) (p a n : Nat) : s.beside (s.snoopWrite m d p a n) := by
  refine .ite (.refl s) (.forAll (fun w k _ => ?_) s)
  split
  · next e x hmap =>
    have he : e < 2 := by
      have := w.drcMap_die hmap
      omega
    exact w.snoopDram_beside he _ _ _
  · exact .refl w

theorem Dev.snoopSlot_beside (m : Mems) (e n slot off len p : Nat) : s.beside (s.snoopSlot m e n slot off len p) :=
  .forAll (fun w d hd => w.snoopWrite_beside m (s.mem_waysOf e d n hd) _ _ _) s

theorem Dev.slotRefused_beside (e n slot off len : Nat) : s.beside (s.slotRefused e n slot off len) :=
  .forAll (fun w d hd => w.raiseRefused_beside (s.mem_waysOf e d n hd) _ _ _ _) s

end

end Sys2Proof.Machine
end

section
/-! SUPPORT. Where the packets of an input lane are stored (R196, R197, R200, R205, R207): on dies that have their own DRAM. -/

namespace Sys2Proof.Machine

/-! ## Dies with their own DRAM -/

section
variable (s : Dev) {d : Nat}

/-- A write below the reserved region of a die with its own DRAM stores every byte there. -/
theorem Dev.dieWrite_below (hr : s.drcRole d = 0) (m : Mems) (a : Nat) (bs : List Byte) (ha : a + bs.length ≤ 0x7FF00000) :
    s.dieWrite m d false a bs = m.dramWrite d a bs := by
  induction bs generalizing m a with
  | nil => rfl
  | cons b bs ih =>
    simp only [List.length_cons] at ha
    have hopen : rsvRefused a false = false := by
      unfold rsvRefused
      rw [decide_eq_false (by omega)]
      rfl
    simp only [Dev.dieWrite, s.drcMap_own d a hr (by omega), hopen, Bool.false_eq_true, if_false]
    exact ih (m.dramWrite d a [b]) (a + 1) (by omega)

theorem Dev.noDramAt_own (hr : s.drcRole d = 0) (a n : Nat) : s.noDramAt d a n = false := by
  have hsome (x : Nat) : s.refusalAt d x false false ≠ some none := by
    unfold Dev.refusalAt
    by_cases hx : 0x80000000 ≤ x
    · have hmap : s.drcMap d x = .error (some B.DRC_ADDR_RANGE) := if_pos hx
      rw [hmap]
      exact fun h => by cases h
    · rw [s.drcMap_own d x hr (by omega)]
      exact fun h => by cases h
  unfold Dev.noDramAt Dev.refusals
  rw [Bool.eq_false_iff]
  intro h
  obtain ⟨x, -, hx⟩ := List.mem_filterMap.mp (List.mem_dedup.mp (List.contains_iff_mem.mp h))
  exact hsome x hx

/-- Bytes stored on several dies read back on each of them that has its own DRAM. -/
theorem Dev.dieRead_stored {l : List Nat} {e : Nat} (he : e ∈ l) (hr : s.drcRole e = 0) (m : Mems) (a : Nat) (bs : List Byte)
    (ha : a + bs.length ≤ 0x80000000) :
    s.dieRead (l.foldl (fun m e => m.dramWrite e a bs) m) e a bs.length = some bs := by
  rw [s.dieRead_own _ e a hr _ ha, Mems.dramRead_dramWrites m e a bs l ha (.inl he)]

end

/-! ## The dies of an input -/

section
variable (s : Dev) (hr : ∀ e, e < 2 → s.drcRole e = 0) {d : Nat} {heads : List Nat} {a n : Nat}

theorem Dev.flatMap_diesOf_lt {e : Nat} (h : e ∈ heads.flatMap s.diesOf) : e < 2 := by
  obtain ⟨k, -, hk⟩ := List.mem_flatMap.mp h
  exact ((s.mem_diesOf e k).mp hk).1

include hr

/-- With DRAM on both dies a write of an input fails only where a die is out of reach. -/
theorem Dev.inputFails_own : s.inputFails d heads a n = false ↔ ∀ e ∈ heads.flatMap s.diesOf, s.dieWay d e = true := by
  unfold Dev.inputFails
  rw [List.any_eq_false]
  refine forall_congr' fun e => forall_congr' fun he => ?_
  rw [s.noDramAt_own (hr e (s.flatMap_diesOf_lt he)), Bool.or_false, Bool.not_eq_true', Bool.not_eq_false]

end

theorem Dev.waysOf_all (s : Dev) {d k : Nat} (h : ∀ e ∈ s.diesOf k, s.dieWay d e = true) : s.waysOf d k = s.diesOf k :=
  List.filter_eq_self.mpr h

theorem Dev.mem_inputDies (s : Dev) {d e : Nat} {heads : List Nat} (h : ∀ e ∈ heads.flatMap s.diesOf, s.dieWay d e = true)
    (he : e ∈ heads.flatMap s.diesOf) : e ∈ s.inputDies d heads := by
  obtain ⟨k, hk, hek⟩ := List.mem_flatMap.mp he
  exact List.mem_dedup.mpr (List.mem_flatMap.mpr ⟨k, hk, List.mem_filter.mpr ⟨hek, h e he⟩⟩)

theorem Dev.inputDies_lt (s : Dev) {d e : Nat} {heads : List Nat} (he : e ∈ s.inputDies d heads) : e < 2 := by
  obtain ⟨k, -, hk⟩ := List.mem_flatMap.mp (List.mem_dedup.mp he)
  exact s.mem_waysOf d e k hk

/-- A write within a slot is one store in the own DRAM of each die that it reaches. -/
theorem Dev.slotWrite_reached (s : Dev) (hr : ∀ e, e < 2 → s.drcRole e = 0) (m : Mems) (d : Nat) (n : Head) (slot : Bool) (o : Nat)
    (data : List Byte) (h : o + data.length ≤ 0x10000) : s.slotWrite m d n (b2n slot) o data =
      (s.waysOf d n).foldl (fun m e => m.dramWrite e (slotAddr n (b2n slot) + o) data) m := by
  refine List.foldl_ext _ _ m fun m e he => ?_
  rw [List.take_of_length_le (by omega)]
  exact s.dieWrite_own m e _ (hr e (s.mem_waysOf d e n he)) data (slotAddr_le n slot o _ h)

/-! ## What the end of a batch leaves as it was -/

/-- The registers aside, and those that show the state of input `i` of die `d` and its failed batches. -/
def batchReg (d i b : Nat) : Prop := asideReg b ∨ b = Reg.LANE_IN_STAT d (8 + i) ∨ b = Reg.LANE_IN_SUPER d (8 + i)

theorem not_batchReg_cd {d i e o : Nat} (hi : i < 2) (hlo : 0x20000 ≤ o) (hcrc : o < 0xA0000 ∨ 0xA0800 ≤ o)
    (hlog : o < 0xB0000 ∨ 0xB0180 ≤ o) (hdrc : o ≠ 0x800C0) (hhi : o < 0x1000000) : ¬ batchReg d i (Reg.cd e + o) := by
  rintro (h | h)
  · exact not_asideReg_cd (.inr hlo) hcrc hlog hdrc hhi h
  · simp only [Reg.LANE_IN_STAT, Reg.LANE_IN_SUPER, Reg.cd] at h
    omega

section
variable {d i : Nat} (hi : i < 2) {s t : Dev} (hw : s.laneWork (batchReg d i) t)
include hi hw

theorem Dev.laneWork.drcRole {e : Nat} : t.drcRole e = s.drcRole e :=
  congrArg (fget · _) (hw.rd _ (not_batchReg_cd (o := 0x80000) hi (by decide) (by decide) (by decide) (by decide) (by decide)))

theorem Dev.laneWork.sameHead {n : Nat} (hn : n < 4) : s.sameHead t n := fun e he => by
  have hreg : Reg.HEAD_TACT e n = Reg.cd e + (0x40000 + 0x100 * n + 0x8) := by simp only [Reg.HEAD_TACT]; omega
  rw [hreg]
  exact hw.rd _ (not_batchReg_cd hi (by omega) (by omega) (by omega) (by omega) (by omega))

theorem Dev.laneWork.dieWay (e : Nat) : t.dieWay e = s.dieWay e := by
  have hpwr : t.pwr = s.pwr := by
    have ht : t = _ := hw.rest
    rw [ht]
  refine Dev.dieWay_congr hpwr (hw.rd _ ?_) (hw.rd _ (not_batchReg_cd (o := 0xD0000) hi (by decide) (by decide) (by decide) (by decide) (by decide))) e
  rintro ((h | ⟨e', he', h⟩) | h)
  · cases h
  · simp only [Reg.VSP_PWR_STAT, Reg.DRC_FLT_STAT, Reg.LANE_IN_FLT_STAT, Reg.cd] at h
    omega
  · simp only [Reg.VSP_PWR_STAT, Reg.LANE_IN_STAT, Reg.LANE_IN_SUPER, Reg.cd] at h
    omega

theorem Dev.laneWork.masterOf {n : Nat} (hn : n < 4) : t.masterOf n = s.masterOf n := by
  rw [Dev.masterOf, (hw.sameHead hi hn).isMaster 1 (by decide), Dev.masterOf]

theorem Dev.laneWork.genStat {e n : Nat} (hn : n < 4) : t.rd (Reg.HEAD_GEN_STAT e n) = s.rd (Reg.HEAD_GEN_STAT e n) := by
  have hreg : Reg.HEAD_GEN_STAT e n = Reg.cd e + (0x48000 + 0x100 * n + 0x4) := by simp only [Reg.HEAD_GEN_STAT]; omega
  rw [hreg]
  exact hw.rd _ (not_batchReg_cd hi (by omega) (by omega) (by omega) (by omega) (by omega))

theorem Dev.laneWork.slotLocked {n : Nat} (hn : n < 4) (slot : Nat) : t.slotLocked n slot = s.slotLocked n slot := by
  rw [Dev.slotLocked, hw.masterOf hi hn, hw.genStat hi hn, Dev.slotLocked]

theorem Dev.laneWork.commitRefusal {e n : Nat} (he : e < 2) (hn : n < 4) : t.commitRefusal e n = s.commitRefusal e n := by
  have hsame := hw.sameHead hi hn
  rw [Dev.commitRefusal, Dev.headUsed, hsame.usedOn 0 (by decide), hsame.usedOn 1 (by decide), hsame.isMaster e he, Dev.rdF,
    hw.genStat hi hn, ← Dev.rdF, ← Dev.headUsed, Dev.commitRefusal]

end

/-! ## Registers of an input -/

section
variable {d i : Nat} (hd : d < 2) (hi : i < 2)
include hd hi

theorem regMask_input : regMask (Reg.LANE_IN_STAT d (8 + i)) = 0xFFFF7FFF#32 ∧ regMask (Reg.LANE_IN_FRMCNT d (8 + i)) = 0xFFFFFFFF#32 ∧
    regMask (Reg.LANE_IN_SUPER d (8 + i)) = 0xFFFFFFFF#32 ∧ regMask (Reg.LANE_IN_FLT_CAUSE d (8 + i)) = 0xF#32 :=
  (by decide : ∀ (d i : Fin 2), regMask (Reg.LANE_IN_STAT d (8 + i)) = 0xFFFF7FFF#32 ∧
    regMask (Reg.LANE_IN_FRMCNT d (8 + i)) = 0xFFFFFFFF#32 ∧ regMask (Reg.LANE_IN_SUPER d (8 + i)) = 0xFFFFFFFF#32 ∧
    regMask (Reg.LANE_IN_FLT_CAUSE d (8 + i)) = 0xF#32) ⟨d, hd⟩ ⟨i, hi⟩

variable (s : Dev)

theorem Dev.inStat_wrF (f : Fld) (v : Nat) (hf : f.lo + f.len ≤ 32) (hm : 0xFFFF7FFF#32 &&& f.mask = f.mask) :
    (s.wrF (Reg.LANE_IN_STAT d (8 + i)) f v).rdF (Reg.LANE_IN_STAT d (8 + i)) f = v % 2 ^ f.len :=
  Dev.rdF_wrF_same _ _ _ _ hf (by rw [(regMask_input hd hi).1]; exact hm)

theorem Dev.inStat_wrF_field (f g : Fld) (v : Nat) (hg : g.lo + g.len ≤ 32) (hm : 0xFFFF7FFF#32 &&& g.mask = g.mask)
    (h : f.lo + f.len ≤ g.lo ∨ g.lo + g.len ≤ f.lo) :
    (s.wrF (Reg.LANE_IN_STAT d (8 + i)) f v).rdF (Reg.LANE_IN_STAT d (8 + i)) g = s.rdF (Reg.LANE_IN_STAT d (8 + i)) g :=
  Dev.rdF_wrF_field _ _ _ _ _ hg (by rw [(regMask_input hd hi).1]; exact hm) h

theorem Dev.inFrmcnt_addF (f : Fld) (hf : f.lo + f.len ≤ 32) (hm : 0xFFFFFFFF#32 &&& f.mask = f.mask) :
    (s.addF (Reg.LANE_IN_FRMCNT d (8 + i)) f 1).rdF (Reg.LANE_IN_FRMCNT d (8 + i)) f =
      (s.rdF (Reg.LANE_IN_FRMCNT d (8 + i)) f + 1) % 2 ^ f.len :=
  Dev.rdF_wrF_same _ _ _ _ hf (by rw [(regMask_input hd hi).2.1]; exact hm)

end

theorem inStat_ne_frmcnt (d n : Nat) : Reg.LANE_IN_STAT d n ≠ Reg.LANE_IN_FRMCNT d n := by
  simp only [Reg.LANE_IN_STAT, Reg.LANE_IN_FRMCNT]; omega

theorem inStat_ne_super (d n : Nat) : Reg.LANE_IN_STAT d n ≠ Reg.LANE_IN_SUPER d n := by
  simp only [Reg.LANE_IN_STAT, Reg.LANE_IN_SUPER]; omega

/-! ## The end of a frame or batch -/

section
variable (s : Dev) {d i : Nat}

/-- The registers and the input of a discarded frame, before its window ends and it is reported (R198). -/
def Dev.frameDropped (s : Dev) (d i why frame : Nat) (ignoring : Bool) : Dev :=
  let s := s.setInp d i { s.inp d i with inFrame := false, ignoring := ignoring, lastBad := frame, written := 0 }
  let s := (s.wrF (Reg.LANE_IN_STAT d (8 + i)) F.LANE_IN_STAT_WHY why).wrF (Reg.LANE_IN_STAT d (8 + i)) F.LANE_IN_STAT_INFRAME 0
  let s := s.wrF (Reg.LANE_IN_STAT d (8 + i)) F.LANE_IN_STAT_WRITING 0
  s.addF (Reg.LANE_IN_FRMCNT d (8 + i)) F.LANE_IN_FRMCNT_DROPPED 1

/-- The registers and the input of a failed batch, before its window ends and it is reported (R201). -/
def Dev.batchDropped (s : Dev) (d i : Nat) : Dev :=
  let s := s.setInp d i { s.inp d i with inBatch := false, batchDead := true, bres := 8, lastBatch := (s.inp d i).batch }
  (s.wrF (Reg.LANE_IN_STAT d (8 + i)) F.LANE_IN_STAT_INBATCH 0).addF (Reg.LANE_IN_SUPER d (8 + i)) F.LANE_IN_SUPER_BATCH_FAIL 1

variable (hd : d < 2) (hi : i < 2)
include hd hi

theorem Dev.discardFrame_beside (why frame : Nat) (ignoring : Bool) :
    (s.frameDropped d i why frame ignoring).beside (s.discardFrame d i why frame ignoring) :=
  ((Dev.snoopInputEnd_beside _ hd _ _ _).trans (Dev.raise_beside _ _ _ (asideReg_input hd hi))).trans (Dev.sendSrcstat_beside _ _ _)

theorem Dev.failBatch_beside : (s.batchDropped d i).beside (s.failBatch d i) :=
  ((Dev.snoopInputEnd_beside _ hd _ _ _).trans (Dev.raise_beside _ _ _ (asideReg_input hd hi))).trans (Dev.sendSrcstat_beside _ _ _)

omit hd in
/-- A register of the input, but its fault status register, through what ends a frame or batch. -/
theorem Dev.beside.inputRd {s t : Dev} (h : s.beside t) {o : Nat} (ho : (Nat.blt o 0x1000 && o != 0x230) = true) :
    t.rd (Reg.cd d + 0x10000 + 0x1000 * (8 + i) + o) = s.rd (Reg.cd d + 0x10000 + 0x1000 * (8 + i) + o) := by
  simp only [Bool.and_eq_true, Nat.blt_eq, bne_iff_ne] at ho
  exact h.rd (not_asideReg_lane (by omega) ho.1 ho.2)

theorem Dev.discardFrame_shows (why frame : Nat) (ignoring : Bool) (hwhy : why < 8) :
    ((s.discardFrame d i why frame ignoring).inp d i).inFrame = false ∧
      ((s.discardFrame d i why frame ignoring).inp d i).lastBad = frame ∧
      (s.discardFrame d i why frame ignoring).rdF (Reg.LANE_IN_FRMCNT d (8 + i)) F.LANE_IN_FRMCNT_DROPPED =
        (s.rdF (Reg.LANE_IN_FRMCNT d (8 + i)) F.LANE_IN_FRMCNT_DROPPED + 1) % 2 ^ F.LANE_IN_FRMCNT_DROPPED.len ∧
      (s.discardFrame d i why frame ignoring).rdF (Reg.LANE_IN_STAT d (8 + i)) F.LANE_IN_STAT_WHY = why := by
  have hafter := s.discardFrame_beside hd hi why frame ignoring
  have hne := inStat_ne_frmcnt d (8 + i)
  have hinp : (s.frameDropped d i why frame ignoring).inp d i =
      { s.inp d i with inFrame := false, ignoring := ignoring, lastBad := frame, written := 0 } := Dev.setInp_inp_same _ _ _ _
  refine ⟨?_, ?_, (congrArg (fget · _) (hafter.inputRd hi (o := 0x21C) rfl)).trans ?_,
    (congrArg (fget · _) (hafter.inputRd hi (o := 0x218) rfl)).trans ?_⟩
  · rw [hafter.inp, hinp]
  · rw [hafter.inp, hinp]
  · refine (Dev.inFrmcnt_addF hd hi _ _ (by decide) (by decide)).trans ?_
    rw [Dev.rdF_wrF_other _ _ _ _ _ _ hne.symm, Dev.rdF_wrF_other _ _ _ _ _ _ hne.symm, Dev.rdF_wrF_other _ _ _ _ _ _ hne.symm]
    rfl
  · refine (Dev.rdF_wrF_other _ _ _ _ _ _ hne).trans ?_
    rw [Dev.inStat_wrF_field hd hi _ _ _ _ (by decide) (by decide) (by decide), Dev.inStat_wrF_field hd hi _ _ _ _ (by decide) (by decide) (by decide),
      Dev.inStat_wrF hd hi _ _ _ (by decide) (by decide)]
    exact Nat.mod_eq_of_lt hwhy

theorem Dev.failBatch_shows : ((s.failBatch d i).inp d i).inBatch = false ∧ ((s.failBatch d i).inp d i).batchDead = true ∧
    ((s.failBatch d i).inp d i).bres = 8 ∧ (s.failBatch d i).rdF (Reg.LANE_IN_SUPER d (8 + i)) F.LANE_IN_SUPER_BATCH_FAIL =
      (s.rdF (Reg.LANE_IN_SUPER d (8 + i)) F.LANE_IN_SUPER_BATCH_FAIL + 1) % 2 ^ F.LANE_IN_SUPER_BATCH_FAIL.len := by
  have hafter := s.failBatch_beside hd hi
  have hinp : (s.batchDropped d i).inp d i = { s.inp d i with inBatch := false, batchDead := true, bres := 8, lastBatch := (s.inp d i).batch } :=
    Dev.setInp_inp_same _ _ _ _
  obtain ⟨-, -, hmask, -⟩ := regMask_input hd hi
  rw [hafter.inp, hinp]
  refine ⟨rfl, rfl, rfl, (congrArg (fget · _) (hafter.inputRd hi (o := 0x220) rfl)).trans ?_⟩
  refine (Dev.rdF_wrF_same _ _ _ _ (by decide) (by rw [hmask]; decide)).trans ?_
  rw [Dev.rdF_wrF_other _ _ _ _ _ _ (inStat_ne_super d (8 + i)).symm]
  rfl

end
end Sys2Proof.Machine
end

section
/-! SUPPORT. The video and object packets of an input lane (R196 to R202): frames, batches and commits. -/

namespace Sys2Proof.Machine

/-! ## The end of an accepted frame -/

section
variable (s : Dev) {d i : Nat}

/-- The registers that show the raster base of a fed slot (R199). -/
def Dev.slotBases (s : Dev) (d i : Nat) : List Nat :=
  (s.fedSlots d i).flatMap (fun m => (s.diesOf (m / 2)).map (fun e => Reg.HEAD_RAS_BASE e m))

/-- The device once the fed slots have taken the base of the completed frame (R199). -/
def Dev.basesTaken (s : Dev) (d i : Nat) : Dev :=
  let old := s.rdF (Reg.LANE_IN_STAT d (8 + i)) F.LANE_IN_STAT_NEWEST
  let base := s.bufBase d i (s.rdF (Reg.LANE_IN_STAT d (8 + i)) F.LANE_IN_STAT_WRITING - 1)
  let super := old ≠ 0 ∧ (s.slotBases d i).any (fun a => s.rd a == s.bufBase d i (old - 1) && s.rdL a != s.bufBase d i (old - 1))
  forAll (s.slotBases d i) (if super then s.addF (Reg.LANE_IN_SUPER d (8 + i)) F.LANE_IN_SUPER_SUPERSEDED 1 else s) (fun s a => s.wr a base)

/-- The input and its registers once the frame in progress is complete, before its window ends and it is reported (R199). -/
def Dev.frameTaken (s : Dev) (d i : Nat) : Dev :=
  let st := Reg.LANE_IN_STAT d (8 + i)
  let t := ((s.basesTaken d i).wrF st F.LANE_IN_STAT_NEWEST (s.rdF st F.LANE_IN_STAT_WRITING)).wrF st F.LANE_IN_STAT_FRAME (s.inp d i).frame
  let t := (t.wrF st F.LANE_IN_STAT_WRITING 0).wrF st F.LANE_IN_STAT_INFRAME 0
  let t := t.addF (Reg.LANE_IN_FRMCNT d (8 + i)) F.LANE_IN_FRMCNT_ACCEPTED 1
  t.setInp d i { s.inp d i with inFrame := false, lastOk := (s.inp d i).frame, lastDone := t.us, written := 0 }

theorem Dev.frameComplete_eq : s.frameComplete d i =
    (((s.frameTaken d i).snoopInputEnd d (8 + i) 0 true).causeOff (Reg.LANE_IN_FLT_STAT d (8 + i)) B.LANE_IN_IN_STALE).sendSrcstat d i := rfl

theorem Dev.slotBases_head {a : Nat} (h : a ∈ s.slotBases d i) : ∃ e < 2, ∃ m < 8, a = Reg.HEAD_RAS_BASE e m := by
  obtain ⟨m, hm, ha⟩ := List.mem_flatMap.mp h
  obtain ⟨e, he, rfl⟩ := List.mem_map.mp ha
  exact ⟨e, ((s.mem_diesOf e _).mp he).1, m, List.mem_range.mp (List.mem_filter.mp hm).1, rfl⟩

/-- The status and the frame counts of the input keep their values. -/
theorem Dev.basesTaken_rd {o : Nat} (ho : o < 0x220) :
    (s.basesTaken d i).rd (Reg.cd d + 0x10000 + 0x1000 * (8 + i) + o) = s.rd (Reg.cd d + 0x10000 + 0x1000 * (8 + i) + o) := by
  unfold Dev.basesTaken
  dsimp only
  refine (forAll_keeps_of_mem (Dev.rd · _) (fun w a ha => ?_) _).trans ?_
  · obtain ⟨e, he, m, hm, rfl⟩ := s.slotBases_head ha
    refine Dev.rd_wr_other _ _ _ _ ?_
    simp only [Reg.HEAD_RAS_BASE, Reg.cd]
    omega
  · split
    · refine Dev.rd_wrF_other _ _ _ _ _ ?_
      simp only [Reg.LANE_IN_SUPER]
      omega
    · rfl

variable (hd : d < 2) (hi : i < 2)
include hd hi

theorem Dev.frameComplete_shows : ((s.frameComplete d i).inp d i).inFrame = false ∧ ((s.frameComplete d i).inp d i).lastOk = (s.inp d i).frame ∧
    (s.frameComplete d i).rdF (Reg.LANE_IN_STAT d (8 + i)) F.LANE_IN_STAT_NEWEST =
      s.rdF (Reg.LANE_IN_STAT d (8 + i)) F.LANE_IN_STAT_WRITING ∧
    (s.frameComplete d i).rdF (Reg.LANE_IN_FRMCNT d (8 + i)) F.LANE_IN_FRMCNT_ACCEPTED =
      (s.rdF (Reg.LANE_IN_FRMCNT d (8 + i)) F.LANE_IN_FRMCNT_ACCEPTED + 1) % 2 ^ F.LANE_IN_FRMCNT_ACCEPTED.len ∧
    (s.frameComplete d i).rdB (Reg.LANE_IN_FLT_CAUSE d (8 + i)) B.LANE_IN_IN_STALE = false := by
  have hend := (s.frameTaken d i).snoopInputEnd_beside hd (8 + i) 0 true
  generalize hu : (s.frameTaken d i).snoopInputEnd d (8 + i) 0 true = u at hend
  have hsent := (u.causeOff (Reg.LANE_IN_FLT_STAT d (8 + i)) B.LANE_IN_IN_STALE).sendSrcstat_beside d i
  have hne := inStat_ne_frmcnt d (8 + i)
  have hinp : (s.frameComplete d i).inp d i = (s.frameTaken d i).inp d i := by
    rw [Dev.frameComplete_eq, hu, hsent.inp]
    exact hend.inp d i
  have htaken : ((s.frameTaken d i).inp d i).inFrame = false ∧ ((s.frameTaken d i).inp d i).lastOk = (s.inp d i).frame := by
    unfold Dev.frameTaken
    dsimp only
    rw [Dev.setInp_inp_same]
    exact ⟨rfl, rfl⟩
  have hkept {o : Nat} (ho : (Nat.blt o 0x1000 && o != 0x230) = true) (hc : o ≠ 0x238) :
      (s.frameComplete d i).rd (Reg.cd d + 0x10000 + 0x1000 * (8 + i) + o) = (s.frameTaken d i).rd (Reg.cd d + 0x10000 + 0x1000 * (8 + i) + o) := by
    rw [Dev.frameComplete_eq, hu, hsent.inputRd hi ho, ← hend.inputRd hi ho]
    refine Dev.rd_wr_other _ _ _ _ ?_
    simp only [Reg.LANE_IN_FLT_STAT]
    omega
  refine ⟨by rw [hinp]; exact htaken.1, by rw [hinp]; exact htaken.2, ?_, ?_, ?_⟩
  · refine (congrArg (fget · F.LANE_IN_STAT_NEWEST) (hkept (o := 0x218) rfl (by decide))).trans ?_
    refine (Dev.rdF_wrF_other _ _ _ _ _ _ hne).trans ?_
    rw [Dev.inStat_wrF_field hd hi _ _ _ _ (by decide) (by decide) (by decide), Dev.inStat_wrF_field hd hi _ _ _ _ (by decide) (by decide) (by decide),
      Dev.inStat_wrF_field hd hi _ _ _ _ (by decide) (by decide) (by decide), Dev.inStat_wrF hd hi _ _ _ (by decide) (by decide)]
    exact Nat.mod_eq_of_lt (fget_lt _ _)
  · refine (congrArg (fget · F.LANE_IN_FRMCNT_ACCEPTED) (hkept (o := 0x21C) rfl (by decide))).trans ?_
    refine (Dev.inFrmcnt_addF hd hi _ _ (by decide) (by decide)).trans ?_
    rw [Dev.rdF_wrF_other _ _ _ _ _ _ hne.symm, Dev.rdF_wrF_other _ _ _ _ _ _ hne.symm, Dev.rdF_wrF_other _ _ _ _ _ _ hne.symm,
      Dev.rdF_wrF_other _ _ _ _ _ _ hne.symm, Dev.rdF, s.basesTaken_rd (o := 0x21C) (by decide)]
    rfl
  · have hcause : (s.frameComplete d i).rd (Reg.LANE_IN_FLT_CAUSE d (8 + i)) =
        (u.causeOff (Reg.LANE_IN_FLT_STAT d (8 + i)) B.LANE_IN_IN_STALE).rd (Reg.LANE_IN_FLT_STAT d (8 + i) + 8) := by
      rw [Dev.frameComplete_eq, hu]
      exact hsent.inputRd hi (o := 0x238) rfl
    rw [Dev.rdB, hcause, ← Dev.rdB, Dev.causeOff, Dev.rdB_wrB _ _ _ _ _ _ (by decide), if_pos rfl, if_pos rfl]
    rfl

end

/-! ## Video packets -/

section
variable (s : Dev) {d i : Nat}

/-- The dies that a video packet reaches are told, and what they refuse is raised (R196). -/
def Dev.vidSent (s : Dev) (d i a n : Nat) : Dev :=
  let dies := s.inputDies d (s.fedHeads d i)
  forAll dies (s.crossWrite d dies) (fun v e => v.raiseRefused e a n true false)

/-- The device once a video packet has been stored, before LAST acts. -/
def Dev.vidStored (s : Dev) (m : Mems) (d i a : Nat) (bs : List Byte) : Dev :=
  let dies := s.inputDies d (s.fedHeads d i)
  let t := ((s.vidSent d i a bs.length).setInp d i { s.inp d i with written := (s.inp d i).written + bs.length }).snoopInput d (8 + i) 0 bs
  forAll dies t (fun v e => v.snoopWrite m e 2 a bs.length)

/-- The memories once a video packet has been stored. -/
def Dev.vidMems (s : Dev) (m : Mems) (d i a : Nat) (bs : List Byte) : Mems :=
  (s.inputDies d (s.fedHeads d i)).foldl (fun m e => s.dieWrite m e false a bs) m

theorem Dev.vidSent_beside (a n : Nat) : s.beside (s.vidSent d i a n) :=
  (s.crossWrite_beside _ _).trans (.forAll (fun w _ he => w.raiseRefused_beside (s.inputDies_lt he) a n true false) _)

variable (hd : d < 2)
include hd

theorem Dev.vidStored_beside (m : Mems) (a : Nat) (bs : List Byte) :
    ((s.vidSent d i a bs.length).setInp d i { s.inp d i with written := (s.inp d i).written + bs.length }).beside (s.vidStored m d i a bs) :=
  (Dev.snoopInput_beside _ hd _ _ _).trans (.forAll (fun w _ he => w.snoopWrite_beside m (s.inputDies_lt he) 2 a bs.length) _)

theorem Dev.vidStored_work (m : Mems) (a : Nat) (bs : List Byte) : s.laneWork asideReg (s.vidStored m d i a bs) :=
  ((s.vidSent_beside a bs.length).work.setInp d i _).trans (s.vidStored_beside hd m a bs).work

theorem Dev.vidStored_inp (m : Mems) (a : Nat) (bs : List Byte) :
    (s.vidStored m d i a bs).inp d i = { s.inp d i with written := (s.inp d i).written + bs.length } := by
  rw [(s.vidStored_beside hd m a bs).inp, Dev.setInp_inp_same]

end

/-- The packet `p` lies within the frame in progress of input `i` and below the reserved region, the receive buffer holds it, and the
dies of the heads that the input feeds are in reach (R196, R197). -/
structure Dev.takesVid (s : Dev) (d i : Nat) (p : VidPkt) : Prop where
  frame : (s.inp d i).inFrame = true
  fits : p.fits = true
  line : p.line.toNat < fget (s.rd (Reg.LANE_IN_GEOM d (8 + i))) F.LANE_IN_GEOM_H
  col : p.x0.toNat + p.texels.length / 2 ≤ fget (s.rd (Reg.LANE_IN_GEOM d (8 + i))) F.LANE_IN_GEOM_W
  reach : s.inputFails d (s.fedHeads d i) (s.vidAddr d i p.line.toNat p.x0.toNat) p.texels.length = false
  below : s.vidAddr d i p.line.toNat p.x0.toNat + p.texels.length ≤ 0x7FF00000

section
variable (s : State) (d i : Nat) (p : VidPkt)

/-- What LAST does to a frame of which `n` bytes more have been stored (R198, R199). -/
def Dev.vidLast (s t : Dev) (d i n : Nat) : Dev :=
  let geom := s.rd (Reg.LANE_IN_GEOM d (8 + i))
  if (s.inp d i).written + n ≠ fget geom F.LANE_IN_GEOM_W * fget geom F.LANE_IN_GEOM_H * 2 then
    t.discardFrame d i 5 (s.inp d i).frame true
  else t.frameComplete d i

theorem State.vidPayload_stored (h : s.dev.takesVid d i p) (m : Mems) (hm : m = s.dev.vidMems s.mem d i (s.dev.vidAddr d i p.line.toNat p.x0.toNat) p.texels)
    (v : Dev) (hv : v = s.dev.vidStored m d i (s.dev.vidAddr d i p.line.toNat p.x0.toNat) p.texels) :
    s.vidPayload d i p = { s with dev := if p.last then s.dev.vidLast v d i p.texels.length else v, mem := m } := by
  obtain ⟨hframe, hfits, hline, hcol, hreach, -⟩ := h
  subst hm hv
  unfold State.vidPayload
  dsimp only
  refine (if_neg (by rw [hframe]; decide)).trans ((if_neg (by rw [hfits]; decide)).trans ((if_neg (by omega)).trans ?_))
  refine (if_neg (by rw [hreach]; decide)).trans ?_
  rfl

theorem State.vidPayload_outside (hframe : (s.dev.inp d i).inFrame = true) (hfits : p.fits = true)
    (hout : fget (s.dev.rd (Reg.LANE_IN_GEOM d (8 + i))) F.LANE_IN_GEOM_H ≤ p.line.toNat ∨
      fget (s.dev.rd (Reg.LANE_IN_GEOM d (8 + i))) F.LANE_IN_GEOM_W < p.x0.toNat + p.texels.length / 2) :
    s.vidPayload d i p = { s with dev := s.dev.discardFrame d i 3 (s.dev.inp d i).frame true } := by
  unfold State.vidPayload
  dsimp only
  rw [hframe, hfits, if_neg (by decide), if_neg (by decide), if_pos hout]

theorem State.vidPayload_overrun (hframe : (s.dev.inp d i).inFrame = true) (hfits : p.fits = false) :
    s.vidPayload d i p = { s with dev := s.dev.discardFrame d i 1 (s.dev.inp d i).frame true } := by
  unfold State.vidPayload
  dsimp only
  rw [hframe, hfits, if_neg (by decide), if_pos (by decide)]

/-- A packet of a frame in progress, of even length, on a LOCKED lane. -/
theorem State.vidRx_payload (hlock : s.dev.locked d (8 + i) = true) (hlo : 2 ≤ p.texels.length) (hhi : p.texels.length ≤ 1024)
    (heven : p.texels.length % 2 = 0) (hfirst : p.first = false) : s.vidRx d i p = s.vidPayload d i p := by
  unfold State.vidRx
  rw [hlock, if_neg (by decide), if_neg (by omega), hfirst]
  rfl

end

section
variable (s : State) {d i : Nat} {p : VidPkt} (hd : d < 2) (hi : i < 2) (h : s.dev.takesVid d i p) (hr : ∀ e, e < 2 → s.dev.drcRole e = 0)
include h hr

theorem State.vidMems_own : s.dev.vidMems s.mem d i (s.dev.vidAddr d i p.line.toNat p.x0.toNat) p.texels =
    (s.dev.inputDies d (s.dev.fedHeads d i)).foldl
      (fun m e => m.dramWrite e (s.dev.vidAddr d i p.line.toNat p.x0.toNat) p.texels) s.mem :=
  List.foldl_ext _ _ _ fun m e he => s.dev.dieWrite_below (hr e (s.dev.inputDies_lt he)) m _ _ h.below

include hd hi

/-- The texels of a stored packet read back on every die of the heads that the input feeds (R196, R197). -/
theorem State.vidStored_reads {m : Mems} (hm : m = s.dev.vidMems s.mem d i (s.dev.vidAddr d i p.line.toNat p.x0.toNat) p.texels)
    {e : Nat} (he : e ∈ (s.dev.fedHeads d i).flatMap s.dev.diesOf) :
    (s.dev.vidStored m d i (s.dev.vidAddr d i p.line.toNat p.x0.toNat) p.texels).dieRead m e
      (s.dev.vidAddr d i p.line.toNat p.x0.toNat) p.texels.length = some p.texels := by
  have hbelow := h.below
  have hways := (s.dev.inputFails_own hr).mp h.reach
  have hlt := s.dev.flatMap_diesOf_lt he
  have hrole := ((s.dev.vidStored_work (i := i) hd m (s.dev.vidAddr d i p.line.toNat p.x0.toNat) p.texels).mono
    (Q := batchReg d i) fun _ => .inl).drcRole hi (e := e)
  rw [s.vidMems_own h hr] at hm
  have hread := Dev.dieRead_stored (s.dev.vidStored m d i (s.dev.vidAddr d i p.line.toNat p.x0.toNat) p.texels)
    (s.dev.mem_inputDies hways he) (hrole.trans (hr e hlt)) s.mem
    (s.dev.vidAddr d i p.line.toNat p.x0.toNat) p.texels (by omega)
  rw [← hm] at hread
  exact hread

end

end Sys2Proof.Machine
end

section
/-! SUPPORT. The batches of an object stream (R200, R201): where their packets are stored, and what COMMIT does. -/

namespace Sys2Proof.Machine

/-! ## Commits -/

section
variable (s : Dev) (d n slot : Nat)

theorem Dev.setGenStat_keeps {β : Type} (g : Dev → β) (f : Fld) (v : Nat)
    (h : ∀ (s : Dev) e x, g (s.wr (Reg.HEAD_GEN_STAT e n) x) = g s) : g (s.setGenStat n f v) = g s :=
  forAll_keeps g (fun w e => h w e _) _ s

/-- What the registers and messages of a commit keep, and its fault and the bridge, a commit keeps. -/
theorem Dev.commit_keeps {β : Type} (g : Dev → β) (hgen : ∀ (s : Dev) e x, g (s.wr (Reg.HEAD_GEN_STAT e n) x) = g s)
    (hbrg : ∀ (s : Dev) d x, g (s.setBrg d x) = g s) (hhalf : ∀ (s : Dev) d x, g (s.setHalf d n x) = g s)
    (hflt : ∀ s : Dev, g (s.raise (Reg.HEAD_CMP_FLT_STAT d n) B.HEAD_CMP_REFUSED) = g s) (hout : ∀ (s : Dev) m, g (s.emit m) = g s) :
    g (s.commit d n slot) = g s := by
  cases h : s.commitRefusal d n with
  | none =>
    have htell (t : Dev) : g (t.tellOther d n 2) = g t := by
      unfold Dev.tellOther
      split
      · exact t.brgSend_keeps g hbrg d 2
      · rfl
    rw [s.commit_taken d n slot h, hhalf, htell, Dev.markBusy, Dev.setGenStat_keeps _ n g _ _ hgen, Dev.setGenStat_keeps _ n g _ _ hgen]
  | some r =>
    rw [s.commit_refused d n slot r h, Dev.refuseCommit_eq, hout, hflt, Dev.putResult]
    split
    · exact s.setGenStat_keeps n g _ _ hgen
    · exact hgen _ _ _

theorem Dev.commit_ins : (s.commit d n slot).ins = s.ins :=
  s.commit_keeps d n slot Dev.ins (fun _ _ _ => rfl) (fun _ _ _ => rfl) (fun _ _ _ => rfl) (fun s => s.raise_ins _ _) (fun _ _ => rfl)

theorem Dev.commit_inp (e i : Nat) : (s.commit d n slot).inp e i = s.inp e i := by rw [Dev.inp, s.commit_ins, Dev.inp]

/-- A commit leaves the role of a die's DRAM as it is. -/
theorem Dev.commit_drcRole (e : Nat) : (s.commit d n slot).drcRole e = s.drcRole e := by
  refine s.commit_keeps d n slot (Dev.drcRole · e) (fun s e' x => ?_) (fun _ _ _ => rfl) (fun _ _ _ => rfl) (fun s => ?_) (fun _ _ => rfl)
  · refine Dev.rdF_wr_other _ _ _ _ _ ?_
    simp only [Reg.DRC_STAT, Reg.HEAD_GEN_STAT, Reg.cd]
    omega
  · refine congrArg (fget · _) (Dev.raise_rd _ _ _ _ (faultReg_eq_false _ ?_ (.inl ?_)) ?_)
    · simp only [Reg.DRC_STAT, Reg.cd]; omega
    · simp only [Reg.DRC_STAT, Reg.cd]; omega
    · simp only [Reg.DRC_STAT, Reg.HEAD_CMP_FLT_STAT, Reg.cd]; omega

end

/-! ## The beginning of a batch -/

section
variable (s : Dev) {d i : Nat} (p : ObjPkt)

/-- A batch that has not ended fails before another begins (R200). -/
def Dev.batchReady (s : Dev) (d i : Nat) : Dev := (if (s.inp d i).inBatch then s.failBatch d i else s).snoopInputOpen d (8 + i) 1

theorem Dev.batchStart_inp : (s.batchStart d i p).inp d i = { (s.batchReady d i).inp d i with
    inBatch := true, batchDead := false, batch := p.batch.toNat, head := p.head, slot := b2n p.slot } := Dev.setInp_inp_same _ _ _ _

variable (hd : d < 2) (hi : i < 2)
include hd hi

theorem Dev.failBatch_work : s.laneWork (batchReg d i) (s.failBatch d i) :=
  (((Dev.laneWork.refl s).setInp d i _).wr _ _ (.inr (.inl rfl)) |>.wr _ _ (.inr (.inr rfl))).trans
    ((s.failBatch_beside hd hi).work.mono fun _ => .inl)

theorem Dev.batchStart_work : s.laneWork (batchReg d i) (s.batchStart d i p) := by
  have hready : s.laneWork (batchReg d i) (s.batchReady d i) :=
    (Dev.laneWork.ite (s.failBatch_work hd hi) (.refl s)).trans ((Dev.snoopInputOpen_beside _ _ _ _).work.mono fun _ => .inl)
  exact (hready.setInp d i _).wr _ _ (.inr (.inl rfl))

end

/-! ## The end of a batch -/

section
variable (s : Dev) {d i : Nat}

/-- The batch in progress has ended with COMMIT (R200). -/
def Dev.batchEnded (s : Dev) (d i : Nat) : Dev :=
  let t := s.setInp d i { s.inp d i with inBatch := false }
  let k := (s.inp d i).head
  (t.wrF (Reg.LANE_IN_STAT d (8 + i)) F.LANE_IN_STAT_INBATCH 0).snoopInputEnd d (8 + i) 1 (t.commitRefusal (t.masterOf k) k).isNone

variable (hd : d < 2) (hi : i < 2)
include hd

theorem Dev.batchEnded_inp : (s.batchEnded d i).inp d i = { s.inp d i with inBatch := false } :=
  (Dev.snoopInputEnd_beside _ hd _ _ _).inp d i |>.trans (Dev.setInp_inp_same _ _ _ _)

theorem Dev.batchEnded_work : s.laneWork (batchReg d i) (s.batchEnded d i) :=
  (((Dev.laneWork.refl s).setInp d i _).wr _ _ (.inr (.inl rfl))).trans ((Dev.snoopInputEnd_beside _ hd _ _ _).work.mono fun _ => .inl)

include hi

/-- COMMIT ends the batch, leaves the DRAM's role, and has the master die bin the slot where the commit is not refused at once (R200). -/
theorem Dev.batchCommit_ends (hn : (s.inp d i).head < 4) : ((s.batchCommit d i).inp d i).inBatch = false ∧
    (∀ e < 2, (s.batchCommit d i).drcRole e = s.drcRole e) ∧
    (s.commitRefusal (s.masterOf (s.inp d i).head) (s.inp d i).head = none →
      ((s.batchCommit d i).half (s.masterOf (s.inp d i).head) (s.inp d i).head).binning = some (s.inp d i).slot) := by
  have hwork := s.batchEnded_work (i := i) hd
  have hinp := s.batchEnded_inp (i := i) hd
  have hmaster := s.masterOf_lt (s.inp d i).head
  have hrefusal := hwork.commitRefusal hi hmaster hn
  generalize hm : s.masterOf (s.inp d i).head = m at *
  have hcommit : s.batchCommit d i = match (s.batchEnded d i).commitRefusal m (s.inp d i).head with
      | some r => ((s.batchEnded d i).commit m (s.inp d i).head (s.inp d i).slot).reportBatch d i (s.inp d i).batch r
      | none => ((s.batchEnded d i).setInp d i { (s.batchEnded d i).inp d i with
          waits := ((s.inp d i).head, (s.inp d i).batch) :: (s.inp d i).waits }).commit m (s.inp d i).head (s.inp d i).slot := by
    rw [← hm]
    rfl
  rw [hcommit, hrefusal]
  cases hr : s.commitRefusal m (s.inp d i).head with
  | some r =>
    have hsent := (((s.batchEnded d i).commit m (s.inp d i).head (s.inp d i).slot).setInp d i
      { ((s.batchEnded d i).commit m (s.inp d i).head (s.inp d i).slot).inp d i with bres := r, lastBatch := (s.inp d i).batch }).sendSrcstat_beside d i
    refine ⟨?_, fun e he => ?_, fun h => by cases h⟩
    · dsimp only [Dev.reportBatch]
      rw [hsent.inp, Dev.setInp_inp_same, Dev.commit_inp, hinp]
    · dsimp only [Dev.reportBatch]
      rw [(hsent.work.mono (Q := batchReg d i) fun _ => .inl).drcRole hi]
      exact (Dev.commit_drcRole _ _ _ _ e).trans (hwork.drcRole hi)
  | none =>
    refine ⟨?_, fun e he => ?_, fun _ => ?_⟩
    · dsimp only
      rw [Dev.commit_inp, Dev.setInp_inp_same, hinp]
    · exact (Dev.commit_drcRole _ _ _ _ e).trans (hwork.drcRole hi)
    · dsimp only
      rw [Dev.commit_taken _ _ _ _ (by exact hrefusal.trans hr), Dev.setHalf_half_same]

end

/-! ## Object packets -/

section
variable (s : Dev) {d i : Nat}

/-- The device once an object packet has been stored, before COMMIT acts. -/
def Dev.objStored (s : Dev) (m : Mems) (d i n slot off : Nat) (data : List Byte) : Dev :=
  (((s.crossWrite d (s.waysOf d n)).slotRefused d n slot off data.length).snoopInput d (8 + i) 1 data).snoopSlot m d n slot off data.length 2

theorem Dev.objStored_beside (hd : d < 2) (m : Mems) (n slot off : Nat) (data : List Byte) : s.beside (s.objStored m d i n slot off data) :=
  (((s.crossWrite_beside _ _).trans (Dev.slotRefused_beside _ _ _ _ _ _)).trans (Dev.snoopInput_beside _ hd _ _ _)).trans
    (Dev.snoopSlot_beside _ m _ _ _ _ _ _)

/-- The packet `p` continues the batch in progress of input `i`, within a slot that is not locked (R200, R201). -/
structure Dev.takesObj (s : Dev) (d i : Nat) (p : ObjPkt) : Prop where
  batch : (s.inp d i).inBatch = true ∧ (s.inp d i).batch = p.batch.toNat
  head : (s.inp d i).head = p.head.val
  slot : (s.inp d i).slot = b2n p.slot
  fits : p.fits = true
  feeds : bitOf (s.rd (Reg.LANE_IN_MAP d (8 + i))) (8 + p.head.val) = true
  offset : p.offset.toNat % 4 = 0 ∧ p.offset.toNat + p.data.length ≤ 0x9300
  unlocked : s.slotLocked p.head (b2n p.slot) = false
  reach : s.inputFails d [p.head.val] (slotAddr p.head (b2n p.slot) + p.offset.toNat) p.data.length = false

end

section
variable (s : State) {d i : Nat} (p : ObjPkt) (hlock : s.dev.locked d (8 + i) = true) (hlen : p.data.length ≤ 1024 ∧ p.data.length % 4 = 0)
  (v : Dev) (hv : v = if p.first then s.dev.batchStart d i p else s.dev)
include hlock hlen hv

theorem State.objRx_stored (h : v.takesObj d i p) (m : Mems)
    (hm : m = v.slotWrite s.mem d p.head (b2n p.slot) p.offset.toNat p.data)
    (w : Dev) (hw : w = v.objStored m d i p.head (b2n p.slot) p.offset.toNat p.data) :
    s.objRx d i p = { s with dev := if p.commit then w.batchCommit d i else w, mem := m } := by
  obtain ⟨⟨hbatch, hnum⟩, hhead, hslot, hfits, hfeeds, ⟨hoff, hend⟩, hopen, hreach⟩ := h
  subst hm hw
  have hgood : ¬ ((!p.fits) = true ∨ (!bitOf (v.rd (Reg.LANE_IN_MAP d (8 + i))) (8 + p.head.val)) = true ∨ p.head.val ≠ (v.inp d i).head ∨
      b2n p.slot ≠ (v.inp d i).slot ∨ p.batch.toNat ≠ (v.inp d i).batch ∨ p.offset.toNat % 4 ≠ 0 ∨ 0x9300 < p.offset.toNat + p.data.length ∨
      v.slotLocked (v.inp d i).head (b2n p.slot) = true) := by
    rw [hfits, hfeeds, hhead, hslot, hnum, hopen]
    simp only [Bool.not_true, Bool.false_eq_true, ne_eq, not_true_eq_false, false_or, or_false]
    omega
  unfold State.objRx
  rw [← hv]
  dsimp only
  rw [hlock, if_neg (by decide), if_neg (by omega), hbatch, if_neg (by decide), if_neg hgood, hhead, hreach, if_neg Bool.false_ne_true]
  rfl

theorem State.objRx_outside (hbatch : (v.inp d i).inBatch = true) (hout : 0x9300 < p.offset.toNat + p.data.length) :
    s.objRx d i p = { s with dev := v.failBatch d i } := by
  unfold State.objRx
  rw [← hv]
  dsimp only
  rw [hlock, if_neg (by decide), if_neg (by omega), hbatch, if_neg (by decide)]
  exact if_pos (.inr (.inr (.inr (.inr (.inr (.inr (.inl hout)))))))

end

end Sys2Proof.Machine
end

section
/-! SUPPORT. Packets as they arrive on a lane (R155, R179, R198, R201), and the statement about input lanes. -/

namespace Sys2Proof.Machine

/-! ## Packets in code groups -/

/-- The lane once the symbol errors of an arriving packet are counted (R168). -/
def Dev.heard (s : Dev) (d n : Nat) (rx : RxSyms) : Dev :=
  (s.wr (Reg.LANE_RAW d n) (BitVec.ofNat 32 (rawOf rx))).addR (Reg.LANE_SYMERR d n) (symErrors (symsOf rx))

theorem exec_badPacketRx (d : Die) (n : LaneIx) (rx : RxSyms) (s : State) : exec (.badPacketRx d n rx) s = .next (s.packetRx d n rx) := rfl

section
variable (s : State) (d : Die) (n : LaneIx) (rx : RxSyms)

theorem State.packetRx_unlocked (h : s.dev.locked d n = false) : s.packetRx d n rx = s := by
  unfold State.packetRx
  rw [h]
  rfl

theorem State.packetRx_bad (h : s.dev.locked d n = true)
    (hbad : (Machine.packetBody (symsOf rx)).all (fun b => !bodyOk (decide (n.val < 8)) b) = true) :
    s.packetRx d n rx = { s with dev := (s.dev.heard d n rx).badPacket d n (packetType (symsOf rx)) } := by
  unfold State.packetRx
  rw [h, if_neg (by decide)]
  dsimp only
  split
  · next b hb =>
    rw [hb, Option.all_some, Bool.not_eq_true'] at hbad
    rw [hbad, if_neg Bool.false_ne_true]
    rfl
  · rfl

theorem State.packetRx_good (h : s.dev.locked d n = true) {p : List Byte → Bool}
    (hgood : (Machine.packetBody (symsOf rx)).any (fun b => bodyOk (decide (n.val < 8)) b && p b) = true) :
    p ((Machine.packetBody (symsOf rx)).getD []) = true ∧
      s.packetRx d n rx = ({ s with dev := s.dev.heard d n rx }).packetBody d n ((Machine.packetBody (symsOf rx)).getD []) := by
  cases hb : Machine.packetBody (symsOf rx) with
  | none =>
    rw [hb] at hgood
    cases hgood
  | some b =>
    rw [hb, Option.any_some, Bool.and_eq_true] at hgood
    obtain ⟨hok, hp⟩ := hgood
    refine ⟨hp, ?_⟩
    unfold State.packetRx
    rw [h, if_neg (by decide)]
    dsimp only
    rw [hb]
    exact if_pos hok

end

/-! ## Packets that a lane does not accept -/

section
variable (s : Dev) {d i : Nat}

theorem Dev.badPacket_vid (h : (s.inp d i).inFrame = true) :
    s.badPacket d (8 + i) 0x11 =
      (s.raise (Reg.LANE_IN_FLT_STAT d (8 + i)) B.LANE_IN_BAD_PKT).discardFrame d i 2 (s.inp d i).frame true := by
  have hinp : (s.raise (Reg.LANE_IN_FLT_STAT d (8 + i)) B.LANE_IN_BAD_PKT).inp d i = s.inp d i := by rw [Dev.inp, Dev.raise_ins, Dev.inp]
  unfold Dev.badPacket
  rw [if_neg (by omega)]
  dsimp only
  rw [Nat.add_sub_cancel_left, hinp, if_pos ⟨rfl, h⟩]

theorem Dev.badPacket_obj (h : (s.inp d i).inBatch = true) :
    s.badPacket d (8 + i) 0x12 = (s.raise (Reg.LANE_IN_FLT_STAT d (8 + i)) B.LANE_IN_BAD_PKT).failBatch d i := by
  have hinp : (s.raise (Reg.LANE_IN_FLT_STAT d (8 + i)) B.LANE_IN_BAD_PKT).inp d i = s.inp d i := by rw [Dev.inp, Dev.raise_ins, Dev.inp]
  unfold Dev.badPacket
  rw [if_neg (by omega)]
  dsimp only
  rw [Nat.add_sub_cancel_left, hinp, if_neg (fun h => by cases h.1), if_pos ⟨rfl, h⟩]

variable (rx : RxSyms)

theorem Dev.heard_rd {b : Nat} (h : b ≠ Reg.LANE_RAW d i ∧ b ≠ Reg.LANE_SYMERR d i) : (s.heard d i rx).rd b = s.rd b :=
  (Dev.rd_wr_other _ _ _ _ h.2).trans (Dev.rd_wr_other _ _ _ _ h.1)

variable (hd : d < 2)
include hd

theorem Dev.heard_symerr (hi : i < 10) :
    (s.heard d i rx).rd (Reg.LANE_SYMERR d i) = s.rd (Reg.LANE_SYMERR d i) + BitVec.ofNat 32 (symErrors (symsOf rx)) := by
  have hne : Reg.LANE_SYMERR d i ≠ Reg.LANE_RAW d i := by simp only [Reg.LANE_SYMERR, Reg.LANE_RAW]; omega
  rw [Dev.heard, Dev.addSymerr_rd hd hi, Dev.rd_wr_other _ _ _ _ hne]

theorem regMask_tileUperr {q : Nat} (hq : q < 8) : regMask (Reg.LANE_TILE_UPERR d q) = 0xFFFFFFFF#32 :=
  (by decide : ∀ (d : Die) (q : TileIx), regMask (Reg.LANE_TILE_UPERR d q) = 0xFFFFFFFF#32) ⟨d, hd⟩ ⟨q, hq⟩

theorem Dev.heard_badPacket_tile (hi : i < 8) (typ : Nat) :
    ((s.heard d i rx).badPacket d i typ).rd (Reg.LANE_TILE_UPERR d i) = s.rd (Reg.LANE_TILE_UPERR d i) + 1#32 ∧
      ((s.heard d i rx).badPacket d i typ).rd (Reg.LANE_SYMERR d i) =
        s.rd (Reg.LANE_SYMERR d i) + BitVec.ofNat 32 (symErrors (symsOf rx)) ∧
      ((s.heard d i rx).badPacket d i typ).out = s.out := by
  have hbad : (s.heard d i rx).badPacket d i typ = (s.heard d i rx).addR (Reg.LANE_TILE_UPERR d i) 1 := if_pos hi
  have hsym : Reg.LANE_SYMERR d i ≠ Reg.LANE_TILE_UPERR d i := by simp only [Reg.LANE_SYMERR, Reg.LANE_TILE_UPERR]; omega
  have hraw : Reg.LANE_TILE_UPERR d i ≠ Reg.LANE_RAW d i := by simp only [Reg.LANE_RAW, Reg.LANE_TILE_UPERR]; omega
  rw [hbad]
  refine ⟨?_, ?_, rfl⟩
  · rw [Dev.addR, Dev.rd_wr_same, regMask_tileUperr hd hi, s.heard_rd rx ⟨hraw, hsym.symm⟩]
    exact BitVec.and_allOnes
  · rw [Dev.addR, Dev.rd_wr_other _ _ _ _ hsym, s.heard_symerr rx hd (by omega)]

variable (hi : i < 2)
include hi

/-- A register of the input that a bad packet reads before it ends a frame or batch. -/
theorem Dev.heard_inputRd {o : Nat} (ho : (Nat.ble 0x100 o && (Nat.blt o 0x1000 && o != 0x230)) = true) :
    ((s.heard d (8 + i) rx).raise (Reg.LANE_IN_FLT_STAT d (8 + i)) B.LANE_IN_BAD_PKT).rd (Reg.cd d + 0x10000 + 0x1000 * (8 + i) + o) =
      s.rd (Reg.cd d + 0x10000 + 0x1000 * (8 + i) + o) := by
  simp only [Bool.and_eq_true, Nat.ble_eq] at ho
  rw [((s.heard d (8 + i) rx).raise_beside _ _ (asideReg_input hd hi)).inputRd hi (Bool.and_eq_true_iff.mpr ho.2)]
  refine s.heard_rd rx ⟨?_, ?_⟩
  · simp only [Reg.LANE_RAW]; omega
  · simp only [Reg.LANE_SYMERR]; omega

/-- A bad packet of TYPE 0x11 discards the frame in progress with WHY 2 (R198). -/
theorem Dev.heard_badPacket_vid (h : (s.inp d i).inFrame = true) (t : Dev) (ht : t = (s.heard d (8 + i) rx).badPacket d (8 + i) 0x11) :
    (t.inp d i).inFrame = false ∧ (t.inp d i).lastBad = (s.inp d i).frame ∧
      t.rdF (Reg.LANE_IN_FRMCNT d (8 + i)) F.LANE_IN_FRMCNT_DROPPED =
        (s.rdF (Reg.LANE_IN_FRMCNT d (8 + i)) F.LANE_IN_FRMCNT_DROPPED + 1) % 2 ^ F.LANE_IN_FRMCNT_DROPPED.len ∧
      t.rdF (Reg.LANE_IN_STAT d (8 + i)) F.LANE_IN_STAT_WHY = 2 := by
  have hbad := (s.heard d (8 + i) rx).badPacket_vid h
  obtain ⟨hframe, hlast, hcount, hwhy⟩ := ((s.heard d (8 + i) rx).raise (Reg.LANE_IN_FLT_STAT d (8 + i)) B.LANE_IN_BAD_PKT).discardFrame_shows
    hd hi 2 ((s.heard d (8 + i) rx).inp d i).frame true (by decide)
  rw [ht, hbad]
  refine ⟨hframe, hlast, hcount.trans ?_, hwhy⟩
  rw [Dev.rdF, s.heard_inputRd rx hd hi (o := 0x21C) rfl, ← Dev.rdF]

theorem Dev.heard_badPacket_obj (h : (s.inp d i).inBatch = true) (t : Dev) (ht : t = (s.heard d (8 + i) rx).badPacket d (8 + i) 0x12) :
    (t.inp d i).inBatch = false ∧ (t.inp d i).bres = 8 ∧ t.rdF (Reg.LANE_IN_SUPER d (8 + i)) F.LANE_IN_SUPER_BATCH_FAIL =
      (s.rdF (Reg.LANE_IN_SUPER d (8 + i)) F.LANE_IN_SUPER_BATCH_FAIL + 1) % 2 ^ F.LANE_IN_SUPER_BATCH_FAIL.len := by
  have hbad := (s.heard d (8 + i) rx).badPacket_obj h
  obtain ⟨hbatch, -, hres, hcount⟩ := ((s.heard d (8 + i) rx).raise (Reg.LANE_IN_FLT_STAT d (8 + i)) B.LANE_IN_BAD_PKT).failBatch_shows hd hi
  rw [ht, hbad]
  refine ⟨hbatch, hres, hcount.trans ?_⟩
  rw [Dev.rdF, s.heard_inputRd rx hd hi (o := 0x220) rfl, ← Dev.rdF]

end

/-! ## Object packets that are stored -/

section
variable {s t : Dev} {d i : Nat} (hi : i < 2) (hw : s.laneWork (batchReg d i) t) (hr : ∀ e, e < 2 → s.drcRole e = 0) (n : Head)
include hi hw hr

/-- The end of a batch takes no die out of reach. -/
theorem Dev.laneWork.inputFails {a len : Nat} (h : s.inputFails d [n.val] a len = false) : t.inputFails d [n.val] a len = false := by
  have hrt (e : Nat) (he : e < 2) : t.drcRole e = 0 := (hw.drcRole hi).trans (hr e he)
  refine (t.inputFails_own hrt).mpr fun e he => ?_
  rw [hw.dieWay hi]
  refine (s.inputFails_own hr).mp h e ?_
  rw [List.flatMap_singleton] at he ⊢
  rw [← (hw.sameHead hi n.isLt).diesOf]
  exact he

/-- What a stored packet of a batch leaves reads back on every die of the head (R200). -/
theorem Dev.laneWork.slotReads {slot : Bool} {off : Nat} {data : List Byte} (hend : off + data.length ≤ 0x10000)
    (h : s.inputFails d [n.val] (slotAddr n (b2n slot) + off) data.length = false) (m : Mems) {w : Dev} (hrole : ∀ e < 2, w.drcRole e = 0)
    {e : Nat} (he : e ∈ s.diesOf n) :
    w.dieRead (t.slotWrite m d n (b2n slot) off data) e (slotAddr n (b2n slot) + off) data.length = some data := by
  have hrt (e : Nat) (he : e < 2) : t.drcRole e = 0 := (hw.drcRole hi).trans (hr e he)
  have hways : ∀ e ∈ t.diesOf n, t.dieWay d e = true := by
    have hall := (t.inputFails_own hrt).mp (hw.inputFails hi hr n h)
    rw [List.flatMap_singleton] at hall
    exact hall
  rw [t.slotWrite_reached hrt m d n slot off data hend, t.waysOf_all hways, (hw.sameHead hi n.isLt).diesOf]
  exact w.dieRead_stored he (hrole e ((s.mem_diesOf e n).mp he).1) m _ data (slotAddr_le n slot off _ hend)

end

/-! ## The packets of the statement -/

section
variable (s : State) {d i : Nat} (hd : d < 2) (hi : i < 2) (hlock : s.dev.locked d (8 + i) = true)
include hd hi hlock

/-- A video packet within the frame is stored; LAST that completes the frame ends it accepted (R197 to R199). -/
theorem State.vidRx_within (hr : ∀ e, e < 2 → s.dev.drcRole e = 0) (p : VidPkt) (hfirst : p.first = false) (hlo : 2 ≤ p.texels.length)
    (hhi : p.texels.length ≤ 1024) (heven : p.texels.length % 2 = 0) (h : s.dev.takesVid d i p) :
    ∃ v : Dev, s.dev.laneWork asideReg v ∧ (v.inp d i) = { s.dev.inp d i with written := (s.dev.inp d i).written + p.texels.length } ∧
      (s.vidRx d i p).dev = (if p.last then s.dev.vidLast v d i p.texels.length else v) ∧ (s.vidRx d i p).nv = s.nv ∧
      ∀ e ∈ (s.dev.fedHeads d i).flatMap s.dev.diesOf,
        v.dieRead (s.vidRx d i p).mem e (s.dev.vidAddr d i p.line.toNat p.x0.toNat) p.texels.length = some p.texels := by
  rw [s.vidRx_payload d i p hlock hlo hhi heven hfirst, s.vidPayload_stored d i p h _ rfl _ rfl]
  exact ⟨_, s.dev.vidStored_work hd _ _ _, s.dev.vidStored_inp hd _ _ _, rfl, rfl,
    fun e he => s.vidStored_reads hd hi h hr rfl he⟩

/-- A packet of the batch in progress is stored; COMMIT ends the batch (R200). -/
theorem State.objRx_within (hr : ∀ e, e < 2 → s.dev.drcRole e = 0) (p : ObjPkt) (hlen : p.data.length ≤ 1024 ∧ p.data.length % 4 = 0) {v : Dev}
    (hv : v = if p.first then s.dev.batchStart d i p else s.dev) (hwork : s.dev.laneWork (batchReg d i) v) (htakes : v.takesObj d i p)
    (hreach : s.dev.inputFails d [p.head.val] (slotAddr p.head (b2n p.slot) + p.offset.toNat) p.data.length = false) :
    ∃ w : Dev, v.beside w ∧ (s.objRx d i p).dev = (if p.commit then w.batchCommit d i else w) ∧ (s.objRx d i p).nv = s.nv ∧
      ∀ u : Dev, (∀ e < 2, u.drcRole e = 0) → ∀ e ∈ s.dev.diesOf p.head,
        u.dieRead (s.objRx d i p).mem e (slotAddr p.head (b2n p.slot) + p.offset.toNat) p.data.length = some p.data := by
  have hend : p.offset.toNat + p.data.length ≤ 0x10000 := by
    have := htakes.offset.2
    omega
  rw [s.objRx_stored p hlock hlen v hv htakes _ rfl _ rfl]
  exact ⟨_, v.objStored_beside hd _ _ _ _ _, rfl, rfl, fun u hu e he => hwork.slotReads hi hr p.head hend hreach s.mem hu he⟩

end

section
variable (s : Dev) {d i : Nat} (hd : d < 2) (hi : i < 2) (hr : ∀ e, e < 2 → s.drcRole e = 0) (p : ObjPkt) (hfits : p.fits = true)
  (hfeeds : bitOf (s.rd (Reg.LANE_IN_MAP d (8 + i))) (8 + p.head.val) = true)
  (hoff : p.offset.toNat % 4 = 0 ∧ p.offset.toNat + p.data.length ≤ 0x9300) (hopen : s.slotLocked p.head (b2n p.slot) = false)
  (hreach : s.inputFails d [p.head.val] (slotAddr p.head (b2n p.slot) + p.offset.toNat) p.data.length = false)
include hd hi hr hfits hfeeds hoff hopen hreach

/-- The first packet of a batch opens a batch that takes it. -/
theorem Dev.batchStart_takesObj : (s.batchStart d i p).takesObj d i p := by
  have hwork := s.batchStart_work p hd hi
  have hmap : (s.batchStart d i p).rd (Reg.LANE_IN_MAP d (8 + i)) = s.rd (Reg.LANE_IN_MAP d (8 + i)) := by
    refine hwork.rd _ ?_
    rintro (h | h)
    · exact not_asideReg_lane (o := 0x214) (by omega) (by decide) (by decide) h
    · simp only [Reg.LANE_IN_MAP, Reg.LANE_IN_STAT, Reg.LANE_IN_SUPER] at h
      omega
  have hinp := s.batchStart_inp (d := d) (i := i) p
  exact
    { batch := by rw [hinp]; exact ⟨rfl, rfl⟩
      head := by rw [hinp]
      slot := by rw [hinp]
      fits := hfits
      feeds := by rw [hmap]; exact hfeeds
      offset := hoff
      unlocked := by rw [hwork.slotLocked hi p.head.isLt]; exact hopen
      reach := hwork.inputFails hi hr p.head hreach }

end

theorem exec_vidRx (d : Die) (i : Fin 2) (p : VidPkt) (s : State) : exec (.vidRx d i p) s = .next (s.vidRx d i p) := rfl

theorem exec_objRx (d : Die) (i : Fin 2) (p : ObjPkt) (s : State) : exec (.objRx d i p) s = .next (s.objRx d i p) := rfl

theorem exec_statusRx (d : Die) (t : TileIx) (p : StatusPkt) (s : State) :
    exec (.statusRx d t p) s = .next { s with dev := s.dev.statusRx d t p } := rfl

theorem exec_inStale (d : Die) (i : Fin 2) (s : State) (h : s.dev.rdF (Reg.LANE_IN_CFG d (8 + i)) F.LANE_IN_CFG_STALE_T ≠ 0) :
    exec (.inStale d i) s = .next { s with dev := s.dev.causeOn (Reg.LANE_IN_FLT_STAT d (8 + i)) B.LANE_IN_IN_STALE } := by
  have hexec : exec (.inStale d i) s = s.onDev (fun v => if v.rdF (Reg.LANE_IN_CFG d (8 + i)) F.LANE_IN_CFG_STALE_T = 0 then v
      else v.causeOn (Reg.LANE_IN_FLT_STAT d (8 + i)) B.LANE_IN_IN_STALE) := rfl
  rw [hexec, State.onDev, if_neg h]

theorem exec_srcstatPeriodic (d : Die) (i : Fin 2) (s : State) (h : s.dev.locked d (8 + i) = true) :
    exec (.srcstatPeriodic d i) s = .next { s with dev := s.dev.laneSend d (8 + i) (s.dev.srcstat d i) } := by
  have hexec : exec (.srcstatPeriodic d i) s = .next { s with dev := s.dev.sendSrcstat d i } := rfl
  rw [hexec, Dev.sendSrcstat, if_pos h]

theorem faultReg_inputCause {d i : Nat} (hi : i < 2) : faultReg (Reg.LANE_IN_FLT_STAT d (8 + i) + 8) = false := by
  refine faultReg_eq_false _ ?_ (.inl ?_)
  · simp only [Reg.LANE_IN_FLT_STAT, Reg.cd]; omega
  · simp only [Reg.LANE_IN_FLT_STAT, Reg.cd]; omega

theorem Dev.staleOn_cause (s : Dev) {d i : Nat} (hd : d < 2) (hi : i < 2) :
    (s.causeOn (Reg.LANE_IN_FLT_STAT d (8 + i)) B.LANE_IN_IN_STALE).rdB (Reg.LANE_IN_FLT_CAUSE d (8 + i)) B.LANE_IN_IN_STALE = true := by
  obtain ⟨-, -, -, hmask⟩ := regMask_input hd hi
  have hreg : Reg.LANE_IN_FLT_CAUSE d (8 + i) = Reg.LANE_IN_FLT_STAT d (8 + i) + 8 := by
    simp only [Reg.LANE_IN_FLT_CAUSE, Reg.LANE_IN_FLT_STAT, Nat.add_assoc]
  rw [hreg] at hmask ⊢
  exact s.causeOn_cause _ _ (by decide) (by rw [hmask]; decide) (faultReg_inputCause hi)

theorem roles_own {s : Dev} (h0 : s.drcRole 0 = 0) (h1 : s.drcRole 1 = 0) : ∀ e, e < 2 → s.drcRole e = 0 := by
  intro e he
  obtain rfl | rfl : e = 0 ∨ e = 1 := by omega
  · exact h0
  · exact h1

/-- Settles O30: packets by the lane and the body they carry, video packets by the frame in progress, object packets by the batch. -/
theorem inputLanesComplete : Obligations.InputLanesComplete := by
  intro d q i rx line x0 fr data n slot batch off s
  have hd := d.isLt
  have hi := i.isLt
  have hq := q.isLt
  have htile : decide (q.val < 8) = true := decide_eq_true hq
  have hinput : decide (8 + i.val < 8) = false := decide_eq_false (by omega)
  refine ⟨fun ⟨hlock, hbad⟩ => ⟨_, exec_badPacketRx d ⟨q, by omega⟩ rx s, ?_⟩,
    fun ⟨hlock, hgood⟩ => ⟨_, exec_badPacketRx d ⟨q, by omega⟩ rx s, ?_⟩,
    fun ⟨hlock, hgood⟩ => ⟨_, exec_badPacketRx d ⟨8 + i, by omega⟩ rx s, ?_⟩,
    fun ⟨hlock, hbad, htyp, hframe⟩ => ⟨_, exec_badPacketRx d ⟨8 + i, by omega⟩ rx s, ?_⟩,
    fun ⟨hlock, hbad, htyp, hbatch⟩ => ⟨_, exec_badPacketRx d ⟨8 + i, by omega⟩ rx s, ?_⟩,
    fun hlock => ⟨_, exec_badPacketRx d ⟨8 + i, by omega⟩ rx s, ?_⟩,
    fun hstale => ⟨_, exec_inStale d i s hstale, ?_⟩,
    fun hlock => ⟨_, exec_srcstatPeriodic d i s hlock, rfl⟩,
    fun ⟨hframe, hlo, hhi, heven, hline, hcol, hreach, hrsv, hr0, hr1, hlock⟩ => ⟨_, exec_vidRx d i ⟨false, false, line, x0, fr, data, true⟩ s, ?_⟩,
    fun ⟨hframe, hlo, hhi, heven, hline, hcol, hreach, hrsv, hr0, hr1, hlock, hwhole⟩ =>
      ⟨_, exec_vidRx d i ⟨false, true, line, x0, fr, data, true⟩ s, ?_⟩,
    fun ⟨hframe, hlo, hhi, heven, hout, hlock⟩ => ⟨_, exec_vidRx d i ⟨false, false, line, x0, fr, data, true⟩ s, ?_⟩,
    fun ⟨hframe, hlo, hhi, heven, hlock⟩ => ⟨_, exec_vidRx d i ⟨false, false, line, x0, fr, data, false⟩ s, ?_⟩,
    fun ⟨hoff, hend, hhi, hmul, hlock, hfeeds, hopen, hr0, hr1, hreach⟩ =>
      ⟨_, exec_objRx d i ⟨n, slot, true, false, batch, off, data, true⟩ s, ?_⟩,
    fun ⟨hoff, hend, hhi, hmul, hlock, hfeeds, hopen, hr0, hr1, hreach, hbatch, hhead, hslot, hnum⟩ =>
      ⟨_, exec_objRx d i ⟨n, slot, false, true, batch, off, data, true⟩ s, ?_⟩,
    fun ⟨hlock, hhi, hmul, hbatch, hout⟩ => ⟨_, exec_objRx d i ⟨n, slot, false, false, batch, off, data, true⟩ s, ?_⟩⟩
  · rw [s.packetRx_bad d ⟨q, by omega⟩ rx hlock (by rw [htile]; exact hbad)]
    exact s.dev.heard_badPacket_tile rx hd hq _
  · obtain ⟨htyp, hgo⟩ := s.packetRx_good d ⟨q, by omega⟩ rx hlock (p := fun b => b.getD 0 0 == 0x81#8) (by rw [htile]; exact hgood)
    rw [hgo, exec_statusRx]
    unfold State.packetBody
    rw [dif_pos hq, if_pos (eq_of_beq htyp)]
    rfl
  · obtain ⟨htyp, hgo⟩ := s.packetRx_good d ⟨8 + i, by omega⟩ rx hlock (p := fun b => b.getD 0 0 == 0x11#8) (by rw [hinput]; exact hgood)
    rw [hgo, exec_vidRx]
    unfold State.packetBody
    rw [dif_neg (by simp), if_pos (eq_of_beq htyp), Nat.add_sub_cancel_left]
    rfl
  · rw [s.packetRx_bad d ⟨8 + i, by omega⟩ rx hlock (by rw [hinput]; exact hbad), htyp]
    exact s.dev.heard_badPacket_vid rx hd hi hframe _ rfl
  · rw [s.packetRx_bad d ⟨8 + i, by omega⟩ rx hlock (by rw [hinput]; exact hbad), htyp]
    exact s.dev.heard_badPacket_obj rx hd hi hbatch _ rfl
  · exact s.packetRx_unlocked d ⟨8 + i, by omega⟩ rx hlock
  · dsimp only
    exact s.dev.staleOn_cause hd hi
  · obtain ⟨v, hwork, hinp, hdev, hnv, hreads⟩ := s.vidRx_within hd hi hlock (roles_own hr0 hr1) ⟨false, false, line, x0, fr, data, true⟩
      rfl hlo hhi heven ⟨hframe, rfl, hline, hcol, hreach, hrsv⟩
    rw [hdev]
    refine ⟨hreads, ?_, ?_, hnv, (s.vidRx_movesMem (r := false) (h := false) d i _).flash rfl⟩
    · exact congrArg InH.written hinp
    · exact (congrArg InH.inFrame hinp).trans hframe
  · obtain ⟨v, hwork, hinp, hdev, -, -⟩ := s.vidRx_within hd hi hlock (roles_own hr0 hr1) ⟨false, true, line, x0, fr, data, true⟩
      rfl hlo hhi heven ⟨hframe, rfl, hline, hcol, hreach, hrsv⟩
    have hlast : s.dev.vidLast v d i data.length = v.frameComplete d i := if_neg fun h => h hwhole
    obtain ⟨hdone, hok, hnewest, hcount, hcause⟩ := v.frameComplete_shows hd hi
    rw [hdev, if_pos rfl, hlast]
    refine ⟨hdone, hok.trans (by rw [hinp]), hnewest.trans ?_, hcount.trans ?_, hcause⟩
    · rw [Dev.rdF, hwork.rd _ (not_asideReg_lane (o := 0x218) (by omega) (by decide) (by decide)), ← Dev.rdF]
    · rw [Dev.rdF, hwork.rd _ (not_asideReg_lane (o := 0x21C) (by omega) (by decide) (by decide)), ← Dev.rdF]
  · rw [s.vidRx_payload d i _ hlock hlo hhi heven rfl, s.vidPayload_outside d i _ hframe rfl hout]
    obtain ⟨hdone, hbad, -, hwhy⟩ := s.dev.discardFrame_shows hd hi 3 (s.dev.inp d i).frame true (by decide)
    exact ⟨hdone, hbad, hwhy, rfl⟩
  · rw [s.vidRx_payload d i _ hlock hlo hhi heven rfl, s.vidPayload_overrun d i _ hframe rfl]
    obtain ⟨hdone, hbad, -, hwhy⟩ := s.dev.discardFrame_shows hd hi 1 (s.dev.inp d i).frame true (by decide)
    exact ⟨hdone, hbad, hwhy, rfl⟩
  · have hwork := s.dev.batchStart_work ⟨n, slot, true, false, batch, off, data, true⟩ hd hi
    obtain ⟨w, hstored, hdev, hnv, hreads⟩ := s.objRx_within hd hi hlock (roles_own hr0 hr1) ⟨n, slot, true, false, batch, off, data, true⟩
      ⟨hhi, hmul⟩ rfl hwork (s.dev.batchStart_takesObj hd hi (roles_own hr0 hr1) _ rfl hfeeds ⟨hoff, hend⟩ hopen hreach) hreach
    have hrole (e : Nat) (he : e < 2) : w.drcRole e = 0 :=
      ((hstored.work.mono (Q := batchReg d i) fun _ => .inl).drcRole hi).trans ((hwork.drcRole hi).trans (roles_own hr0 hr1 e he))
    rw [hdev]
    refine ⟨hreads w hrole, hnv, (s.objRx_movesMem (r := false) (h := false) d i _).flash rfl, ?_, ?_⟩
    · exact (congrArg InH.inBatch (hstored.inp d i)).trans (congrArg InH.inBatch (s.dev.batchStart_inp _))
    · exact (congrArg InH.batch (hstored.inp d i)).trans (congrArg InH.batch (s.dev.batchStart_inp _))
  · have hwork := Dev.laneWork.refl (P := batchReg d i) s.dev
    obtain ⟨w, hstored, hdev, hnv, hreads⟩ := s.objRx_within hd hi hlock (roles_own hr0 hr1) ⟨n, slot, false, true, batch, off, data, true⟩
      ⟨hhi, hmul⟩ (v := s.dev) rfl hwork ⟨⟨hbatch, hnum⟩, hhead, hslot, rfl, hfeeds, ⟨hoff, hend⟩, hopen, hreach⟩ hreach
    have hkept := hstored.work.mono (Q := batchReg d i) fun _ => .inl
    have hinp := hstored.inp d i
    have hwhead : (w.inp d i).head = n.val := (congrArg InH.head hinp).trans hhead
    have hwslot : (w.inp d i).slot = b2n slot := (congrArg InH.slot hinp).trans hslot
    obtain ⟨hended, hrole, hbins⟩ := w.batchCommit_ends hd hi (by rw [hwhead]; exact n.isLt)
    rw [hwhead, hwslot, hkept.masterOf hi n.isLt, hkept.commitRefusal hi (s.dev.masterOf_lt n) n.isLt] at hbins
    rw [hdev]
    exact ⟨hreads _ fun e he => (hrole e he).trans ((hkept.drcRole hi).trans (roles_own hr0 hr1 e he)), hnv,
      (s.objRx_movesMem (r := false) (h := false) d i _).flash rfl, hended, hbins⟩
  · rw [s.objRx_outside _ hlock ⟨hhi, hmul⟩ s.dev rfl hbatch hout]
    obtain ⟨hended, hdead, hres, -⟩ := s.dev.failBatch_shows hd hi
    exact ⟨hended, hdead, hres, rfl⟩

end Sys2Proof.Machine
end

section
/-! SUPPORT. What the packets of a tile or an input change, and what of a STATUS stays in the registers of its tile (R181, R192 to R195,
R198, R201, R304, R311). -/

namespace Sys2Proof.Machine

/-! ## The packets of a lane -/

/-- Registers that the packets of lane `n` of die `d` move: those of what the lane carries, the symbols that it received and their errors,
and the calibration status of its tile. -/
def packetReg (d n b : Nat) : Prop := laneReg d n [0x14, 0x3C] b ∨ (n < 8 ∧ b = Reg.CAL_TSTAT d n)

/-- From `s` to `t` the packets of lane `n` of die `d` have changed no register but those, and taken no free value. -/
structure Dev.packetWork (d n : Nat) (s t : Dev) : Prop where
  work : s.laneWork (packetReg d n) t
  fresh : t.fresh = s.fresh

section
variable {d n : Nat} {s t u : Dev}

theorem Dev.packetWork.of_lane (h : s.laneWork (laneReg d n [0x14, 0x3C]) t) (hf : t.fresh = s.fresh) : s.packetWork d n t :=
  ⟨h.mono fun _ => .inl, hf⟩

theorem Dev.packetWork.refl (s : Dev) : s.packetWork d n s := ⟨.refl s, rfl⟩

theorem Dev.packetWork.trans (h : s.packetWork d n t) (g : t.packetWork d n u) : s.packetWork d n u :=
  ⟨h.work.trans g.work, g.fresh.trans h.fresh⟩

theorem Dev.packetWork.ite {c : Prop} [Decidable c] (h : s.packetWork d n t) (g : s.packetWork d n u) :
    s.packetWork d n (if c then t else u) := by
  split <;> assumption

theorem Dev.packetWork.keepsOutside (hn : n < 10) (h : s.packetWork d n t) :
    s.keepsOutside [(0x1010000 + 0x1000000 * d, 0x10000), (0x1061000 + 0x1000000 * d, 0x1000), (0x10A0000 + 0x1000000 * d, 0x10000),
      (0x10B0000 + 0x1000000 * d, 0x10000), (Reg.VSP_EVT_HOLD, 4)] t := by
  intro a ha
  simp only [List.forall_mem_cons, List.not_mem_nil, false_imp_iff, implies_true, and_true] at ha
  refine h.work.rd a ?_
  rintro (hlane | ⟨hq, rfl⟩)
  · have hin := dieLaneReg_lane hn (laneReg_mono (l' := commandRegs) (by decide) hlane)
    simp only [dieLaneReg, Reg.cd] at hin
    omega
  · simp only [Reg.CAL_TSTAT, Reg.cd] at ha
    omega

variable (h : s.packetWork d n t)
include h

theorem Dev.packetWork.setLane (x : LaneH) : s.packetWork d n (t.setLane d n x) := ⟨h.work.setLane d n x, h.fresh⟩

theorem Dev.packetWork.laneSend (p : Pkt) : s.packetWork d n (t.laneSend d n p) := ⟨h.work.laneSend d n p, h.fresh⟩

theorem Dev.packetWork.wrCargo (o : Nat) (v : Word) (ho : (Nat.ble 0x100 o && Nat.blt o 0x1000) = true) :
    s.packetWork d n (t.wr (Reg.cd d + 0x10000 + 0x1000 * n + o) v) :=
  h.trans (.of_lane ((Dev.laneWork.refl t).wrCargo o v ho) rfl)

variable (hd : d < 2) (hn : n < 10)
include hd hn

theorem Dev.packetWork.raise (o k : Nat) (ho : (Nat.ble 0x100 o && Nat.blt o 0x1000) = true) :
    s.packetWork d n (t.raise (Reg.cd d + 0x10000 + 0x1000 * n + o) k) :=
  h.trans (.of_lane ((Dev.laneWork.refl t).raiseCargo hd hn o k ho) (t.raise_fresh _ _))

theorem Dev.packetWork.causeOn (o k : Nat) (ho : (Nat.ble 0x100 o && Nat.blt (o + 8) 0x1000) = true) :
    s.packetWork d n (t.causeOn (Reg.cd d + 0x10000 + 0x1000 * n + o) k) := by
  simp only [Bool.and_eq_true, Nat.ble_eq, Nat.blt_eq] at ho
  refine (h.wrCargo (o + 8) _ ?_).raise hd hn o k ?_
  · simp only [Bool.and_eq_true, Nat.ble_eq, Nat.blt_eq]; omega
  · simp only [Bool.and_eq_true, Nat.ble_eq, Nat.blt_eq]; omega

theorem Dev.packetWork.causeIs (o k : Nat) (x : Bool) (ho : (Nat.ble 0x100 o && Nat.blt (o + 8) 0x1000) = true) :
    s.packetWork d n (t.causeIs (Reg.cd d + 0x10000 + 0x1000 * n + o) k x) := by
  cases x with
  | true => exact h.causeOn hd hn o k ho
  | false =>
    simp only [Bool.and_eq_true, Nat.ble_eq, Nat.blt_eq] at ho
    refine h.wrCargo (o + 8) _ ?_
    simp only [Bool.and_eq_true, Nat.ble_eq, Nat.blt_eq]; omega

end

/-! ## Packets of an input -/

theorem Dev.snoopInputEnd_fresh (s : Dev) (d lane kind : Nat) (accepted : Bool) : (s.snoopInputEnd d lane kind accepted).fresh = s.fresh :=
  forAll_keeps Dev.fresh
    (fun w u => w.crcWindowEnd_keeps Dev.fresh (fun _ _ _ => rfl) (fun _ _ _ _ => rfl) (fun _ _ => rfl) Dev.raise_fresh d u accepted) _ s

section
variable (s : Dev) {d i : Nat}

theorem Dev.sendSrcstat_fresh : (s.sendSrcstat d i).fresh = s.fresh := by
  unfold Dev.sendSrcstat
  split <;> rfl

theorem Dev.sendSrcstat_packetWork : s.packetWork d (8 + i) (s.sendSrcstat d i) := .of_lane s.sendSrcstat_laneWork s.sendSrcstat_fresh

variable (hd : d < 2) (hi : i < 2)
include hd hi

theorem Dev.discardFrame_packetWork (why frame : Nat) (ignoring : Bool) :
    s.packetWork d (8 + i) (s.discardFrame d i why frame ignoring) :=
  .of_lane (s.discardFrame_laneWork hd hi why frame ignoring)
    ((Dev.sendSrcstat_fresh _).trans ((Dev.raise_fresh _ _ _).trans (Dev.snoopInputEnd_fresh _ _ _ _ _)))

theorem Dev.failBatch_packetWork : s.packetWork d (8 + i) (s.failBatch d i) :=
  .of_lane (s.failBatch_laneWork hd hi)
    ((Dev.sendSrcstat_fresh _).trans ((Dev.raise_fresh _ _ _).trans (Dev.snoopInputEnd_fresh _ _ _ _ _)))

end

/-- A packet that is not accepted counts for a tile, and ends the frame or batch of an input that it is part of (R179, R198, R201). -/
theorem Dev.badPacket_packetWork (s : Dev) {d n : Nat} (hd : d < 2) (hn : n < 10) (typ : Nat) : s.packetWork d n (s.badPacket d n typ) := by
  by_cases ht : n < 8
  · have hcount : s.badPacket d n typ = s.addR (Reg.LANE_TILE_UPERR d n) 1 := if_pos ht
    rw [hcount]
    exact (Dev.packetWork.refl s).wrCargo 0x11C _ rfl
  · obtain ⟨i, rfl⟩ : ∃ i, n = 8 + i := ⟨n - 8, by omega⟩
    have hi : i < 2 := by omega
    have hraised := (Dev.packetWork.refl s).raise hd hn 0x230 B.LANE_IN_BAD_PKT rfl
    unfold Dev.badPacket
    rw [if_neg ht, Nat.add_sub_cancel_left]
    exact .ite (hraised.trans (Dev.discardFrame_packetWork _ hd hi _ _ _)) (.ite (hraised.trans (Dev.failBatch_packetWork _ hd hi)) hraised)

theorem Dev.heard_packetWork (s : Dev) (d n : Nat) (rx : RxSyms) : s.packetWork d n (s.heard d n rx) :=
  .of_lane (((Dev.laneWork.refl s).wrOwn 0x3C _ rfl).wrOwn 0x14 _ rfl) rfl

/-! ## Packets sent to a tile -/

section
variable (s : Dev) {d q : Nat}

theorem Dev.tileFailed_packetWork : s.packetWork d q (s.tileFailed d q) := ((Dev.packetWork.refl s).setLane _).wrCargo 0x100 _ rfl

theorem Dev.retransmit_packetWork (hd : d < 2) (hq : q < 8) : s.packetWork d q (s.retransmit d q) := by
  unfold Dev.retransmit
  dsimp only
  split
  · exact .refl s
  · exact .ite (s.tileFailed_packetWork.raise hd (by omega) 0x130 _ rfl)
      ((((Dev.packetWork.refl s).setLane _).wrCargo 0x120 _ rfl).laneSend _)

/-- The packet `p` as it leaves lane `q`, a CALIB packet as it is and another with the next SEQ (R181, R192). -/
def Dev.sentPacket (s : Dev) (d q : Nat) (p : Pkt) : Dev :=
  let h := s.lane d q
  let rest := dropFirst p h.queue
  if p.isCalib then (s.setLane d q { h with queue := rest }).laneSend d q p
  else
    let n := (h.seq + 1) % 65536
    let t := (s.setLane d q { h with queue := rest, seq := n, out := some ⟨p.withSeq n, n, 0⟩ }).addF
      (Reg.LANE_TILE_CMDCNT d q) F.LANE_TILE_CMDCNT_CMDS 1
    let t := if p.isSafe ∧ t.dstate d q = 1 then
        (t.setDstate d q 3).setLane d q { t.lane d q with wantRun := h.causes.isEmpty }
      else t
    t.laneSend d q (p.withSeq n)

theorem Dev.sendPacket_none (h : s.locked d q = false ∨ (nextPacket (s.lane d q)).isNone = true) : s.sendPacket d q = s :=
  if_pos (h.imp_left fun h => by rw [h]; rfl)

theorem Dev.sendPacket_next (hidle : s.inSlice d (laneBlock d q) = false) (hlock : s.locked d q = true) {p : Pkt}
    (hp : nextPacket (s.lane d q) = some p) : s.sendPacket d q = s.sentPacket d q p := by
  unfold Dev.sendPacket
  rw [if_neg (by simp [hlock, hp]), s.serve_idle _ _ hidle]
  dsimp only
  rw [hp]
  exact if_neg (by rw [hidle]; decide)

theorem Dev.sentPacket_packetWork (p : Pkt) : s.packetWork d q (s.sentPacket d q p) := by
  have hs := Dev.packetWork.refl (d := d) (n := q) s
  unfold Dev.sentPacket
  refine .ite ((hs.setLane _).laneSend _) ?_
  exact .laneSend (.ite ((((hs.setLane _).wrCargo 0x120 _ rfl).wrCargo 0x100 _ rfl).setLane _) ((hs.setLane _).wrCargo 0x120 _ rfl)) _

theorem Dev.sendPacket_packetWork (hidle : s.inSlice d (laneBlock d q) = false) : s.packetWork d q (s.sendPacket d q) := by
  cases hlock : s.locked d q with
  | false =>
    rw [s.sendPacket_none (.inl hlock)]
    exact .refl s
  | true =>
    cases hp : nextPacket (s.lane d q) with
    | none =>
      rw [s.sendPacket_none (.inr (by rw [hp]; rfl))]
      exact .refl s
    | some p =>
      rw [s.sendPacket_next hidle hlock hp]
      exact s.sentPacket_packetWork p

end

end Sys2Proof.Machine
end

section
/-! SUPPORT. A STATUS on a LOCKED lane (R183, R192 to R195, R311): the registers that it sets, and what the answer to it leaves as reported. -/

namespace Sys2Proof.Machine

/-! ## Registers of a tile -/

section
variable {d q : Nat} (hd : d < 2) (hq : q < 8)
include hd hq

theorem regMask_tile : regMask (Reg.LANE_TILE_STAT d q) = 0xFFFF1F77#32 ∧ regMask (Reg.LANE_TILE_ID d q) = 0xFFFFFFFF#32 ∧
    regMask (Reg.LANE_TILE_RXERR d q) = 0xFFFFFFFF#32 ∧ regMask (Reg.LANE_TILE_CMDCNT d q) = 0xFFFFFFFF#32 ∧
    regMask (Reg.LANE_TILE_FLT_CAUSE d q) = 0x7F#32 :=
  (by decide : ∀ (d : Die) (q : TileIx), regMask (Reg.LANE_TILE_STAT d q) = 0xFFFF1F77#32 ∧ regMask (Reg.LANE_TILE_ID d q) = 0xFFFFFFFF#32 ∧
    regMask (Reg.LANE_TILE_RXERR d q) = 0xFFFFFFFF#32 ∧ regMask (Reg.LANE_TILE_CMDCNT d q) = 0xFFFFFFFF#32 ∧
    regMask (Reg.LANE_TILE_FLT_CAUSE d q) = 0x7F#32) ⟨d, hd⟩ ⟨q, hq⟩

variable (s : Dev)

theorem Dev.tileStat_wrF (f : Fld) (v : Nat) (hf : f.lo + f.len ≤ 32) (hm : 0xFFFF1F77#32 &&& f.mask = f.mask) :
    (s.wrF (Reg.LANE_TILE_STAT d q) f v).rdF (Reg.LANE_TILE_STAT d q) f = v % 2 ^ f.len :=
  Dev.rdF_wrF_same _ _ _ _ hf (by rw [(regMask_tile hd hq).1]; exact hm)

theorem Dev.tileStat_wrF_field (f g : Fld) (v : Nat) (hg : g.lo + g.len ≤ 32) (hm : 0xFFFF1F77#32 &&& g.mask = g.mask)
    (h : f.lo + f.len ≤ g.lo ∨ g.lo + g.len ≤ f.lo) :
    (s.wrF (Reg.LANE_TILE_STAT d q) f v).rdF (Reg.LANE_TILE_STAT d q) g = s.rdF (Reg.LANE_TILE_STAT d q) g :=
  Dev.rdF_wrF_field _ _ _ _ _ hg (by rw [(regMask_tile hd hq).1]; exact hm) h

theorem Dev.dstate_setDstate (v : Nat) (hv : v < 8) : (s.setDstate d q v).dstate d q = v :=
  (s.tileStat_wrF hd hq F.LANE_TILE_STAT_DSTATE v (by decide) (by decide)).trans (Nat.mod_eq_of_lt hv)

end

theorem faultReg_tile {d q o : Nat} (hq : q < 10) (ho : o < 0x1000) : faultReg (Reg.cd d + 0x10000 + 0x1000 * q + o) = false := by
  refine faultReg_eq_false _ ?_ (.inl ?_)
  · simp only [Reg.cd]; omega
  · simp only [Reg.cd]; omega

/-! ## What the answer to a STATUS leaves as reported -/

/-- From `s` to `t` lane `q` of die `d` has done what packets do, and what the tile has reported stays: its state, cause and LOCK, the other
registers that show its last STATUS and its causes, and the time of that STATUS. No command is outstanding that was not before. -/
structure Dev.keepsReport (d q : Nat) (s t : Dev) : Prop where
  packet : s.packetWork d q t
  stat : ∀ f ∈ [F.LANE_TILE_STAT_TSTATE, F.LANE_TILE_STAT_TCAUSE, F.LANE_TILE_STAT_LOCK],
    t.rdF (Reg.LANE_TILE_STAT d q) f = s.rdF (Reg.LANE_TILE_STAT d q) f
  rd : ∀ b ∈ [Reg.LANE_TILE_ID d q, Reg.LANE_TILE_RXERR d q, Reg.LANE_TILE_FLT_CAUSE d q], t.rd b = s.rd b
  statusAt : (t.lane d q).statusAt = (s.lane d q).statusAt
  out : (s.lane d q).out = none → (t.lane d q).out = none

section
variable {d q : Nat} {s t u : Dev}

theorem Dev.keepsReport.refl (s : Dev) : s.keepsReport d q s := ⟨.refl s, fun _ _ => rfl, fun _ _ => rfl, rfl, id⟩

theorem Dev.keepsReport.trans (h : s.keepsReport d q t) (g : t.keepsReport d q u) : s.keepsReport d q u :=
  ⟨h.packet.trans g.packet, fun f hf => (g.stat f hf).trans (h.stat f hf), fun b hb => (g.rd b hb).trans (h.rd b hb),
    g.statusAt.trans h.statusAt, fun hs => g.out (h.out hs)⟩

theorem Dev.keepsReport.ite {c : Prop} [Decidable c] (h : s.keepsReport d q t) (g : s.keepsReport d q u) :
    s.keepsReport d q (if c then t else u) := by
  split <;> assumption

variable (h : s.keepsReport d q t)
include h

theorem Dev.keepsReport.setLane (x : LaneH) (hat : x.statusAt = (t.lane d q).statusAt) (hout : (t.lane d q).out = none → x.out = none) :
    s.keepsReport d q (t.setLane d q x) :=
  h.trans
    { packet := (Dev.packetWork.refl t).setLane x
      stat := fun _ _ => rfl
      rd := fun _ _ => rfl
      statusAt := by rw [Dev.setLane_lane_same, hat]
      out := fun ht => by rw [Dev.setLane_lane_same, hout ht] }

theorem Dev.keepsReport.setHalf (n : Nat) (x : HalfH) : s.keepsReport d q (t.setHalf d n x) :=
  h.trans ⟨⟨(Dev.laneWork.refl t).setHalf d n x, rfl⟩, fun _ _ => rfl, fun _ _ => rfl, rfl, id⟩

theorem Dev.keepsReport.setFlt (x : FltS) : s.keepsReport d q { t with flt := x } :=
  h.trans ⟨⟨.of_regs rfl rfl, rfl⟩, fun _ _ => rfl, fun _ _ => rfl, rfl, id⟩

theorem Dev.keepsReport.enqueue (p : Pkt) : s.keepsReport d q (t.enqueue d q p) := by
  unfold Dev.enqueue Dev.offer
  split
  · exact h
  · split
    · exact h
    · exact h.setLane _ rfl id

theorem Dev.keepsReport.planNext : s.keepsReport d q (t.planNext d q) := by
  unfold Dev.planNext
  dsimp only
  split
  · refine .enqueue ?_ _
    exact h.setLane _ rfl id
  · exact h.setLane _ rfl id

variable (hd : d < 2) (hq : q < 8)
include hd hq

/-- A write of DSTATE or of DISPUTED. -/
theorem Dev.keepsReport.wrStat (f : Fld) (v : Nat) (hf : f = F.LANE_TILE_STAT_DSTATE ∨ f = F.LANE_TILE_STAT_DISPUTED) :
    s.keepsReport d q (t.wrF (Reg.LANE_TILE_STAT d q) f v) := by
  refine h.trans ⟨(Dev.packetWork.refl t).wrCargo 0x100 _ rfl, fun g hg => ?_, fun b hb => Dev.rd_wrF_other _ _ _ _ _ ?_, rfl, id⟩
  · have hfields : g.lo + g.len ≤ 32 ∧ 0xFFFF1F77#32 &&& g.mask = g.mask ∧ (f.lo + f.len ≤ g.lo ∨ g.lo + g.len ≤ f.lo) := by
      simp only [List.mem_cons, List.not_mem_nil, or_false] at hg
      rcases hf with rfl | rfl <;> rcases hg with rfl | rfl | rfl <;> decide
    obtain ⟨hlen, hmask, hapart⟩ := hfields
    exact t.tileStat_wrF_field hd hq f g v hlen hmask hapart
  · simp only [List.mem_cons, List.not_mem_nil, or_false, Reg.LANE_TILE_ID, Reg.LANE_TILE_RXERR, Reg.LANE_TILE_FLT_CAUSE] at hb
    simp only [Reg.LANE_TILE_STAT]
    omega

theorem Dev.keepsReport.setDstate (v : Nat) : s.keepsReport d q (t.setDstate d q v) := h.wrStat hd hq _ v (.inl rfl)

/-- A fault of the tile that lasts a moment. -/
theorem Dev.keepsReport.raise (k : Nat) : s.keepsReport d q (t.raise (Reg.LANE_TILE_FLT_STAT d q) k) := by
  have hrd {o : Nat} (ho : o < 0x1000) (hne : o ≠ 0x130) : (t.raise (Reg.LANE_TILE_FLT_STAT d q) k).rd (Reg.cd d + 0x10000 + 0x1000 * q + o) =
      t.rd (Reg.cd d + 0x10000 + 0x1000 * q + o) :=
    t.raise_rd _ k _ (faultReg_tile (by omega) ho) fun he => hne (Nat.add_left_cancel he)
  refine h.trans ⟨(Dev.packetWork.refl t).raise hd (by omega) 0x130 k rfl, fun f _ => congrArg (fget · f) (hrd (by decide) (by decide)),
    fun b hb => ?_, by rw [Dev.raise_lane], by rw [Dev.raise_lane]; exact id⟩
  simp only [List.mem_cons, List.not_mem_nil, or_false] at hb
  rcases hb with rfl | rfl | rfl
  · exact hrd (by decide) (by decide)
  · exact hrd (by decide) (by decide)
  · exact hrd (by decide) (by decide)

theorem Dev.keepsReport.runAcked : s.keepsReport d q (t.runAcked d q) :=
  .ite (h.setDstate hd hq 2) ((h.setDstate hd hq 3).enqueue _)

theorem Dev.keepsReport.bringup : s.keepsReport d q (t.bringup d q) := by
  refine .setDstate ?_ hd hq 1
  exact h.setLane _ rfl fun _ => rfl

end

/-! ## The answer to a STATUS -/

/-- What the acknowledgement of the command `o` brings, once it is no longer outstanding in `s` (R192 to R194): `h` is the lane before. -/
def Dev.ackedWith (s : Dev) (d q : Nat) (p : StatusPkt) (h : LaneH) (o : Outstanding) : Dev :=
  let t := match o.pkt with
    | .cmd 3 _ _ _ => if p.ackRes = 3#8 then s.raise (Reg.LANE_TILE_FLT_STAT d q) B.LANE_TILE_SF_CRC else s
    | _ => s
  if o.pkt.isRun then (if t.dstate d q = 1 ∨ t.dstate d q = 3 then t.runAcked d q else t)
  else if t.dstate d q = 1 ∧ !h.waitStatus ∧ !h.waitRun ∧ !h.queue.any Pkt.isCmd then t.planNext d q
  else t

/-- What follows the acknowledgement of a STATUS: the half that waits for LOCK, bring-up, the return to it, and the two views (R138, R194,
R311). -/
def Dev.statusAnswered (s : Dev) (d : Die) (q : TileIx) (p : StatusPkt) : Dev :=
  let n := (s.place d q).head
  let t := if p.lock && (s.lane d q).noMode then
      s.setHalf d n { s.half d n with awaited := (s.half d n).awaited.filter (· != q.val) }
    else s
  let h := t.lane d q
  let t := if t.dstate d q = 1 ∧ h.waitStatus then
      (if p.proto ≠ 1#8 then (t.setLane d q { h with waitStatus := false }).setDstate d q 5
       else (t.setLane d q { h with waitStatus := false, plan := t.planPkts d q }).planNext d q)
    else if t.dstate d q = 2 ∧ p.state = 1#3 then t.bringup d q
    else t
  t.tileViews d q p

section
variable (s : Dev) (p : StatusPkt)

theorem Dev.takeAck_none {d q : Nat} (h : (s.lane d q).out = none) : s.takeAck d q p = s := by
  unfold Dev.takeAck
  dsimp only
  rw [h]

theorem Dev.takeAck_some {d q : Nat} {o : Outstanding} (h : (s.lane d q).out = some o) : s.takeAck d q p =
    if p.ackRes = 4#8 ∨ p.ackSeq.toNat ≠ o.seq then s
    else (s.setLane d q { s.lane d q with out := none }).ackedWith d q p (s.lane d q) o := by
  unfold Dev.takeAck
  dsimp only
  rw [h]
  rfl

theorem Dev.statusRx_unlocked (d : Die) (q : TileIx) (h : s.locked d q = false) : s.statusRx d q p = s := if_pos (by rw [h]; rfl)

theorem Dev.statusRx_taken (d : Die) (q : TileIx) (h : s.locked d q = true) (ho : p.openMap.length = 64) (hs : p.shortMap.length = 64) :
    s.statusRx d q p = ((s.takeStatus d q p).takeAck d q p).statusAnswered d q p :=
  (if_neg (by rw [h]; decide)).trans (if_neg (by omega))

end

section
variable (s : Dev) (p : StatusPkt)

section
variable {d q : Nat} (hd : d < 2) (hq : q < 8)
include hd hq

theorem Dev.ackedWith_keepsReport (h : LaneH) (o : Outstanding) : s.keepsReport d q (s.ackedWith d q p h o) := by
  have hs := Dev.keepsReport.refl (d := d) (q := q) s
  unfold Dev.ackedWith
  dsimp only
  generalize hraised : ite (p.ackRes = 3#8) (s.raise (Reg.LANE_TILE_FLT_STAT d q) B.LANE_TILE_SF_CRC) s = t
  have ht : s.keepsReport d q t := by
    rw [← hraised]
    exact .ite (hs.raise hd hq _) hs
  have hanswer {v : Dev} (hv : s.keepsReport d q v) : s.keepsReport d q
      (if o.pkt.isRun then (if v.dstate d q = 1 ∨ v.dstate d q = 3 then v.runAcked d q else v)
        else if v.dstate d q = 1 ∧ !h.waitStatus ∧ !h.waitRun ∧ !h.queue.any Pkt.isCmd then v.planNext d q else v) :=
    .ite (.ite (hv.runAcked hd hq) hv) (.ite hv.planNext hv)
  refine hanswer ?_
  split
  · exact ht
  · exact hs

theorem Dev.takeAck_keepsReport : s.keepsReport d q (s.takeAck d q p) := by
  have hs := Dev.keepsReport.refl (d := d) (q := q) s
  cases ho : (s.lane d q).out with
  | none =>
    rw [s.takeAck_none p ho]
    exact hs
  | some o =>
    rw [s.takeAck_some p ho]
    refine .ite hs (.trans ?_ (Dev.ackedWith_keepsReport _ p hd hq _ o))
    exact hs.setLane _ rfl fun _ => rfl

/-- An acknowledgement leaves no command outstanding (R192). -/
theorem Dev.takeAck_out (hres : p.ackRes ≠ 4#8) (hseq : (s.lane d q).out.all (fun o => p.ackSeq.toNat == o.seq) = true) :
    ((s.takeAck d q p).lane d q).out = none := by
  cases ho : (s.lane d q).out with
  | none =>
    rw [s.takeAck_none p ho]
    exact ho
  | some o =>
    rw [ho, Option.all_some, beq_iff_eq] at hseq
    rw [s.takeAck_some p ho, if_neg (by simp [hres, hseq])]
    exact (Dev.ackedWith_keepsReport _ p hd hq _ o).out (by rw [Dev.setLane_lane_same])

end

variable (d : Die) (q : TileIx)

theorem Dev.tileViews_keepsReport : s.keepsReport d q (s.tileViews d q p) := by
  have hs := Dev.keepsReport.refl (d := d) (q := q) s
  unfold Dev.tileViews
  dsimp only
  generalize hviews : ite (s.dstate d q = 3 ∧ p.state ≠ 1#3) _ _ = t
  have ht : s.keepsReport d q t := by
    rw [← hviews]
    refine .ite (.ite (.wrStat (.setFlt ?_ _) d.isLt q.isLt _ _ (.inr rfl)) ?_) (.ite (.wrStat (.setFlt ?_ _) d.isLt q.isLt _ _ (.inr rfl)) ?_)
    all_goals exact hs.setLane _ rfl id
  exact .ite (ht.enqueue _) ht

theorem Dev.statusAnswered_keepsReport : s.keepsReport d q (s.statusAnswered d q p) := by
  have hs := Dev.keepsReport.refl (d := d) (q := q) s
  unfold Dev.statusAnswered
  dsimp only
  generalize hwaits : ite ((p.lock && (s.lane d q).noMode) = true) _ s = t
  have ht : s.keepsReport d q t := by
    rw [← hwaits]
    exact .ite (hs.setHalf _ _) hs
  refine .trans (.ite (.ite ?_ ?_) (.ite (ht.bringup d.isLt q.isLt) ht)) (Dev.tileViews_keepsReport _ p d q)
  · refine .setDstate ?_ d.isLt q.isLt 5
    exact ht.setLane _ rfl id
  · refine .planNext ?_
    exact ht.setLane _ rfl id

end

end Sys2Proof.Machine
end

section
/-! SUPPORT. What a STATUS reports in the registers of its tile (Tables 8-3 and 8-8, R183, R186, R193), and the statement on packets of tiles
and inputs. -/

namespace Sys2Proof.Machine

/-! ## The registers that take a STATUS -/

/-- LANE_TILE_STATn with what a STATUS reports. -/
def Dev.statusState (s : Dev) (d q : Nat) (p : StatusPkt) : Dev :=
  let st := Reg.LANE_TILE_STAT d q
  let t := (s.wrF st F.LANE_TILE_STAT_TSTATE p.state.toNat).wrF st F.LANE_TILE_STAT_TCAUSE p.cause.toNat
  let t := (t.wrF st F.LANE_TILE_STAT_LOCK (b2n p.lock)).wrF st F.LANE_TILE_STAT_PROTO p.proto.toNat
  t.wrF st F.LANE_TILE_STAT_CAPS p.caps.toNat

/-- Two halves of a register that shows two values of a STATUS. -/
def statusPair (a b : BitVec 16) : Word := BitVec.ofNat 32 (a.toNat + 0x10000 * b.toNat)

/-- The other registers of the tile that show one value or two. -/
def Dev.statusValues (s : Dev) (d q : Nat) (p : StatusPkt) : Dev :=
  let t := s.wr (Reg.LANE_TILE_ID d q) (statusPair p.vendor p.model)
  let t := (t.wr (Reg.LANE_TILE_TEMPA d q) (statusPair p.temp0 p.temp1)).wr (Reg.LANE_TILE_TEMPB d q) (statusPair p.temp2 p.temp3)
  let t := (t.wr (Reg.LANE_TILE_SUPA d q) (statusPair p.sup0 p.sup1)).wr (Reg.LANE_TILE_SUPB d q) (statusPair p.sup2 p.sup3)
  (t.wr (Reg.LANE_TILE_RXERR d q) p.rxErr).wrF (Reg.LANE_TILE_AGE d q) F.LANE_TILE_AGE_FWVER p.fwVer.toNat

/-- The slice of the open and short maps that a STATUS carries (R186). -/
def Dev.statusMaps (s : Dev) (d q : Nat) (p : StatusPkt) : Dev :=
  forAll (List.range 16) s (fun s k =>
    (s.wr (Reg.LANE_OPENMAP d q (16 * p.slice.val + k)) (BitVec.ofNat 32 (leAt p.openMap (4 * k) 4))).wr
      (Reg.LANE_SHORTMAP d q (16 * p.slice.val + k)) (BitVec.ofNat 32 (leAt p.shortMap (4 * k) 4)))

/-- Cause `k` of the tile is present where its map, with the registers `word`, shows a block (R186). -/
def Dev.mapCause (s : Dev) (d q k : Nat) (word : Nat → Nat) : Dev :=
  s.causeIs (Reg.LANE_TILE_FLT_STAT d q) k ((List.range 128).any (fun i => s.rd (word i) != 0#32))

/-- NOCAP and the causes of the tile as a STATUS shows them, before SILENT ends (Table 8-8). -/
def Dev.statusCauses (s : Dev) (d q : Nat) (p : StatusPkt) : Dev :=
  ((((s.wrF (Reg.CAL_TSTAT d q) F.CAL_TSTAT_NOCAP (b2n (p.caps.toNat % 2 == 0))).mapCause d q B.LANE_TILE_OPEN (Reg.LANE_OPENMAP d q)).mapCause
    d q B.LANE_TILE_SHORT (Reg.LANE_SHORTMAP d q)).causeIs (Reg.LANE_TILE_FLT_STAT d q) B.LANE_TILE_WDOG
      (p.state == 1#3 && p.cause == 1#3)).causeIs (Reg.LANE_TILE_FLT_STAT d q) B.LANE_TILE_PROTO (p.proto != 1#8)

/-- The device once a STATUS stands in the registers of its tile, before its time is noted. -/
def Dev.statusShown (s : Dev) (d q : Nat) (p : StatusPkt) : Dev :=
  ((((s.statusState d q p).statusValues d q p).statusMaps d q p).statusCauses d q p).causeOff (Reg.LANE_TILE_FLT_STAT d q) B.LANE_TILE_SILENT

theorem Dev.takeStatus_eq (s : Dev) (d q : Nat) (p : StatusPkt) : s.takeStatus d q p =
    (s.statusShown d q p).setLane d q { (s.statusShown d q p).lane d q with statusAt := some (s.statusShown d q p).us, old := false } := rfl

section
variable (s : Dev) {d q : Nat} (p : StatusPkt) (hd : d < 2) (hq : q < 8)

/-! ## What showing a STATUS leaves alone -/

theorem Dev.statusState_packetWork : s.packetWork d q (s.statusState d q p) :=
  (((((Dev.packetWork.refl s).wrCargo 0x100 _ rfl).wrCargo 0x100 _ rfl).wrCargo 0x100 _ rfl).wrCargo 0x100 _ rfl).wrCargo 0x100 _ rfl

theorem Dev.statusValues_packetWork : s.packetWork d q (s.statusValues d q p) := by
  have htemps := (((Dev.packetWork.refl (d := d) (n := q) s).wrCargo 0x104 (statusPair p.vendor p.model) rfl).wrCargo 0x108
    (statusPair p.temp0 p.temp1) rfl).wrCargo 0x10C (statusPair p.temp2 p.temp3) rfl
  exact (((htemps.wrCargo 0x110 _ rfl).wrCargo 0x114 _ rfl).wrCargo 0x118 _ rfl).wrCargo 0x124 _ rfl

theorem packetReg_maps {i : Nat} (hi : i < 128) : packetReg d q (Reg.LANE_OPENMAP d q i) ∧ packetReg d q (Reg.LANE_SHORTMAP d q i) := by
  simp only [packetReg, laneReg, cargoReg, Reg.LANE_OPENMAP, Reg.LANE_SHORTMAP]
  exact ⟨.inl (.inl (.inr (.inr ⟨by omega, by omega⟩))), .inl (.inl (.inr (.inr ⟨by omega, by omega⟩)))⟩

theorem Dev.statusMaps_packetWork : s.packetWork d q (s.statusMaps d q p) := by
  unfold Dev.statusMaps
  refine ⟨.forAll (fun w k hk => ?_) s, forAll_keeps Dev.fresh (fun _ _ => by rfl) _ s⟩
  have hword : 16 * p.slice.val + k < 128 := by have := List.mem_range.mp hk; omega
  obtain ⟨hopen, hshort⟩ := packetReg_maps (d := d) (q := q) hword
  exact ((Dev.laneWork.refl w).wr _ _ hopen).wr _ _ hshort

/-- What register writes and causes keep, showing a STATUS keeps. -/
theorem Dev.statusShown_keeps {β : Type} (g : Dev → β) (hr : ∀ (s : Dev) a v, g (s.wr a v) = g s)
    (hc : ∀ (s : Dev) a k x, g (s.causeIs a k x) = g s) : g (s.statusShown d q p) = g s := by
  have hmap (t : Dev) (k : Nat) (w : Nat → Nat) : g (t.mapCause d q k w) = g t := hc _ _ _ _
  have hmaps (t : Dev) : g (t.statusMaps d q p) = g t := by
    unfold Dev.statusMaps
    exact forAll_keeps g (fun _ _ => (hr _ _ _).trans (hr _ _ _)) _ t
  have hfield (t : Dev) (a : Nat) (f : Fld) (v : Nat) : g (t.wrF a f v) = g t := hr _ _ _
  have hoff (t : Dev) (a k : Nat) : g (t.causeOff a k) = g t := hr _ _ _
  simp only [Dev.statusShown, Dev.statusCauses, Dev.statusValues, Dev.statusState, hoff, hc, hmap, hmaps, hfield, hr]

theorem Dev.takeStatus_lane : (s.takeStatus d q p).lane d q = { s.lane d q with statusAt := some s.us, old := false } := by
  have hlanes := s.statusShown_keeps (d := d) (q := q) p Dev.lanes (fun _ _ _ => rfl) Dev.causeIs_lanes
  have hus := s.statusShown_keeps (d := d) (q := q) p Dev.us (fun _ _ _ => rfl) Dev.causeIs_us
  rw [Dev.takeStatus_eq, Dev.setLane_lane_same, Dev.lane_congr hlanes, hus]

include hq

/-- The maps and the causes leave the values that a STATUS reports beside them. -/
theorem Dev.statusShown_rd {o : Nat} (ho : o < 0x130) : (s.statusShown d q p).rd (Reg.cd d + 0x10000 + 0x1000 * q + o) =
    ((s.statusState d q p).statusValues d q p).rd (Reg.cd d + 0x10000 + 0x1000 * q + o) := by
  have hcause (t : Dev) (k : Nat) (x : Bool) : (t.causeIs (Reg.LANE_TILE_FLT_STAT d q) k x).rd (Reg.cd d + 0x10000 + 0x1000 * q + o) =
      t.rd (Reg.cd d + 0x10000 + 0x1000 * q + o) :=
    t.causeIs_rd _ k _ x (faultReg_tile (by omega) (by omega)) (by simp only [Reg.LANE_TILE_FLT_STAT]; omega)
      (by simp only [Reg.LANE_TILE_FLT_STAT]; omega)
  have hcal : Reg.cd d + 0x10000 + 0x1000 * q + o ≠ Reg.CAL_TSTAT d q := by simp only [Reg.CAL_TSTAT]; omega
  have hmaps (t : Dev) : (t.statusMaps d q p).rd (Reg.cd d + 0x10000 + 0x1000 * q + o) = t.rd (Reg.cd d + 0x10000 + 0x1000 * q + o) := by
    refine forAll_keeps (Dev.rd · _) (fun w k => (Dev.rd_wr_other _ _ _ _ ?_).trans (Dev.rd_wr_other _ _ _ _ ?_)) _ t
    · simp only [Reg.LANE_SHORTMAP]; omega
    · simp only [Reg.LANE_OPENMAP]; omega
  have hsilent (t : Dev) : (t.causeOff (Reg.LANE_TILE_FLT_STAT d q) B.LANE_TILE_SILENT).rd (Reg.cd d + 0x10000 + 0x1000 * q + o) =
      t.rd (Reg.cd d + 0x10000 + 0x1000 * q + o) := hcause t _ false
  have hmap (t : Dev) (k : Nat) (w : Nat → Nat) : (t.mapCause d q k w).rd (Reg.cd d + 0x10000 + 0x1000 * q + o) =
      t.rd (Reg.cd d + 0x10000 + 0x1000 * q + o) := hcause t k _
  simp only [Dev.statusShown, Dev.statusCauses, hsilent, hcause, hmap, Dev.rd_wrF_other _ _ _ _ _ hcal, hmaps]

include hd

theorem Dev.statusCauses_packetWork : s.packetWork d q (s.statusCauses d q p) := by
  have hcal : s.packetWork d q (s.wrF (Reg.CAL_TSTAT d q) F.CAL_TSTAT_NOCAP (b2n (p.caps.toNat % 2 == 0))) :=
    ⟨(Dev.laneWork.refl s).wr _ _ (.inr ⟨hq, rfl⟩), rfl⟩
  have hn : q < 10 := by omega
  exact (((hcal.causeIs hd hn 0x130 _ _ rfl).causeIs hd hn 0x130 _ _ rfl).causeIs hd hn 0x130 _ _ rfl).causeIs hd hn 0x130 _ _ rfl

theorem Dev.takeStatus_packetWork : s.packetWork d q (s.takeStatus d q p) := by
  have hcauses := (((s.statusState_packetWork p).trans (Dev.statusValues_packetWork _ p)).trans (Dev.statusMaps_packetWork _ p)).trans
    (Dev.statusCauses_packetWork _ p hd hq)
  exact (hcauses.wrCargo 0x138 _ rfl).setLane _

/-! ## The values of a STATUS -/

theorem Dev.statusState_reports : (s.statusState d q p).rdF (Reg.LANE_TILE_STAT d q) F.LANE_TILE_STAT_TSTATE = p.state.toNat ∧
    (s.statusState d q p).rdF (Reg.LANE_TILE_STAT d q) F.LANE_TILE_STAT_TCAUSE = p.cause.toNat ∧
    (s.statusState d q p).rdF (Reg.LANE_TILE_STAT d q) F.LANE_TILE_STAT_LOCK = b2n p.lock := by
  have hlock : b2n p.lock < 2 := by cases p.lock <;> decide
  unfold Dev.statusState
  dsimp only
  refine ⟨?_, ?_, ?_⟩
  · rw [Dev.tileStat_wrF_field hd hq _ _ _ _ (by decide) (by decide) (by decide),
      Dev.tileStat_wrF_field hd hq _ _ _ _ (by decide) (by decide) (by decide),
      Dev.tileStat_wrF_field hd hq _ _ _ _ (by decide) (by decide) (by decide),
      Dev.tileStat_wrF_field hd hq _ _ _ _ (by decide) (by decide) (by decide)]
    exact (Dev.tileStat_wrF hd hq _ _ _ (by decide) (by decide)).trans (Nat.mod_eq_of_lt p.state.isLt)
  · rw [Dev.tileStat_wrF_field hd hq _ _ _ _ (by decide) (by decide) (by decide),
      Dev.tileStat_wrF_field hd hq _ _ _ _ (by decide) (by decide) (by decide),
      Dev.tileStat_wrF_field hd hq _ _ _ _ (by decide) (by decide) (by decide)]
    exact (Dev.tileStat_wrF hd hq _ _ _ (by decide) (by decide)).trans (Nat.mod_eq_of_lt p.cause.isLt)
  · rw [Dev.tileStat_wrF_field hd hq _ _ _ _ (by decide) (by decide) (by decide),
      Dev.tileStat_wrF_field hd hq _ _ _ _ (by decide) (by decide) (by decide)]
    exact (Dev.tileStat_wrF hd hq _ _ _ (by decide) (by decide)).trans (Nat.mod_eq_of_lt hlock)

theorem Dev.statusValues_reports : (s.statusValues d q p).rd (Reg.LANE_TILE_STAT d q) = s.rd (Reg.LANE_TILE_STAT d q) ∧
    (s.statusValues d q p).rd (Reg.LANE_TILE_ID d q) = statusPair p.vendor p.model ∧
    (s.statusValues d q p).rd (Reg.LANE_TILE_RXERR d q) = p.rxErr := by
  obtain ⟨-, hid, hrx, -⟩ := regMask_tile hd hq
  unfold Dev.statusValues
  dsimp only [Reg.LANE_TILE_STAT, Reg.LANE_TILE_ID, Reg.LANE_TILE_TEMPA, Reg.LANE_TILE_TEMPB, Reg.LANE_TILE_SUPA, Reg.LANE_TILE_SUPB,
    Reg.LANE_TILE_RXERR, Reg.LANE_TILE_AGE] at hid hrx ⊢
  refine ⟨?_, ?_, ?_⟩
  · simp (disch := omega) only [Dev.rd_wrF_other, Dev.rd_wr_other]
  · simp (disch := omega) only [Dev.rd_wrF_other, Dev.rd_wr_other]
    rw [Dev.rd_wr_same, hid]
    exact BitVec.and_allOnes
  · simp (disch := omega) only [Dev.rd_wrF_other]
    rw [Dev.rd_wr_same, hrx]
    exact BitVec.and_allOnes

/-- The registers of a tile after its STATUS has been taken (Tables 8-3 and 8-8). -/
theorem Dev.takeStatus_reports : (s.takeStatus d q p).rdF (Reg.LANE_TILE_STAT d q) F.LANE_TILE_STAT_TSTATE = p.state.toNat ∧
    (s.takeStatus d q p).rdF (Reg.LANE_TILE_STAT d q) F.LANE_TILE_STAT_TCAUSE = p.cause.toNat ∧
    (s.takeStatus d q p).rdF (Reg.LANE_TILE_STAT d q) F.LANE_TILE_STAT_LOCK = b2n p.lock ∧
    (s.takeStatus d q p).rd (Reg.LANE_TILE_ID d q) = statusPair p.vendor p.model ∧
    (s.takeStatus d q p).rd (Reg.LANE_TILE_RXERR d q) = p.rxErr ∧
    (s.takeStatus d q p).rdB (Reg.LANE_TILE_FLT_CAUSE d q) B.LANE_TILE_SILENT = false := by
  obtain ⟨hstate, hcause, hlock⟩ := s.statusState_reports p hd hq
  obtain ⟨hstat, hid, hrx⟩ := (s.statusState d q p).statusValues_reports p hd hq
  have hshown : (s.takeStatus d q p).rd (Reg.LANE_TILE_STAT d q) = (s.statusState d q p).rd (Reg.LANE_TILE_STAT d q) :=
    (s.statusShown_rd p hq (o := 0x100) (by decide)).trans hstat
  refine ⟨(congrArg (fget · _) hshown).trans hstate, (congrArg (fget · _) hshown).trans hcause, (congrArg (fget · _) hshown).trans hlock,
    (s.statusShown_rd p hq (o := 0x104) (by decide)).trans hid, (s.statusShown_rd p hq (o := 0x118) (by decide)).trans hrx, ?_⟩
  have hreg : Reg.LANE_TILE_FLT_CAUSE d q = Reg.LANE_TILE_FLT_STAT d q + 8 := by
    simp only [Reg.LANE_TILE_FLT_CAUSE, Reg.LANE_TILE_FLT_STAT, Nat.add_assoc]
  rw [hreg]
  exact Dev.causeOff_cause _ _ _ (by decide)

end

/-! ## STATUS packets -/

theorem Dev.statusRx_packetWork (s : Dev) (d : Die) (q : TileIx) (p : StatusPkt) : s.packetWork d q (s.statusRx d q p) := by
  have hq : q.val < 10 := by omega
  cases hlock : s.locked d q with
  | false =>
    rw [s.statusRx_unlocked p d q hlock]
    exact .refl s
  | true =>
    by_cases hmaps : p.openMap.length = 64 ∧ p.shortMap.length = 64
    · rw [s.statusRx_taken p d q hlock hmaps.1 hmaps.2]
      exact ((s.takeStatus_packetWork p d.isLt q.isLt).trans (Dev.takeAck_keepsReport _ p d.isLt q.isLt).packet).trans
        (Dev.statusAnswered_keepsReport _ p d q).packet
    · have hbad : s.statusRx d q p = s.badPacket d q 0x81 := (if_neg (by rw [hlock]; decide)).trans (if_pos (by omega))
      rw [hbad]
      exact s.badPacket_packetWork d.isLt hq 0x81

/-! ## The statement on what packets leave alone -/

section
variable (d : Die) (q : TileIx) (s : State)

theorem exec_packetSend : exec (.packetSend d q) s = .next { s with dev := s.dev.sendPacket d q } := rfl

theorem exec_cmdRetransmit : exec (.cmdRetransmit d q) s = .next { s with dev := s.dev.retransmit d q } := rfl

theorem exec_bringupTimeout : exec (.bringupTimeout d q) s =
    .next { s with dev := if s.dev.dstate d q = 1 ∧ (s.dev.lane d q).waitStatus then s.dev.tileFailed d q else s.dev } := rfl

theorem exec_tileSilent : exec (.tileSilent d q) s =
    .next { s with dev := if s.dev.locked d q then s.dev.causeOn (Reg.LANE_TILE_FLT_STAT d q) B.LANE_TILE_SILENT else s.dev } := rfl

theorem exec_inStale_any (i : Fin 2) : exec (.inStale d i) s =
    s.onDev (fun v => if v.rdF (Reg.LANE_IN_CFG d (8 + i)) F.LANE_IN_CFG_STALE_T = 0 then v
      else v.causeOn (Reg.LANE_IN_FLT_STAT d (8 + i)) B.LANE_IN_IN_STALE) := rfl

end

/-- A command that acts on the device alone, and there as the packets of a lane do. -/
theorem packets_of_exec {d n : Nat} {c : Instr} {s t : State} {u : Dev} (hn : n < 10) (he : exec c s = .next t)
    (hc : exec c s = .next { s with dev := u }) (hu : s.dev.packetWork d n u) :
    ∃ m < 10, t.nv = s.nv ∧ t.mem = s.mem ∧ s.dev.packetWork d m t.dev := by
  rw [hc] at he
  cases he
  exact ⟨n, hn, rfl, rfl, hu⟩

/-- Settles O60: each command by the lemma that says what the packets of its lane change. -/
theorem tileAndInputCommandsKeepOtherState : Obligations.TileAndInputCommandsKeepOtherState := by
  intro d q n i p rx c s t hc ⟨hslice, hbad⟩ he
  have hidle : s.dev.inSlice d (laneBlock d q) = false := by rw [Dev.inSlice, hslice]
  have hd := d.isLt
  have hq : q.val < 10 := by omega
  have hi : 8 + i.val < 10 := by omega
  have hs (m : Nat) := Dev.packetWork.refl (d := d) (n := m) s.dev
  suffices h : ∃ m < 10, t.nv = s.nv ∧ t.mem = s.mem ∧ s.dev.packetWork d m t.dev by
    obtain ⟨m, hm, hnv, hmem, hdev⟩ := h
    exact ⟨hnv, hmem, hdev.work.rest.trans (by rw [hdev.fresh]), hdev.keepsOutside hm⟩
  simp only [List.mem_cons, List.not_mem_nil, or_false] at hc
  rcases hc with rfl | rfl | rfl | rfl | rfl | rfl | rfl | rfl
  · exact packets_of_exec hq he rfl (s.dev.sendPacket_packetWork hidle)
  · exact packets_of_exec hq he rfl (s.dev.retransmit_packetWork hd q.isLt)
  · exact packets_of_exec hq he (exec_bringupTimeout d q s) (.ite s.dev.tileFailed_packetWork (hs q))
  · exact packets_of_exec hq he (exec_tileSilent d q s) (.ite ((hs q).causeOn hd hq 0x130 _ rfl) (hs q))
  · exact packets_of_exec hq he rfl (s.dev.statusRx_packetWork d q p)
  · cases hlock : s.dev.locked d n with
    | false => exact packets_of_exec n.isLt he (congrArg _ (s.packetRx_unlocked d n rx hlock)) (hs n)
    | true =>
      exact packets_of_exec n.isLt he (congrArg _ (s.packetRx_bad d n rx hlock hbad))
        ((s.dev.heard_packetWork d n rx).trans (Dev.badPacket_packetWork _ hd n.isLt _))
  · exact packets_of_exec hi he (exec_inStale_any d s i) (.ite (hs (8 + i)) ((hs (8 + i)).causeOn hd hi 0x230 _ rfl))
  · exact packets_of_exec hi he rfl s.dev.sendSrcstat_packetWork

end Sys2Proof.Machine
end

section
/-! SUPPORT. The packets that a tile is sent and the statement on them (R181, R192 to R194). -/

namespace Sys2Proof.Machine

/-! ## Packets that go out -/

section
variable (s : Dev) {d q : Nat}

theorem Dev.laneSend_sends (p : Pkt) : (s.laneSend d q p).out = .lane d q p :: s.out ∧
    ((s.laneSend d q p).lane d q).queue = (s.lane d q).queue ∧ ((s.laneSend d q p).lane d q).out = (s.lane d q).out ∧
    ((s.laneSend d q p).lane d q).seq = (s.lane d q).seq := by
  have hlane : (s.laneSend d q p).lane d q = { s.lane d q with txRd := sentRd (s.lane d q).txRd p.syms } := Dev.setLane_lane_same _ _ _ _
  rw [hlane]
  exact ⟨rfl, rfl, rfl, rfl⟩

/-- A CALIB packet goes out as it is (R181). -/
theorem Dev.sentPacket_calib {p : Pkt} (h : p.isCalib = true) : (s.sentPacket d q p).out = .lane d q p :: s.out ∧
    ((s.sentPacket d q p).lane d q).queue = dropFirst p (s.lane d q).queue ∧
    ((s.sentPacket d q p).lane d q).out = (s.lane d q).out := by
  obtain ⟨hout, hqueue, hwait, -⟩ :=
    (s.setLane d q { s.lane d q with queue := dropFirst p (s.lane d q).queue }).laneSend_sends (d := d) (q := q) p
  rw [Dev.setLane_lane_same] at hqueue hwait
  unfold Dev.sentPacket
  rw [if_pos h]
  exact ⟨hout, hqueue, hwait⟩

/-- Another packet goes out with the next SEQ, and is outstanding (R192). -/
theorem Dev.sentPacket_command {p : Pkt} (h : p.isCalib = false) {n : Nat} (hn : n = ((s.lane d q).seq + 1) % 65536) :
    (s.sentPacket d q p).out = .lane d q (p.withSeq n) :: s.out ∧
      ((s.sentPacket d q p).lane d q).queue = dropFirst p (s.lane d q).queue ∧
      ((s.sentPacket d q p).lane d q).out = some ⟨p.withSeq n, n, 0⟩ ∧ ((s.sentPacket d q p).lane d q).seq = n := by
  subst hn
  generalize hn : ((s.lane d q).seq + 1) % 65536 = n
  generalize hcounted : (s.setLane d q { s.lane d q with
    queue := dropFirst p (s.lane d q).queue, seq := n, out := some ⟨p.withSeq n, n, 0⟩ }).addF
      (Reg.LANE_TILE_CMDCNT d q) F.LANE_TILE_CMDCNT_CMDS 1 = t
  have hlane : (t.lane d q).queue = dropFirst p (s.lane d q).queue ∧ (t.lane d q).out = some ⟨p.withSeq n, n, 0⟩ ∧ (t.lane d q).seq = n := by
    rw [← hcounted, Dev.addF_lane, Dev.setLane_lane_same]
    exact ⟨rfl, rfl, rfl⟩
  obtain ⟨htqueue, htout, htseq⟩ := hlane
  have hsent : s.sentPacket d q p = (if p.isSafe ∧ t.dstate d q = 1 then
      (t.setDstate d q 3).setLane d q { t.lane d q with wantRun := (s.lane d q).causes.isEmpty } else t).laneSend d q (p.withSeq n) := by
    unfold Dev.sentPacket
    rw [if_neg (by rw [h]; decide), hn]
    dsimp only
    rw [hcounted]
  have hout : t.out = s.out := by rw [← hcounted]; rfl
  rw [hsent]
  split
  · obtain ⟨hmsg, hqueue, hwait, hseq⟩ := ((t.setDstate d q 3).setLane d q { t.lane d q with
      wantRun := (s.lane d q).causes.isEmpty }).laneSend_sends (d := d) (q := q) (p.withSeq n)
    rw [Dev.setLane_lane_same] at hqueue hwait hseq
    exact ⟨hmsg.trans (congrArg _ hout), hqueue.trans htqueue, hwait.trans htout, hseq.trans htseq⟩
  · obtain ⟨hmsg, hqueue, hwait, hseq⟩ := t.laneSend_sends (d := d) (q := q) (p.withSeq n)
    exact ⟨hmsg.trans (congrArg _ hout), hqueue.trans htqueue, hwait.trans htout, hseq.trans htseq⟩

/-! ## Commands that are not acknowledged -/

variable (hd : d < 2) (hq : q < 8)
include hd hq

/-- A tile that is FAILED has nothing outstanding or queued (R192, R193). -/
theorem Dev.tileFailed_fails : (s.tileFailed d q).dstate d q = 4 ∧ ((s.tileFailed d q).lane d q).out = none ∧
    ((s.tileFailed d q).lane d q).queue = [] := by
  have hlane : (s.tileFailed d q).lane d q =
      { s.lane d q with queue := [], out := none, plan := [], waitStatus := false, waitRun := false, wantRun := false } :=
    Dev.setLane_lane_same _ _ _ _
  rw [hlane]
  exact ⟨Dev.dstate_setDstate hd hq _ 4 (by decide), rfl, rfl⟩

/-- After eight repeats the tile is FAILED (R192). -/
theorem Dev.retransmit_fails {o : Outstanding} (ho : (s.lane d q).out = some o) (h : 8 ≤ o.repeats) : (s.retransmit d q).dstate d q = 4 ∧
    ((s.retransmit d q).lane d q).out = none ∧ ((s.retransmit d q).lane d q).queue = [] := by
  have hfails : s.retransmit d q = (s.tileFailed d q).raise (Reg.LANE_TILE_FLT_STAT d q) B.LANE_TILE_NORESP := by
    unfold Dev.retransmit
    dsimp only
    rw [ho]
    exact if_pos h
  have hstat : (s.retransmit d q).rd (Reg.LANE_TILE_STAT d q) = (s.tileFailed d q).rd (Reg.LANE_TILE_STAT d q) := by
    rw [hfails]
    exact Dev.raise_rd _ _ _ _ (faultReg_tile (by omega) (by decide)) fun he => absurd (Nat.add_left_cancel he) (by decide)
  obtain ⟨hstate, hout, hqueue⟩ := s.tileFailed_fails hd hq
  refine ⟨(congrArg (fget · _) hstat).trans hstate, ?_, ?_⟩
  · rw [hfails, Dev.raise_lane, hout]
  · rw [hfails, Dev.raise_lane, hqueue]

/-- Before that the command goes out again, and the repeat is counted (R192). -/
theorem Dev.retransmit_repeats {o : Outstanding} (ho : (s.lane d q).out = some o) (h : o.repeats < 8) :
    (s.retransmit d q).out = .lane d q o.pkt :: s.out ∧ ((s.retransmit d q).lane d q).out = some { o with repeats := o.repeats + 1 } ∧
      (s.retransmit d q).rdF (Reg.LANE_TILE_CMDCNT d q) F.LANE_TILE_CMDCNT_REPEATS =
        (s.rdF (Reg.LANE_TILE_CMDCNT d q) F.LANE_TILE_CMDCNT_REPEATS + 1) % 2 ^ F.LANE_TILE_CMDCNT_REPEATS.len := by
  obtain ⟨-, -, -, hmask, -⟩ := regMask_tile hd hq
  generalize ht : (s.setLane d q { s.lane d q with out := some { o with repeats := o.repeats + 1 } }).addF (Reg.LANE_TILE_CMDCNT d q)
    F.LANE_TILE_CMDCNT_REPEATS 1 = t
  have hagain : s.retransmit d q = t.laneSend d q o.pkt := by
    rw [← ht]
    unfold Dev.retransmit
    dsimp only
    rw [ho]
    exact if_neg (by omega)
  have hcount : t.rdF (Reg.LANE_TILE_CMDCNT d q) F.LANE_TILE_CMDCNT_REPEATS =
      (s.rdF (Reg.LANE_TILE_CMDCNT d q) F.LANE_TILE_CMDCNT_REPEATS + 1) % 2 ^ F.LANE_TILE_CMDCNT_REPEATS.len := by
    rw [← ht]
    exact Dev.rdF_wrF_same _ _ _ _ (by decide) (by rw [hmask]; decide)
  obtain ⟨hmsg, -, hwait, -⟩ := t.laneSend_sends (d := d) (q := q) o.pkt
  rw [hagain]
  refine ⟨hmsg.trans (congrArg _ (by rw [← ht]; rfl)), hwait.trans ?_, hcount⟩
  rw [← ht, Dev.addF_lane, Dev.setLane_lane_same]

/-- With no STATUS in time the cause SILENT is present (Table 8-8). -/
theorem Dev.silentOn_cause : (s.causeOn (Reg.LANE_TILE_FLT_STAT d q) B.LANE_TILE_SILENT).rdB (Reg.LANE_TILE_FLT_CAUSE d q)
    B.LANE_TILE_SILENT = true := by
  obtain ⟨-, -, -, -, hmask⟩ := regMask_tile hd hq
  have hreg : Reg.LANE_TILE_FLT_CAUSE d q = Reg.LANE_TILE_FLT_STAT d q + 8 := by
    simp only [Reg.LANE_TILE_FLT_CAUSE, Reg.LANE_TILE_FLT_STAT, Nat.add_assoc]
  have hfault := faultReg_tile (d := d) (q := q) (o := 0x138) (by omega) (by decide)
  rw [hreg] at hmask ⊢
  refine s.causeOn_cause _ _ (by decide) (by rw [hmask]; decide) ?_
  rw [← hreg]
  exact hfault

end

/-! ## STATUS packets -/

section
variable (s : Dev) (d : Die) (q : TileIx) (p : StatusPkt) (hlock : s.locked d q = true) (hopen : p.openMap.length = 64)
  (hshort : p.shortMap.length = 64)

/-- The answer to a STATUS keeps what the STATUS has put in the registers of its tile. -/
theorem Dev.answer_keepsReport :
    (s.takeStatus d q p).keepsReport d q (((s.takeStatus d q p).takeAck d q p).statusAnswered d q p) :=
  (Dev.takeAck_keepsReport _ p d.isLt q.isLt).trans (Dev.statusAnswered_keepsReport _ p d q)

include hlock hopen hshort

/-- What a STATUS reports stands in the registers of its tile after it, and its time is noted (R193). -/
theorem Dev.statusRx_reports : (s.statusRx d q p).rdF (Reg.LANE_TILE_STAT d q) F.LANE_TILE_STAT_TSTATE = p.state.toNat ∧
    (s.statusRx d q p).rdF (Reg.LANE_TILE_STAT d q) F.LANE_TILE_STAT_TCAUSE = p.cause.toNat ∧
    (s.statusRx d q p).rdF (Reg.LANE_TILE_STAT d q) F.LANE_TILE_STAT_LOCK = b2n p.lock ∧
    (s.statusRx d q p).rd (Reg.LANE_TILE_ID d q) = BitVec.ofNat 32 (p.vendor.toNat + 0x10000 * p.model.toNat) ∧
    (s.statusRx d q p).rd (Reg.LANE_TILE_RXERR d q) = p.rxErr ∧ ((s.statusRx d q p).lane d q).statusAt = some s.us ∧
    (s.statusRx d q p).rdB (Reg.LANE_TILE_FLT_CAUSE d q) B.LANE_TILE_SILENT = false := by
  obtain ⟨hstate, hcause, hlk, hid, hrx, hsilent⟩ := s.takeStatus_reports p d.isLt q.isLt
  have hkept := s.answer_keepsReport d q p
  rw [s.statusRx_taken p d q hlock hopen hshort]
  refine ⟨(hkept.stat _ (by decide)).trans hstate, (hkept.stat _ (by decide)).trans hcause, (hkept.stat _ (by decide)).trans hlk,
    (hkept.rd _ ?_).trans hid, (hkept.rd _ ?_).trans hrx, hkept.statusAt.trans ?_, (congrArg (bitOf · _) (hkept.rd _ ?_)).trans hsilent⟩
  · exact List.mem_cons_self
  · exact List.mem_cons_of_mem _ List.mem_cons_self
  · rw [s.takeStatus_lane]
  · exact List.mem_cons_of_mem _ (List.mem_cons_of_mem _ List.mem_cons_self)

/-- A STATUS that acknowledges the command outstanding leaves none outstanding (R192). -/
theorem Dev.statusRx_out (hres : p.ackRes ≠ 4#8) (hseq : (s.lane d q).out.all (fun o => p.ackSeq.toNat == o.seq) = true) :
    ((s.statusRx d q p).lane d q).out = none := by
  rw [s.statusRx_taken p d q hlock hopen hshort]
  refine (Dev.statusAnswered_keepsReport _ p d q).out (Dev.takeAck_out _ p d.isLt q.isLt hres ?_)
  rw [s.takeStatus_lane]
  exact hseq

end

/-- Settles O29: the packets that go out by their kind, the commands by their repeats, STATUS by what the answer to it keeps. -/
theorem tilesComplete : Obligations.TilesComplete := by
  intro d q o p s
  have hd := d.isLt
  have hq := q.isLt
  have hnext (h : (nextPacket (s.dev.lane d q)).isSome = true) :
      nextPacket (s.dev.lane d q) = some ((nextPacket (s.dev.lane d q)).getD .filler) := by
    obtain ⟨x, hx⟩ := Option.isSome_iff_exists.mp h
    rw [hx, Option.getD_some]
  refine ⟨fun ⟨hlock, hidle, hsome, hcalib⟩ => ⟨_, exec_packetSend d q s, ?_⟩,
    fun ⟨hlock, hidle, hsome, hcalib⟩ => ⟨_, exec_packetSend d q s, ?_⟩,
    fun hnone => ⟨_, exec_packetSend d q s, ?_⟩, fun ⟨ho, hrep⟩ => ⟨_, exec_cmdRetransmit d q s, s.dev.retransmit_repeats hd hq ho hrep⟩,
    fun ho => ⟨_, exec_cmdRetransmit d q s, s.dev.retransmit_fails hd hq ho (Nat.le_refl 8)⟩,
    fun hwait => ⟨_, exec_bringupTimeout d q s, ?_⟩, fun hlock => ⟨_, exec_tileSilent d q s, ?_⟩,
    fun ⟨hlock, hopen, hshort⟩ => ⟨_, exec_statusRx d q p s, s.dev.statusRx_reports d q p hlock hopen hshort⟩,
    fun ⟨hlock, hopen, hshort, hres, hseq⟩ => ⟨_, exec_statusRx d q p s, s.dev.statusRx_out d q p hlock hopen hshort hres hseq⟩,
    fun hlock => ⟨_, exec_statusRx d q p s, ?_⟩⟩
  · dsimp only
    rw [s.dev.sendPacket_next hidle hlock (hnext hsome)]
    exact s.dev.sentPacket_calib hcalib
  · dsimp only
    rw [s.dev.sendPacket_next hidle hlock (hnext hsome)]
    exact s.dev.sentPacket_command hcalib rfl
  · rw [s.dev.sendPacket_none hnone]
  · dsimp only
    rw [if_pos hwait]
    exact s.dev.tileFailed_fails hd hq
  · dsimp only
    rw [if_pos hlock]
    exact s.dev.silentOn_cause hd hq
  · rw [s.dev.statusRx_unlocked p d q hlock]

end Sys2Proof.Machine
end
